-- ==== Sys2Proof/Word.lean ====
section
/-! DEFINITION. The word types of the HX880's register and byte interfaces and their plainest arithmetic. -/

namespace Sys2Proof

/-- A 32-bit register word. -/
abbrev Word := BitVec 32
/-- A byte on a mailbox slot, a packet or a media frame. -/
abbrev Byte := BitVec 8

/-- Bit i of a number. -/
def bitAt (n i : Nat) : Bool := n.testBit i

/-- Width bits of n from bit lsb upwards. -/
def bitsAt (n lsb width : Nat) : Nat := n / 2 ^ lsb % 2 ^ width

/-- A Bool as the bit value a register shows. -/
def b2n (b : Bool) : Nat := if b then 1 else 0

end Sys2Proof
end

