-- ==== Sys2Proof/Syntax.lean ====
section
/-! DEFINITION. The commands of the HX880 block: every row of spec/opcode_table.json as one constructor of Instr,
and the plain data its operands are made of. -/

namespace Sys2Proof

/-- Feed A or feed B (spec/02, "Feeds A and B"). -/
inductive FeedId where
  | a | b
  deriving DecidableEq, Repr, Inhabited

/-- The lowest and highest 10-bit VSNS code a feed showed over an interval (R527). -/
structure VRange where
  lo : Nat
  hi : Nat
  deriving DecidableEq, Repr, Inhabited

/-- Why the monitor declares a feed failed (R42): four consecutive samples, or PGOOD low for 1 µs. -/
inductive FeedLoss where
  | vsns (c1 c2 c3 c4 : Nat)
  | pgoodLow
  deriving DecidableEq, Repr, Inhabited

/-- The path a command packet came by (R108 to R110): a mailbox channel, or an in-band management queue
with the SQ slot of the submission. -/
inductive Via where
  | mailbox (ch : Nat)
  | inband (qpid slot : Nat)
  deriving DecidableEq, Repr, Inhabited

/-- A command packet: the header of Table "Command Packets, Mailboxes and Doorbells" 1 field by field, its parameter
bytes, the path and identity it came by, and the length of the message that carried it (R95, R97, R108). -/
structure Packet where
  via : Via
  ident : Nat
  msgLen : Nat
  opcode : Nat
  flags : Nat
  loc : Nat
  tag : Nat
  plen : Nat
  hver : Nat
  rsvd11 : Nat
  session : Nat
  pbuf : Nat
  rbuf : Nat
  rsvd32 : List Byte
  pcrc : Nat
  hcrc : Nat
  params : List Byte
  deriving DecidableEq, Repr, Inhabited

/-- Where the intake engine finds a held packet: slot F of a mailbox channel, or the SQ slot of an in-band queue pair
(R109, R114). -/
inductive PacketSource where
  | slotF (ch : Nat)
  | inband (qpid slot : Nat)
  deriving DecidableEq, Repr, Inhabited

/-- How an upstream read ended (R468, R469). -/
inductive CplStatus where
  | ok | unsupported | aborted | poisoned
  deriving DecidableEq, Repr, Inhabited

/-- What a successful completion brings: its data, and whether the CRC of a context in it is good (R469, R470). -/
structure CplData where
  ctxCrcOk : Bool
  bytes : List Byte
  deriving DecidableEq, Repr, Inhabited

/-- What a health test of an entropy source has seen (R224): samples equal in a row, or the count of a value in a window. -/
inductive HealthObs where
  | repetition (run : Nat)
  | proportion (count : Nat)
  deriving DecidableEq, Repr, Inhabited

/-- A health test of a quadrant's source and what it has seen. -/
structure HealthTest where
  quad : Nat
  seen : HealthObs
  deriving DecidableEq, Repr, Inhabited

/-- The errors of Table "PCIe Endpoint" 6. -/
inductive AerError where
  | receiverError | badTlp | badDllp | replayTimer | replayRollover | correctedInternal | headerLogOverflow
  | advisoryNonFatal | poisonedTlp | poisonedWrite | completionTimeout | completerAbort | unexpectedCompletion
  | unsupportedRequest | dllProtocol | flowControl | malformedTlp | receiverOverflow | uncorrectableInternal
  deriving DecidableEq, Repr, Inhabited

/-- The causes of an endpoint reset (Table "Power-Up, Reset and Staged Start" 4). -/
inductive EndpointResetKind where
  | perst | hot | functionLevel
  deriving DecidableEq, Repr, Inhabited

/-- An I/O submission entry (Table "Host Queues and Command Ordering" 4) as the ring read returns it. -/
structure SubEntry where
  opcode : Nat
  flags : Nat := 0
  cid : Nat
  volume : Nat := 0
  snap : Nat := 0
  slba : Nat := 0
  nblk : Nat := 1
  rsvd18 : Nat := 0
  dptr : Nat := 0
  dkey : Nat := 0
  sglCnt : Nat := 0
  rsvd38 : Nat := 0
  arg : Nat := 0
  rsvd56 : Nat := 0
  deriving DecidableEq, Repr, Inhabited

/-- A frame as the media gave it to a read, where it differs from the frame stored (R193, R207): the 32 bytes of its header, and
its blocks whose check value fails. -/
structure FrameSeen where
  serial : Nat
  header : List Byte
  bad : List Nat := []
  deriving DecidableEq, Repr, Inhabited

/-- A run of the joint decoder: the outer iterations it took, the most in a row without a fall in unsatisfied parity bits, and
whether it solved the column and parity verified (R372, R373). -/
structure JointRun where
  its : Nat
  stall : Nat
  ok : Bool
  deriving DecidableEq, Repr, Inhabited

/-- An Ethernet frame as a sub-port receives it (R165 to R168). -/
structure Frame where
  len : Nat
  /-- Addressed to the port's MAC address, or to broadcast or multicast. -/
  toMe : Bool := true
  /-- An IEEE 802.3 PAUSE frame. -/
  macControl : Bool := false
  /-- It carries a second VLAN tag, or is an IPv4 fragment, or has an IPv6 extension header. -/
  dropped : Bool := false
  srcMac : Nat := 0
  /-- Its VLAN tag, as PCP × 2^13 + VID. -/
  vlan : Option Nat := none
  isIp : Bool := true
  ipv6 : Bool := false
  dstIp : Nat := 0
  srcIp : Nat := 0
  sport : Nat := 0
  udpPort : Nat := 0
  /-- The UDP checksum field. -/
  csum : Nat := 0
  /-- It carries the CE mark (RFC 3168). -/
  ce : Bool := false
  /-- Codewords that the forward error correction corrected and could not correct since the frame before (R165). -/
  fecCorr : Nat := 0
  fecUncorr : Nat := 0
  /-- The frame's bytes, and where in them the UDP payload begins. -/
  bytes : List Byte
  udpAt : Nat := 42
  deriving DecidableEq, Repr, Inhabited

/-- What IDENT returns (Table "Flash Modules and the Translation Layer" 3), with the reply's 64 bytes. -/
structure Ident where
  dies : Nat
  planes : Nat
  blocks : Nat
  spareBlocks : Nat
  pages : Nat
  bpc : Nat
  cwParity : Nat
  nandType : Nat
  serial : Nat
  bridgeFw : Nat
  /-- Single-bit mode on every die. -/
  slc : Bool := true
  /-- The reply's 64 bytes; Table 3 gives them no layout. -/
  raw : List Byte := []
  deriving DecidableEq, Repr, Inhabited

/-- An access of a TUNNEL message at an offset of the MBX window (R433). -/
inductive TunnelAcc where
  | read (off size : Nat)
  | write (off : Nat) (bytes : List Byte)
  deriving DecidableEq, Repr, Inhabited

/-- A MEDIA message (R315, R406, R434): a read for the partner, and its answer (what: 0 done, 1 a sector lost, 2 ended
without the rest, 3 data with more to come); a part of the replication records of a transfer, a COMMIT, and a note for the source, handed on. -/
inductive MediaMsg where
  | read (job hda zone sector count cls : Nat) (soft : Bool)
  | answer (job what hda zone sector count : Nat)
  | records (bytes : List Byte) (last : Bool)
  | commit (vol epoch total frames : Nat)
  | note (link remote kind epoch : Nat)
  deriving DecidableEq, Repr, Inhabited

/-- A link with flits and spare lanes: a flash link, or the Nerryn link (R232 to R235, R410, R411). -/
inductive LinkRef where
  | flash (link : Nat)
  | nerryn
  deriving DecidableEq, Repr, Inhabited

/-! ## Nerryn messages (spec/14) -/

/-- What a HELLO carries (R416); kcv: none where the head lacks a usable ARK; step: the head runs a step image (R502). -/
structure Hello where
  headB : Bool
  variant : Nat
  serial : List Byte
  kcv : Option (List Byte)
  fw : Nat
  step : Bool := false
  mark : Nat
  stage : Nat
  pairVer : Nat
  deriving DecidableEq, Repr, Inhabited

/-- What a HEARTBEAT carries (Table "Dual Heads and the Nerryn Link" 1). -/
structure Beat where
  stage : Nat := 0
  role : Nat := 0
  capo : Bool := false
  feedSwap : Bool := false
  pairSwap : Bool := false
  pairVer : Nat := 0
  /-- Free mirror space in bytes. -/
  free : Nat := 2 ^ 34
  deriving DecidableEq, Repr, Inhabited

/-- How the receiver finds a message: its sequence number, its key epoch, and whether its tag verifies (R413, R414). -/
structure Seal where
  mseq : Nat
  epoch : Nat
  tagOk : Bool := true
  deriving DecidableEq, Repr, Inhabited

/-- A stored frame of a mirrored write, in clear. -/
structure MirFrame where
  serial : Nat
  vol : Nat
  epoch : Nat
  raw : Bool
  payLen : Nat
  data : List Byte
  digest : Option (List Byte) := none
  deriving DecidableEq, Repr, Inhabited

/-- A part of a mirrored write: its frames and block entries, a block named by frame serial and block, or discarded. -/
structure MirPart where
  id : Nat
  last : Bool
  vol : Nat
  slba : Nat
  nblk : Nat
  frames : List MirFrame
  blocks : List (Nat × Option (Nat × Nat))
  deriving DecidableEq, Repr, Inhabited

/-- A committed frame as a map-log record gives it to the partner: the stored frame, which both heads read on the media, and its
place (set, band zone, position, offset). -/
structure MapFrame where
  frame : MirFrame
  set : Nat
  zone : Nat
  pos : Nat
  off : Nat
  deriving DecidableEq, Repr, Inhabited

/-- A shipped map-log record (R253, R418): the map commit of a write or of a relocation, a write that ended without effect, a
band's state (0 FREE), a rebuilt-strip entry, a reallocation entry of an HDA (sector, spare sector), a lost range, a snapshot's or a
volume's change that the tables carry, a set version of the fret map, a replication binding, a rebase sweep that has ended. -/
inductive LogRec where
  | write (id vol slba nblk : Nat) (frames : List MapFrame) (blocks : List (Nat × Option (Nat × Nat)))
  | reloc (old : Nat) (frame : MapFrame)
  | noEffect (id : Nat)
  | band (set zone state ver level : Nat)
  | strip (set zone row pos target spareZone index : Nat)
  | realloc (hda sector spare : Nat)
  | lost (kind cause vol gen first count set zone serial : Nat) (gset : Bool)
  | volume (num : Nat) (entry : List Byte)
  | snap (vol num : Nat) (entry : List Byte)
  | set (num tier quad width pmax stripLog2 spareZones opZones zones zoneSize : Nat) (members pstate : List Nat)
      (vers : List (Nat × Nat × List Nat))
  | binding (vol link : Nat) (target : Bool) (epochS epoch applied : Nat) (base snap : Option Nat)
  | rebase (vol vgen : Nat) (gens : List Nat)
  deriving DecidableEq, Repr, Inhabited

/-- A change that both heads must hold alike (R421). -/
inductive PairChange where
  | position (set pos state : Nat)
  | create (set tier quad width pmax stripLog2 spareZones : Nat) (members : List Nat)
  | replace (set pos member : Nat)
  | home (vol : Nat) (toB : Bool)
  | dieSwap (link pos die : Nat)
  | drive (carrier : Nat) (toB : Bool)
  | grant (set level : Nat) (toB : Bool) (zones : List Nat)
  deriving DecidableEq, Repr, Inhabited

/-- What the head that is not capo asks for (R421, R422): a change, bands of a set and level, or it reports a member it
cannot reach. -/
inductive PairReq where
  | change (c : PairChange)
  | bands (set level : Nat)
  | down (member : Nat)
  | activation
  /-- Its activation has failed (R498). -/
  | activationEnded
  deriving DecidableEq, Repr, Inhabited

/-- What a COORD GRANT gives: FREE bands of a set and level, or leave to activate an image (R422, R498). -/
inductive PairGrant where
  | bands (set level : Nat) (zones : List Nat)
  | activation
  deriving DecidableEq, Repr, Inhabited

/-- A replication HELLO (R406): for each volume bound at the sender, by the receiver's number, the last applied epoch A and
the transfers P of epoch A + 1 staged without a gap; whether it answers one. -/
structure ReplHello where
  target : Bool
  answer : Bool := false
  serial : List Byte
  variant : Nat
  vols : List (Nat × Nat × Nat)
  deriving DecidableEq, Repr, Inhabited

/-! ## HDAs and carriers (spec/10, spec/11) -/

/-- A layout entry (Table "HDA Strings and the Central Read Channel" 4). -/
structure Layout where
  firstZone : Nat
  head : Nat
  rateMhz : Nat
  firstCyl : Nat
  tracks : Nat
  heatDef : Nat
  precomp : Nat
  deriving DecidableEq, Repr, Inhabited

/-- An HDA's identity: its header and layout entries (Table "HDA Strings and the Central Read Channel" 3). -/
structure HdaIdent where
  serial : List Byte
  dense : Bool
  heads : Nat
  rpm : Nat
  wedges : Nat
  userZones : Nat
  spareZones : Nat
  sysZones : Nat
  heatMax : Nat
  model : List Byte
  layout : List Layout
  deriving DecidableEq, Repr, Inhabited

/-- What IDENT of a carrier returns (Table "HDA Strings and the Central Read Channel" 2), slot 0 then slot 1. -/
structure CarrierIdent where
  serial : List Byte
  fw : Nat
  slot0 : Option HdaIdent
  slot1 : Option HdaIdent
  deriving DecidableEq, Repr, Inhabited

/-- One servo wedge as the samples show it (R333, R351): the address mark, the WEDGE field's parity and number, the
position in 1/256 of track pitch; where in the window the mark lies, in ns, and the spindle's speed in 1/100 %; and the times,
in ns after the window's last sample, at which part 3 arrived and at which the SOUT could be issued. -/
structure Wedge where
  sam : Bool
  parityOk : Bool
  num : Nat
  y : Int
  samCorr : Int := 0
  burstN : Int := 0
  burstQ : Int := 0
  samAt : Nat := 179
  speed : Nat := 10000
  arriveNs : Nat := 600
  issueNs : Nat := 3000
  deriving DecidableEq, Repr, Inhabited

/-- What an SSAMP flit in spindle form shows (R351): phase error in 200 ns, speed in 1/100 % of 7,200 rpm, and whether the
rotor passed the start of a revolution. -/
structure Rotor where
  phaseErr : Int
  speed : Nat
  rev : Bool := false
  deriving DecidableEq, Repr, Inhabited

/-- An SSAMP flit: its 128 bytes, and what its samples show, of a wedge with the window's last part, or in spindle form (R307,
R333, R351). -/
structure SsampFlit where
  bytes : List Byte
  wedge : Wedge
  rotor : Rotor
  deriving DecidableEq, Repr, Inhabited

/-- What the system zones of a newly cabled HDA hold: formatted or not, its reallocation table (sector, spare index, ms), its
write pointers and write passes by zone (R318, R321, R328). -/
structure HdaFound where
  formatted : Bool := false
  realloc : List (Nat × Nat × Nat) := []
  wptr : List (Nat × Nat) := []
  pass : List (Nat × Nat) := []
  deriving DecidableEq, Repr, Inhabited

/-- A tuning set: of a block group of a module, or of a zone of an HDA (R276, R325). -/
inductive SetRef where
  | group (link die plane ret load : Nat)
  | zone (hda zone load : Nat)
  deriving DecidableEq, Repr, Inhabited

/-- A carrier's completion status (R301). -/
inductive CarStatus where
  | ok | notDriver | badParam | hdaAbsent | writeFault | underrun
  /-- R496. -/
  | badDigest | stageBusy
  deriving DecidableEq, Repr, Inhabited

/-- A CSTAT report of one carrier (R298, R302, R324, R339). -/
structure Cstat where
  retracted : Bool := false
  driver : Bool
  otherDrives : Bool
  temp0 : Int := 0
  temp1 : Int := 0
  /-- Missed deadlines of each slot since the last report. -/
  deadlines0 : Nat := 0
  deadlines1 : Nat := 0
  deriving DecidableEq, Repr, Inhabited

/-- A link's place among the links of the data plane; the Nerryn link is number 48. -/
def LinkRef.idx : LinkRef → Nat
  | .flash k => k
  | .nerryn => 48

/-- The link exists. -/
def LinkRef.ok : LinkRef → Bool
  | .flash k => k < 48
  | .nerryn => true

/-! ## Memory (spec/15) -/

/-- What the SPDs of a channel show (R437): kind 1 RDIMM, 2 MRDIMM, 0 any other; GiB of the whole channel. -/
structure Dimm where
  kind : Nat
  dimms : Nat := 1
  gib : Nat := 0
  ranks : Nat := 1
  x4 : Bool := true
  ecc : Bool := true
  density : Nat := 16
  spd : List Byte := []
  deriving DecidableEq, Repr, Inhabited

/-- What an uncorrectable DRAM error has hit (Table "DRAM, On-Chip Banks and the Metadata Cache" 2); dirtyMap: blocks of the
writes whose log records are in no other place (volume, first, count); landing: a replication link and slot. -/
inductive UeContent where
  | page (vol page : Nat)
  | dirtyMap (lost : List (Nat × Nat × Nat))
  | write (id : Nat)
  | mirror (id : Nat)
  | summary (bucket : Nat)
  | landing (link slot : Nat)
  | complex
  deriving DecidableEq, Repr, Inhabited

/-- An SRAM error by what the word held (R445, R449): a single-bit error of a column, corrected; a double-bit error in a
cluster's context store (cluster, and the queue pair or connection), in a line of the metadata cache, elsewhere. -/
inductive SramErr where
  | single (col : Nat)
  | context (cluster : Nat) (qp : Bool) (num : Nat)
  | cacheLine (addr : Nat) (lost : List (Nat × Nat × Nat))
  | other
  deriving DecidableEq, Repr, Inhabited

/-- The commands of the block: one constructor per row of spec/opcode_table.json, with the operands that come from
outside the machine (log entry 1). Each docstring gives the row and its governing rule. -/
inductive Instr where
  /-- VDD_AON_RISING (R83): The always-on supply rises, which starts a cold reset of the whole device, including the AON domain, and sets SYS_RST_CAUSE.POWER_UP. -/
  | vddAonRising (headB : Bool)
  /-- POR_N (R41): POR_N is held low for at least 10 µs; the device takes a cold reset, drops both feed enables and holds them low until 20 ms after release. -/
  | porN
  /-- COLD (R83): A write of SYS_RST_CTL.COLD with the correct KEY starts a cold reset, as POR_N does. -/
  | cold (ident : Nat) (data : Word)
  /-- WARM (R85): A write of SYS_RST_CTL.WARM with the correct KEY starts a warm reset: intake stops, the partner takes over, carriers are handed over and the dump runs. -/
  | warm (ident : Nat) (data : Word)
  /-- MC_RESTART (R86): A write of SYS_RST_CTL.MC_RESTART restarts the management complex from event 2 of the watchdog restart, while the data plane keeps running. -/
  | mcRestart (ident : Nat) (data : Word)
  /-- WARM_RESET_RELEASE (R85): Within 1 ms after the warm-reset dump ends, the device releases the warm reset and staged start begins again from S0. -/
  | warmResetRelease
  /-- TRST_N (R83): TRST_N is driven low, which resets only the IEEE 1149.1 test access port. -/
  | trstN
  /-- FEED_TICK (R41): At each 1 ms tick of the AON grid, a feed whose VSNS stayed in its window becomes good; the first good feed is enabled as active and the other goes to verification. -/
  | feedTick (a b : VRange)
  /-- FEED_FAILED (R42): A feed is declared failed after four consecutive VSNS samples fall outside the window or after PGOOD stays low for 1 µs; the device fails over to the standby feed, or starts the dump if neither feed remains. -/
  | feedFailed (feed : FeedId) (loss : FeedLoss)
  /-- FEED_RESYNC (R44): A FAILED feed whose VSNS has stayed in its window for RESYNC_S seconds is enabled as VERIFYING. -/
  | feedResync (feed : FeedId) (v : VRange)
  /-- PGOOD_RISE (R44): A VERIFYING feed's PGOOD rises within 50 ms while its VSNS stays in the window, so the feed becomes STANDBY. -/
  | pgoodRise (feed : FeedId) (v : VRange)
  /-- VERIFY_TIMEOUT (R44): A verification fails because PGOOD does not rise within 50 ms; the feed returns to FAILED and becomes FENCED after the third failure in a row. -/
  | verifyTimeout (feed : FeedId)
  /-- REARM (R44): A write of 1 to PWR_FEED_CTL.REARM_A or REARM_B returns a FENCED feed to FAILED and resets its count of failed verifications. -/
  | rearm (ident : Nat) (data : Word)
  /-- SWAP_DUE (R46): PERIOD_H hours after S3 or after the previous swap, a scheduled feed swap falls due and starts if the conditions of R47 hold, or waits. -/
  | swapDue
  /-- SWAP_SKIPPED (R47): A scheduled feed swap that has waited DEFER_MAX_MIN minutes without its conditions is skipped, and an event record is written. -/
  | swapSkipped
  /-- SWAP_NOW (R47): A write of PWR_FEED_CTL.SWAP_NOW starts a feed swap, or is refused with SWAP_REFUSED when its conditions do not hold. -/
  | swapNow (ident : Nat) (data : Word)
  /-- SWAP_CHECK (R48): At 5 ms into a feed swap, the device checks PGOOD and VSNS, then either completes the swap or aborts it. -/
  | swapCheck (aPgood bPgood : Bool) (aCode bCode : Nat)
  /-- HOLDUP_OK (R52): A change of the HOLDUP_OK input enables or stops the admission of new dirty data to the write cache. -/
  | holdupOk (level : Bool)
  /-- SPRINT_BUDGET_UPDATE (R56): Every 10 ms, the sprint budget is updated from the mean draw, and EXHAUSTED and the cap ramp follow it. -/
  | sprintBudgetUpdate (avgW : Nat)
  /-- POWER_STEP_UPDATE (R58): Every 100 µs, the power step of each awake quadrant rises while the estimated draw exceeds the cap, and falls after 1 ms at least 5 W below it. -/
  | powerStepUpdate (nowW avg1sW : Nat)
  /-- THERMAL_STEP_UPDATE (R59): Every 1 ms, each quadrant's thermal step moves up or down from the junction sensor readings. -/
  | thermalStepUpdate (temps : List Nat)
  /-- THERMAL_TRIP (R61): A sensor at or above 112 °C asserts THERMTRIP_N, stops all data-plane clocks and holds both feed enables at 0 until POR_N. -/
  | thermalTrip (sensor tempC : Nat)
  /-- CLUSTER_GATE (R53): A cluster that has been idle for CLUSTER_US is power-gated, and its key slots are zeroised. -/
  | clusterGate (q k : Nat)
  /-- QUADRANT_GATE (R53): A quadrant that has been idle for QUAD_MS with every condition met sends SLEEP to its carriers, then enters the gated state. -/
  | quadrantGate (q : Nat)
  /-- GATE_ENTRY_DONE (R54): Gate entry of a cluster or quadrant completes, and the domain wakes at once if a wake cause arrived during the entry. -/
  | gateEntryDone (q : Nat) (cluster : Option Nat)
  /-- CLUSTER_WAKE (R54): A wake cause wakes a gated cluster within 2 µs, and its accepted work then starts. -/
  | clusterWake (q k : Nat)
  /-- QUADRANT_WAKE (R54): A wake cause wakes a gated quadrant within 50 µs, and the entropy warm-up starts. -/
  | quadrantWake (q : Nat)
  /-- HEALTH_SUM_UPDATE (R34): Within 1 s of a change in the spare counters, SYS_HEALTH_SUM0 and SYS_HEALTH_SUM1 are updated. -/
  | healthSumUpdate
  /-- PARITY_ERROR (R17): A cluster reports an internal parity error; the 16th within 24 h triggers a spare swap, whose events 1 and 2 follow. -/
  | parityError (q k : Nat)
  /-- SWAP_DRAIN_DONE (R17): The last in-flight command of a swapping cluster ends; the spare is powered and the contexts are written back. -/
  | swapDrainDone (q : Nat)
  /-- SPARE_SELF_TEST_DONE (R17): The spare's self-test ends; the swap goes on to its remap, or becomes a retirement if the test failed. -/
  | spareSelfTestDone (q : Nat) (pass : Bool)
  /-- SWAP_REMAP (R17): Once SYS_EPOCH_RET is zero, the remap commits: SYS_CLMAP_Qn and the health area are updated, fetching resumes and SWAP_BUSY clears. -/
  | swapRemap (q : Nat)
  /-- SPARE_WEEKLY_TEST (R16): Every 7 days, the power manager wakes the spare cluster, runs its self-test, and marks it unusable if the test fails. -/
  | spareWeeklyTest (q : Nat) (pass : Bool)
  /-- COMMIT (R25): A write of 1 to SYS_EPOCH_CTL.COMMIT freezes the shadow banks and switches intake to the new banks, or waits under R26 while SYS_EPOCH_RET is not zero. -/
  | epochCommit (ident : Nat) (data : Word)
  /-- ABANDON (R28): A write of 1 to SYS_EPOCH_CTL.ABANDON overwrites the shadow banks with the active contents, unless PEND is 1. -/
  | epochAbandon (ident : Nat) (data : Word)
  /-- RETIRING_BANKS_FREED (R25): SYS_EPOCH_RET reaches zero, so the retiring banks are freed. -/
  | retiringBanksFreed
  /-- STAGE_S0 (R67): The device reaches S0: the boot code reads BOOT_MODE, checks the firmware image and sends the UART start line. -/
  | stageS0 (bootMode : Nat)
  /-- STAGE_S1 (R67): The device reaches S1: the PCIe endpoint is ready, and strings start training. -/
  | stageS1 (bad : List (Nat × Nat × Nat))
  /-- SETTINGS_MIGRATION (R89): Between S1 and S2, the firmware reads the settings slot, migrates an older format to the other slot, and applies it after an intact read-back, or holds at S1 if the format is newer. -/
  | settingsMigration (readBackOk : Bool)
  /-- STAGE_S2 (R73): The device reaches S2, and reduced service starts on the serving quadrant. -/
  | stageS2
  /-- STAGE_S3 (R75): The device reaches S3 once the quadrants are up, the map is warm and the partner is synchronised or absent. -/
  | stageS3
  /-- START_DEADLINE (R75): 45 s after the start, with S3 not reached, a start-deadline record is written. -/
  | startDeadline
  /-- X32K_OK (R70): The 32.768 kHz crystal is found running, and device time starts to advance from it. -/
  | x32kOk
  /-- ENT_READY (R81): A quadrant's entropy source has collected 4,096 healthy bits, so ENT_READY bit n sets and waiting keyed work runs. -/
  | entReady (q : Nat)
  /-- DEAD_HEAD (R92): S2 is not reached within 10 s of S0, so the head declares itself dead with cause 0x2. -/
  | deadHead
  /-- DEAD_LINE_REPEAT (R93): Every 10 s, a dead head sends the line HX880 DEAD cause=N on the UART. -/
  | deadLineRepeat
  /-- PING (R102): Health command PING replies with no data. -/
  | ping (p : Packet)
  /-- GET_STATUS (R102): Health command GET_STATUS returns the start, reset-cause, stage-time and CMD status registers. -/
  | getStatus (p : Packet)
  /-- GET_HEALTH (R102): Health command GET_HEALTH returns the spare summaries, the spare state and the core map. -/
  | getHealth (p : Packet)
  /-- GET_IDENT (R102): Health command GET_IDENT returns SYS_ID, SYS_HEAD, the unit serial and the firmware version. -/
  | getIdent (p : Packet)
  /-- GET_LOAD (R102): Health command GET_LOAD returns the load, the BUSY counts and the queue occupancy. -/
  | getLoad (p : Packet)
  /-- RESET (R85): Command RESET replies first, then starts a warm reset (kind 1) or a complex restart (kind 2). -/
  | reset (p : Packet)
  /-- SETTINGS_RESET (R102): Command SETTINGS_RESET writes the factory settings to the other slot, to be applied at the next warm reset. -/
  | settingsReset (p : Packet)
  /-- OPEN_SESSION (R105): Command OPEN_SESSION opens a session and returns its handle and a nonce, or is refused with BUSY at the session limit. -/
  | openSession (p : Packet)
  /-- CLOSE_SESSION (R105): Command CLOSE_SESSION ends the named session. -/
  | closeSession (p : Packet)
  /-- EXPERT_UNLOCK (R106): Command EXPERT_UNLOCK verifies an ECDSA proof and unlocks the expert level; after three rejected proofs the session ends. -/
  | expertUnlock (p : Packet)
  /-- SESSION_EXPIRE (R105): A session named by no packet for IDLE_S seconds ends. -/
  | sessionExpire (handle : Nat)
  /-- CLUSTER_SWAP (R532): Expert command CLUSTER_SWAP triggers a spare swap or retirement of the named cluster, and replies when the trigger is accepted. -/
  | clusterSwap (p : Packet)
  /-- PACKET_TAKE (R114): The intake engine takes a held packet from its slot or ring once its class queue has room, checks it under R97, and queues or refuses it. -/
  | packetTake (src : PacketSource) (load : Nat)
  /-- CLASS3_PROMOTE (R115): A class-3 command that has waited 10 s is served before class 2. -/
  | class3Promote (ident tag : Nat)
  /-- WATCHDOG_RESTART (R116): An enabled core misses its kick for PERIOD_MS, so the complex is held in reset, its cores are self-tested and failed cores are replaced by spares. -/
  | watchdogRestart (late failed : Nat)
  /-- FIRMWARE_RUN (R116): The restarted firmware runs: it restores and locks the bindings, replies RESTARTED to commands left without a reply, and intake resumes. -/
  | firmwareRun
  /-- WDOG_KICK (R116): A write to CMD_WDOG_KICK by a management core kicks that core's watchdog. -/
  | wdogKick (ident core : Nat) (data : Word)
  /-- SLOT_WRITE (R122): A write into a mailbox slot is accepted, or is ignored and sets OVF if the slot is full or the identity is not permitted. -/
  | slotWrite (ident off : Nat) (bytes : List Byte)
  /-- SEND (R122): A write to MBX_CHn_SEND sets FULL and rings the receiver's first doorbell bit. -/
  | send (ident n : Nat) (data : Word)
  /-- RECV (R122): A read of MBX_CHn_RECV takes the message, returns VALID and the length, and clears FULL. -/
  | recv (ident n : Nat)
  /-- WDRAW (R124): A read of MBX_CHn_WDRAW withdraws an unread message and clears FULL; the HX880 serialises it against RECV. -/
  | wdraw (ident n : Nat)
  /-- LOCK_READ (R126): A read of MBX_CHn_LOCK grants a free shared-channel lock to the reader, or returns the current owner. -/
  | lockRead (ident n : Nat)
  /-- LOCK_RELEASE (R126): A write of MBX_CHn_LOCK by its owner releases the lock; a write by anyone else is refused and recorded. -/
  | lockRelease (ident n : Nat) (data : Word)
  /-- DB_SET (R127): A write to MBX_CHn_DB_SET sets the other side's doorbell bits and notifies it where they are unmasked. -/
  | dbSet (ident n : Nat) (data : Word)
  /-- CREATE_QP (R131): Command CREATE_QP writes the shadow binding of a new queue pair, which stays PENDING until the next epoch commit. -/
  | createQp (p : Packet)
  /-- DELETE_QP (R134): Command DELETE_QP stops fetching at once, drains the commands in flight, and removes the binding at a later commit. -/
  | deleteQp (p : Packet)
  /-- RESET_QP (R135): Command RESET_QP zeroes the indices and the fault of an idle queue pair, which stays ACTIVE. -/
  | resetQp (p : Packet)
  /-- QP_STATUS (R130): Command QP_STATUS returns the state, indices and counts of a queue pair. -/
  | qpStatus (p : Packet)
  /-- SET_COALESCE (R161): Command SET_COALESCE changes interrupt coalescing and signals any pending completions. -/
  | setCoalesce (p : Packet)
  /-- GET_QP_STATS (R130): Command GET_QP_STATS returns the per-queue-pair statistics. -/
  | getQpStats (p : Packet)
  /-- QP_CTX_READ (R130): Expert command QP_CTX_READ returns the raw 128-byte context of a queue pair. -/
  | qpCtxRead (p : Packet)
  /-- SQ_TAIL_DOORBELL (R136): A BAR2 write sets a host queue pair's SQ tail, or puts the queue pair in FAULT_DB if the tail is out of range. -/
  | sqTailDoorbell (off size data : Nat)
  /-- CQ_HEAD_DOORBELL (R136): A BAR2 write sets a host queue pair's CQ head, which releases CQ slots, or faults the queue pair. -/
  | cqHeadDoorbell (off size data : Nat)
  /-- FETCH (R139): At a cluster's turn, the queue slice reads up to WEIGHT submissions from a queue pair's ring, within the CQ's free slots. -/
  | sqFetch (cluster qpid : Nat)
  /-- CONTEXT_FETCH (R140): An uncached queue-pair context arrives from the spill region, evicting the least recently used one, and fetching can go on. -/
  | contextFetch (qpid : Nat)
  /-- LOCK_GRANT (R152): A range-lock request is granted in request order once nothing overlapping holds or waits before it, and its command proceeds. -/
  | lockGrant (qpid cid : Nat)
  /-- READ (R142): An I/O READ submission is taken for processing: access check, range lock, map lookup and media jobs. -/
  | ioRead (qpid cid : Nat)
  /-- WRITE (R142): An I/O WRITE submission pulls its payload, which is chunked, de-duplicated, coded, enciphered, cached and mirrored. -/
  | ioWrite (qpid cid : Nat) (faulty : List Nat)
  /-- FLUSH (R142): An I/O FLUSH waits until every earlier completed write to the volume is durable on media. -/
  | ioFlush (qpid cid : Nat)
  /-- DISCARD (R262): An I/O DISCARD takes an exclusive lock and marks the range as a discard hint. -/
  | ioDiscard (qpid cid : Nat)
  /-- ABORT (R155): An I/O ABORT catches its target if the target is still catchable, and completes with CAUGHT, NOT_CAUGHT or ALREADY_COMPLETED. -/
  | ioAbort (qpid cid : Nat)
  /-- READ_COMPLETE (R149): Once every byte of a READ is visible in the buffer, its completion is posted, with the FENCE write for a client queue pair. -/
  | readComplete (qpid cid : Nat) (here : Bool) (odd : List FrameSeen)
  /-- COALESCE_TIMER (R160): Every 1 µs, a CQ whose pending completions are older than AGG_TIME_US is signalled. -/
  | coalesceTimer
  /-- CONN_CREATE (R173): Command CONN_CREATE creates a connection in PENDING, bound to a cluster with its paths. -/
  | connCreate (p : Packet)
  /-- CONN_DESTROY (R174): Command CONN_DESTROY starts draining a connection, or is refused while a queue pair or trigger names it. -/
  | connDestroy (p : Packet)
  /-- CONN_STATUS (R173): Command CONN_STATUS returns a connection's state, paths and PSNs. -/
  | connStatus (p : Packet)
  /-- PATH_SET (R173): Command PATH_SET replaces a connection's path set in the shadow bank. -/
  | pathSet (p : Packet)
  /-- PORT_ADDR (R166): Command PORT_ADDR sets a local IP address of a port. -/
  | portAddr (p : Packet)
  /-- EXC_RING (R167): Command EXC_RING sets a port's exception ring pair in head-host memory. -/
  | excRing (p : Packet)
  /-- TRIG_ALLOC (R187): Command TRIG_ALLOC creates a trigger tag with a counter at zero in a cluster. -/
  | trigAlloc (p : Packet)
  /-- TRIG_POST (R187): Command TRIG_POST arms a triggered entry on a tag, which fires at once if its threshold is already reached. -/
  | trigPost (p : Packet)
  /-- TRIG_FREE (R188): Command TRIG_FREE cancels all entries of a tag and frees the tag. -/
  | trigFree (p : Packet)
  /-- TRIG_STATUS (R187): Command TRIG_STATUS returns a tag's counter and entry counts. -/
  | trigStatus (p : Packet)
  /-- PORT_STATUS (R164): Command PORT_STATUS returns a port's status and frame and FEC counters. -/
  | portStatus (p : Packet)
  /-- CONN_CTX_READ (R173): Expert command CONN_CTX_READ returns the raw 256-byte context of a connection. -/
  | connCtxRead (p : Packet)
  /-- FRAME_RECEIVE (R166): An Ethernet frame is received and taken whole: it is accepted as VRM, handed to the exception ring, or dropped, and may cause a PFC pause. -/
  | frameReceive (port sub : Nat) (f : Frame)
  /-- CONN_CONTEXT_FETCH (R171): An uncached connection context arrives from the spill region, and the packets held for it proceed. -/
  | connContextFetch (conn : Nat)
  /-- WRITE_PACKET (R177): An inbound VRM WRITE packet is checked against its key and placed at ADDR, or refused with a NAK. -/
  | writePacket (port idx : Nat)
  /-- FENCE_PLACE (R184): A held FENCE write is placed once XCNT minus 1 other packets of its transfer are placed, and is then ACKed. -/
  | fencePlace (conn xfer : Nat)
  /-- READ_REQ (R177): An inbound READ_REQ under a key the head issued causes the data to be sent as READ_RESP. -/
  | readReq (port idx : Nat)
  /-- READ_RESP (R184): A READ_RESP packet is placed at its offset, and the read is done once LEN bytes are placed. -/
  | readResp (port idx : Nat)
  /-- DOORBELL (R186): A SEND of kind DOORBELL for a client queue pair fires its built-in trigger, which pulls the new SQ entries. -/
  | doorbell (port idx : Nat)
  /-- TRIGGER (R188): A counted SEND of kind TRIGGER adds one to its tag's counter, and each entry whose threshold is reached fires. -/
  | trigger (port idx : Nat)
  /-- ACK (R180): An ACK frees acknowledged packets, updates srtt and the congestion window, and may finish a draining connection. -/
  | ack (port idx : Nat)
  /-- NAK (R177): A NAK ends the sender's transfer with an error, or marks the connection lost for CONN_UNKNOWN. -/
  | nak (port idx : Nat)
  /-- PROBE (R182): A PROBE is answered by an ACK on the same path, and a down path is marked up when its own PROBE is answered. -/
  | probe (port idx : Nat)
  /-- ACK_TIMER (R180): ACK_US after the oldest unacknowledged arrival, the receiver sends an ACK. -/
  | ackTimer (conn : Nat)
  /-- REORDER_TIMEOUT (R181): REORDER_US after a later packet on the same path was acknowledged, a packet is declared lost and retransmitted. -/
  | reorderTimeout (conn psn : Nat)
  /-- RETRANSMIT_TIMEOUT (R181): A path's retransmission timer expires: the packet is retransmitted, the window falls, and after three timeouts the path goes down. -/
  | retransmitTimeout (conn path : Nat)
  /-- KEEPALIVE (R182): A path idle for KEEPALIVE_MS gets a PROBE; three unanswered PROBEs mark it down. -/
  | keepalive (conn path : Nat)
  /-- DOWN_PATH_PROBE (R182): Every 100 ms, a down path is probed. -/
  | downPathProbe (conn path : Nat)
  /-- CONNECTION_LOST (R175): With no path up and nothing received for LOSS_MS, the connection becomes LOST: transfers are discarded, queue pairs fault and triggers are cancelled. -/
  | connectionLost (conn : Nat)
  /-- PFC_RELEASE (R168): The ingress buffer drains below XOFF minus 1 MiB, so the PFC pause is released. -/
  | pfcRelease (port : Nat)
  /-- PFC_PAUSE_RECEIVE (R168): A received PFC frame for PFC_PRIO stops transmission on that priority. -/
  | pfcPauseReceive (port sub : Nat) (pause : Bool)
  /-- SUB_PORT_UP (R164): An Ethernet sub-port completes training and comes up. -/
  | subPortUp (port sub : Nat)
  /-- VRM_STAMP_READ (R189): A read of VRM_STAMP returns the stamp's low bits and latches its high bits into VRM_STAMP_HI. -/
  | vrmStampRead (ident : Nat)
  /-- POLICY_SET (R228): Command POLICY_SET writes a volume's transform policy to the shadow table. -/
  | policySet (p : Packet)
  /-- POLICY_GET (R228): Command POLICY_GET returns a volume's 16-byte policy. -/
  | policyGet (p : Packet)
  /-- XF_STATS (R228): Command XF_STATS returns the transform counters of a cluster or quadrant. -/
  | xfStats (p : Packet)
  /-- REKEY_START (R216): Command REKEY_START raises a volume's KEY_EPOCH at the next commit and starts a rekey sweep. -/
  | rekeyStart (p : Packet)
  /-- REKEY_SWEEP_END (R216): A rekey sweep ends, and MIN_EPOCH becomes KEY_EPOCH at the next commit. -/
  | rekeySweepEnd (vol : Nat)
  /-- REKEY_STATUS (R228): Command REKEY_STATUS returns a volume's key epochs and the frames left to sweep. -/
  | rekeyStatus (p : Packet)
  /-- SEAL_KEY_EXPORT (R222): Command SEAL_KEY_EXPORT returns K_conn for a client label, to identity 2 only. -/
  | sealKeyExport (p : Packet)
  /-- GET_KCV (R228): Command GET_KCV returns the ARK and FRK check values. -/
  | getKcv (p : Packet)
  /-- ROOT_LOAD (R209): Expert command ROOT_LOAD checks the KCV, blows a root key into the fuses and reads it back. -/
  | rootLoad (p : Packet) (readBackOk : Bool)
  /-- KEY_DERIVATION_DONE (R213): A key derivation completes, the key enters a cipher slot, and the jobs waiting for it proceed. -/
  | keyDerivationDone (cluster purpose vol epoch label : Nat)
  /-- SUMMARY_REBUILT (R202): The background rebuild of the de-duplication summary ends, and REBUILT sets. -/
  | summaryRebuilt
  /-- HEALTH_TEST_FAIL (R225): An entropy health test fails; the quadrant moves to RETEST, or to BORROW on the third failure within 60 minutes. -/
  | healthTestFail (test : HealthTest)
  /-- HOURLY_RETEST (R225): Each hour, a quadrant in BORROW retests its own source and returns to READY if it passes. -/
  | hourlyRetest (q : Nat) (pass : Bool)
  /-- DRBG_RESEED (R223): A cluster DRBG reseeds from its quadrant's entropy at wake, after 2^32 requests, or once a second. -/
  | drbgReseed (cluster : Nat)
  /-- FLIT_RECEIVE (R232): A flit is received on a flash link: it is checked, and a bad one causes a NAK and replay, up to a retrain. -/
  | flitReceive (link : LinkRef) (word0 word1 : Nat) (payload : List Byte) (fcrc : Nat)
  /-- ACKSEQ_TIMER (R232): ACKSEQ is returned at least every 64 flits or every 1 µs. -/
  | ackseqTimer (link : LinkRef)
  /-- FLASH_LINK_UP (R237): A flash link trains; IDENT is read, and the module is accepted, or left untrained with BAD_GEOM. -/
  | flashLinkUp (link : Nat) (trained : Bool) (ident : Ident)
  /-- LANE_ERROR_WINDOW (R233): At the end of each 1 s error window of a lane, the spare is switched in, or the lane is taken out of service, if a threshold is met. -/
  | laneErrorWindow (link : LinkRef) (slot uncorr corr symbols : Nat)
  /-- SPARE_LANE_TRAINED (R233): The spare lane finishes training and its PRBS run; both ends agree a switch SEQ, or the spare becomes FAILED. -/
  | spareLaneTrained (link : LinkRef) (ok : Bool)
  /-- LANE_SWITCH (R233): At the switch SEQ, the failing lane's flit slot moves to the spare lane, and the lane map is updated. -/
  | laneSwitch (link : LinkRef)
  /-- SPARE_LANE_TEST (R235): Every TEST_DAYS days, an unused spare lane is lit, trained and checked with PRBS31 for 100 ms. -/
  | spareLaneTest (link : LinkRef) (failed : List Nat)
  /-- BRIDGE_COMPLETION (R238): A CPL flit from a TB2 bridge completes a read, program, erase, ownership, fence or staging command. -/
  | bridgeCompletion (link tag status : Nat) (data : List Byte)
  /-- CODEWORD_DECODE (R283): A flash codeword decode ends; on failure the next re-read or joint decoding follows, and refresh may be marked. -/
  | codewordDecode (job page cw it : Nat) (ok : Bool)
  /-- MAP_PAGE_FETCH (R251): A map page arrives from the host region or the map store and is checked; a bad host page is fetched again from the map store. -/
  | mapPageFetch (vol page : Nat) (fromHost crcOk : Bool)
  /-- MAP_LOG_FLUSH (R253): Every 1 ms, or at every 4 MiB of log, the map log is flushed to the map store. -/
  | mapLogFlush
  /-- MAP_COMMIT (R253): A write's map commit happens once its frames, parity and log record are durable: index entries go live, REFS change and the mirror entries free. -/
  | mapCommit (id : Nat)
  /-- MAP_CHECKPOINT (R253): After 64 MiB of log since the last checkpoint, the map pages are checkpointed to the map store. -/
  | mapCheckpoint
  /-- MAP_WARM (R254): Log replay, dump indexing and page reload end, so MAP_WARM sets. -/
  | mapWarm
  /-- FINE_DEMOTE (R248): A fine unit with no write for DEMOTE_H hours, or one demoted for the budget, becomes large again. -/
  | fineDemote (vol unit : Nat)
  /-- REBASE_SWEEP_END (R257): A rebase sweep ends, and the new generations take effect at an epoch commit. -/
  | rebaseSweepEnd (vol : Nat)
  /-- GC_BAND_SELECT (R260): Garbage collection picks the FULL band with the highest score and relocates its live frames. -/
  | gcBandSelect (q tier : Nat)
  /-- TIER_MIGRATE (R261): An AUTO unit unread for COOL_DAYS days migrates to HDA bands, and a warm HDA unit migrates back. -/
  | tierMigrate (vol unit : Nat)
  /-- BAND_ALLOCATE (R286): A FREE band with the lowest mean erase count is allocated and erased; wear-levelling relocation may follow. -/
  | bandAllocate (set zone use_ level : Nat)
  /-- FTL_STATUS (R270): Command FTL_STATUS returns a quadrant's free pools and band counts. -/
  | ftlStatus (p : Packet)
  /-- TIER_SET (R261): Command TIER_SET sets a volume's tier policy. -/
  | tierSet (p : Packet)
  /-- UNIT_INFO (R270): Command UNIT_INFO returns a unit's map entry and frame count. -/
  | unitInfo (p : Packet)
  /-- PURGE (R264): Command PURGE relocates live frames out of garbage bands, then erases or zeroes those bands. -/
  | purge (p : Packet)
  /-- PURGE_DONE (R264): A PURGE ends, and no garbage frame from before it remains readable. -/
  | purgeDone
  /-- DUMP_STATUS (R270): Command DUMP_STATUS returns the dump state, the dirty bytes and the last dump sequence. -/
  | dumpStatus (p : Packet)
  /-- MAP_PAGE_READ (R270): Expert command MAP_PAGE_READ returns a raw 4 KiB map page. -/
  | mapPageRead (p : Packet)
  /-- LINK_STATUS (R270): Command LINK_STATUS returns a flash link's status and counters, which clears its RC fields. -/
  | linkStatus (p : Packet)
  /-- MODULE_IDENT (R270): Command MODULE_IDENT returns a module's IDENT reply. -/
  | moduleIdent (p : Packet)
  /-- LANE_SPARE (R233): Expert command LANE_SPARE forces the spare-lane swap of a link. -/
  | laneSpare (p : Packet)
  /-- BRIDGE_RAW (R270): Expert command BRIDGE_RAW sends a raw CMD payload to a bridge and returns the CPL payload. -/
  | bridgeRaw (p : Packet)
  /-- DUMP_FRAMES_DONE (R266): Every dirty frame of the dump has been programmed, and the map log tail follows. -/
  | dumpFramesDone (ns : Nat)
  /-- DUMP_LOG_DONE (R266): The unflushed map log is programmed, and each module receives its dump record. -/
  | dumpLogDone (ns : Nat)
  /-- DUMP_DONE (R533): The dump completes event 5: DONE and LAST_10US are set. -/
  | dumpDone (ns : Nat)
  /-- DUMP_RESTORE (R267): Between S1 and S2, the latest dump's records are read, the dumped frames indexed, and DONE and INCOMPLETE set. -/
  | dumpRestore (intact : List Nat)
  /-- DUMP_RESTORED (R267): After S3, the dumped frames are destaged and committed, the zones erased, and RESTORED sets. -/
  | dumpRestored
  /-- TEMPERATURE_REPORT (R273): An LMGT temperature report arrives from a module's bridge. -/
  | temperatureReport (link : Nat) (temp : Int)
  /-- TEMPERATURE_TIMEOUT (R273): A module sends no temperature report for 1 s, so its sets count as out of context. -/
  | temperatureTimeout (link : Nat)
  /-- LOAD_CLASS_UPDATE (R275): Every 100 ms, each module's load class is set from BW and QD. -/
  | loadClassUpdate (link bw qd : Nat)
  /-- WINDOW_CLOSE (R278): A tuning window closes after CAL_CW codewords, and a candidate set is computed unless the window is discarded. -/
  | windowClose (link die plane ret load : Nat) (hi lo : List Nat) (temp : Int) (bw : Nat)
  /-- CANDIDATE_COMMIT (R279): Candidate sets are committed to the tuning table, at most once per COMMIT_S, and become CANDIDATE. -/
  | candidateCommit (hda : Bool)
  /-- VALIDATION_PASS (R281): A VALIDATING or CANDIDATE set passes after its validation length and becomes VALID. -/
  | validationPass (t : SetRef)
  /-- VALIDATION_FAIL (R282): A set exceeds VAL_FAIL first-decode failures; it becomes SUSPECT with soft-first reads, or a candidate reverts. -/
  | validationFail (t : SetRef)
  /-- REFRESH (R285): A band holding a block marked for refresh is relocated at GC priority. -/
  | refresh (set zone : Nat)
  /-- PATROL_PACE (R288): Every 10 s, the patrol lap is paced, and PAT_LATE is set if the lap falls behind. -/
  | patrolPace
  /-- LAP_END (R289): A patrol lap ends and the next begins; LATE clears or sets. -/
  | lapEnd
  /-- DIE_SWAP_AGREED (R291): The capo and the partner agree the new die position, and the band copy starts. -/
  | dieSwapAgreed (link : Nat)
  /-- DIE_SWAP_DONE (R291): The last band of a die swap has moved; the old die is retired and the spare count falls. -/
  | dieSwapDone (link : Nat)
  /-- TUN_STATUS (R296): Command TUN_STATUS returns the tuning and patrol status. -/
  | tunStatus (p : Packet)
  /-- GROUP_HEALTH (R296): Command GROUP_HEALTH returns a block group's sets and spare counts. -/
  | groupHealth (p : Packet)
  /-- MODULE_WEAR (R296): Command MODULE_WEAR returns a module's wear registers and die map. -/
  | moduleWear (p : Packet)
  /-- PATROL_RESTART (R296): Command PATROL_RESTART ends the current patrol lap and starts a new one. -/
  | patrolRestart (p : Packet)
  /-- TUNING_FREEZE (R296): Expert command TUNING_FREEZE freezes or releases tuning. -/
  | tuningFreeze (p : Packet)
  /-- DIE_SWAP (R291): Expert command DIE_SWAP starts the swap of a die. -/
  | dieSwap (p : Packet)
  /-- SET_WRITE (R296): Expert command SET_WRITE commits a tuning set as VALID. -/
  | setWrite (p : Packet)
  /-- STRING_UP (R305): A string trains; carrier and HDA identities are read, and any HDA that R305 does not allow is REFUSED. -/
  | stringUp (str : Nat) (ident : CarrierIdent) (found0 found1 : HdaFound)
  /-- RSAMP (R307): An RSAMP flit of read samples arrives for a detector–decoder pair. -/
  | rsamp (str head slot stream first : Nat) (samples : List Byte) (fcrc : Nat)
  /-- SSAMP (R333): An SSAMP flit arrives; with the last wedge part, the wedge is demodulated, the control law runs and SOUT is issued. -/
  | ssamp (str : Nat) (flit : SsampFlit)
  /-- CSTAT (R298): A CSTAT flit reports carrier status, temperature, missed deadlines and retracts. -/
  | cstat (str : Nat) (c : Cstat)
  /-- CARRIER_COMPLETION (R301): A CPL flit from a carrier completes a drive, stream, write run or staging command. -/
  | carrierCompletion (str tag : Nat) (st : CarStatus) (gates : Nat) (vers : List Nat)
  /-- POOR_CHECK (R300): Each second, real-time loss is checked; after 10 s above threshold the string is POOR. -/
  | poorCheck
  /-- POOR_CLEAR (R300): After 60 s below the threshold, POOR clears. -/
  | poorClear (str : Nat)
  /-- RUN_GRANT (R313): A read run whose first sector is within GRANT_US is granted a pair, or waits a revolution. -/
  | runGrant (run : Nat)
  /-- RUN_PREEMPT (R313): A run that has held its pair for RUN_MS while a higher class waits gives the pair up after the current sector. -/
  | runPreempt (run : Nat)
  /-- SECTOR_DECODE (R319): A sector's decode ends; recovery steps follow on failure, and reallocation when step 4 or later was needed. -/
  | sectorDecode (run it : Nat) (tag : Option Nat) (mark used : Nat)
  /-- REALLOCATION_DURABLE (R321): A spare sector and its table entry become durable, so reads use the entry and the hold is freed. -/
  | reallocationDurable (hda sector : Nat)
  /-- ZONE_RESET (R318): An HDA zone's write pointer resets and its write pass increments, after pending reallocations. -/
  | zoneReset (hda zone : Nat)
  /-- HDA_LOAD_CLASS_UPDATE (R324): Every 100 ms, each HDA's load class is set from STREAMS and PES. -/
  | hdaLoadClassUpdate
  /-- HDA_WINDOW_CLOSE (R326): An HDA tuning window closes after CAL_SECT sectors, and the equaliser, target, noise and heater values are updated. -/
  | hdaWindowClose (hda zone load : Nat) (gf gt np : List Int) (clr : Nat) (temp : Int) (bw : Nat)
  /-- HDA_SET_FLUSH (R328): At least hourly, changed HDA sets are written to the HDA's system zones. -/
  | hdaSetFlush
  /-- HDA_STATUS (R330): Command HDA_STATUS returns an HDA's status and counts. -/
  | hdaStatus (p : Packet)
  /-- HDA_IDENT (R330): Command HDA_IDENT returns an HDA's identity and layout. -/
  | hdaIdent (p : Packet)
  /-- HDA_FORMAT (R330): Command HDA_FORMAT writes new system zones and resets every zone of an HDA. -/
  | hdaFormat (p : Packet)
  /-- ZONE_SETS (R330): Command ZONE_SETS returns a zone's three tuning sets. -/
  | zoneSets (p : Packet)
  /-- REALLOC_LIST (R330): Command REALLOC_LIST returns entries of an HDA's reallocation table. -/
  | reallocList (p : Packet)
  /-- SAMPLE_CAPTURE (R330): Expert command SAMPLE_CAPTURE returns 4,096 samples of a sector from its next read. -/
  | sampleCapture (p : Packet)
  /-- STRING_STATUS (R330): Command STRING_STATUS returns a string's status and counters. -/
  | stringStatus (p : Packet)
  /-- CARRIER_IDENT (R330): Command CARRIER_IDENT returns a carrier's identity. -/
  | carrierIdent (p : Packet)
  /-- DRIVE_SET (R301): Expert command DRIVE_SET claims or releases drive of a carrier. -/
  | driveSet (p : Packet)
  /-- PARKED_SOUT (R332): Every 16.28 µs, the engine sends SOUT for a parked slot. -/
  | parkedSout (hda : Nat)
  /-- LOAD_RETRY (R334): 100 ms after the heads park from LOST, a load is tried again. -/
  | loadRetry (hda : Nat)
  /-- LOAD_TIMEOUT (R342): LOADING does not capture within 0.5 s, so the heads retract. -/
  | loadTimeout (hda : Nat)
  /-- TRAJECTORY_END (R344): A seek trajectory ends, and the loop enters SETTLE in LOW range. -/
  | trajectoryEnd (hda : Nat)
  /-- UNLOAD_DONE (R342): A controlled unload reaches the ramp, and the loop is PARKED. -/
  | unloadDone (hda : Nat)
  /-- RETRACT_PULSE_END (R347): The retract pulse ends, and the carrier holds HOLD. -/
  | retractPulseEnd (hda : Nat)
  /-- SPINSYNC (R352): A SPINSYNC rising edge is timestamped and accepted or rejected, and phase lock follows it. -/
  | spinsync (stamp : Nat)
  /-- SYNC_HOLDOVER (R352): No edge is accepted for 4 periods, so LOCKED spindles become FREE and SYNC_LOST sets. -/
  | syncHoldover
  /-- SPINUP_GRANT (R354): A waiting spin-up is granted by class and age once stagger and MAX_SPINUP allow and the switch is free. -/
  | spinupGrant (hda : Nat)
  /-- ALIGN_DONE (R351): The rotor is aligned, and the spindle enters ACCEL. -/
  | alignDone (hda : Nat)
  /-- SPINUP_TIMEOUT (R355): 12 s of switch hold without 95 % speed sets FAULT; the switch is released and SPINUP_FAIL sets. -/
  | spinupTimeout (hda : Nat)
  /-- FAULT_RETRY (R355): 10 s after FAULT, the spin-up is retried once; a second FAULT makes the spindle and the HDA FAILED. -/
  | faultRetry (hda : Nat)
  /-- IDLE_SPIN_DOWN (R356): An HDA with no run for IDLE_MIN minutes is unloaded and braked. -/
  | idleSpinDown (hda : Nat)
  /-- SRV_STATUS (R359): Command SRV_STATUS returns an HDA's servo status and counts. -/
  | srvStatus (p : Packet)
  /-- LOOP_PROFILE (R341): Command LOOP_PROFILE builds a loop block from a profile and trim, in the shadow table. -/
  | loopProfile (p : Packet)
  /-- LOOP_GET (R359): Command LOOP_GET returns the active loop block. -/
  | loopGet (p : Packet)
  /-- TRACE_ARM (R350): Command TRACE_ARM arms a quadrant's trace buffer. -/
  | traceArm (p : Packet)
  /-- TRACE_READ (R350): Command TRACE_READ returns trace samples. -/
  | traceRead (p : Packet)
  /-- LOOP_SET_RAW (R342): Expert command LOOP_SET_RAW writes a raw loop block, checked for CRC and notch stability. -/
  | loopSetRaw (p : Packet)
  /-- SEEK_TEST (R359): Expert command SEEK_TEST runs a seek and returns its time. -/
  | seekTest (p : Packet)
  /-- SPIN_UP (R354): Command SPIN_UP requests the spin-up of an HDA in a class. -/
  | spinUp (p : Packet)
  /-- SPIN_DOWN (R356): Command SPIN_DOWN unloads and brakes an HDA. -/
  | spinDown (p : Packet)
  /-- SPIN_STATUS (R359): Command SPIN_STATUS returns an HDA's spindle status and counts. -/
  | spinStatus (p : Packet)
  /-- PHASE_SET (R352): Command PHASE_SET writes an HDA's spindle phase offset to the shadow table. -/
  | phaseSet (p : Packet)
  /-- MOTOR_SET (R359): Expert command MOTOR_SET stores an HDA's pole pairs in the settings block. -/
  | motorSet (p : Packet)
  /-- STRIPE_CLOSE_TIMEOUT (R368): A gathering stripe whose oldest frame has waited CLOSE_MS is closed early, padded and programmed. -/
  | stripeCloseTimeout (set zone row stripe : Nat)
  /-- RESYNC (R371): After log replay following an unclean stop, the stripes of dirty regions are checked, and bad ones become void. -/
  | resync (bad : List (Nat × Nat × Nat × Nat))
  /-- JOINT_DECODE (R373): Joint soft decoding of a column across its stripe ends, recovered or given up. -/
  | jointDecode (job row col : Nat) (failed : List Nat) (run : JointRun)
  /-- REBUILD_START (R376): Rebuild of a taken-over position starts, and the set becomes REBUILDING. -/
  | rebuildStart (set : Nat)
  /-- REBUILD_PACE (R380): Every second, each set's rebuild read rate is paced, and REBUILD_LATE may set. -/
  | rebuildPace (set : Nat) (host : List (Nat × Nat)) (bad : List (Nat × Nat × Nat))
  /-- POSITION_REBUILT (R376): No strip of a position remains to move, so it becomes REBUILT. -/
  | positionRebuilt (set pos : Nat)
  /-- COPYBACK_BAND_DONE (R386): A band's zone is written on the replacement member, its entries end, and after the last band the position is ACTIVE. -/
  | copybackBandDone (set pos zone : Nat)
  /-- SET_CREATE (R361): Command SET_CREATE creates a fret-map set. -/
  | setCreate (p : Packet)
  /-- SET_STATUS (R390): Command SET_STATUS returns a set's status and position states. -/
  | setStatus (p : Packet)
  /-- FRET_READ (R390): Command FRET_READ returns a set version. -/
  | fretRead (p : Packet)
  /-- LEVEL_SET (R365): Command LEVEL_SET writes a volume's parity level to the shadow table. -/
  | levelSet (p : Packet)
  /-- LOST_LIST (R390): Command LOST_LIST returns lost-range entries. -/
  | lostList (p : Packet)
  /-- REPLACE (R386): Command REPLACE binds a member to a FAILED or REBUILT position and starts copy-back. -/
  | replace (p : Packet)
  /-- MEMBER_FAIL (R375): Expert command MEMBER_FAIL sets a position FAILED or EVACUATE. -/
  | memberFail (p : Packet)
  /-- REBUILD_PAUSE (R390): Expert command REBUILD_PAUSE pauses or resumes a set's non-critical rebuild. -/
  | rebuildPause (p : Packet)
  /-- VOL_CREATE (R392): Command VOL_CREATE creates a volume. -/
  | volCreate (p : Packet)
  /-- VOL_DELETE (R394): Command VOL_DELETE marks a volume DELETING and starts its sweep. -/
  | volDelete (p : Packet)
  /-- VOL_DELETE_SWEEP_END (R394): A volume's delete sweep ends, and the entry becomes FREE. -/
  | volDeleteSweepEnd (vol : Nat)
  /-- VOL_SET (R409): Command VOL_SET changes a volume's settings. -/
  | volSet (p : Packet)
  /-- VOL_STATUS (R409): Command VOL_STATUS returns a volume entry and its usage. -/
  | volStatus (p : Packet)
  /-- SNAP_CREATE (R397): Command SNAP_CREATE writes a CREATING snapshot and requests the commit of VGEN + 1. -/
  | snapCreate (p : Packet)
  /-- SNAP_READY (R397): Every write of the older epoch has committed or ended, so the snapshot becomes READY and SNAP_CREATE replies. -/
  | snapReady (vol snap : Nat)
  /-- SNAP_DELETE (R398): Command SNAP_DELETE marks a snapshot DELETING and starts its sweep. -/
  | snapDelete (p : Packet)
  /-- SNAP_SWEEP_END (R398): A snapshot's delete sweep ends, and its number becomes FREE. -/
  | snapSweepEnd (vol snap : Nat)
  /-- SNAP_LIST (R409): Command SNAP_LIST returns snapshot entries. -/
  | snapList (p : Packet)
  /-- REPL_LINK_CREATE (R400): Command REPL_LINK_CREATE allocates a landing region and returns the link descriptor. -/
  | replLinkCreate (p : Packet)
  /-- REPL_LINK_PEER (R400): Command REPL_LINK_PEER stores the peer descriptor, and HELLO is sent. -/
  | replLinkPeer (p : Packet)
  /-- REPL_LINK_CONN (R406): Command REPL_LINK_CONN binds a new connection to a link, and HELLO resumes it. -/
  | replLinkConn (p : Packet)
  /-- REPL_LINK_DELETE (R409): Command REPL_LINK_DELETE deletes a link. -/
  | replLinkDelete (p : Packet)
  /-- REPL_BIND (R401): Command REPL_BIND binds a volume to a link as source or target; on the source the first epoch is cut at once. -/
  | replBind (p : Packet)
  /-- REPL_UNBIND (R409): Command REPL_UNBIND removes a volume's replication binding. -/
  | replUnbind (p : Packet)
  /-- REPL_CUT (R405): Command REPL_CUT cuts an epoch now, or discards a stalled epoch and recuts it. -/
  | replCut (p : Packet)
  /-- REPL_STATUS (R409): Command REPL_STATUS returns a volume's replication progress. -/
  | replStatus (p : Packet)
  /-- REPL_PROMOTE (R407): Expert command REPL_PROMOTE makes a replica an ordinary volume. -/
  | replPromote (p : Packet)
  /-- REPL_RESYNC (R406): Expert command REPL_RESYNC restarts replication at epoch 1. -/
  | replResync (p : Packet)
  /-- EPOCH_CUT (R401): EPOCH_S after the last apply, a replication epoch is cut as a HELD snapshot and shipping begins. -/
  | epochCut (vol : Nat)
  /-- APPLY_DONE (R401): The target finishes applying an epoch: it commits the map, makes a REPL snapshot, and writes APPLIED or APPLY_FAIL to the source. -/
  | applyDone (vol : Nat)
  /-- REPL_HELLO (R406): A replication HELLO is received; the source resumes, resends or refuses by the reported epoch. -/
  | replHello (link : Nat) (h : ReplHello)
  /-- STAGED_EXPIRE (R406): Staged records of an unapplied epoch are discarded after KEEP_H hours. -/
  | stagedExpire (vol : Nat)
  /-- LAG_ALARM (R409): A volume's replication lag passes LAG_S, so SNP_STS.LAG sets. -/
  | lagAlarm (vol : Nat)
  /-- NERRYN_TRAINED (R414): The Nerryn link trains; a new key epoch is set and stored, and HELLO is sent. -/
  | nerrynTrained (mark : Nat)
  /-- HELLO (R416): A Nerryn HELLO is received, and the pair check passes or refuses synchronisation. -/
  | hello (env : Seal) (h : Hello)
  /-- HEARTBEAT (R415): A HEARTBEAT message from the partner is received, checked and authenticated. -/
  | heartbeat (env : Seal) (b : Beat)
  /-- HEARTBEAT_SEND (R415): Every HB_10US × 10 µs, a HEARTBEAT is sent. -/
  | heartbeatSend
  /-- MIRROR (R417): A MIRROR message places a partner write in the mirror region, and MIRROR_ACK follows once the whole write is in. -/
  | mirror (env : Seal) (m : MirPart)
  /-- MIRROR_ACK (R417): A MIRROR_ACK names writes now mirrored, so they may complete. -/
  | mirrorAck (env : Seal) (ids : List Nat)
  /-- MAPLOG (R418): A MAPLOG message applies shipped map-log records and frees committed mirror entries. -/
  | maplog (env : Seal) (recs : List LogRec)
  /-- PROPOSE (R421): A COORD PROPOSE makes the partner write its shadow banks and reply READY. -/
  | propose (env : Seal) (ver : Nat) (c : PairChange)
  /-- READY (R421): A COORD READY lets the capo commit locally and send COMMIT. -/
  | coordReady (env : Seal) (ver : Nat)
  /-- COORD_COMMIT (R421): A COORD COMMIT makes the partner commit the proposed change. -/
  | coordCommit (env : Seal) (ver : Nat)
  /-- REQUEST (R421): A COORD REQUEST from the non-capo asks the capo for a change or for bands. -/
  | coordRequest (env : Seal) (r : PairReq)
  /-- GRANT (R422): A COORD GRANT gives bands or an activation to the head. -/
  | coordGrant (env : Seal) (g : PairGrant)
  /-- HANDOFF (R423): A COORD HANDOFF passes the capo role, and volumes move where required. -/
  | handoff (env : Seal) (ver : Nat) (queue : List PairChange)
  /-- RELEASE (R420): A COORD RELEASE of moving volumes makes the new head adopt their mirror entries and serve them. -/
  | coordRelease (env : Seal) (carrier : Bool) (num : Nat)
  /-- DEPART (R431): A COORD DEPART makes the partner take over without a quorum. -/
  | coordDepart (env : Seal)
  /-- TUNNEL (R433): A TUNNEL message performs the partner's register access to the MBX window as identity 5. -/
  | tunnel (env : Seal) (a : TunnelAcc)
  /-- NRN_NOTICE (R433): A Nerryn NOTICE signals a pending doorbell towards identity 5. -/
  | nrnNotice (env : Seal) (ch : Nat)
  /-- MEDIA (R434): A MEDIA message carries an HDA read request or its reply, or hands on replication records. -/
  | media (env : Seal) (m : MediaMsg)
  /-- CAPO_SWAP_DUE (R423): PERIOD_H hours after the last capo change, a capo swap falls due and runs, or waits. -/
  | capoSwapDue
  /-- CAPO_SWAP_SKIP (R423): A capo swap that has waited DEFER_MAX_MIN minutes is skipped, and CAPO_SKIP sets. -/
  | capoSwapSkip
  /-- PARTNER_SILENT (R424): The link is DOWN, or HB_MISS periods pass without a message, so the partner is declared SILENT and the quorum fences are sent. -/
  | partnerSilent (down : Bool)
  /-- PARTNER_ABSENT (R430): ABSENT_S after S1 without a trained link, the head runs the quorum as for a silent partner. -/
  | partnerAbsent
  /-- QUORUM (R426): The fence completions decide the quorum: the head takes over if it wins, or becomes ISOLATED if it loses. -/
  | quorum
  /-- PAIR_RESYNC_DONE (R432): Resync completes; both heads become SYNCED, and the returning head is STANDBY. -/
  | pairResyncDone
  /-- PAIR_STATUS (R436): Command PAIR_STATUS returns the pair status. -/
  | pairStatus (p : Packet)
  /-- CAPO_SWAP (R423): Command CAPO_SWAP runs a capo swap, or is refused. -/
  | capoSwap (p : Packet)
  /-- VOL_HOME (R420): Command VOL_HOME moves a volume's home head. -/
  | volHome (p : Packet)
  /-- NRN_LANE_SPARE (R411): Expert command NRN_LANE_SPARE forces the sparing of a Nerryn lane. -/
  | nrnLaneSpare (p : Packet)
  /-- SOLE_TAKEOVER (R436): Expert command SOLE_TAKEOVER runs a takeover without a quorum. -/
  | soleTakeover (p : Packet)
  /-- CHANNEL_TRAINING (R440): A DDR5 channel finishes training, or fails it, and a quadrant with a failed channel is taken out of service. -/
  | channelTraining (ch : Nat) (d ref : Dimm) (checkOk fullOk : Bool) (hard : List Nat)
  /-- ZQ_CALIBRATION (R440): Every 128 ms, ZQ calibration repeats on each channel. -/
  | zqCalibration
  /-- SCRUB (R441): The background scrub reads DRAM once every SCRUB_H hours and corrects errors. -/
  | scrub (rows : List (Nat × Nat))
  /-- DRAM_CE (R441): A correctable DRAM error is corrected and written back, and counted. -/
  | dramCe (ch row : Nat)
  /-- DRAM_UE (R443): An uncorrectable DRAM error poisons the data, sets UE and MEM_ERR, and starts the recovery of its content. -/
  | dramUe (ch addr : Nat) (c : UeContent)
  /-- SRAM_UE (R445): A double-bit SRAM error poisons a read; recovery follows by the bank's use. -/
  | sramUe (quad bank : Nat) (e : SramErr)
  /-- BLOCK_TEST (R450): A background-mode 4 KiB block is copied to the save buffer and march-tested, then restored or spared. -/
  | blockTest (quad bank block : Nat) (ok : Bool)
  /-- BGT_LAP_END (R451): A background-test lap ends, and LATE sets if the lap was late. -/
  | bgtLapEnd
  /-- SLICE_DISABLE (R458): A write of 0 to an MCC_CTL.EN bit starts draining that metadata cache slice. -/
  | sliceDisable (ident : Nat) (data : Word)
  /-- SLICE_DRAIN_DONE (R458): A slice's sweep ends, its lines are invalidated, and it is DISABLED or enabled empty. -/
  | sliceDrainDone (slice : Nat)
  /-- SLICE_ENABLE (R458): A write of 1 to an MCC_CTL.EN bit enables an empty slice. -/
  | sliceEnable (ident : Nat) (data : Word)
  /-- MEM_STATUS (R460): Command MEM_STATUS returns a quadrant's memory status. -/
  | memStatus (p : Packet)
  /-- SRAM_HEALTH (R460): Command SRAM_HEALTH returns the bank modes and spares. -/
  | sramHealth (p : Packet)
  /-- REPAIR_MODE_SET (R448): Expert command REPAIR_MODE_SET selects a bank's repair mode for the next cold reset. -/
  | repairModeSet (p : Packet)
  /-- MCC_STATS (R460): Command MCC_STATS returns a slice's statistics. -/
  | mccStats (p : Packet)
  /-- CONFIG_WRITE (R466): A PCIe configuration write changes the configuration space; setting Bus Master Enable or leaving D3hot resumes upstream requests. -/
  | configWrite (addr be : Nat) (data : Word)
  /-- MSIX_TABLE_WRITE (R467): A BAR4 write to the MSI-X table unmasks a vector, which sends its pending message. -/
  | msixTableWrite (addr : Nat) (data : Word)
  /-- COMPLETION_RECEIVE (R469): A PCIe completion returns data for an upstream read, or a failure with its consequence. -/
  | completionReceive (tag : Nat) (status : CplStatus) (data : CplData)
  /-- COMPLETION_TIMEOUT (R468): An upstream read's completion times out, with the consequence of R469. -/
  | completionTimeout (tag : Nat)
  /-- PCIE_ERROR (R471): An AER error is detected and handled by its class and severity. -/
  | pcieError (err : AerError)
  /-- ENDPOINT_RESET (R475): PCIE_PERST_N low, a hot reset or a function-level reset reinitialises the endpoint and abandons outstanding requests. -/
  | endpointReset (kind : EndpointResetKind)
  /-- PERST_RELEASE (R80): PCIE_PERST_N rises, and the endpoint trains and becomes ready. -/
  | perstRelease
  /-- PCI_STATUS (R477): Command PCI_STATUS returns the PCI status and counters. -/
  | pciStatus (p : Packet)
  /-- RECORD_INTAKE (R480): An event record is offered to the recorder: it passes the rate limit into the intake queue, or is suppressed or dropped. -/
  | recordIntake (code loc res value : Nat) (data : List Byte)
  /-- RECORD_COMMIT (R526): A record, with its snapshot records, moves from the intake queue into the log. -/
  | recordCommit
  /-- SNAPSHOT_READ (R481): A trigger's registers are read within 2 µs and appended as snapshot records. -/
  | snapshotRead
  /-- WALL_EPOCH (R479): WALL_MS wraps, and a WALL_EPOCH record is written. -/
  | wallEpoch
  /-- MIRROR_PROGRAM (R484): Unmirrored records are programmed to the SPI NOR mirror in 256-byte pages. -/
  | mirrorProgram (count : Nat)
  /-- MIRROR_HEADER_WRITE (R484): The mirror header is rewritten at least once a second. -/
  | mirrorHeaderWrite
  /-- MIRROR_HEADER_LOAD (R485): After a cold reset, the mirror header is loaded and a POWER_UP record appended. -/
  | mirrorHeaderLoad
  /-- MIRROR_LOAD_DONE (R485): Loading the mirrored records into SRAM ends, and LOADING clears. -/
  | mirrorLoadDone (slots : Nat)
  /-- MIRROR_ERASE_DONE (R487): The old mirror sectors are erased, and ERASING clears. -/
  | mirrorEraseDone (sectors : Nat)
  /-- EVR_STATUS (R489): Command EVR_STATUS returns the recorder status. -/
  | evrStatus (p : Packet)
  /-- EVR_READ (R486): Command EVR_READ returns log records. -/
  | evrRead (p : Packet)
  /-- EVR_RATE_SET (R480): Command EVR_RATE_SET sets a code's rate and burst. -/
  | evrRateSet (p : Packet)
  /-- EVR_TRIG_SET (R481): Command EVR_TRIG_SET sets or frees a snapshot trigger. -/
  | evrTrigSet (p : Packet)
  /-- EVR_WALL_SET (R479): Command EVR_WALL_SET sets wall time and writes a WALL_SET record. -/
  | evrWallSet (p : Packet)
  /-- EVR_CLEAR_NONCE (R487): Command EVR_CLEAR_NONCE returns a nonce for clearing the log. -/
  | evrClearNonce (p : Packet)
  /-- EVR_CLEAR (R487): Command EVR_CLEAR verifies a signed token, clears the log and writes CLEARED. -/
  | evrClear (p : Packet)
  /-- UPD_STATUS (R506): Command UPD_STATUS returns the update status. -/
  | updStatus (p : Packet)
  /-- UPD_OPEN (R493): Command UPD_OPEN checks an image header and starts loading the image. -/
  | updOpen (p : Packet)
  /-- UPD_DATA (R494): Command UPD_DATA places body bytes in the staging buffer. -/
  | updData (p : Packet)
  /-- UPD_CLOSE (R494): Command UPD_CLOSE checks the body and component digests and marks the image LOADED. -/
  | updClose (p : Packet)
  /-- UPD_ACTIVATE (R498): Command UPD_ACTIVATE starts activation by staging the components. -/
  | updActivate (p : Packet)
  /-- UPD_CANCEL (R506): Command UPD_CANCEL discards the loaded image. -/
  | updCancel (p : Packet)
  /-- LICENCE_SET (R504): Command LICENCE_SET checks and stores a dense-format licence. -/
  | licenceSet (p : Packet)
  /-- COMP_STATUS (R506): Command COMP_STATUS returns a component's firmware versions. -/
  | compStatus (p : Packet)
  /-- ACTIVATE_SOLO (R498): Expert command ACTIVATE_SOLO activates an image without the partner conditions. -/
  | activateSolo (p : Packet)
  /-- SWITCH_TIMEOUT (R500): A component SWITCH does not report within 200 ms, so the switched components are reverted. -/
  | switchTimeout
  /-- IMAGE_WRITTEN (R499): The image region is programmed and read back good, and a warm reset follows, or HELD. -/
  | imageWritten
  /-- STAGE_RETRY (R501): A BEGIN refused with STAGE_BUSY is retried every second. -/
  | stageRetry (comp : Nat)
  /-- SETTINGS_STORE (R522): Within 1 s of a write to a stored field, the firmware writes its settings record to the other slot. -/
  | settingsStore (readBackOk : Bool)
  /-- REGISTER_WRITE (R515): A write to a register with no row of its own takes effect field by field, or is refused and recorded under R524. -/
  | registerWrite (ident addr size : Nat) (data : Nat)
  /-- POR_N_RELEASE (R41): POR_N returns high, and both feed enables stay at 0 for 20 ms after the later of the reset's start and this release before the feed test restarts. -/
  | porNRelease
  /-- ACTIVE_PGOOD_RISE (R528): The PGOOD of a feed enabled as active at power-up or after a cold reset rises within 50 ms, so the feed carries the load as ACTIVE and its later fall counts as a failure under R42. -/
  | activePgoodRise (feed : FeedId)
  /-- RAILS_FALL (R39): After the loss of both feeds and the hold-up interval, the rails fall, and the records still unmirrored and all volatile state are lost. -/
  | railsFall
  /-- I3C_TARGET_RESET (R126): An I3C target reset releases any shared-channel mailbox lock held by identity 4. -/
  | i3cTargetReset
  /-- SUB_PORT_DOWN (R169): An Ethernet sub-port loses its link, VRM_PORTp_STS.UP clears, and its lanes go to electrical idle until it trains again. -/
  | subPortDown (port sub : Nat)
  /-- STRING_DOWN (R300): A string whose retraining fails three times in a row, or whose lane is lost, goes DOWN, and the carrier retracts if that port drove it. -/
  | stringDown (str : Nat) (laneLost : Bool)
  /-- LANE_LOSS_OF_LOCK (R234): An active lane with no spare behind it loses lock and is taken out of service at once, so the link narrows or goes DOWN. -/
  | laneLossOfLock (link : LinkRef) (slot : Nat)
  /-- PCIE_LINK_DOWN (R466): The PCIe link goes down, so the HX880 issues no upstream request and work that needs the host waits as under R87. -/
  | pcieLinkDown
  /-- PCIE_LINK_UP (R466): The PCIe link trains again, PCI_LINK_STS reports it, and the waiting upstream requests and pending MSI-X messages resume. -/
  | pcieLinkUp (speed width : Nat) (flit : Bool)
  /-- CSTAT_TIMEOUT (R324): No CSTAT arrives from a carrier for 1 s, so every HDA tuning set in use on that carrier counts as out of context. -/
  | cstatTimeout (str : Nat)
  /-- DRAINING_TIMEOUT (R173): A DRAINING connection whose sent packets are still not all acknowledged after LOSS_MS moves to CLOSED at the next commit. -/
  | drainingTimeout (conn : Nat)
  /-- COMMIT_WAIT_TIMEOUT (R95): A command with FLAGS.COMMIT taken 4 s earlier replies REFUSED_STATE if it still waits for PEND, or SUCCESS with DETAIL bit 31 if its commit has not reached event 3. -/
  | commitWaitTimeout (ident tag : Nat)
  /-- TRANSMIT_RING_POST (R167): The HX880 takes an entry that the head host posted to a port's exception transmit ring and sends the frame, or skips it on a failed read. -/
  | transmitRingPost (port count : Nat)
  /-- REGISTER_READ (R519): A register read by any identity returns the whole of every register it touches, and clears the RC fields it returns in the same step. -/
  | registerRead (ident addr size : Nat)
  deriving DecidableEq, Repr

end Sys2Proof
end

