-- ==== Sys2Proof/Config.lean ====
section
/-! DEFINITION. What an implementation fixes and the spec leaves open: opaque constants without a body, so that no
proof can see a value of theirs, and the constants of the manual that several chapters share. -/

namespace Sys2Proof.Config

/-- A free value: what the spec leaves open, one for each value of State.free (log entry 2). -/
opaque freeValue : Nat → Nat

/-- Which of the quadrants that can hold a volume's data takes its writes (R23). -/
opaque mediaQuad (vol : Nat) : Nat

/-- The output of a cluster's DRBG, byte by byte, one draw for each value of State.free (R223; log entry 2). -/
opaque drbgByte : Nat → Nat → Byte

/-- Whether an ECDSA P-256 signature (64 bytes r‖s) verifies on a message under a 64-byte public key (R106). -/
opaque ecdsaP256 (key msg sig : List Byte) : Bool

/-- Whether an ECDSA P-384 signature (96 bytes r‖s) verifies on a message under a 96-byte public key (R491). -/
opaque ecdsaP384 (key msg sig : List Byte) : Bool

/-- RTO_MIN of R181 in ns, and the smoothing of srtt and rttvar (µs) by a round-trip sample, neither given a value. -/
opaque rtoMin : Nat
opaque rttSmooth (srtt rttvar sample : Nat) : Nat × Nat

/-- The predictive coder's output for a frame's original bytes, and whether its own decoding of it differs from them
(R203, R204): the coded form is internal to the HX880. -/
opaque coded (data : List Byte) : List Byte

/-- The original bytes of a coded payload of n blocks, as a replication target decodes it (R402, R403). -/
opaque uncoded (payload : List Byte) (n : Nat) : List Byte

/-- XTS-AES-256 of IEEE Std 1619 under a 64-byte key and a tweak (R218), and GCM of SP 800-38D under a 32-byte key, a
nonce and additional data, ciphertext with its tag (R220). -/
opaque xts (key : List Byte) (tweak : Nat) (text : List Byte) : List Byte
opaque gcm (key nonce aad text : List Byte) : List Byte

/-- The opposite of gcm: the text of a ciphertext with its tag, none where the tag fails. -/
opaque gcmOpen (key nonce aad sealed : List Byte) : Option (List Byte)

/-- The body of a Nerryn message by its type, subtype and content: R413 gives its length, not its layout. -/
opaque nrnBody (typ sub : Nat) (args : List Nat) (data : List Byte) : List Byte

/-- CRED and payload of the flits of link management and retry, which the spec leaves open (R231). -/
opaque flitCred (n : Nat) : Nat
opaque flitPayload (typ n : Nat) : List Byte

/-- ACKSEQ of a real-time flit, which is never acknowledged (R299). -/
opaque soutAck (n : Nat) : Nat

/-- The 2,400 parity bits of a sector's codeword over its information bits (R308). -/
opaque sectorParity (info : List Byte) : List Byte

/-- The write gates of a dense sector, each with the wedge it follows, its start in ns after it and its bits: the spec gives no
place of the first sector of a track (R305, R311, R316). -/
opaque denseGates (hda zone sector : Nat) : List (Nat × Nat × Nat)

/-- How far the frame counter's durable mark moves each time (R219); which full index page and entry a new frame takes is a free
draw. The cluster whose cipher does a volume's keyed work that no command brings: its rekey sweep and its
apply jobs (R216, R403). -/
opaque serialStep : Nat
opaque sweepCluster (vol : Nat) : Nat

/-- The cut-offs of the repetition count test and the adaptive proportion test of SP 800-90B, section 4.4, for a claimed
min-entropy in 1/256 bit (R224), whose false-alarm probability the spec leaves open. -/
opaque repetitionCutoff (claim : Nat) : Nat
opaque proportionCutoff (claim : Nat) : Nat

/-- The seed of a set version's pattern table, by set, version and row: the generating method is no part of the
interface (R363). -/
opaque patternSeed (set ver row : Nat) : Nat

/-- The decoder microcode's default read-level (0 to 14) and soft (15, 16) offsets of a NAND_TYPE (R276), and its
single-bit offsets (R272). -/
opaque defaultOffset (nandType level : Nat) : Int
opaque singleBitOffset (nandType level : Nat) : Int

/-- How much the two soft offsets move in a window, given the levels' moves (R278). -/
opaque softMove (moves : List Int) (which : Nat) : Int

/-- The code a tuning set's state has in GROUP_HEALTH's reply (R296 gives none); 4 stands for no set. -/
opaque setStateCode (state : Nat) : Nat

/-- The 16-bit coefficients that the firmware manifest gives for a MODEL and profile (R341): fields 0 to 14 are bytes 0 to 29
of the loop block before BW_TRIM, field 15 is ACC_MAX before the profile's scale, field 16 is VEL_MAX. -/
opaque loopCoeff (model : List Byte) (profile field : Nat) : Nat

/-- One wedge of the estimator: position, velocity and bias from those before, the last output, and the position that the wedge
shows, none where it is missed (R334). -/
opaque estimate (before : Int × Int × Int) (u : Int) (seen : Option Int) : Int × Int × Int

/-- Reference and feedforward of a seek trajectory with its limits of acceleration and velocity after a number of wedges
(R344), and the output of the ramp moves of
LOADING and UNLOADING by the wedges good in a row (spec/11, Table 6). -/
opaque trajectory (accMax velMax : Nat) (fromY toY : Int) (wedges : Nat) : Int × Int
opaque rampOut (unload : Bool) (wedges : Nat) : Int

/-- The spindle loop's duties at a number of pole pairs, with halved gains or not, and its torque command (R349, R351). -/
opaque duty (phaseErr : Int) (speed polePairs : Nat) (halved : Bool) (phase : Nat) : Nat
opaque torque (phaseErr : Int) (speed : Nat) (halved : Bool) : Int

/-- The hold and retract values the engine sends (R335). -/
opaque holdOut : Int
opaque retractI : Int
opaque retractMs : Nat

/-- An HDA tuning set's neutral values, and what a window's statistics make of one (R325, R326): taps by index. -/
opaque neutralTap (which index : Nat) : Int
opaque npFit (stats : List Int) (index : Nat) : Int

/-- Whether the firmware marks a 1 GiB granule of a quadrant's memory as cached (R453). -/
opaque granuleCached (quad gib : Nat) : Bool

/-- UPD_STS.PCT, whose measure of progress the spec leaves open: by state, bytes placed and time in it (spec/18). -/
opaque updPct (state placed since : Nat) : Nat

/-- Map-log records of the partner, as this head finds them in the map store at a takeover or a resync: what the partner wrote
there this block does not know, so that they are free, one list for each value of State.free (R427, R432; log entry 192). -/
opaque partnerLog (n : Nat) : List LogRec

/-- SHA-256 and SHA-384 of FIPS 180-4, and the public key whose SHA-384 a vendor image-key slot holds (R491). -/
opaque sha (bits : Nat) (data : List Byte) : List Byte
opaque imageKey (digest : List Byte) : List Byte

/-- Nanoseconds in a microsecond, a millisecond, a second, an hour and a day. -/
def us : Nat := 1000
def ms : Nat := 1000000
def sec : Nat := 1000000000
def hour : Nat := 3600 * sec
def day : Nat := 24 * hour

end Sys2Proof.Config
end

