-- ==== Sys2Proof/Machine/RegMap.lean ====
section
/-! DEFINITION. The register map of spec/20_register_index.md and of the chapters' register tables:
one field descriptor per field the spec names, and the access table that generic register accesses use.
The tables are transcribed from the spec's own register tables. -/

namespace Sys2Proof.Machine

/-- One register field: its bit address (8 times the BAR0 byte offset of its register plus its lowest bit),
its width and its reset value (R513, and the register tables of each chapter). -/
structure Fld where
  bit : Nat
  width : Nat
  reset : Nat
  deriving DecidableEq, Repr

/-- The access types of Table "About This Manual and the HX880" 5. -/
inductive Acc where
  | ro | rw | rwl | w1c | wo | rc
  deriving DecidableEq, Repr

/-- A field of the access table: lowest bit, width, access type, reset value. -/
structure FDesc where
  lsb : Nat
  width : Nat
  acc : Acc
  reset : Nat
  deriving DecidableEq, Repr

/-- A register, or an array of registers, of the access table: BAR0 offset, number of instances, stride in
bytes, fields in rising bit order. -/
structure RDesc where
  off : Nat
  count : Nat
  stride : Nat
  fields : List FDesc
  deriving DecidableEq, Repr

/-- Default binding of mailbox channel n: bound (Table "Command Packets, Mailboxes and Doorbells" 9). -/
def bindEn (n : Nat) : Nat := if n < 28 then 1 else 0
/-- Default binding mode of channel n: 1 SHARED for channels 8 to 11 (Table 9 of spec/04). -/
def bindMode (n : Nat) : Nat := if 8 ≤ n ∧ n < 12 then 1 else 0
/-- Default END0 of channel n (Table 9 of spec/04). -/
def bindEnd0 (n : Nat) : Nat :=
  if n < 12 then 2 else if n < 16 then 3 else if n < 20 then 4 else if n < 28 then 5 else 0
/-- Default END1 of channel n (Table 9 of spec/04). -/
def bindEnd1 (n : Nat) : Nat := if 8 ≤ n ∧ n < 12 then 3 else 0

/-- SYS_ID[31:16] PART, RO: Part number (spec/01_architecture.md). -/
def SYS.ID.PART : Fld := ⟨16, 16, 0x880⟩
/-- SYS_ID[15:12] STEP_MAJOR, RO: Silicon step letter: 0x0 = A, 0x1 = B (spec/01_architecture.md). -/
def SYS.ID.STEP_MAJOR : Fld := ⟨12, 4, 0⟩
/-- SYS_ID[11:8] STEP_MINOR, RO: Silicon step digit (spec/01_architecture.md). -/
def SYS.ID.STEP_MINOR : Fld := ⟨8, 4, 0⟩
/-- SYS_ID[3:0] VARIANT, RO: 0x1 HX880-E; 0x2 HX880-P; 0x3 HX880-X (spec/01_architecture.md). -/
def SYS.ID.VARIANT : Fld := ⟨0, 4, 3⟩
/-- SYS_HEAD[0:0] HEAD_B, RO: 0 = head A; 1 = head B, read from the HEAD_SEL strap at power-up (spec/01_architecture.md). -/
def SYS.HEAD.HEAD_B : Fld := ⟨8 * 0x4 + 0, 1, 0⟩
/-- SYS_CLMAP_Qn.Cc: physical cluster of logical Qn.Cc, 0xF if retired, RO; the reset value is the fuse map, which assigns P0 to P7 here (spec/01, log entry 3). -/
def SYS.CLMAP.C (n c : Nat) : Fld := ⟨8 * 0x10 + 32 * n + 4 * c, 4, c⟩
/-- SYS_SPARE_STS.Qn.RETIRED, RO: spare state of quadrant n (spec/01). -/
def SYS.SPARE_STS.RETIRED (n : Nat) : Fld := ⟨8 * 0x20 + 0 + 8 * n, 4, 0⟩
/-- SYS_SPARE_STS.Qn.SPARE_USED, RO: spare state of quadrant n (spec/01). -/
def SYS.SPARE_STS.SPARE_USED (n : Nat) : Fld := ⟨8 * 0x20 + 6 + 8 * n, 1, 0⟩
/-- SYS_SPARE_STS.Qn.SWAP_BUSY, RO: spare state of quadrant n (spec/01). -/
def SYS.SPARE_STS.SWAP_BUSY (n : Nat) : Fld := ⟨8 * 0x20 + 7 + 8 * n, 1, 0⟩
/-- SYS_HEALTH_SUM0[31:24] SRAM, RO: Percentage of redundant SRAM columns remaining, worst region (spec/01_architecture.md). -/
def SYS.HEALTH_SUM0.SRAM : Fld := ⟨8 * 0x24 + 24, 8, 0x64⟩
/-- SYS_HEALTH_SUM0[23:16] SERDES, RO: Percentage of spare lanes remaining, worst of all flash links and the Nerryn link (spec/01_architecture.md). -/
def SYS.HEALTH_SUM0.SERDES : Fld := ⟨8 * 0x24 + 16, 8, 0x64⟩
/-- SYS_HEALTH_SUM0[15:8] CORE, RO: Percentage of the 2 spare management cores remaining (spec/01_architecture.md). -/
def SYS.HEALTH_SUM0.CORE : Fld := ⟨8 * 0x24 + 8, 8, 0x64⟩
/-- SYS_HEALTH_SUM0[7:0] CLUSTER, RO: Percentage of spare clusters remaining, worst quadrant (100 or 0) (spec/01_architecture.md). -/
def SYS.HEALTH_SUM0.CLUSTER : Fld := ⟨8 * 0x24 + 0, 8, 0x64⟩
/-- SYS_HEALTH_SUM1[31:24] HDA_SECT, RO: Percentage of spare sectors remaining, worst HDA (spec/01_architecture.md). -/
def SYS.HEALTH_SUM1.HDA_SECT : Fld := ⟨8 * 0x28 + 24, 8, 0x64⟩
/-- SYS_HEALTH_SUM1[23:16] DECL, RO: Percentage of declustered spare capacity remaining, worst fret-map set (spec/01_architecture.md). -/
def SYS.HEALTH_SUM1.DECL : Fld := ⟨8 * 0x28 + 16, 8, 0x64⟩
/-- SYS_HEALTH_SUM1[15:8] NAND_DIE, RO: Percentage of spare dies remaining, worst module (spec/01_architecture.md). -/
def SYS.HEALTH_SUM1.NAND_DIE : Fld := ⟨8 * 0x28 + 8, 8, 0x64⟩
/-- SYS_HEALTH_SUM1[7:0] NAND_BLOCK, RO: Percentage of spare blocks remaining, worst block group (spec/01_architecture.md). -/
def SYS.HEALTH_SUM1.NAND_BLOCK : Fld := ⟨8 * 0x28 + 0, 8, 0x64⟩
/-- SYS_EPOCH_CTL[1:1] ABANDON, WO: Write 1 to discard shadow-bank changes (spec/01_architecture.md). -/
def SYS.EPOCH_CTL.ABANDON : Fld := ⟨8 * 0x30 + 1, 1, 0⟩
/-- SYS_EPOCH_CTL[0:0] COMMIT, WO: Write 1 to commit the shadow banks at the next epoch (spec/01_architecture.md). -/
def SYS.EPOCH_CTL.COMMIT : Fld := ⟨8 * 0x30 + 0, 1, 0⟩
/-- SYS_EPOCH_STS[2:2] LATE, W1C: A shadow-bank write arrived while PEND was 1 and was ignored (spec/01_architecture.md). -/
def SYS.EPOCH_STS.LATE : Fld := ⟨8 * 0x34 + 2, 1, 0⟩
/-- SYS_EPOCH_STS[1:1] WAIT, RO: A commit is waiting for the retiring banks to drain (spec/01_architecture.md). -/
def SYS.EPOCH_STS.WAIT : Fld := ⟨8 * 0x34 + 1, 1, 0⟩
/-- SYS_EPOCH_STS[0:0] PEND, RO: A commit has been requested and has not reached its event 3 (spec/01_architecture.md). -/
def SYS.EPOCH_STS.PEND : Fld := ⟨8 * 0x34 + 0, 1, 0⟩
/-- SYS_EPOCH_NUM[31:0] NUM, RO: Active epoch number. Increments by one at each commit and wraps from 0xFFFF_FFFF to 0x0000_0001. (spec/01_architecture.md). -/
def SYS.EPOCH_NUM.NUM : Fld := ⟨8 * 0x38 + 0, 32, 1⟩
/-- SYS_EPOCH_RET[19:0] COUNT, RO: Commands and jobs still stamped with the retiring epoch (spec/01_architecture.md). -/
def SYS.EPOCH_RET.COUNT : Fld := ⟨8 * 0x3C + 0, 20, 0⟩
/-- PWR_FEED_STS[16:16] HOLDUP_OK, RO: Level of the HOLDUP_OK ball (spec/02_package_power_clocks.md). -/
def PWR.FEED_STS.HOLDUP_OK : Fld := ⟨8 * 0x10000 + 16, 1, 0⟩
/-- PWR_FEED_STS[11:11] SWAP_REFUSED, W1C: A commanded swap was refused (R47) (spec/02_package_power_clocks.md). -/
def PWR.FEED_STS.SWAP_REFUSED : Fld := ⟨8 * 0x10000 + 11, 1, 0⟩
/-- PWR_FEED_STS[10:10] SWAP_ABORT, W1C: A swap aborted (R49) (spec/02_package_power_clocks.md). -/
def PWR.FEED_STS.SWAP_ABORT : Fld := ⟨8 * 0x10000 + 10, 1, 0⟩
/-- PWR_FEED_STS[9:9] SWAP_BUSY, RO: A swap is between its events 1 and 3 (spec/02_package_power_clocks.md). -/
def PWR.FEED_STS.SWAP_BUSY : Fld := ⟨8 * 0x10000 + 9, 1, 0⟩
/-- PWR_FEED_STS[8:8] ACTIVE, RO: 0 = feed A active; 1 = feed B active (spec/02_package_power_clocks.md). -/
def PWR.FEED_STS.ACTIVE : Fld := ⟨8 * 0x10000 + 8, 1, 0⟩
/-- PWR_FEED_STS[6:4] B_STATE, RO: State of feed B, coded as in Table "Package, Supplies, Feeds and Clocks" 4 (spec/02_package_power_clocks.md). -/
def PWR.FEED_STS.B_STATE : Fld := ⟨8 * 0x10000 + 4, 3, 0⟩
/-- PWR_FEED_STS[2:0] A_STATE, RO: State of feed A, coded as in Table "Package, Supplies, Feeds and Clocks" 4 (spec/02_package_power_clocks.md). -/
def PWR.FEED_STS.A_STATE : Fld := ⟨8 * 0x10000 + 0, 3, 0⟩
/-- PWR_FEED_CTL[2:2] SWAP_NOW, WO: Write 1 to command a swap (R47) (spec/02_package_power_clocks.md). -/
def PWR.FEED_CTL.SWAP_NOW : Fld := ⟨8 * 0x10004 + 2, 1, 0⟩
/-- PWR_FEED_CTL[1:1] REARM_B, WO: Write 1 to return a FENCED feed B to FAILED (spec/02_package_power_clocks.md). -/
def PWR.FEED_CTL.REARM_B : Fld := ⟨8 * 0x10004 + 1, 1, 0⟩
/-- PWR_FEED_CTL[0:0] REARM_A, WO: Write 1 to return a FENCED feed A to FAILED (spec/02_package_power_clocks.md). -/
def PWR.FEED_CTL.REARM_A : Fld := ⟨8 * 0x10004 + 0, 1, 0⟩
/-- PWR_FEED_CFG[31:24] RESYNC_S, RW: Resync wait in seconds; 0 counts as 1 (spec/02_package_power_clocks.md). -/
def PWR.FEED_CFG.RESYNC_S : Fld := ⟨8 * 0x10008 + 24, 8, 0xA⟩
/-- PWR_FEED_CFG[23:12] OV_MV, RW: Upper window limit at the VSNS ball in mV (1,320) (spec/02_package_power_clocks.md). -/
def PWR.FEED_CFG.OV_MV : Fld := ⟨8 * 0x10008 + 12, 12, 0x528⟩
/-- PWR_FEED_CFG[11:0] UV_MV, RW: Lower window limit at the VSNS ball in mV (1,080) (spec/02_package_power_clocks.md). -/
def PWR.FEED_CFG.UV_MV : Fld := ⟨8 * 0x10008 + 0, 12, 0x438⟩
/-- PWR_SWAP_CFG[15:8] DEFER_MAX_MIN, RW: Longest deferral of a scheduled swap in minutes (60) (spec/02_package_power_clocks.md). -/
def PWR.SWAP_CFG.DEFER_MAX_MIN : Fld := ⟨8 * 0x1000C + 8, 8, 0x3C⟩
/-- PWR_SWAP_CFG[7:0] PERIOD_H, RW: Swap period in hours (24); 0 disables scheduled swaps (spec/02_package_power_clocks.md). -/
def PWR.SWAP_CFG.PERIOD_H : Fld := ⟨8 * 0x1000C + 0, 8, 0x18⟩
/-- PWR_SPRINT_CFG[31:31] EN, RW: Sprint enabled (spec/02_package_power_clocks.md). -/
def PWR.SPRINT_CFG.EN : Fld := ⟨8 * 0x10010 + 31, 1, 1⟩
/-- PWR_SPRINT_CFG[23:16] REARM_S, RW: Budget in seconds at which EXHAUSTED clears (30) (spec/02_package_power_clocks.md). -/
def PWR.SPRINT_CFG.REARM_S : Fld := ⟨8 * 0x10010 + 16, 8, 0x1E⟩
/-- PWR_SPRINT_CFG[15:8] BUDGET_S, RW: Full budget in seconds (90); values above 90 count as 90 (spec/02_package_power_clocks.md). -/
def PWR.SPRINT_CFG.BUDGET_S : Fld := ⟨8 * 0x10010 + 8, 8, 0x5A⟩
/-- PWR_CAP[24:16] SPRINT_W, RW: Sprint cap in W (360); values outside 150–360 count as 360 (spec/02_package_power_clocks.md). -/
def PWR.CAP.SPRINT_W : Fld := ⟨8 * 0x10014 + 16, 9, 0x168⟩
/-- PWR_CAP[8:0] SUST_W, RW: Sustained cap in W (300); values outside 150–300 count as 300 (spec/02_package_power_clocks.md). -/
def PWR.CAP.SUST_W : Fld := ⟨8 * 0x10014 + 0, 9, 0x12C⟩
/-- PWR_SPRINT_STS[24:16] CAP_W, RO: Cap in force now, in W. 360 after reset, because sprint is enabled and the budget is full (R57). (spec/02_package_power_clocks.md). -/
def PWR.SPRINT_STS.CAP_W : Fld := ⟨8 * 0x10018 + 16, 9, 0x168⟩
/-- PWR_SPRINT_STS[15:15] EXHAUSTED, RO: Budget reached 0 and has not reached REARM_S (spec/02_package_power_clocks.md). -/
def PWR.SPRINT_STS.EXHAUSTED : Fld := ⟨8 * 0x10018 + 15, 1, 0⟩
/-- PWR_SPRINT_STS[14:14] ACTIVE, RO: Draw is above SUST_W now (spec/02_package_power_clocks.md). -/
def PWR.SPRINT_STS.ACTIVE : Fld := ⟨8 * 0x10018 + 14, 1, 0⟩
/-- PWR_SPRINT_STS[13:4] BUDGET_DS, RO: Budget remaining, in units of 0.1 s (900) (spec/02_package_power_clocks.md). -/
def PWR.SPRINT_STS.BUDGET_DS : Fld := ⟨8 * 0x10018 + 4, 10, 0x384⟩
/-- PWR_MEAS[24:16] AVG1S_W, RO: Mean draw over the last 1 s, in W (spec/02_package_power_clocks.md). -/
def PWR.MEAS.AVG1S_W : Fld := ⟨8 * 0x1001C + 16, 9, 0⟩
/-- PWR_MEAS[8:0] NOW_W, RO: Latest 100 µs estimate, in W (spec/02_package_power_clocks.md). -/
def PWR.MEAS.NOW_W : Fld := ⟨8 * 0x1001C + 0, 9, 0⟩
/-- PWR_THERM_CFG[23:16] TRIP_C, RO: Thermal trip in °C (112) (spec/02_package_power_clocks.md). -/
def PWR.THERM_CFG.TRIP_C : Fld := ⟨8 * 0x10020 + 16, 8, 0x70⟩
/-- PWR_THERM_CFG[15:8] THROTTLE_C, RW: Throttle threshold in °C (102); values above 104 count as 104 (spec/02_package_power_clocks.md). -/
def PWR.THERM_CFG.THROTTLE_C : Fld := ⟨8 * 0x10020 + 8, 8, 0x66⟩
/-- PWR_THERM_CFG[7:0] WARN_C, RW: Warning threshold in °C (95) (spec/02_package_power_clocks.md). -/
def PWR.THERM_CFG.WARN_C : Fld := ⟨8 * 0x10020 + 0, 8, 0x5F⟩
/-- PWR_THERM_STS[15:8] TJ_MAX_C, RO: Hottest sensor in °C (spec/02_package_power_clocks.md). -/
def PWR.THERM_STS.TJ_MAX_C : Fld := ⟨8 * 0x10024 + 8, 8, 0⟩
/-- PWR_THERM_STS[5:5] WARN, W1C: A sensor reached WARN_C; an event record was written (spec/02_package_power_clocks.md). -/
def PWR.THERM_STS.WARN : Fld := ⟨8 * 0x10024 + 5, 1, 0⟩
/-- PWR_THERM_STS[4:4] SPINE_HOT, RO: A spine sensor is at or above THROTTLE_C (spec/02_package_power_clocks.md). -/
def PWR.THERM_STS.SPINE_HOT : Fld := ⟨8 * 0x10024 + 4, 1, 0⟩
/-- PWR_THERM_STS[3:0] Q_THROTTLE, RO: Bit n is 1 while the thermal step of Qn is above 0 (spec/02_package_power_clocks.md). -/
def PWR.THERM_STS.Q_THROTTLE : Fld := ⟨8 * 0x10024 + 0, 4, 0⟩
/-- PWR_IDLE[31:16] QUAD_MS, RW: Quadrant idle time in ms (10); 0 disables quadrant gating (spec/02_package_power_clocks.md). -/
def PWR.IDLE.QUAD_MS : Fld := ⟨8 * 0x10028 + 16, 16, 0xA⟩
/-- PWR_IDLE[15:0] CLUSTER_US, RW: Cluster idle time in µs (100); 0 disables cluster gating (spec/02_package_power_clocks.md). -/
def PWR.IDLE.CLUSTER_US : Fld := ⟨8 * 0x10028 + 0, 16, 0x64⟩
/-- PWR_GATE_STS[31:0] GATED, RO: Bit 8n + k is 1 while logical cluster Qn.Ck is power-gated. Every cluster of a gated quadrant reads as gated, so after a reset, when every quadrant is gated (CLK_Qn_STS.GATED), every bit is 1. (spec/02_package_power_clocks.md). -/
def PWR.GATE_STS.GATED : Fld := ⟨8 * 0x1002C + 0, 32, 0xFFFFFFFF⟩
/-- CLK_REF_STS[2:2] X32K_OK, RO: XTAL32K oscillating (spec/02_package_power_clocks.md). -/
def CLK.REF_STS.X32K_OK : Fld := ⟨8 * 0x20000 + 2, 1, 0⟩
/-- CLK_REF_STS[1:1] PCIE_REF_OK, RO: PCIE_REFCLK toggling (spec/02_package_power_clocks.md). -/
def CLK.REF_STS.PCIE_REF_OK : Fld := ⟨8 * 0x20000 + 1, 1, 0⟩
/-- CLK_REF_STS[0:0] REF100_OK, RO: REFCLK toggling (spec/02_package_power_clocks.md). -/
def CLK.REF_STS.REF100_OK : Fld := ⟨8 * 0x20000 + 0, 1, 0⟩
/-- CLK_Qn_CTL[4:4] FORCE_ON, RW: 1 keeps Qn powered and clocked and disables its quadrant gating; cluster gating continues (spec/02_package_power_clocks.md). -/
def CLK.Qn_CTL.FORCE_ON (n : Nat) : Fld := ⟨8 * 0x20010 + 4 + 64 * n, 1, 0⟩
/-- CLK_Qn_CTL[3:0] STEP_FLOOR, RW: Lowest clock step Qn may run at (R60) (spec/02_package_power_clocks.md). -/
def CLK.Qn_CTL.STEP_FLOOR (n : Nat) : Fld := ⟨8 * 0x20010 + 0 + 64 * n, 4, 0⟩
/-- CLK_Qn_STS[7:7] GATED, RO: Qn is power-gated (spec/02_package_power_clocks.md). -/
def CLK.Qn_STS.GATED (n : Nat) : Fld := ⟨8 * 0x20014 + 7 + 64 * n, 1, 1⟩
/-- CLK_Qn_STS[6:6] LOCK, RO: Qn's PLL is locked (spec/02_package_power_clocks.md). -/
def CLK.Qn_STS.LOCK (n : Nat) : Fld := ⟨8 * 0x20014 + 6 + 64 * n, 1, 0⟩
/-- CLK_Qn_STS[3:0] STEP, RO: Effective clock step of Qn (spec/02_package_power_clocks.md). -/
def CLK.Qn_STS.STEP (n : Nat) : Fld := ⟨8 * 0x20014 + 0 + 64 * n, 4, 0⟩
/-- SYS_START_STS[31:31] DEAD, RO: Head declared dead (R92) (spec/03_start_and_stages.md). -/
def SYS.START_STS.DEAD : Fld := ⟨8 * 0x40 + 31, 1, 0⟩
/-- SYS_START_STS[30:30] CFG_NEWER, RO: Settings format newer than the image supports (R91) (spec/03_start_and_stages.md). -/
def SYS.START_STS.CFG_NEWER : Fld := ⟨8 * 0x40 + 30, 1, 0⟩
/-- SYS_START_STS[27:24] ENT_READY, RO: Bit n is 1 while Qn holds 4,096 healthy entropy bits (R81) (spec/03_start_and_stages.md). -/
def SYS.START_STS.ENT_READY : Fld := ⟨8 * 0x40 + 24, 4, 0⟩
/-- SYS_START_STS[23:20] Q_DOWN, RO: Bit n is 1 if Qn's DDR5 channels failed training; Qn stays out of service (spec/03_start_and_stages.md). -/
def SYS.START_STS.Q_DOWN : Fld := ⟨8 * 0x40 + 20, 4, 0⟩
/-- SYS_START_STS[19:16] SERVE_Q, RO: One-hot serving quadrant at S2 (R72) (spec/03_start_and_stages.md). -/
def SYS.START_STS.SERVE_Q : Fld := ⟨8 * 0x40 + 16, 4, 0⟩
/-- SYS_START_STS[15:12] DEAD_CAUSE, RO: Cause code of R92 (spec/03_start_and_stages.md). -/
def SYS.START_STS.DEAD_CAUSE : Fld := ⟨8 * 0x40 + 12, 4, 0⟩
/-- SYS_START_STS[3:3] PARTNER_ABSENT, RO: S3 was reached with the partner declared absent (spec/03_start_and_stages.md). -/
def SYS.START_STS.PARTNER_ABSENT : Fld := ⟨8 * 0x40 + 3, 1, 0⟩
/-- SYS_START_STS[2:0] STAGE, RO: Stage reached: 0b000 S0 to 0b011 S3 (spec/03_start_and_stages.md). -/
def SYS.START_STS.STAGE : Fld := ⟨8 * 0x40 + 0, 3, 0⟩
/-- SYS_START_CFG[8:8] S2_EN, RW: 1 offers reduced service at S2 (spec/03_start_and_stages.md). -/
def SYS.START_CFG.S2_EN : Fld := ⟨8 * 0x44 + 8, 1, 1⟩
/-- SYS_START_CFG[7:6] S2_QUAD, RW: Preferred serving quadrant (R72) (spec/03_start_and_stages.md). -/
def SYS.START_CFG.S2_QUAD : Fld := ⟨8 * 0x44 + 6, 2, 0⟩
/-- SYS_START_CFG[3:0] S2_STEP, RW: Clock step at S2 (0x8 = 1,000 MHz) (spec/03_start_and_stages.md). -/
def SYS.START_CFG.S2_STEP : Fld := ⟨8 * 0x44 + 0, 4, 8⟩
/-- SYS_RST_CTL[31:16] KEY, WO: Must be 0xA5C3 in the same write, or the write is ignored (spec/03_start_and_stages.md). -/
def SYS.RST_CTL.KEY : Fld := ⟨8 * 0x48 + 16, 16, 0⟩
/-- SYS_RST_CTL[2:2] MC_RESTART, WO: Write 1 to restart the management complex (spec/03_start_and_stages.md). -/
def SYS.RST_CTL.MC_RESTART : Fld := ⟨8 * 0x48 + 2, 1, 0⟩
/-- SYS_RST_CTL[1:1] WARM, WO: Write 1 to start a warm reset (R85) (spec/03_start_and_stages.md). -/
def SYS.RST_CTL.WARM : Fld := ⟨8 * 0x48 + 1, 1, 0⟩
/-- SYS_RST_CTL[0:0] COLD, WO: Write 1 for a cold reset, as POR_N (spec/03_start_and_stages.md). -/
def SYS.RST_CTL.COLD : Fld := ⟨8 * 0x48 + 0, 1, 0⟩
/-- SYS_RST_CAUSE[31:24] MC_RESTARTS, RO: Complex restarts since the last cold reset, saturating at 255 (spec/03_start_and_stages.md). -/
def SYS.RST_CAUSE.MC_RESTARTS : Fld := ⟨8 * 0x4C + 24, 8, 0⟩
/-- SYS_RST_CAUSE[6:6] MC_WDOG, W1C: A watchdog restart of the complex occurred (spec/03_start_and_stages.md). -/
def SYS.RST_CAUSE.MC_WDOG : Fld := ⟨8 * 0x4C + 6, 1, 0⟩
/-- SYS_RST_CAUSE[5:5] THERMTRIP, W1C: The last cold reset followed a thermal trip (spec/03_start_and_stages.md). -/
def SYS.RST_CAUSE.THERMTRIP : Fld := ⟨8 * 0x4C + 5, 1, 0⟩
/-- SYS_RST_CAUSE[4:4] WARM_CMD, W1C: A warm reset occurred (spec/03_start_and_stages.md). -/
def SYS.RST_CAUSE.WARM_CMD : Fld := ⟨8 * 0x4C + 4, 1, 0⟩
/-- SYS_RST_CAUSE[3:3] SELF_COLD, W1C: A cold reset came from SYS_RST_CTL.COLD (spec/03_start_and_stages.md). -/
def SYS.RST_CAUSE.SELF_COLD : Fld := ⟨8 * 0x4C + 3, 1, 0⟩
/-- SYS_RST_CAUSE[2:2] POR_PIN, W1C: A cold reset came from POR_N (spec/03_start_and_stages.md). -/
def SYS.RST_CAUSE.POR_PIN : Fld := ⟨8 * 0x4C + 2, 1, 0⟩
/-- SYS_RST_CAUSE[0:0] POWER_UP, W1C: VDD_AON rose (spec/03_start_and_stages.md). -/
def SYS.RST_CAUSE.POWER_UP : Fld := ⟨8 * 0x4C + 0, 1, 1⟩
/-- SYS_STAGE_T[31:16] S3_MS, RO: Milliseconds from start to S3 (R67); saturates at 0xFFFE if S3 is reached 65,534 ms or more after the start; 0xFFFF until reached (spec/03_start_and_stages.md). -/
def SYS.STAGE_T.S3_MS : Fld := ⟨8 * 0x50 + 16, 16, 0xFFFF⟩
/-- SYS_STAGE_T[15:0] S2_MS, RO: Milliseconds from start to S2; saturates at 0xFFFE if S2 is reached 65,534 ms or more after the start; 0xFFFF until reached (spec/03_start_and_stages.md). -/
def SYS.STAGE_T.S2_MS : Fld := ⟨8 * 0x50 + 0, 16, 0xFFFF⟩
/-- CMD_STS[31:31] MC_RUN, RO: The firmware runs and accepts commands (spec/04_command_packets_mailboxes.md). -/
def CMD.STS.MC_RUN : Fld := ⟨8 * 0x40000 + 31, 1, 0⟩
/-- CMD_STS[23:16] SESSIONS, RO: Open sessions (spec/04_command_packets_mailboxes.md). -/
def CMD.STS.SESSIONS : Fld := ⟨8 * 0x40000 + 16, 8, 0⟩
/-- CMD_STS[15:8] EXPERT, RO: Sessions with the expert level unlocked (spec/04_command_packets_mailboxes.md). -/
def CMD.STS.EXPERT : Fld := ⟨8 * 0x40000 + 8, 8, 0⟩
/-- CMD_LOAD[15:8] PEAK_PCT, RC: Highest LOAD_PCT since the last read (spec/04_command_packets_mailboxes.md). -/
def CMD.LOAD.PEAK_PCT : Fld := ⟨8 * 0x40004 + 8, 8, 0⟩
/-- CMD_LOAD[7:0] LOAD_PCT, RO: Busy share of the shared cores over the last 100 ms, in % (spec/04_command_packets_mailboxes.md). -/
def CMD.LOAD.LOAD_PCT : Fld := ⟨8 * 0x40004 + 0, 8, 0⟩
/-- CMD_LOAD_CFG[15:8] BUSY2_PCT, RW: Class-2 BUSY threshold (95); values above 100 count as 100 (spec/04_command_packets_mailboxes.md). -/
def CMD.LOAD_CFG.BUSY2_PCT : Fld := ⟨8 * 0x40008 + 8, 8, 0x5F⟩
/-- CMD_LOAD_CFG[7:0] BUSY3_PCT, RW: Class-3 BUSY threshold (85); values above BUSY2_PCT count as BUSY2_PCT (spec/04_command_packets_mailboxes.md). -/
def CMD.LOAD_CFG.BUSY3_PCT : Fld := ⟨8 * 0x40008 + 0, 8, 0x55⟩
/-- CMD_SESS_CFG[23:16] MAX_SESS, RW: Session limit (64); values above 64 count as 64, and 0 counts as 1 (spec/04_command_packets_mailboxes.md). -/
def CMD.SESS_CFG.MAX_SESS : Fld := ⟨8 * 0x4000C + 16, 8, 0x40⟩
/-- CMD_SESS_CFG[15:0] IDLE_S, RW: Idle expiry in s (900); 0 counts as 1 (spec/04_command_packets_mailboxes.md). -/
def CMD.SESS_CFG.IDLE_S : Fld := ⟨8 * 0x4000C + 0, 16, 0x384⟩
/-- CMD_WDOG_CFG[31:31] EN, RW: Watchdog enabled; identity 0 or 7 only (spec/04_command_packets_mailboxes.md). -/
def CMD.WDOG_CFG.EN : Fld := ⟨8 * 0x40010 + 31, 1, 1⟩
/-- CMD_WDOG_CFG[15:0] PERIOD_MS, RW: Kick period in ms (500); values below 100 count as 100 (spec/04_command_packets_mailboxes.md). -/
def CMD.WDOG_CFG.PERIOD_MS : Fld := ⟨8 * 0x40010 + 0, 16, 0x1F4⟩
/-- CMD_WDOG_STS[17:16] WINDOW_CNT, RO: Watchdog restarts in the last 60 s, 0–3 (spec/04_command_packets_mailboxes.md). -/
def CMD.WDOG_STS.WINDOW_CNT : Fld := ⟨8 * 0x40014 + 16, 2, 0⟩
/-- CMD_WDOG_STS[9:0] LATE_CORES, RO: Bit k is 1 if physical core k was late at the last watchdog restart (spec/04_command_packets_mailboxes.md). -/
def CMD.WDOG_STS.LATE_CORES : Fld := ⟨8 * 0x40014 + 0, 10, 0⟩
/-- CMD_CORE_STS[31:28] HEALTH_CORE, RO: Physical number of the health core (spec/04_command_packets_mailboxes.md). -/
def CMD.CORE_STS.HEALTH_CORE : Fld := ⟨8 * 0x40018 + 28, 4, 0⟩
/-- CMD_CORE_STS[27:26] SPARES, RO: Spare cores remaining, 0–2 (spec/04_command_packets_mailboxes.md). -/
def CMD.CORE_STS.SPARES : Fld := ⟨8 * 0x40018 + 26, 2, 2⟩
/-- CMD_CORE_STS[19:10] FAILED, RO: Bit k is 1 if physical core k has failed (spec/04_command_packets_mailboxes.md). -/
def CMD.CORE_STS.FAILED : Fld := ⟨8 * 0x40018 + 10, 10, 0⟩
/-- CMD_CORE_STS[9:0] ENABLED, RO: Bit k is 1 if physical core k is enabled (spec/04_command_packets_mailboxes.md). -/
def CMD.CORE_STS.ENABLED : Fld := ⟨8 * 0x40018 + 0, 10, 0xFF⟩
/-- CMD_BUSY_CNT[31:16] CLASS3, RC: Class-3 BUSY replies, saturating (spec/04_command_packets_mailboxes.md). -/
def CMD.BUSY_CNT.CLASS3 : Fld := ⟨8 * 0x4001C + 16, 16, 0⟩
/-- CMD_BUSY_CNT[15:0] CLASS2, RC: Class-2 BUSY replies, saturating (spec/04_command_packets_mailboxes.md). -/
def CMD.BUSY_CNT.CLASS2 : Fld := ⟨8 * 0x4001C + 0, 16, 0⟩
/-- CMD_WDOG_KICK[31:0] KICK, WO: Any write by a management core kicks that core; other writes are ignored (spec/04_command_packets_mailboxes.md). -/
def CMD.WDOG_KICK.KICK : Fld := ⟨8 * 0x40020 + 0, 32, 0⟩
/-- MBX_BIND_LOCK[0:0] LOCK, RWL: Write 1 to lock the binding table until reset (R120) (spec/04_command_packets_mailboxes.md). -/
def MBX.BIND_LOCK.LOCK : Fld := ⟨8 * 0x200000 + 0, 1, 0⟩
/-- MBX_ERR[31:31] VALID, W1C: A refused access was recorded (spec/04_command_packets_mailboxes.md). -/
def MBX.ERR.VALID : Fld := ⟨8 * 0x200004 + 31, 1, 0⟩
/-- MBX_ERR[18:16] CAUSE, RO: 1 not bound; 2 slot write while full; 3 SEND while full; 4 lock write by non-owner; 5 binding write after lock; 6 register write with partial byte enables, or not naturally aligned (R121) (spec/04_command_packets_mailboxes.md). -/
def MBX.ERR.CAUSE : Fld := ⟨8 * 0x200004 + 16, 3, 0⟩
/-- MBX_ERR[11:8] IDENT, RO: Identity of the access (spec/04_command_packets_mailboxes.md). -/
def MBX.ERR.IDENT : Fld := ⟨8 * 0x200004 + 8, 4, 0⟩
/-- MBX_ERR[5:0] CHANNEL, RO: Channel (spec/04_command_packets_mailboxes.md). -/
def MBX.ERR.CHANNEL : Fld := ⟨8 * 0x200004 + 0, 6, 0⟩
/-- MBX_CHn_BIND[9:9] EN, RWL: Channel bound (spec/04_command_packets_mailboxes.md). -/
def MBX.CHn_BIND.EN (n : Nat) : Fld := ⟨8 * 0x200100 + 9 + 512 * n, 1, (bindEn n)⟩
/-- MBX_CHn_BIND[8:8] MODE, RWL: 0 PAIR; 1 SHARED (spec/04_command_packets_mailboxes.md). -/
def MBX.CHn_BIND.MODE (n : Nat) : Fld := ⟨8 * 0x200100 + 8 + 512 * n, 1, (bindMode n)⟩
/-- MBX_CHn_BIND[7:4] END1, RWL: Identity of END1 (spec/04_command_packets_mailboxes.md). -/
def MBX.CHn_BIND.END1 (n : Nat) : Fld := ⟨8 * 0x200100 + 4 + 512 * n, 4, (bindEnd1 n)⟩
/-- MBX_CHn_BIND[3:0] END0, RWL: Identity of END0 (spec/04_command_packets_mailboxes.md). -/
def MBX.CHn_BIND.END0 (n : Nat) : Fld := ⟨8 * 0x200100 + 0 + 512 * n, 4, (bindEnd0 n)⟩
/-- MBX_CHn_STS[19:16] OWNER, RO: Lock owner of a shared channel; 0 when free (spec/04_command_packets_mailboxes.md). -/
def MBX.CHn_STS.OWNER (n : Nat) : Fld := ⟨8 * 0x200104 + 16 + 512 * n, 4, 0⟩
/-- MBX_CHn_STS[3:3] OVF, W1C: A send or slot write met a full slot (spec/04_command_packets_mailboxes.md). -/
def MBX.CHn_STS.OVF (n : Nat) : Fld := ⟨8 * 0x200104 + 3 + 512 * n, 1, 0⟩
/-- MBX_CHn_STS[2:2] REJ, W1C: An access was refused under R121 (spec/04_command_packets_mailboxes.md). -/
def MBX.CHn_STS.REJ (n : Nat) : Fld := ⟨8 * 0x200104 + 2 + 512 * n, 1, 0⟩
/-- MBX_CHn_STS[1:1] FULL_B, RO: Slot B holds a message (spec/04_command_packets_mailboxes.md). -/
def MBX.CHn_STS.FULL_B (n : Nat) : Fld := ⟨8 * 0x200104 + 1 + 512 * n, 1, 0⟩
/-- MBX_CHn_STS[0:0] FULL_F, RO: Slot F holds a message (spec/04_command_packets_mailboxes.md). -/
def MBX.CHn_STS.FULL_F (n : Nat) : Fld := ⟨8 * 0x200104 + 0 + 512 * n, 1, 0⟩
/-- MBX_CHn_SEND[12:0] LEN, WO: Message length in bytes, 1–4,160; 0 or more than 4,160 is ignored and sets OVF (spec/04_command_packets_mailboxes.md). -/
def MBX.CHn_SEND.LEN (n : Nat) : Fld := ⟨8 * 0x200108 + 0 + 512 * n, 13, 0⟩
/-- MBX_CHn_RECV[31:31] VALID, RC: 1 if a message was taken by this read (spec/04_command_packets_mailboxes.md). -/
def MBX.CHn_RECV.VALID (n : Nat) : Fld := ⟨8 * 0x20010C + 31 + 512 * n, 1, 0⟩
/-- MBX_CHn_RECV[12:0] LEN, RC: Length of the message taken (spec/04_command_packets_mailboxes.md). -/
def MBX.CHn_RECV.LEN (n : Nat) : Fld := ⟨8 * 0x20010C + 0 + 512 * n, 13, 0⟩
/-- MBX_CHn_WDRAW[0:0] WITHDRAWN, RC: 1 if this read withdrew the sender's message (R124) (spec/04_command_packets_mailboxes.md). -/
def MBX.CHn_WDRAW.WITHDRAWN (n : Nat) : Fld := ⟨8 * 0x200120 + 0 + 512 * n, 1, 0⟩
/-- MBX_CHn_LOCK[3:0] OWNER, RW: Read takes or tests the lock; write by the owner releases it (R126) (spec/04_command_packets_mailboxes.md). -/
def MBX.CHn_LOCK.OWNER (n : Nat) : Fld := ⟨8 * 0x200110 + 0 + 512 * n, 4, 0⟩
/-- MBX_CHn_DB_SET[31:0] RING, WO: Write 1 to set the other side's doorbell bits (R127) (spec/04_command_packets_mailboxes.md). -/
def MBX.CHn_DB_SET.RING (n : Nat) : Fld := ⟨8 * 0x200114 + 0 + 512 * n, 32, 0⟩
/-- MBX_CHn_DB_PEND[31:0] PEND, W1C: Pending doorbell bits; the receiver writes 1 to clear its own (spec/04_command_packets_mailboxes.md). -/
def MBX.CHn_DB_PEND.PEND (n : Nat) : Fld := ⟨8 * 0x200118 + 0 + 512 * n, 32, 0⟩
/-- MBX_CHn_DB_MASK[31:0] MASK, RW: 1 masks notification for that bit (spec/04_command_packets_mailboxes.md). -/
def MBX.CHn_DB_MASK.MASK (n : Nat) : Fld := ⟨8 * 0x20011C + 0 + 512 * n, 32, 0xFFFFFFFF⟩
/-- MBX_CHn_NOTIFY[26:16] VEC1, RW: MSI-X vector for bits [15:0] when END1 is identity 2 or 3 (spec/04_command_packets_mailboxes.md). -/
def MBX.CHn_NOTIFY.VEC1 (n : Nat) : Fld := ⟨8 * 0x200124 + 16 + 512 * n, 11, 0⟩
/-- MBX_CHn_NOTIFY[10:0] VEC0, RW: MSI-X vector for bits [31:16] when END0 is identity 2 or 3 (spec/04_command_packets_mailboxes.md). -/
def MBX.CHn_NOTIFY.VEC0 (n : Nat) : Fld := ⟨8 * 0x200124 + 0 + 512 * n, 11, 0⟩
/-- HQ_CTL[31:31] LOCK, RWL: Write 1 to lock HQ_SPILL_LO and HQ_SPILL_HI until reset (spec/05_host_queues.md). -/
def HQ.CTL.LOCK : Fld := ⟨8 * 0x50000 + 31, 1, 0⟩
/-- HQ_CTL[16:16] FAULT_INT_EN, RW: 1 sends FAULT_VEC on a queue fault (spec/05_host_queues.md). -/
def HQ.CTL.FAULT_INT_EN : Fld := ⟨8 * 0x50000 + 16, 1, 0⟩
/-- HQ_CTL[10:0] FAULT_VEC, RW: MSI-X vector for queue faults (spec/05_host_queues.md). -/
def HQ.CTL.FAULT_VEC : Fld := ⟨8 * 0x50000 + 0, 11, 0⟩
/-- HQ_STS[2:2] LOCK_FULL, W1C: A shard had no free entry (R153) (spec/05_host_queues.md). -/
def HQ.STS.LOCK_FULL : Fld := ⟨8 * 0x50004 + 2, 1, 0⟩
/-- HQ_STS[1:1] ABRT, W1C: An ABORT caught a command (spec/05_host_queues.md). -/
def HQ.STS.ABRT : Fld := ⟨8 * 0x50004 + 1, 1, 0⟩
/-- HQ_STS[0:0] FAULT, W1C: A queue pair entered a fault state (spec/05_host_queues.md). -/
def HQ.STS.FAULT : Fld := ⟨8 * 0x50004 + 0, 1, 0⟩
/-- HQ_ERR[31:31] VALID, W1C: A fault is recorded (spec/05_host_queues.md). -/
def HQ.ERR.VALID : Fld := ⟨8 * 0x50008 + 31, 1, 0⟩
/-- HQ_ERR[27:24] CAUSE, RO: Cause of Table "Host Queues and Command Ordering" 9 (spec/05_host_queues.md). -/
def HQ.ERR.CAUSE : Fld := ⟨8 * 0x50008 + 24, 4, 0⟩
/-- HQ_ERR[19:0] QPID, RO: Queue pair that faulted (spec/05_host_queues.md). -/
def HQ.ERR.QPID : Fld := ⟨8 * 0x50008 + 0, 20, 0⟩
/-- HQ_SPILL_LO[31:12] BASE_LO, RWL: Bits [31:12] of the spill region's PCIe address (spec/05_host_queues.md). -/
def HQ.SPILL_LO.BASE_LO : Fld := ⟨8 * 0x50010 + 12, 20, 0⟩
/-- HQ_SPILL_LO[0:0] EN, RWL: 1 enables spilling. While it is 0, CREATE_QP is refused with REFUSED_STATE, DETAIL 3, once 65,536 queue pairs exist, or when the cluster it would use already holds 2,048 queue pairs (R141). (spec/05_host_queues.md). -/
def HQ.SPILL_LO.EN : Fld := ⟨8 * 0x50010 + 0, 1, 0⟩
/-- HQ_SPILL_HI[31:0] BASE_HI, RWL: Bits [63:32] of the spill region's PCIe address (spec/05_host_queues.md). -/
def HQ.SPILL_HI.BASE_HI : Fld := ⟨8 * 0x50014 + 0, 32, 0⟩
/-- HQ_LOCK_STS[31:16] WAITING, RO: Commands now waiting for an entry or a grant, saturating (spec/05_host_queues.md). -/
def HQ.LOCK_STS.WAITING : Fld := ⟨8 * 0x50018 + 16, 16, 0⟩
/-- HQ_LOCK_STS[13:0] PEAK_USED, RC: Most entries in use in any one shard since the last read, 0–8,192 (spec/05_host_queues.md). -/
def HQ.LOCK_STS.PEAK_USED : Fld := ⟨8 * 0x50018 + 0, 14, 0⟩
/-- HQ_CTX_STS[16:0] CACHED, RO: Queue-pair contexts now cached, 0–65,536 (spec/05_host_queues.md). -/
def HQ.CTX_STS.CACHED : Fld := ⟨8 * 0x5001C + 0, 17, 0⟩
/-- HQ_CTX_MISS[31:0] COUNT, RC: Context fetches from the spill region, saturating (spec/05_host_queues.md). -/
def HQ.CTX_MISS.COUNT : Fld := ⟨8 * 0x50020 + 0, 32, 0⟩
/-- VRM_CTL[31:31] LOCK, RWL: Write 1 to lock VRM_SPILL_LO and VRM_SPILL_HI until reset (spec/06_remote_memory_access.md). -/
def VRM.CTL.LOCK : Fld := ⟨8 * 0x60000 + 31, 1, 0⟩
/-- VRM_CTL[16:16] LOST_INT_EN, RW: 1 sends LOST_VEC when a connection becomes LOST (spec/06_remote_memory_access.md). -/
def VRM.CTL.LOST_INT_EN : Fld := ⟨8 * 0x60000 + 16, 1, 0⟩
/-- VRM_CTL[10:0] LOST_VEC, RW: MSI-X vector (spec/06_remote_memory_access.md). -/
def VRM.CTL.LOST_VEC : Fld := ⟨8 * 0x60000 + 0, 11, 0⟩
/-- VRM_STS[2:2] CONN_LOST, W1C: A connection became LOST (R175) (spec/06_remote_memory_access.md). -/
def VRM.STS.CONN_LOST : Fld := ⟨8 * 0x60004 + 2, 1, 0⟩
/-- VRM_STS[1:1] TRIG_MISS, W1C: A TRIGGER named an unallocated tag (spec/06_remote_memory_access.md). -/
def VRM.STS.TRIG_MISS : Fld := ⟨8 * 0x60004 + 1, 1, 0⟩
/-- VRM_STS[0:0] PATH_DOWN, W1C: A path was marked down (R182) (spec/06_remote_memory_access.md). -/
def VRM.STS.PATH_DOWN : Fld := ⟨8 * 0x60004 + 0, 1, 0⟩
/-- VRM_CFG[31:16] UDP_PORT, RW: UDP destination port of VRM (12,090) (spec/06_remote_memory_access.md). -/
def VRM.CFG.UDP_PORT : Fld := ⟨8 * 0x60008 + 16, 16, 0x2F3A⟩
/-- VRM_CFG[15:12] ACK_COUNT, RW: Packets per ACK is 2 × ACK_COUNT (16); 0 counts as 1 (spec/06_remote_memory_access.md). -/
def VRM.CFG.ACK_COUNT : Fld := ⟨8 * 0x60008 + 12, 4, 8⟩
/-- VRM_CFG[11:8] ACK_US, RW: Longest ACK delay in µs; 0 counts as 1 (spec/06_remote_memory_access.md). -/
def VRM.CFG.ACK_US : Fld := ⟨8 * 0x60008 + 8, 4, 4⟩
/-- VRM_CFG[7:0] REORDER_US, RW: Reorder allowance in µs (20); 0 counts as 1 (spec/06_remote_memory_access.md). -/
def VRM.CFG.REORDER_US : Fld := ⟨8 * 0x60008 + 0, 8, 0x14⟩
/-- VRM_TMO[31:20] LOSS_MS, RW: Connection loss time in ms (1,000); values below 4 × KEEPALIVE_MS count as 4 × KEEPALIVE_MS (spec/06_remote_memory_access.md). -/
def VRM.TMO.LOSS_MS : Fld := ⟨8 * 0x6000C + 20, 12, 0x3E8⟩
/-- VRM_TMO[19:10] KEEPALIVE_MS, RW: Probe interval on an idle path in ms (50); 0 counts as 1 (spec/06_remote_memory_access.md). -/
def VRM.TMO.KEEPALIVE_MS : Fld := ⟨8 * 0x6000C + 10, 10, 0x32⟩
/-- VRM_TMO[9:0] STALE_MS, RW: Stale limit in ms (100); 0 counts as 1 (spec/06_remote_memory_access.md). -/
def VRM.TMO.STALE_MS : Fld := ⟨8 * 0x6000C + 0, 10, 0x64⟩
/-- VRM_SPILL_LO[31:12] BASE_LO, RWL: Bits [31:12] of the spill region's PCIe address (spec/06_remote_memory_access.md). -/
def VRM.SPILL_LO.BASE_LO : Fld := ⟨8 * 0x60010 + 12, 20, 0⟩
/-- VRM_SPILL_LO[0:0] EN, RWL: 1 enables spilling (R171) (spec/06_remote_memory_access.md). -/
def VRM.SPILL_LO.EN : Fld := ⟨8 * 0x60010 + 0, 1, 0⟩
/-- VRM_SPILL_HI[31:0] BASE_HI, RWL: Bits [63:32] of the spill region's PCIe address (spec/06_remote_memory_access.md). -/
def VRM.SPILL_HI.BASE_HI : Fld := ⟨8 * 0x60014 + 0, 32, 0⟩
/-- VRM_CTX_STS[16:0] CACHED, RO: Connection contexts now cached, 0–65,536 (spec/06_remote_memory_access.md). -/
def VRM.CTX_STS.CACHED : Fld := ⟨8 * 0x60018 + 0, 17, 0⟩
/-- VRM_CTX_MISS[31:0] COUNT, RC: Context fetches from the spill region, saturating (spec/06_remote_memory_access.md). -/
def VRM.CTX_MISS.COUNT : Fld := ⟨8 * 0x6001C + 0, 32, 0⟩
/-- VRM_STAMP[31:0] LO, RO: Stamp bits [31:0]. Reading it latches HI. (spec/06_remote_memory_access.md). -/
def VRM.STAMP.LO : Fld := ⟨8 * 0x60020 + 0, 32, 0⟩
/-- VRM_STAMP_HI[7:0] HI, RO: Stamp bits [39:32], as latched (spec/06_remote_memory_access.md). -/
def VRM.STAMP_HI.HI : Fld := ⟨8 * 0x60024 + 0, 8, 0⟩
/-- VRM_DROP[31:16] STALE, RC: Packets dropped as stale (R189), saturating (spec/06_remote_memory_access.md). -/
def VRM.DROP.STALE : Fld := ⟨8 * 0x60028 + 16, 16, 0⟩
/-- VRM_DROP[15:0] NOBUF, RC: Frames dropped at a full ingress buffer (R168), saturating (spec/06_remote_memory_access.md). -/
def VRM.DROP.NOBUF : Fld := ⟨8 * 0x60028 + 0, 16, 0⟩
/-- VRM_DROP2[31:16] SEAL, RC: Packets dropped under R178, saturating (spec/06_remote_memory_access.md). -/
def VRM.DROP2.SEAL : Fld := ⟨8 * 0x6002C + 16, 16, 0⟩
/-- VRM_DROP2[15:0] MISROUTE, RC: Packets on a port outside their connection's quadrant, or with a bad VCRC, saturating (spec/06_remote_memory_access.md). -/
def VRM.DROP2.MISROUTE : Fld := ⟨8 * 0x6002C + 0, 16, 0⟩
/-- VRM_PORTp_CFG[31:31] EN, RW: Port enabled; ignored for a fused-off port (R3) (spec/06_remote_memory_access.md). -/
def VRM.PORTp_CFG.EN (p : Nat) : Fld := ⟨8 * 0x60040 + 31 + 64 * p, 1, 0⟩
/-- VRM_PORTp_CFG[30:30] AN, RW: Clause 73 auto-negotiation and link training (spec/06_remote_memory_access.md). -/
def VRM.PORTp_CFG.AN (p : Nat) : Fld := ⟨8 * 0x60040 + 30 + 64 * p, 1, 1⟩
/-- VRM_PORTp_CFG[29:28] MODE, RW: Table "Remote Memory Access over Ethernet" 1 (spec/06_remote_memory_access.md). -/
def VRM.PORTp_CFG.MODE (p : Nat) : Fld := ⟨8 * 0x60040 + 28 + 64 * p, 2, 0⟩
/-- VRM_PORTp_CFG[27:27] PFC_EN, RW: Priority flow control enabled (R168) (spec/06_remote_memory_access.md). -/
def VRM.PORTp_CFG.PFC_EN (p : Nat) : Fld := ⟨8 * 0x60040 + 27 + 64 * p, 1, 0⟩
/-- VRM_PORTp_CFG[26:24] PFC_PRIO, RW: Priority paused and honoured (spec/06_remote_memory_access.md). -/
def VRM.PORTp_CFG.PFC_PRIO (p : Nat) : Fld := ⟨8 * 0x60040 + 24 + 64 * p, 3, 3⟩
/-- VRM_PORTp_CFG[23:16] XOFF, RW: Pause threshold in 64 KiB units (6 MiB); values above 0x78 count as 0x78 (spec/06_remote_memory_access.md). -/
def VRM.PORTp_CFG.XOFF (p : Nat) : Fld := ⟨8 * 0x60040 + 16 + 64 * p, 8, 0x60⟩
/-- VRM_PORTp_CFG[13:0] MTU, RW: Largest frame in bytes (9,216); values outside 1,518–9,216 count as 9,216 (spec/06_remote_memory_access.md). -/
def VRM.PORTp_CFG.MTU (p : Nat) : Fld := ⟨8 * 0x60040 + 0 + 64 * p, 14, 0x2400⟩
/-- VRM_PORTp_STS[11:8] PAUSED, RO: Bit s is 1 while sub-port p.s is paused by a received PFC frame (spec/06_remote_memory_access.md). -/
def VRM.PORTp_STS.PAUSED (p : Nat) : Fld := ⟨8 * 0x60044 + 8 + 64 * p, 4, 0⟩
/-- VRM_PORTp_STS[7:4] LPI, RO: Bit s is 1 while sub-port p.s is in low-power idle (R54) (spec/06_remote_memory_access.md). -/
def VRM.PORTp_STS.LPI (p : Nat) : Fld := ⟨8 * 0x60044 + 4 + 64 * p, 4, 0⟩
/-- VRM_PORTp_STS[3:0] UP, RO: Bit s is 1 while sub-port p.s is up (spec/06_remote_memory_access.md). -/
def VRM.PORTp_STS.UP (p : Nat) : Fld := ⟨8 * 0x60044 + 0 + 64 * p, 4, 0⟩
/-- XF_STS[3:3] ENT_FAIL, W1C: A quadrant entered RETEST, BORROW or STARVED (spec/07_data_transforms_keys.md). -/
def XF.STS.ENT_FAIL : Fld := ⟨8 * 0x70000 + 3, 1, 0⟩
/-- XF_STS[2:2] SUMMARY_EVICT, W1C: A summary entry was replaced (R201) (spec/07_data_transforms_keys.md). -/
def XF.STS.SUMMARY_EVICT : Fld := ⟨8 * 0x70000 + 2, 1, 0⟩
/-- XF_STS[1:1] CODER_FALLBACK, W1C: A frame failed coder verification (R205) (spec/07_data_transforms_keys.md). -/
def XF.STS.CODER_FALLBACK : Fld := ⟨8 * 0x70000 + 1, 1, 0⟩
/-- XF_STS[0:0] CHECK_FAIL, W1C: A read ended with CHECK_FAILED (R207) (spec/07_data_transforms_keys.md). -/
def XF.STS.CHECK_FAIL : Fld := ⟨8 * 0x70000 + 0, 1, 0⟩
/-- XF_DEDUP_CFG[8:0] SUMMARY_GIB, RW: Summary size in GiB (32). Values above 256 count as 256. 0 disables the summary, and every lookup misses. Loaded from the settings block before S2; a change takes effect at the next warm reset. (spec/07_data_transforms_keys.md). -/
def XF.DEDUP_CFG.SUMMARY_GIB : Fld := ⟨8 * 0x70004 + 0, 9, 0x20⟩
/-- XF_DEDUP_STS[31:31] REBUILT, RO: The summary rebuild has ended (R202) (spec/07_data_transforms_keys.md). -/
def XF.DEDUP_STS.REBUILT : Fld := ⟨8 * 0x70008 + 31, 1, 0⟩
/-- XF_DEDUP_STS[7:0] FILL_PCT, RO: Summary entries in use, in % (spec/07_data_transforms_keys.md). -/
def XF.DEDUP_STS.FILL_PCT : Fld := ⟨8 * 0x70008 + 0, 8, 0⟩
/-- XF_DEDUP_HIT[31:0] COUNT, RC: Chunks stored as references, saturating (spec/07_data_transforms_keys.md). -/
def XF.DEDUP_HIT.COUNT : Fld := ⟨8 * 0x7000C + 0, 32, 0⟩
/-- XF_DEDUP_MISS[31:0] COUNT, RC: Lookups that found no live match, saturating (spec/07_data_transforms_keys.md). -/
def XF.DEDUP_MISS.COUNT : Fld := ⟨8 * 0x70010 + 0, 32, 0⟩
/-- XF_RAW_CNT[31:0] COUNT, RC: Frames stored RAW, saturating (spec/07_data_transforms_keys.md). -/
def XF.RAW_CNT.COUNT : Fld := ⟨8 * 0x70014 + 0, 32, 0⟩
/-- XF_CHECK_ERR[31:31] VALID, W1C: A check failure is recorded (spec/07_data_transforms_keys.md). -/
def XF.CHECK_ERR.VALID : Fld := ⟨8 * 0x70018 + 31, 1, 0⟩
/-- XF_CHECK_ERR[23:16] LOC, RO: Location code of the cluster that found it (spec/07_data_transforms_keys.md). -/
def XF.CHECK_ERR.LOC : Fld := ⟨8 * 0x70018 + 16, 8, 0⟩
/-- XF_CHECK_ERR[15:0] VOLUME, RO: Volume of the failing frame (spec/07_data_transforms_keys.md). -/
def XF.CHECK_ERR.VOLUME : Fld := ⟨8 * 0x70018 + 0, 16, 0⟩
/-- XF_ENT_STS[19:16] FAILS, RO: As Q3_FAILS, for Q0 (spec/07_data_transforms_keys.md). -/
def XF.ENT_STS.FAILS (q : Nat) : Fld := ⟨8 * 0x7001C + 16 + 4 * q, 4, 0⟩
/-- XF_ENT_STS[3:0] STATE, RO: As Q3_STATE, for Q0 (spec/07_data_transforms_keys.md). -/
def XF.ENT_STS.STATE (q : Nat) : Fld := ⟨8 * 0x7001C + 0 + 4 * q, 4, 0⟩
/-- XF_ENT_CFG[7:0] H_CLAIM, RW: Claimed min-entropy per raw sample, in 1/256 bit (0.5). Values above 0x80 count as 0x80, and values below 0x40 count as 0x40. A change takes effect at the next start-up test. (spec/07_data_transforms_keys.md). -/
def XF.ENT_CFG.H_CLAIM : Fld := ⟨8 * 0x70020 + 0, 8, 0x80⟩
/-- KDF_STS[3:3] FRK_BAD, RO: FRK readback failed; the FRK is unusable (spec/07_data_transforms_keys.md). -/
def KDF.STS.FRK_BAD : Fld := ⟨8 * 0x80000 + 3, 1, 0⟩
/-- KDF_STS[2:2] ARK_BAD, RO: ARK readback failed; the ARK is unusable (spec/07_data_transforms_keys.md). -/
def KDF.STS.ARK_BAD : Fld := ⟨8 * 0x80000 + 2, 1, 0⟩
/-- KDF_STS[1:1] FRK_SET, RO: The FRK is programmed (spec/07_data_transforms_keys.md). -/
def KDF.STS.FRK_SET : Fld := ⟨8 * 0x80000 + 1, 1, 0⟩
/-- KDF_STS[0:0] ARK_SET, RO: The ARK is programmed (spec/07_data_transforms_keys.md). -/
def KDF.STS.ARK_SET : Fld := ⟨8 * 0x80000 + 0, 1, 0⟩
/-- KDF_KCV_ARK[31:0] KCV, RO: CHECK output bytes 0–3 under the ARK, byte 0 in bits [31:24]; zero while ARK_SET is 0 (spec/07_data_transforms_keys.md). -/
def KDF.KCV_ARK.KCV : Fld := ⟨8 * 0x80004 + 0, 32, 0⟩
/-- KDF_KCV_FRK[31:0] KCV, RO: As KDF_KCV_ARK, under the FRK (spec/07_data_transforms_keys.md). -/
def KDF.KCV_FRK.KCV : Fld := ⟨8 * 0x80008 + 0, 32, 0⟩
/-- KDF_DERIVE_CNT[31:0] COUNT, RC: Key derivations in all clusters, saturating (spec/07_data_transforms_keys.md). -/
def KDF.DERIVE_CNT.COUNT : Fld := ⟨8 * 0x8000C + 0, 32, 0⟩
/-- KDF_EXPORT_CNT[31:0] COUNT, RC: SEAL_KEY_EXPORT commands that returned a key, saturating (spec/07_data_transforms_keys.md). -/
def KDF.EXPORT_CNT.COUNT : Fld := ⟨8 * 0x80010 + 0, 32, 0⟩
/-- FTL_STS[7:4] WRITE_HELD, RO: Bit n is 1 while writes to Qn's media are held under R23: its free pool is at or below WRITE_RSV_PCT, or its dirty data has reached the cap while destage waits for a band grant (spec/08_flash_translation.md). -/
def FTL.STS.WRITE_HELD : Fld := ⟨8 * 0x90000 + 4, 4, 0⟩
/-- FTL_STS[3:3] SWEEP, RO: A rebase sweep runs (spec/08_flash_translation.md). -/
def FTL.STS.SWEEP : Fld := ⟨8 * 0x90000 + 3, 1, 0⟩
/-- FTL_STS[2:2] HOST_BAD, W1C: A host-held page failed its check (R252) (spec/08_flash_translation.md). -/
def FTL.STS.HOST_BAD : Fld := ⟨8 * 0x90000 + 2, 1, 0⟩
/-- FTL_STS[0:0] MAP_WARM, RO: The map is warm (R254) (spec/08_flash_translation.md). -/
def FTL.STS.MAP_WARM : Fld := ⟨8 * 0x90000 + 0, 1, 0⟩
/-- FTL_MAP_CFG[11:0] DRAM_GIB, RW: Map page DRAM in GiB (32); values above 2,048 count as 2,048. Loaded before S2; a change takes effect at the next warm reset. (spec/08_flash_translation.md). -/
def FTL.MAP_CFG.DRAM_GIB : Fld := ⟨8 * 0x90004 + 0, 12, 0x20⟩
/-- FTL_FINE_CFG[31:24] BUDGET_PCT, RW: Fine-table share of DRAM_GIB (8); values above 8 count as 8 (spec/08_flash_translation.md). -/
def FTL.FINE_CFG.BUDGET_PCT : Fld := ⟨8 * 0x90008 + 24, 8, 8⟩
/-- FTL_FINE_CFG[23:16] DEMOTE_H, RW: Hours without a write before demotion (24); 0 counts as 1 (spec/08_flash_translation.md). -/
def FTL.FINE_CFG.DEMOTE_H : Fld := ⟨8 * 0x90008 + 16, 8, 0x18⟩
/-- FTL_FINE_CFG[15:8] PROMOTE_W, RW: Small writes per hour before promotion (16); 0 disables promotion (spec/08_flash_translation.md). -/
def FTL.FINE_CFG.PROMOTE_W : Fld := ⟨8 * 0x90008 + 8, 8, 0x10⟩
/-- FTL_HOST_CFG[31:31] EN, RWL: Host region enabled (spec/08_flash_translation.md). -/
def FTL.HOST_CFG.EN : Fld := ⟨8 * 0x9000C + 31, 1, 0⟩
/-- FTL_HOST_CFG[15:0] HOST_GIB, RWL: Host region size in GiB (spec/08_flash_translation.md). -/
def FTL.HOST_CFG.HOST_GIB : Fld := ⟨8 * 0x9000C + 0, 16, 0⟩
/-- FTL_HOST_BASE_LO[31:12] BASE_LO, RWL: Bits [31:12] of the host region's PCIe address (spec/08_flash_translation.md). -/
def FTL.HOST_BASE_LO.BASE_LO : Fld := ⟨8 * 0x90010 + 12, 20, 0⟩
/-- FTL_HOST_BASE_LO[0:0] LOCK, RWL: Write 1 to lock FTL_HOST_CFG and both base registers until reset (spec/08_flash_translation.md). -/
def FTL.HOST_BASE_LO.LOCK : Fld := ⟨8 * 0x90010 + 0, 1, 0⟩
/-- FTL_HOST_BASE_HI[31:0] BASE_HI, RWL: Bits [63:32] of the host region's PCIe address (spec/08_flash_translation.md). -/
def FTL.HOST_BASE_HI.BASE_HI : Fld := ⟨8 * 0x90014 + 0, 32, 0⟩
/-- FTL_FREE_CFG[23:16] GC_START_PCT, RW: GC start (8) (spec/08_flash_translation.md). -/
def FTL.FREE_CFG.GC_START_PCT : Fld := ⟨8 * 0x90018 + 16, 8, 8⟩
/-- FTL_FREE_CFG[15:8] GC_URGENT_PCT, RW: Urgent GC (4); values above GC_START_PCT count as GC_START_PCT (spec/08_flash_translation.md). -/
def FTL.FREE_CFG.GC_URGENT_PCT : Fld := ⟨8 * 0x90018 + 8, 8, 4⟩
/-- FTL_FREE_CFG[7:0] WRITE_RSV_PCT, RW: Write reserve (2); values below 1 count as 1, and values above GC_URGENT_PCT count as GC_URGENT_PCT (spec/08_flash_translation.md). -/
def FTL.FREE_CFG.WRITE_RSV_PCT : Fld := ⟨8 * 0x90018 + 0, 8, 2⟩
/-- FTL_OP_CFG[15:8] HDA_OP_PCT, RW: HDA overprovisioning in % (3) (spec/08_flash_translation.md). -/
def FTL.OP_CFG.HDA_OP_PCT : Fld := ⟨8 * 0x9001C + 8, 8, 3⟩
/-- FTL_OP_CFG[7:0] FLASH_OP_PCT, RW: Flash overprovisioning in % (10); values below 5 count as 5 (spec/08_flash_translation.md). -/
def FTL.OP_CFG.FLASH_OP_PCT : Fld := ⟨8 * 0x9001C + 0, 8, 0xA⟩
/-- FTL_DUMP_STS[31:31] RUN, RO: A dump runs (spec/08_flash_translation.md). -/
def FTL.DUMP_STS.RUN : Fld := ⟨8 * 0x90020 + 31, 1, 0⟩
/-- FTL_DUMP_STS[30:30] DONE, RO: The last dump completed event 5 (R533) (spec/08_flash_translation.md). -/
def FTL.DUMP_STS.DONE : Fld := ⟨8 * 0x90020 + 30, 1, 0⟩
/-- FTL_DUMP_STS[29:29] INCOMPLETE, W1C: The last dump lacked a share (R268) (spec/08_flash_translation.md). -/
def FTL.DUMP_STS.INCOMPLETE : Fld := ⟨8 * 0x90020 + 29, 1, 0⟩
/-- FTL_DUMP_STS[28:28] RESTORED, RO: The last dump has been restored (R267) (spec/08_flash_translation.md). -/
def FTL.DUMP_STS.RESTORED : Fld := ⟨8 * 0x90020 + 28, 1, 0⟩
/-- FTL_DUMP_STS[27:16] CAP_16M, RO: Dirty cap in force, in 16 MiB units, rounded down (spec/08_flash_translation.md). -/
def FTL.DUMP_STS.CAP_16M : Fld := ⟨8 * 0x90020 + 16, 12, 0⟩
/-- FTL_DUMP_STS[15:0] LAST_10US, RO: Duration of the last dump in units of 10 µs (R533) (spec/08_flash_translation.md). -/
def FTL.DUMP_STS.LAST_10US : Fld := ⟨8 * 0x90020 + 0, 16, 0⟩
/-- FTL_DIRTY[31:0] BYTES_64K, RO: Own dirty data in the write cache, in 64 KiB units (spec/08_flash_translation.md). -/
def FTL.DIRTY.BYTES_64K : Fld := ⟨8 * 0x90024 + 0, 32, 0⟩
/-- FTL_HOST_BAD[31:0] COUNT, RC: Host-held page check failures, saturating (spec/08_flash_translation.md). -/
def FTL.HOST_BAD.COUNT : Fld := ⟨8 * 0x90028 + 0, 32, 0⟩
/-- FLK_CFG[31:24] UNCORR_THR, RW: Uncorrectable codewords per lane per second that trigger sparing (4); 0 counts as 1 (spec/08_flash_translation.md). -/
def FLK.CFG.UNCORR_THR : Fld := ⟨8 * 0xA0000 + 24, 8, 4⟩
/-- FLK_CFG[23:16] SER_LOG2, RW: Corrected-symbol ratio limit is 2^−SER_LOG2 (2^−20); values below 10 count as 10 (spec/08_flash_translation.md). -/
def FLK.CFG.SER_LOG2 : Fld := ⟨8 * 0xA0000 + 16, 8, 0x14⟩
/-- FLK_CFG[15:8] TEST_DAYS, RW: Spare-lane test interval in days (7); 0 counts as 1 (spec/08_flash_translation.md). -/
def FLK.CFG.TEST_DAYS : Fld := ⟨8 * 0xA0000 + 8, 8, 7⟩
/-- FLK_DOWN_LO[31:0] DOWN, RO: Bit k is 1 while link k is DOWN or untrained (spec/08_flash_translation.md). -/
def FLK.DOWN_LO.DOWN : Fld := ⟨8 * 0xA0008 + 0, 32, 0xFFFFFFFF⟩
/-- FLK_DOWN_HI[15:0] DOWN, RO: Bit k − 32 is 1 while link k is DOWN or untrained (spec/08_flash_translation.md). -/
def FLK.DOWN_HI.DOWN : Fld := ⟨8 * 0xA000C + 0, 16, 0xFFFF⟩
/-- FLK_LINKk_STS[31:30] STATE, RO: 0b00 DOWN; 0b01 TRAINING; 0b10 UP; 0b11 DEGRADED (one lane) (spec/08_flash_translation.md). -/
def FLK.LINKk_STS.STATE (k : Nat) : Fld := ⟨8 * 0xA0100 + 30 + 128 * k, 2, 0⟩
/-- FLK_LINKk_STS[29:29] FENCED, RO: This head's port is fenced (R240) (spec/08_flash_translation.md). -/
def FLK.LINKk_STS.FENCED (k : Nat) : Fld := ⟨8 * 0xA0100 + 29 + 128 * k, 1, 1⟩
/-- FLK_LINKk_STS[28:28] DUMP_READY, RO: The module is dump-ready (R265) (spec/08_flash_translation.md). -/
def FLK.LINKk_STS.DUMP_READY (k : Nat) : Fld := ⟨8 * 0xA0100 + 28 + 128 * k, 1, 0⟩
/-- FLK_LINKk_STS[27:27] BAD_GEOM, RO: IDENT refused (R237) (spec/08_flash_translation.md). -/
def FLK.LINKk_STS.BAD_GEOM (k : Nat) : Fld := ⟨8 * 0xA0100 + 27 + 128 * k, 1, 0⟩
/-- FLK_LINKk_STS[26:25] SPARE, RO: 0b00 AVAILABLE; 0b01 IN_TRAIN; 0b10 USED; 0b11 FAILED (spec/08_flash_translation.md). -/
def FLK.LINKk_STS.SPARE (k : Nat) : Fld := ⟨8 * 0xA0100 + 25 + 128 * k, 2, 0⟩
/-- FLK_LINKk_STS[23:22] LANE0, RO: Physical lane carrying flit slot 0 (spec/08_flash_translation.md). -/
def FLK.LINKk_STS.LANE0 (k : Nat) : Fld := ⟨8 * 0xA0100 + 22 + 128 * k, 2, 0⟩
/-- FLK_LINKk_STS[21:20] LANE1, RO: Physical lane carrying flit slot 1; 0b11 if none (spec/08_flash_translation.md). -/
def FLK.LINKk_STS.LANE1 (k : Nat) : Fld := ⟨8 * 0xA0100 + 20 + 128 * k, 2, 1⟩
/-- FLK_LINKk_STS[19:18] DARK, RO: Physical lane in electrical idle; 0b11 if none (spec/08_flash_translation.md). -/
def FLK.LINKk_STS.DARK (k : Nat) : Fld := ⟨8 * 0xA0100 + 18 + 128 * k, 2, 2⟩
/-- FLK_LINKk_STS[6:0] DIES, RO: Die count from IDENT (spec/08_flash_translation.md). -/
def FLK.LINKk_STS.DIES (k : Nat) : Fld := ⟨8 * 0xA0100 + 0 + 128 * k, 7, 0⟩
/-- FLK_LINKk_CORR[31:0] COUNT, RC: Corrected FEC symbols on all lanes, saturating (spec/08_flash_translation.md). -/
def FLK.LINKk_CORR.COUNT (k : Nat) : Fld := ⟨8 * 0xA0104 + 0 + 128 * k, 32, 0⟩
/-- FLK_LINKk_UNCORR[31:0] COUNT, RC: Uncorrectable FEC codewords on all lanes, saturating (spec/08_flash_translation.md). -/
def FLK.LINKk_UNCORR.COUNT (k : Nat) : Fld := ⟨8 * 0xA0108 + 0 + 128 * k, 32, 0⟩
/-- FLK_LINKk_REPLAY[31:0] COUNT, RC: Flits replayed under R232, saturating (spec/08_flash_translation.md). -/
def FLK.LINKk_REPLAY.COUNT (k : Nat) : Fld := ⟨8 * 0xA010C + 0 + 128 * k, 32, 0⟩
/-- TUN_STS[6:6] FROZEN, RO: Tuning is frozen (spec/09_flash_wear_tuning_patrol.md). -/
def TUN.STS.FROZEN : Fld := ⟨8 * 0xB0000 + 6, 1, 0⟩
/-- TUN_STS[5:5] PAT_LATE, W1C: A lap ran late (R289) (spec/09_flash_wear_tuning_patrol.md). -/
def TUN.STS.PAT_LATE : Fld := ⟨8 * 0xB0000 + 5, 1, 0⟩
/-- TUN_STS[4:4] READ_ONLY, W1C: A module became READ_ONLY (spec/09_flash_wear_tuning_patrol.md). -/
def TUN.STS.READ_ONLY : Fld := ⟨8 * 0xB0000 + 4, 1, 0⟩
/-- TUN_STS[3:3] DIE_SWAP, W1C: A die swap started (spec/09_flash_wear_tuning_patrol.md). -/
def TUN.STS.DIE_SWAP : Fld := ⟨8 * 0xB0000 + 3, 1, 0⟩
/-- TUN_STS[2:2] RETIRE, W1C: A block was retired (spec/09_flash_wear_tuning_patrol.md). -/
def TUN.STS.RETIRE : Fld := ⟨8 * 0xB0000 + 2, 1, 0⟩
/-- TUN_STS[1:1] SUSPECT, W1C: A set failed validation (R282) (spec/09_flash_wear_tuning_patrol.md). -/
def TUN.STS.SUSPECT : Fld := ⟨8 * 0xB0000 + 1, 1, 0⟩
/-- TUN_CAL_CFG[31:24] COMMIT_S, RW: Least interval between tuning commits in s (10); 0 counts as 1 (spec/09_flash_wear_tuning_patrol.md). -/
def TUN.CAL_CFG.COMMIT_S : Fld := ⟨8 * 0xB0004 + 24, 8, 0xA⟩
/-- TUN_CAL_CFG[23:16] SKEW, RW: Skew threshold in 1/16; 0 counts as 1 (spec/09_flash_wear_tuning_patrol.md). -/
def TUN.CAL_CFG.SKEW : Fld := ⟨8 * 0xB0004 + 16, 8, 2⟩
/-- TUN_CAL_CFG[15:12] MAX_STEP, RW: Largest move per window; 0 counts as 1 (spec/09_flash_wear_tuning_patrol.md). -/
def TUN.CAL_CFG.MAX_STEP : Fld := ⟨8 * 0xB0004 + 12, 4, 4⟩
/-- TUN_CAL_CFG[11:0] CAL_CW, RW: Codewords per window (2,048); values below 256 count as 256 (spec/09_flash_wear_tuning_patrol.md). -/
def TUN.CAL_CFG.CAL_CW : Fld := ⟨8 * 0xB0004 + 0, 12, 0x800⟩
/-- TUN_VAL_CFG[31:24] TEMP_TOL_C, RW: Temperature tolerance in °C (10); 0 counts as 1 (spec/09_flash_wear_tuning_patrol.md). -/
def TUN.VAL_CFG.TEMP_TOL_C : Fld := ⟨8 * 0xB0008 + 24, 8, 0xA⟩
/-- TUN_VAL_CFG[23:16] VAL_MARGIN, RW: Allowed rise in 1/8 iteration (1 iteration) (spec/09_flash_wear_tuning_patrol.md). -/
def TUN.VAL_CFG.VAL_MARGIN : Fld := ⟨8 * 0xB0008 + 16, 8, 8⟩
/-- TUN_VAL_CFG[15:12] VAL_FAIL, RW: First-decode failures allowed during validation (spec/09_flash_wear_tuning_patrol.md). -/
def TUN.VAL_CFG.VAL_FAIL : Fld := ⟨8 * 0xB0008 + 12, 4, 2⟩
/-- TUN_VAL_CFG[11:0] VAL_CW16, RW: Validation length in units of 16 codewords (4,096); 0 counts as 1 (spec/09_flash_wear_tuning_patrol.md). -/
def TUN.VAL_CFG.VAL_CW16 : Fld := ⟨8 * 0xB0008 + 0, 12, 0x100⟩
/-- TUN_LOAD_CFG[31:24] FULL_BW_PCT, RW: FULL at or above this BW (70) (spec/09_flash_wear_tuning_patrol.md). -/
def TUN.LOAD_CFG.FULL_BW_PCT : Fld := ⟨8 * 0xB000C + 24, 8, 0x46⟩
/-- TUN_LOAD_CFG[23:16] LIGHT_BW_PCT, RW: LIGHT below this BW (30); values above FULL_BW_PCT count as FULL_BW_PCT (spec/09_flash_wear_tuning_patrol.md). -/
def TUN.LOAD_CFG.LIGHT_BW_PCT : Fld := ⟨8 * 0xB000C + 16, 8, 0x1E⟩
/-- TUN_LOAD_CFG[15:8] FULL_QD, RW: FULL at or above this QD (8) (spec/09_flash_wear_tuning_patrol.md). -/
def TUN.LOAD_CFG.FULL_QD : Fld := ⟨8 * 0xB000C + 8, 8, 8⟩
/-- TUN_LOAD_CFG[7:0] LIGHT_QD, RW: LIGHT below this QD (2) (spec/09_flash_wear_tuning_patrol.md). -/
def TUN.LOAD_CFG.LIGHT_QD : Fld := ⟨8 * 0xB000C + 0, 8, 2⟩
/-- TUN_DIST_CFG[31:16] READ_K, RW: Read count of R284 in thousands (100); 0 counts as 1 (spec/09_flash_wear_tuning_patrol.md). -/
def TUN.DIST_CFG.READ_K : Fld := ⟨8 * 0xB0010 + 16, 16, 0x64⟩
/-- TUN_DIST_CFG[15:8] RET_DAYS, RW: Retention refresh age in days (90); 0 disables (spec/09_flash_wear_tuning_patrol.md). -/
def TUN.DIST_CFG.RET_DAYS : Fld := ⟨8 * 0xB0010 + 8, 8, 0x5A⟩
/-- TUN_DIST_CFG[7:0] REFRESH_IT, RW: Patrol iteration limit in 1/8 iteration (12) (spec/09_flash_wear_tuning_patrol.md). -/
def TUN.DIST_CFG.REFRESH_IT : Fld := ⟨8 * 0xB0010 + 0, 8, 0x60⟩
/-- TUN_WEAR_CFG[31:24] RETIRE_IT, RW: Wear retirement limit in 1/8 iteration (18) (spec/09_flash_wear_tuning_patrol.md). -/
def TUN.WEAR_CFG.RETIRE_IT : Fld := ⟨8 * 0xB0014 + 24, 8, 0x90⟩
/-- TUN_WEAR_CFG[23:16] WL_GAP, RW: Wear-levelling gap in units of 10 erase cycles (500) (spec/09_flash_wear_tuning_patrol.md). -/
def TUN.WEAR_CFG.WL_GAP : Fld := ⟨8 * 0xB0014 + 16, 8, 0x32⟩
/-- TUN_WEAR_CFG[15:8] WEAR_IT, RW: WEARING threshold in 1/8 iteration (6) (spec/09_flash_wear_tuning_patrol.md). -/
def TUN.WEAR_CFG.WEAR_IT : Fld := ⟨8 * 0xB0014 + 8, 8, 0x30⟩
/-- TUN_WEAR_CFG[7:4] SPARE_DIES, RW: Spare dies per module at format; takes effect at the next format, values above 8 count as 8 (spec/09_flash_wear_tuning_patrol.md). -/
def TUN.WEAR_CFG.SPARE_DIES : Fld := ⟨8 * 0xB0014 + 4, 4, 2⟩
/-- TUN_PAT_CFG[31:31] EN, RW: Patrol enabled (spec/09_flash_wear_tuning_patrol.md). -/
def TUN.PAT_CFG.EN : Fld := ⟨8 * 0xB0018 + 31, 1, 1⟩
/-- TUN_PAT_CFG[27:24] HDA_STREAMS, RW: HDAs under patrol per quadrant (5); values above 16 count as 16 (spec/09_flash_wear_tuning_patrol.md). -/
def TUN.PAT_CFG.HDA_STREAMS : Fld := ⟨8 * 0xB0018 + 24, 4, 5⟩
/-- TUN_PAT_CFG[23:16] SHARE_PCT, RW: Patrol share of each link in % (5); 0 counts as 1 (spec/09_flash_wear_tuning_patrol.md). -/
def TUN.PAT_CFG.SHARE_PCT : Fld := ⟨8 * 0xB0018 + 16, 8, 5⟩
/-- TUN_PAT_CFG[15:0] PERIOD_H, RW: Lap period in hours (144); 0 counts as 1 (spec/09_flash_wear_tuning_patrol.md). -/
def TUN.PAT_CFG.PERIOD_H : Fld := ⟨8 * 0xB0018 + 0, 16, 0x90⟩
/-- TUN_PAT_STS[31:24] LAP_PCT, RO: Progress of the current lap in % (spec/09_flash_wear_tuning_patrol.md). -/
def TUN.PAT_STS.LAP_PCT : Fld := ⟨8 * 0xB001C + 24, 8, 0⟩
/-- TUN_PAT_STS[23:23] LATE, RO: The current lap is late (R289) (spec/09_flash_wear_tuning_patrol.md). -/
def TUN.PAT_STS.LATE : Fld := ⟨8 * 0xB001C + 23, 1, 0⟩
/-- TUN_PAT_STS[15:0] LAPS, RO: Laps completed since the last cold reset, saturating (spec/09_flash_wear_tuning_patrol.md). -/
def TUN.PAT_STS.LAPS : Fld := ⟨8 * 0xB001C + 0, 16, 0⟩
/-- TUN_MODk_STS[31:29] STAGE, RO: Stage of Table "Wear, Tuning and Patrol" 2 (spec/09_flash_wear_tuning_patrol.md). -/
def TUN.MODk_STS.STAGE (k : Nat) : Fld := ⟨8 * 0xB0100 + 29 + 64 * k, 3, 0⟩
/-- TUN_MODk_STS[28:25] DIES_SPARE, RO: Spare dies remaining (spec/09_flash_wear_tuning_patrol.md). -/
def TUN.MODk_STS.DIES_SPARE (k : Nat) : Fld := ⟨8 * 0xB0100 + 25 + 64 * k, 4, 0⟩
/-- TUN_MODk_STS[23:16] IT_MEAN, RO: Highest it_mean of any VALID set, in 1/8 iteration (spec/09_flash_wear_tuning_patrol.md). -/
def TUN.MODk_STS.IT_MEAN (k : Nat) : Fld := ⟨8 * 0xB0100 + 16 + 64 * k, 8, 0⟩
/-- TUN_MODk_STS[15:8] BLOCK_PCT, RO: Spare blocks remaining in the worst block group, in %. 0 until the link has first trained; 100 after a format. (spec/09_flash_wear_tuning_patrol.md). -/
def TUN.MODk_STS.BLOCK_PCT (k : Nat) : Fld := ⟨8 * 0xB0100 + 8 + 64 * k, 8, 0⟩
/-- TUN_MODk_STS[7:0] SUSPECT, RO: SUSPECT sets on the module, saturating (spec/09_flash_wear_tuning_patrol.md). -/
def TUN.MODk_STS.SUSPECT (k : Nat) : Fld := ⟨8 * 0xB0100 + 0 + 64 * k, 8, 0⟩
/-- TUN_MODk_WEAR[31:16] ERASE_MEAN, RO: Mean erase count of the module's blocks, saturating (spec/09_flash_wear_tuning_patrol.md). -/
def TUN.MODk_WEAR.ERASE_MEAN (k : Nat) : Fld := ⟨8 * 0xB0104 + 16 + 64 * k, 16, 0⟩
/-- TUN_MODk_WEAR[15:0] RETIRED, RO: Blocks retired on the module, saturating (spec/09_flash_wear_tuning_patrol.md). -/
def TUN.MODk_WEAR.RETIRED (k : Nat) : Fld := ⟨8 * 0xB0104 + 0 + 64 * k, 16, 0⟩
/-- HRC_STS[4:4] HEAD_FAIL, W1C: A head surface was declared failed (R323) (spec/10_hda_read_channel.md). -/
def HRC.STS.HEAD_FAIL : Fld := ⟨8 * 0xC0000 + 4, 1, 0⟩
/-- HRC_STS[3:3] SPARE_LOW, W1C: An HDA fell below 10 % spare sectors (spec/10_hda_read_channel.md). -/
def HRC.STS.SPARE_LOW : Fld := ⟨8 * 0xC0000 + 3, 1, 0⟩
/-- HRC_STS[2:2] LOST, W1C: A sector failed every step (R320) (spec/10_hda_read_channel.md). -/
def HRC.STS.LOST : Fld := ⟨8 * 0xC0000 + 2, 1, 0⟩
/-- HRC_STS[1:1] REALLOC, W1C: A sector was reallocated (spec/10_hda_read_channel.md). -/
def HRC.STS.REALLOC : Fld := ⟨8 * 0xC0000 + 1, 1, 0⟩
/-- HRC_STS[0:0] OVERRUN, W1C: A pair's sample buffer overran (R314) (spec/10_hda_read_channel.md). -/
def HRC.STS.OVERRUN : Fld := ⟨8 * 0xC0000 + 0, 1, 0⟩
/-- HRC_DEC_CFG[15:12] GLOBAL_IT, RW: Global iterations at step 1; above 12 counts as 12, 0 as 1 (spec/10_hda_read_channel.md). -/
def HRC.DEC_CFG.GLOBAL_IT : Fld := ⟨8 * 0xC0004 + 12, 4, 8⟩
/-- HRC_DEC_CFG[11:8] LOCAL_IT, RW: Decoder iterations per global iteration; above 8 counts as 8, 0 as 1 (spec/10_hda_read_channel.md). -/
def HRC.DEC_CFG.LOCAL_IT : Fld := ⟨8 * 0xC0004 + 8, 4, 4⟩
/-- HRC_DEC_CFG[7:0] TA_LIMIT, RW: Sample magnitude for erasure at step 3 (112) (spec/10_hda_read_channel.md). -/
def HRC.DEC_CFG.TA_LIMIT : Fld := ⟨8 * 0xC0004 + 0, 8, 0x70⟩
/-- HRC_POOL_CFG[31:16] GRANT_US, RW: Grant lead in µs (500); 0 counts as 1 (spec/10_hda_read_channel.md). -/
def HRC.POOL_CFG.GRANT_US : Fld := ⟨8 * 0xC0008 + 16, 16, 0x1F4⟩
/-- HRC_POOL_CFG[15:8] RUN_MS, RW: Longest hold while a higher class waits, in ms (50); 0 counts as 1 (spec/10_hda_read_channel.md). -/
def HRC.POOL_CFG.RUN_MS : Fld := ⟨8 * 0xC0008 + 8, 8, 0x32⟩
/-- HRC_RCV_CFG[23:16] HEAD_FAIL_N, RW: Step-6 sectors per head per hour that fail the head (64); 0 counts as 1 (spec/10_hda_read_channel.md). -/
def HRC.RCV_CFG.HEAD_FAIL_N : Fld := ⟨8 * 0xC000C + 16, 8, 0x40⟩
/-- HRC_RCV_CFG[15:8] RCV_REVS, RW: Step-4 revolutions for classes 1–3 (6); above 16 counts as 16 (spec/10_hda_read_channel.md). -/
def HRC.RCV_CFG.RCV_REVS : Fld := ⟨8 * 0xC000C + 8, 8, 6⟩
/-- HRC_RCV_CFG[7:0] HOST_REVS, RW: Step-4 revolutions for class 0 (1); above RCV_REVS counts as RCV_REVS (spec/10_hda_read_channel.md). -/
def HRC.RCV_CFG.HOST_REVS : Fld := ⟨8 * 0xC000C + 0, 8, 1⟩
/-- HRC_POOLn_STS[31:24] WAITING, RO: Runs waiting for a pair, saturating (spec/10_hda_read_channel.md). -/
def HRC.POOLn_STS.WAITING (n : Nat) : Fld := ⟨8 * 0xC0010 + 24 + 32 * n, 8, 0⟩
/-- HRC_POOLn_STS[15:8] PAIRS, RO: Pairs in the pool (R313) (spec/10_hda_read_channel.md). -/
def HRC.POOLn_STS.PAIRS (n : Nat) : Fld := ⟨8 * 0xC0010 + 8 + 32 * n, 8, 0x10⟩
/-- HRC_POOLn_STS[7:0] BUSY, RO: Pairs granted now (spec/10_hda_read_channel.md). -/
def HRC.POOLn_STS.BUSY (n : Nat) : Fld := ⟨8 * 0xC0010 + 0 + 32 * n, 8, 0⟩
/-- HRC_LIC[31:16] LICENSED, RO: HDAs that the dense-format licence allows (spec/10_hda_read_channel.md). -/
def HRC.LIC.LICENSED : Fld := ⟨8 * 0xC0020 + 16, 16, 0⟩
/-- HRC_LIC[15:0] USED, RO: Dense HDAs admitted to writing (spec/10_hda_read_channel.md). -/
def HRC.LIC.USED : Fld := ⟨8 * 0xC0020 + 0, 16, 0⟩
/-- HRC_REALLOC_CNT[31:0] COUNT, RC: Sectors reallocated, saturating (spec/10_hda_read_channel.md). -/
def HRC.REALLOC_CNT.COUNT : Fld := ⟨8 * 0xC0024 + 0, 32, 0⟩
/-- HRC_OVERRUN_CNT[31:0] COUNT, RC: Sectors re-read after overrun, saturating (spec/10_hda_read_channel.md). -/
def HRC.OVERRUN_CNT.COUNT : Fld := ⟨8 * 0xC0028 + 0, 32, 0⟩
/-- HRC_HDAh_STS[31:29] STATE, RO: 0 ABSENT; 1 REFUSED; 2 UNFORMATTED; 3 IN_SERVICE; 4 READ_ONLY; 5 FAILING; 6 FAILED (spec/10_hda_read_channel.md). -/
def HRC.HDAh_STS.STATE (h : Nat) : Fld := ⟨8 * 0xC0100 + 29 + 32 * h, 3, 0⟩
/-- HRC_HDAh_STS[28:28] DENSE, RO: The HDA is dense format (spec/10_hda_read_channel.md). -/
def HRC.HDAh_STS.DENSE (h : Nat) : Fld := ⟨8 * 0xC0100 + 28 + 32 * h, 1, 0⟩
/-- HRC_HDAh_STS[27:26] DRIVER, RO: 0b00 none; 0b01 this head; 0b10 the partner (spec/10_hda_read_channel.md). -/
def HRC.HDAh_STS.DRIVER (h : Nat) : Fld := ⟨8 * 0xC0100 + 26 + 32 * h, 2, 0⟩
/-- HRC_HDAh_STS[23:16] SPARE_PCT, RO: Free spare sectors in % (R323) (spec/10_hda_read_channel.md). -/
def HRC.HDAh_STS.SPARE_PCT (h : Nat) : Fld := ⟨8 * 0xC0100 + 16 + 32 * h, 8, 0x64⟩
/-- HRC_HDAh_STS[15:8] HEADS_FAILED, RO: Head surfaces declared failed (spec/10_hda_read_channel.md). -/
def HRC.HDAh_STS.HEADS_FAILED (h : Nat) : Fld := ⟨8 * 0xC0100 + 8 + 32 * h, 8, 0⟩
/-- HRC_HDAh_STS[7:0] SM1_MISS, RC: SM2 fall-backs since the last read, saturating (spec/10_hda_read_channel.md). -/
def HRC.HDAh_STS.SM1_MISS (h : Nat) : Fld := ⟨8 * 0xC0100 + 0 + 32 * h, 8, 0⟩
/-- STR_CFG[31:24] RT_LOSS_THR, RW: Real-time flits lost per second that count towards POOR (16); 0 counts as 1 (spec/10_hda_read_channel.md). -/
def STR.CFG.RT_LOSS_THR : Fld := ⟨8 * 0xF0000 + 24, 8, 0x10⟩
/-- STR_DOWN0[31:0] DOWN, RO: Bit k is 1 while string k is DOWN or untrained (spec/10_hda_read_channel.md). -/
def STR.DOWN0.DOWN : Fld := ⟨8 * 0xF0004 + 0, 32, 0xFFFFFFFF⟩
/-- STR_DOWN1[31:0] DOWN, RO: Bit k − 32, as STR_DOWN0 (spec/10_hda_read_channel.md). -/
def STR.DOWN1.DOWN : Fld := ⟨8 * 0xF0008 + 0, 32, 0xFFFFFFFF⟩
/-- STR_DOWN2[31:0] DOWN, RO: Bit k − 64, as STR_DOWN0 (spec/10_hda_read_channel.md). -/
def STR.DOWN2.DOWN : Fld := ⟨8 * 0xF000C + 0, 32, 0xFFFFFFFF⟩
/-- STR_k_STS[31:30] STATE, RO: 0b00 DOWN; 0b01 TRAINING; 0b10 UP; 0b11 reserved (spec/10_hda_read_channel.md). -/
def STR.STRING_STS.STATE (k : Nat) : Fld := ⟨8 * 0xF0100 + 30 + 128 * k, 2, 0⟩
/-- STR_k_STS[29:29] POOR, RO: Real-time loss above threshold (R300) (spec/10_hda_read_channel.md). -/
def STR.STRING_STS.POOR (k : Nat) : Fld := ⟨8 * 0xF0100 + 29 + 128 * k, 1, 0⟩
/-- STR_k_STS[28:28] DRIVER, RO: This head's port drives the carrier (spec/10_hda_read_channel.md). -/
def STR.STRING_STS.DRIVER (k : Nat) : Fld := ⟨8 * 0xF0100 + 28 + 128 * k, 1, 0⟩
/-- STR_k_STS[27:27] OTHER_DRIVES, RO: The other port drives the carrier (spec/10_hda_read_channel.md). -/
def STR.STRING_STS.OTHER_DRIVES (k : Nat) : Fld := ⟨8 * 0xF0100 + 27 + 128 * k, 1, 0⟩
/-- STR_k_STS[26:26] RETRACTED, W1C: The carrier reported a retract under R302 (spec/10_hda_read_channel.md). -/
def STR.STRING_STS.RETRACTED (k : Nat) : Fld := ⟨8 * 0xF0100 + 26 + 128 * k, 1, 0⟩
/-- STR_k_STS[25:25] SLOT1, RO: An HDA is present in slot 1 (spec/10_hda_read_channel.md). -/
def STR.STRING_STS.SLOT1 (k : Nat) : Fld := ⟨8 * 0xF0100 + 25 + 128 * k, 1, 0⟩
/-- STR_k_STS[24:24] SLOT0, RO: An HDA is present in slot 0 (spec/10_hda_read_channel.md). -/
def STR.STRING_STS.SLOT0 (k : Nat) : Fld := ⟨8 * 0xF0100 + 24 + 128 * k, 1, 0⟩
/-- STR_k_STS[23:16] TEMP1_C, RO: Slot 1 HDA temperature in °C, signed (spec/10_hda_read_channel.md). -/
def STR.STRING_STS.TEMP1_C (k : Nat) : Fld := ⟨8 * 0xF0100 + 16 + 128 * k, 8, 0⟩
/-- STR_k_STS[15:8] TEMP0_C, RO: Slot 0 HDA temperature in °C, signed (spec/10_hda_read_channel.md). -/
def STR.STRING_STS.TEMP0_C (k : Nat) : Fld := ⟨8 * 0xF0100 + 8 + 128 * k, 8, 0⟩
/-- STR_k_RTLOST[31:0] COUNT, RC: Real-time flits lost in either direction, saturating (spec/10_hda_read_channel.md). -/
def STR.STRING_RTLOST.COUNT (k : Nat) : Fld := ⟨8 * 0xF0104 + 0 + 128 * k, 32, 0⟩
/-- STR_k_REPLAY[31:0] COUNT, RC: Reliable flits replayed, saturating (spec/10_hda_read_channel.md). -/
def STR.STRING_REPLAY.COUNT (k : Nat) : Fld := ⟨8 * 0xF0108 + 0 + 128 * k, 32, 0⟩
/-- STR_k_UNCORR[31:0] COUNT, RC: Uncorrectable FEC codewords, saturating (spec/10_hda_read_channel.md). -/
def STR.STRING_UNCORR.COUNT (k : Nat) : Fld := ⟨8 * 0xF010C + 0 + 128 * k, 32, 0⟩
/-- TUN_HDA_STS[31:16] SUSPECT, RO: SUSPECT HDA sets, saturating (spec/10_hda_read_channel.md). -/
def TUN.HDA_STS.SUSPECT : Fld := ⟨8 * 0xB0400 + 16, 16, 0⟩
/-- TUN_HDA_STS[1:1] HEAT_CLAMP, W1C: A heater move met HEAT_MAX (R326) (spec/10_hda_read_channel.md). -/
def TUN.HDA_STS.HEAT_CLAMP : Fld := ⟨8 * 0xB0400 + 1, 1, 0⟩
/-- TUN_HDA_STS[0:0] SUSPECT_EV, W1C: An HDA set failed validation (spec/10_hda_read_channel.md). -/
def TUN.HDA_STS.SUSPECT_EV : Fld := ⟨8 * 0xB0400 + 0, 1, 0⟩
/-- TUN_HDA_CAL[31:24] COMMIT_S, RW: Least interval between HDA tuning commits in s (60); 0 counts as 1 (spec/10_hda_read_channel.md). -/
def TUN.HDA_CAL.COMMIT_S : Fld := ⟨8 * 0xB0404 + 24, 8, 0x3C⟩
/-- TUN_HDA_CAL[23:20] MU_LOG2, RW: Adaptation step 2^−MU_LOG2 (spec/10_hda_read_channel.md). -/
def TUN.HDA_CAL.MU_LOG2 : Fld := ⟨8 * 0xB0404 + 20, 4, 8⟩
/-- TUN_HDA_CAL[19:16] HEAT_STEP, RW: Largest heater move per window; 0 counts as 1 (spec/10_hda_read_channel.md). -/
def TUN.HDA_CAL.HEAT_STEP : Fld := ⟨8 * 0xB0404 + 16, 4, 2⟩
/-- TUN_HDA_CAL[15:0] CAL_SECT, RW: Sectors per window (1,024); below 128 counts as 128 (spec/10_hda_read_channel.md). -/
def TUN.HDA_CAL.CAL_SECT : Fld := ⟨8 * 0xB0404 + 0, 16, 0x400⟩
/-- TUN_HDA_VAL[31:24] TEMP_TOL_C, RW: Temperature tolerance in °C (5); 0 counts as 1 (spec/10_hda_read_channel.md). -/
def TUN.HDA_VAL.TEMP_TOL_C : Fld := ⟨8 * 0xB0408 + 24, 8, 5⟩
/-- TUN_HDA_VAL[23:16] VAL_MARGIN, RW: Allowed rise in 1/8 global iteration (1) (spec/10_hda_read_channel.md). -/
def TUN.HDA_VAL.VAL_MARGIN : Fld := ⟨8 * 0xB0408 + 16, 8, 8⟩
/-- TUN_HDA_VAL[15:12] VAL_FAIL, RW: First-decode failures allowed during validation (spec/10_hda_read_channel.md). -/
def TUN.HDA_VAL.VAL_FAIL : Fld := ⟨8 * 0xB0408 + 12, 4, 2⟩
/-- TUN_HDA_VAL[11:0] VAL_SECT16, RW: Validation length in units of 16 sectors (2,048); 0 counts as 1 (spec/10_hda_read_channel.md). -/
def TUN.HDA_VAL.VAL_SECT16 : Fld := ⟨8 * 0xB0408 + 0, 12, 0x80⟩
/-- TUN_HDA_LOAD[31:24] FULL_STREAMS, RW: FULL at or above this many granted pairs (12) (spec/10_hda_read_channel.md). -/
def TUN.HDA_LOAD.FULL_STREAMS : Fld := ⟨8 * 0xB040C + 24, 8, 0xC⟩
/-- TUN_HDA_LOAD[23:16] LIGHT_STREAMS, RW: LIGHT below this many (4); above FULL_STREAMS counts as FULL_STREAMS (spec/10_hda_read_channel.md). -/
def TUN.HDA_LOAD.LIGHT_STREAMS : Fld := ⟨8 * 0xB040C + 16, 8, 4⟩
/-- TUN_HDA_LOAD[15:8] PES_FULL, RW: FULL at or above this PES, in 1/256 pitch (32) (spec/10_hda_read_channel.md). -/
def TUN.HDA_LOAD.PES_FULL : Fld := ⟨8 * 0xB040C + 8, 8, 0x20⟩
/-- TUN_HDA_LOAD[7:0] PES_LIGHT, RW: LIGHT below this PES (12) (spec/10_hda_read_channel.md). -/
def TUN.HDA_LOAD.PES_LIGHT : Fld := ⟨8 * 0xB040C + 0, 8, 0xC⟩
/-- SRV_STS[5:5] TRACE_DONE, W1C: A trace capture ended (R350) (spec/11_hda_servo_spindle.md). -/
def SRV.STS.TRACE_DONE : Fld := ⟨8 * 0xD0000 + 5, 1, 0⟩
/-- SRV_STS[4:4] LOST, W1C: A loop entered LOST (R334) (spec/11_hda_servo_spindle.md). -/
def SRV.STS.LOST : Fld := ⟨8 * 0xD0000 + 4, 1, 0⟩
/-- SRV_STS[3:3] OSC, W1C: A servo oscillation was flagged (R349) (spec/11_hda_servo_spindle.md). -/
def SRV.STS.OSC : Fld := ⟨8 * 0xD0000 + 3, 1, 0⟩
/-- SRV_STS[2:2] DL_MISS, W1C: A carrier exceeded DL_THR (R339) (spec/11_hda_servo_spindle.md). -/
def SRV.STS.DL_MISS : Fld := ⟨8 * 0xD0000 + 2, 1, 0⟩
/-- SRV_STS[1:1] ISSUE_LATE, W1C: An SOUT was issued late (R339) (spec/11_hda_servo_spindle.md). -/
def SRV.STS.ISSUE_LATE : Fld := ⟨8 * 0xD0000 + 1, 1, 0⟩
/-- SRV_STS[0:0] WEDGE_MISS, W1C: A wedge was missed (spec/11_hda_servo_spindle.md). -/
def SRV.STS.WEDGE_MISS : Fld := ⟨8 * 0xD0000 + 0, 1, 0⟩
/-- SRV_CFG[31:31] LISTEN_EN, RW: Run LISTEN on carriers the partner drives (spec/11_hda_servo_spindle.md). -/
def SRV.CFG.LISTEN_EN : Fld := ⟨8 * 0xD0004 + 31, 1, 1⟩
/-- SRV_CFG[23:16] DL_THR, RW: Deadline misses per carrier per second that raise DL_MISS (16); 0 counts as 1 (spec/11_hda_servo_spindle.md). -/
def SRV.CFG.DL_THR : Fld := ⟨8 * 0xD0004 + 16, 8, 0x10⟩
/-- SRV_CFG[15:8] MISS_MAX, RW: Consecutive missed wedges before LOST (16); below 4 counts as 4, above 64 as 64 (spec/11_hda_servo_spindle.md). -/
def SRV.CFG.MISS_MAX : Fld := ⟨8 * 0xD0004 + 8, 8, 0x10⟩
/-- SRV_TRACE_STS[31:24] Q3, RO: Trace state of Q3, laid out as Q0 (spec/11_hda_servo_spindle.md). -/
def SRV.TRACE_STS.Q3 : Fld := ⟨8 * 0xD0008 + 24, 8, 0⟩
/-- SRV_TRACE_STS[23:16] Q2, RO: Trace state of Q2, laid out as Q0 (spec/11_hda_servo_spindle.md). -/
def SRV.TRACE_STS.Q2 : Fld := ⟨8 * 0xD0008 + 16, 8, 0⟩
/-- SRV_TRACE_STS[15:8] Q1, RO: Trace state of Q1, laid out as Q0 (spec/11_hda_servo_spindle.md). -/
def SRV.TRACE_STS.Q1 : Fld := ⟨8 * 0xD0008 + 8, 8, 0⟩
/-- SRV_TRACE_STS[7:7] Q0.ARMED, RO: Armed and not done (spec/11_hda_servo_spindle.md). -/
def SRV.TRACE_STS.Q0.ARMED : Fld := ⟨8 * 0xD0008 + 7, 1, 0⟩
/-- SRV_TRACE_STS[6:6] Q0.DONE, RO: Capture ended; the buffer holds it (spec/11_hda_servo_spindle.md). -/
def SRV.TRACE_STS.Q0.DONE : Fld := ⟨8 * 0xD0008 + 6, 1, 0⟩
/-- SRV_ISSUE_LATE[31:0] COUNT, RC: SOUTs issued beyond the budget, saturating (spec/11_hda_servo_spindle.md). -/
def SRV.ISSUE_LATE.COUNT : Fld := ⟨8 * 0xD000C + 0, 32, 0⟩
/-- SRV_MISS_CNT[31:0] COUNT, RC: Missed wedges, saturating (spec/11_hda_servo_spindle.md). -/
def SRV.MISS_CNT.COUNT : Fld := ⟨8 * 0xD0010 + 0, 32, 0⟩
/-- SRV_DL_CNT[31:0] COUNT, RC: Deadline misses reported in CSTAT, saturating (spec/11_hda_servo_spindle.md). -/
def SRV.DL_CNT.COUNT : Fld := ⟨8 * 0xD0014 + 0, 32, 0⟩
/-- SRV_HDAh_STS[31:28] STATE, RO: Table "Servo and Spindle Control" 6 (spec/11_hda_servo_spindle.md). -/
def SRV.HDAh_STS.STATE (h : Nat) : Fld := ⟨8 * 0xD0100 + 28 + 32 * h, 4, 0xF⟩
/-- SRV_HDAh_STS[27:26] PROFILE, RO: Profile of the active block (spec/11_hda_servo_spindle.md). -/
def SRV.HDAh_STS.PROFILE (h : Nat) : Fld := ⟨8 * 0xD0100 + 26 + 32 * h, 2, 1⟩
/-- SRV_HDAh_STS[25:25] OSC, RO: SAFE forced under R349 (spec/11_hda_servo_spindle.md). -/
def SRV.HDAh_STS.OSC (h : Nat) : Fld := ⟨8 * 0xD0100 + 25 + 32 * h, 1, 0⟩
/-- SRV_HDAh_STS[24:24] INHIBIT, RO: INHIBIT of the last SOUT (spec/11_hda_servo_spindle.md). -/
def SRV.HDAh_STS.INHIBIT (h : Nat) : Fld := ⟨8 * 0xD0100 + 24 + 32 * h, 1, 1⟩
/-- SRV_HDAh_STS[15:8] PES_RMS, RO: RMS PES over 100 ms in FOLLOW, 1/256 pitch, saturating; the PES of R324 (spec/11_hda_servo_spindle.md). -/
def SRV.HDAh_STS.PES_RMS (h : Nat) : Fld := ⟨8 * 0xD0100 + 8 + 32 * h, 8, 0⟩
/-- SPN_STS[3:3] SYNC_LOST, W1C: The reference was lost (R352) (spec/11_hda_servo_spindle.md). -/
def SPN.STS.SYNC_LOST : Fld := ⟨8 * 0xE0000 + 3, 1, 0⟩
/-- SPN_STS[2:2] OSC, W1C: A spindle oscillation was flagged (spec/11_hda_servo_spindle.md). -/
def SPN.STS.OSC : Fld := ⟨8 * 0xE0000 + 2, 1, 0⟩
/-- SPN_STS[1:1] SW_WAIT, W1C: A spin-up waited for a shared switch (R353) (spec/11_hda_servo_spindle.md). -/
def SPN.STS.SW_WAIT : Fld := ⟨8 * 0xE0000 + 1, 1, 0⟩
/-- SPN_STS[0:0] SPINUP_FAIL, W1C: A spin-up reached FAULT (R355) (spec/11_hda_servo_spindle.md). -/
def SPN.STS.SPINUP_FAIL : Fld := ⟨8 * 0xE0000 + 0, 1, 0⟩
/-- SPN_CFG[31:24] MAX_SPINUP, RW: Concurrent spin-ups per head (8); 0 counts as 1, above 48 as 48 (spec/11_hda_servo_spindle.md). -/
def SPN.CFG.MAX_SPINUP : Fld := ⟨8 * 0xE0004 + 24, 8, 8⟩
/-- SPN_CFG[23:16] STAGGER_10MS, RW: Least interval between spin-up starts, in 10 ms (500 ms) (spec/11_hda_servo_spindle.md). -/
def SPN.CFG.STAGGER_10MS : Fld := ⟨8 * 0xE0004 + 16, 8, 0x32⟩
/-- SPN_CFG[15:0] IDLE_MIN, RW: Idle minutes before spin-down (30); 0 never spins down (spec/11_hda_servo_spindle.md). -/
def SPN.CFG.IDLE_MIN : Fld := ⟨8 * 0xE0004 + 0, 16, 0x1E⟩
/-- SPN_SYNC_CFG[31:31] EN, RW: Lock to SPINSYNC (spec/11_hda_servo_spindle.md). -/
def SPN.SYNC_CFG.EN : Fld := ⟨8 * 0xE0008 + 31, 1, 1⟩
/-- SPN_SYNC_CFG[23:16] DIV, RW: Revolutions per SPINSYNC period (1); 0 counts as 1 (spec/11_hda_servo_spindle.md). -/
def SPN.SYNC_CFG.DIV : Fld := ⟨8 * 0xE0008 + 16, 8, 1⟩
/-- SPN_SYNC_CFG[15:0] LOCK_NS, RW: Lock tolerance in ns (2,000); 0 counts as 1 (spec/11_hda_servo_spindle.md). -/
def SPN.SYNC_CFG.LOCK_NS : Fld := ⟨8 * 0xE0008 + 0, 16, 0x7D0⟩
/-- SPN_SYNC_STS[31:30] STATE, RO: 0b00 ABSENT; 0b01 TRACKING; 0b10 HOLDOVER; 0b11 reserved (spec/11_hda_servo_spindle.md). -/
def SPN.SYNC_STS.STATE : Fld := ⟨8 * 0xE000C + 30, 2, 0⟩
/-- SPN_SYNC_STS[15:0] REJECTED, RC: Edges rejected under R352, saturating (spec/11_hda_servo_spindle.md). -/
def SPN.SYNC_STS.REJECTED : Fld := ⟨8 * 0xE000C + 0, 16, 0⟩
/-- SPN_MOTOR_CFG[31:16] SLEW_PPM, RW: Loaded phase slew in ppm (200); above 400 counts as 400, 0 as 1 (spec/11_hda_servo_spindle.md). -/
def SPN.MOTOR_CFG.SLEW_PPM : Fld := ⟨8 * 0xE0010 + 16, 16, 0xC8⟩
/-- SPN_MOTOR_CFG[7:0] POLE_PAIRS, RW: Default pole pairs (4); 0 counts as 4 (spec/11_hda_servo_spindle.md). -/
def SPN.MOTOR_CFG.POLE_PAIRS : Fld := ⟨8 * 0xE0010 + 0, 8, 4⟩
/-- SPN_ACTIVE[23:16] SPINNING, RO: Spindles in SYNC, LOCKED or FREE (spec/11_hda_servo_spindle.md). -/
def SPN.ACTIVE.SPINNING : Fld := ⟨8 * 0xE0014 + 16, 8, 0⟩
/-- SPN_ACTIVE[15:8] ACCEL, RO: Spindles in ALIGN or ACCEL (spec/11_hda_servo_spindle.md). -/
def SPN.ACTIVE.ACCEL : Fld := ⟨8 * 0xE0014 + 8, 8, 0⟩
/-- SPN_ACTIVE[7:0] WAITING, RO: Spindles in WAIT (spec/11_hda_servo_spindle.md). -/
def SPN.ACTIVE.WAITING : Fld := ⟨8 * 0xE0014 + 0, 8, 0⟩
/-- SPN_HDAh_STS[31:28] STATE, RO: Table "Servo and Spindle Control" 8 (spec/11_hda_servo_spindle.md). -/
def SPN.HDAh_STS.STATE (h : Nat) : Fld := ⟨8 * 0xE0100 + 28 + 32 * h, 4, 0⟩
/-- SPN_HDAh_STS[27:27] SW_WAIT, RO: Waiting for the carrier's shared switch (spec/11_hda_servo_spindle.md). -/
def SPN.HDAh_STS.SW_WAIT (h : Nat) : Fld := ⟨8 * 0xE0100 + 27 + 32 * h, 1, 0⟩
/-- SPN_HDAh_STS[23:8] PHASE_ERR, RO: Mechanical phase error, signed, in 200 ns (spec/11_hda_servo_spindle.md). -/
def SPN.HDAh_STS.PHASE_ERR (h : Nat) : Fld := ⟨8 * 0xE0100 + 8 + 32 * h, 16, 0⟩
/-- SPN_HDAh_STS[7:0] SPEED_PCT, RO: Speed in % of 7,200 rpm, saturating (spec/11_hda_servo_spindle.md). -/
def SPN.HDAh_STS.SPEED_PCT (h : Nat) : Fld := ⟨8 * 0xE0100 + 0 + 32 * h, 8, 0⟩
/-- SPN_HDAh_PHASE[12:0] PHASE, RW: Phase offset in 1/16 wedge; writes the shadow table (R342) (spec/11_hda_servo_spindle.md). -/
def SPN.HDAh_PHASE.PHASE (h : Nat) : Fld := ⟨8 * 0xE0400 + 0 + 32 * h, 13, 0⟩
/-- RDN_STS[7:7] LOST_OVF, W1C: A volume lost its whole live image under R385 (spec/12_redundancy_rebuild.md). -/
def RDN.STS.LOST_OVF : Fld := ⟨8 * 0x100000 + 7, 1, 0⟩
/-- RDN_STS[6:6] SPARE_OUT, W1C: A strip found no spare under R378 (spec/12_redundancy_rebuild.md). -/
def RDN.STS.SPARE_OUT : Fld := ⟨8 * 0x100000 + 6, 1, 0⟩
/-- RDN_STS[5:5] REBUILD_LATE, W1C: A set's rebuild cannot meet TARGET_H (R380) (spec/12_redundancy_rebuild.md). -/
def RDN.STS.REBUILD_LATE : Fld := ⟨8 * 0x100000 + 5, 1, 0⟩
/-- RDN_STS[4:4] PINNED, W1C: A band was pinned (R385) (spec/12_redundancy_rebuild.md). -/
def RDN.STS.PINNED : Fld := ⟨8 * 0x100000 + 4, 1, 0⟩
/-- RDN_STS[3:3] LOST, W1C: A lost-range entry was added (spec/12_redundancy_rebuild.md). -/
def RDN.STS.LOST : Fld := ⟨8 * 0x100000 + 3, 1, 0⟩
/-- RDN_STS[2:2] RESYNC, RO: Resync runs (R371) (spec/12_redundancy_rebuild.md). -/
def RDN.STS.RESYNC : Fld := ⟨8 * 0x100000 + 2, 1, 0⟩
/-- RDN_STS[1:1] REBUILD, RO: Some set rebuilds or copies back (spec/12_redundancy_rebuild.md). -/
def RDN.STS.REBUILD : Fld := ⟨8 * 0x100000 + 1, 1, 0⟩
/-- RDN_STS[0:0] DEGRADED, RO: Some position is not ACTIVE (spec/12_redundancy_rebuild.md). -/
def RDN.STS.DEGRADED : Fld := ⟨8 * 0x100000 + 0, 1, 0⟩
/-- RDN_JSD_CFG[23:20] EXTRA, RW: Undecoded members allowed beyond the level (2); above 3 counts as 3 (spec/12_redundancy_rebuild.md). -/
def RDN.JSD_CFG.EXTRA : Fld := ⟨8 * 0x100004 + 20, 4, 2⟩
/-- RDN_JSD_CFG[19:16] STALL, RW: Outer iterations without progress before giving up (3); 0 counts as 1 (spec/12_redundancy_rebuild.md). -/
def RDN.JSD_CFG.STALL : Fld := ⟨8 * 0x100004 + 16, 4, 3⟩
/-- RDN_JSD_CFG[15:8] OUTER_IT, RW: Outer iterations (8); above 16 counts as 16, 0 as 1 (spec/12_redundancy_rebuild.md). -/
def RDN.JSD_CFG.OUTER_IT : Fld := ⟨8 * 0x100004 + 8, 8, 8⟩
/-- RDN_JSD_CFG[7:0] INNER_IT, RW: LDPC iterations per outer iteration (6); above 24 counts as 24, 0 as 1 (spec/12_redundancy_rebuild.md). -/
def RDN.JSD_CFG.INNER_IT : Fld := ⟨8 * 0x100004 + 0, 8, 6⟩
/-- RDN_REBUILD_CFG[31:24] SHARE_PCT, RW: Share of member rate while no stripe is critical (20); above 100 counts as 100 (spec/12_redundancy_rebuild.md). -/
def RDN.REBUILD_CFG.SHARE_PCT : Fld := ⟨8 * 0x100008 + 24, 8, 0x14⟩
/-- RDN_REBUILD_CFG[23:16] CRIT_PCT, RW: Share while a stripe is critical (60); below SHARE_PCT counts as SHARE_PCT (spec/12_redundancy_rebuild.md). -/
def RDN.REBUILD_CFG.CRIT_PCT : Fld := ⟨8 * 0x100008 + 16, 8, 0x3C⟩
/-- RDN_REBUILD_CFG[15:0] TARGET_H, RW: Target rebuild time in hours (24); 0 counts as 1 (spec/12_redundancy_rebuild.md). -/
def RDN.REBUILD_CFG.TARGET_H : Fld := ⟨8 * 0x100008 + 0, 16, 0x18⟩
/-- RDN_REBUILD_MIN[15:0] MIN_MBPS, RW: Rebuild floor per set in MB/s (200) (spec/12_redundancy_rebuild.md). -/
def RDN.REBUILD_MIN.MIN_MBPS : Fld := ⟨8 * 0x10000C + 0, 16, 0xC8⟩
/-- RDN_GATHER_CFG[31:16] CLOSE_MS, RW: Longest wait for a full stripe in ms (5,000); 0 counts as 1 (spec/12_redundancy_rebuild.md). -/
def RDN.GATHER_CFG.CLOSE_MS : Fld := ⟨8 * 0x100010 + 16, 16, 0x1388⟩
/-- RDN_GATHER_CFG[15:8] AHEAD, RW: Regions marked in advance per open band (4); 0 counts as 1, above 16 as 16 (spec/12_redundancy_rebuild.md). -/
def RDN.GATHER_CFG.AHEAD : Fld := ⟨8 * 0x100010 + 8, 8, 4⟩
/-- RDN_LOST_STS[31:24] PINNED, RO: Pinned bands, saturating (spec/12_redundancy_rebuild.md). -/
def RDN.LOST_STS.PINNED : Fld := ⟨8 * 0x100014 + 24, 8, 0⟩
/-- RDN_LOST_STS[16:0] USED, RO: Lost-range entries in use, 0–65,536 (spec/12_redundancy_rebuild.md). -/
def RDN.LOST_STS.USED : Fld := ⟨8 * 0x100014 + 0, 17, 0⟩
/-- RDN_JSD_OK[31:0] COUNT, RC: Columns recovered under R373, saturating (spec/12_redundancy_rebuild.md). -/
def RDN.JSD_OK.COUNT : Fld := ⟨8 * 0x100018 + 0, 32, 0⟩
/-- RDN_JSD_FAIL[31:0] COUNT, RC: Columns given up under R374, saturating (spec/12_redundancy_rebuild.md). -/
def RDN.JSD_FAIL.COUNT : Fld := ⟨8 * 0x10001C + 0, 32, 0⟩
/-- RDN_PAD_CNT[31:0] COUNT, RC: Stripes closed early under R368, saturating (spec/12_redundancy_rebuild.md). -/
def RDN.PAD_CNT.COUNT : Fld := ⟨8 * 0x100020 + 0, 32, 0⟩
/-- RDN_SETs_STS[31:29] STATE, RO: 0 NONE; 1 OK; 2 DEGRADED; 3 REBUILDING; 4 COPYBACK; 5 NO_ALLOC (spec/12_redundancy_rebuild.md). -/
def RDN.SETs_STS.STATE (s : Nat) : Fld := ⟨8 * 0x100100 + 29 + 32 * s, 3, 0⟩
/-- RDN_SETs_STS[23:16] REBUILD_PCT, RO: Progress of the current rebuild or copy-back on this head, in % (spec/12_redundancy_rebuild.md). -/
def RDN.SETs_STS.REBUILD_PCT (s : Nat) : Fld := ⟨8 * 0x100100 + 16 + 32 * s, 8, 0⟩
/-- RDN_SETs_STS[15:8] DECL_PCT, RO: Free spare strips in % (R378) (spec/12_redundancy_rebuild.md). -/
def RDN.SETs_STS.DECL_PCT (s : Nat) : Fld := ⟨8 * 0x100100 + 8 + 32 * s, 8, 0x64⟩
/-- RDN_SETs_STS[7:4] FAILED, RO: Positions that are not ACTIVE, saturating at 15 (spec/12_redundancy_rebuild.md). -/
def RDN.SETs_STS.FAILED (s : Nat) : Fld := ⟨8 * 0x100100 + 4 + 32 * s, 4, 0⟩
/-- RDN_SETs_STS[3:0] VERSIONS, RO: Live versions, 0–8 (spec/12_redundancy_rebuild.md). -/
def RDN.SETs_STS.VERSIONS (s : Nat) : Fld := ⟨8 * 0x100100 + 0 + 32 * s, 4, 0⟩
/-- SNP_STS[4:4] LAG, W1C: A volume's lag passed LAG_S (spec/13_snapshots_replication.md). -/
def SNP.STS.LAG : Fld := ⟨8 * 0x110000 + 4, 1, 0⟩
/-- SNP_STS[3:3] APPLY_FAIL, W1C: A target reported APPLY_FAIL (R405) (spec/13_snapshots_replication.md). -/
def SNP.STS.APPLY_FAIL : Fld := ⟨8 * 0x110000 + 3, 1, 0⟩
/-- SNP_STS[2:2] STALLED, W1C: A volume stalled (R405) (spec/13_snapshots_replication.md). -/
def SNP.STS.STALLED : Fld := ⟨8 * 0x110000 + 2, 1, 0⟩
/-- SNP_STS[1:1] REFUSED, W1C: A HELLO was refused (R406) (spec/13_snapshots_replication.md). -/
def SNP.STS.REFUSED : Fld := ⟨8 * 0x110000 + 1, 1, 0⟩
/-- SNP_STS[0:0] LINK_DOWN, W1C: A link went DOWN (R406) (spec/13_snapshots_replication.md). -/
def SNP.STS.LINK_DOWN : Fld := ⟨8 * 0x110000 + 0, 1, 0⟩
/-- SNP_CFG[31:16] LAG_S, RW: Lag alarm in s (600); 0 disables (spec/13_snapshots_replication.md). -/
def SNP.CFG.LAG_S : Fld := ⟨8 * 0x110004 + 16, 16, 0x258⟩
/-- SNP_CFG[15:8] KEEP_H, RW: Hours staged records are kept (24); 0 counts as 1 (spec/13_snapshots_replication.md). -/
def SNP.CFG.KEEP_H : Fld := ⟨8 * 0x110004 + 8, 8, 0x18⟩
/-- SNP_CFG[4:0] SLOT_LOG2, RW: Slot size for new links (4 MiB); outside 20–24 counts as 22 (spec/13_snapshots_replication.md). -/
def SNP.CFG.SLOT_LOG2 : Fld := ⟨8 * 0x110004 + 0, 5, 0x16⟩
/-- SNP_LINKl_STS[31:29] STATE, RO: 0 NONE; 1 DOWN; 2 HELLO; 3 UP; 4 STALLED; 5 REFUSED (spec/13_snapshots_replication.md). -/
def SNP.LINKl_STS.STATE (l : Nat) : Fld := ⟨8 * 0x110100 + 29 + 32 * l, 3, 0⟩
/-- SNP_LINKl_STS[28:28] ROLE, RO: 0 source; 1 target (spec/13_snapshots_replication.md). -/
def SNP.LINKl_STS.ROLE (l : Nat) : Fld := ⟨8 * 0x110100 + 28 + 32 * l, 1, 0⟩
/-- SNP_LINKl_STS[23:16] VOLUMES, RO: Volumes bound, saturating (spec/13_snapshots_replication.md). -/
def SNP.LINKl_STS.VOLUMES (l : Nat) : Fld := ⟨8 * 0x110100 + 16 + 32 * l, 8, 0⟩
/-- SNP_LINKl_STS[15:0] SLOTS_FREE, RO: Target slots free as last reported (spec/13_snapshots_replication.md). -/
def SNP.LINKl_STS.SLOTS_FREE (l : Nat) : Fld := ⟨8 * 0x110100 + 0 + 32 * l, 16, 0⟩
/-- NRN_STS[31:16] SEAL_FAIL, RC: Messages dropped under R414, saturating (spec/14_dual_head_nerryn.md). -/
def NRN.STS.SEAL_FAIL : Fld := ⟨8 * 0x120000 + 16, 16, 0⟩
/-- NRN_STS[6:6] QUORUM_LOST, W1C: This head became ISOLATED (R428) (spec/14_dual_head_nerryn.md). -/
def NRN.STS.QUORUM_LOST : Fld := ⟨8 * 0x120000 + 6, 1, 0⟩
/-- NRN_STS[5:5] TAKEOVER, W1C: This head took over (R427) (spec/14_dual_head_nerryn.md). -/
def NRN.STS.TAKEOVER : Fld := ⟨8 * 0x120000 + 5, 1, 0⟩
/-- NRN_STS[4:4] REFUSED, W1C: Synchronisation was refused (R416) (spec/14_dual_head_nerryn.md). -/
def NRN.STS.REFUSED : Fld := ⟨8 * 0x120000 + 4, 1, 0⟩
/-- NRN_STS[3:3] CAPO_SKIP, W1C: A scheduled capo swap was skipped (R423) (spec/14_dual_head_nerryn.md). -/
def NRN.STS.CAPO_SKIP : Fld := ⟨8 * 0x120000 + 3, 1, 0⟩
/-- NRN_STS[2:2] LANE_SPARE, W1C: A lane was spared or taken out of service (R411) (spec/14_dual_head_nerryn.md). -/
def NRN.STS.LANE_SPARE : Fld := ⟨8 * 0x120000 + 2, 1, 0⟩
/-- NRN_STS[1:1] SYNCED, RO: The partner is SYNCED (spec/14_dual_head_nerryn.md). -/
def NRN.STS.SYNCED : Fld := ⟨8 * 0x120000 + 1, 1, 0⟩
/-- NRN_STS[0:0] UP, RO: The link is trained (spec/14_dual_head_nerryn.md). -/
def NRN.STS.UP : Fld := ⟨8 * 0x120000 + 0, 1, 0⟩
/-- NRN_CFG[31:24] UNCORR_THR, RW: As FLK_CFG.UNCORR_THR, for Nerryn lanes (4); 0 counts as 1 (spec/14_dual_head_nerryn.md). -/
def NRN.CFG.UNCORR_THR : Fld := ⟨8 * 0x120004 + 24, 8, 4⟩
/-- NRN_CFG[23:16] SER_LOG2, RW: As FLK_CFG.SER_LOG2 (2^−20); below 10 counts as 10 (spec/14_dual_head_nerryn.md). -/
def NRN.CFG.SER_LOG2 : Fld := ⟨8 * 0x120004 + 16, 8, 0x14⟩
/-- NRN_CFG[15:8] HB_MISS, RW: Heartbeat periods before SILENT (10); below 3 counts as 3 (spec/14_dual_head_nerryn.md). -/
def NRN.CFG.HB_MISS : Fld := ⟨8 * 0x120004 + 8, 8, 0xA⟩
/-- NRN_CFG[7:0] HB_10US, RW: Heartbeat period in 10 µs (200 µs); 0 counts as 1 (spec/14_dual_head_nerryn.md). -/
def NRN.CFG.HB_10US : Fld := ⟨8 * 0x120004 + 0, 8, 0x14⟩
/-- NRN_CAPO_CFG[31:24] ABSENT_S, RW: Seconds after S1 before the partner counts as absent (20); 0 counts as 1 (spec/14_dual_head_nerryn.md). -/
def NRN.CAPO_CFG.ABSENT_S : Fld := ⟨8 * 0x12000C + 24, 8, 0x14⟩
/-- NRN_CAPO_CFG[23:16] DEFER_MAX_MIN, RW: Longest deferral of a scheduled capo swap in minutes (60) (spec/14_dual_head_nerryn.md). -/
def NRN.CAPO_CFG.DEFER_MAX_MIN : Fld := ⟨8 * 0x12000C + 16, 8, 0x3C⟩
/-- NRN_CAPO_CFG[7:0] PERIOD_H, RW: Capo swap period in hours (24); 0 stops scheduled swaps (spec/14_dual_head_nerryn.md). -/
def NRN.CAPO_CFG.PERIOD_H : Fld := ⟨8 * 0x12000C + 0, 8, 0x18⟩
/-- NRN_PAIR_STS[31:29] PARTNER, RO: Table "Dual Heads and the Nerryn Link" 2 (spec/14_dual_head_nerryn.md). -/
def NRN.PAIR_STS.PARTNER : Fld := ⟨8 * 0x120008 + 29, 3, 0⟩
/-- NRN_PAIR_STS[28:26] ROLE, RO: Table "Dual Heads and the Nerryn Link" 3 (spec/14_dual_head_nerryn.md). -/
def NRN.PAIR_STS.ROLE : Fld := ⟨8 * 0x120008 + 26, 3, 0⟩
/-- NRN_PAIR_STS[25:25] CAPO, RO: This head is capo (spec/14_dual_head_nerryn.md). -/
def NRN.PAIR_STS.CAPO : Fld := ⟨8 * 0x120008 + 25, 1, 0⟩
/-- NRN_PAIR_STS[24:24] SWAP_BUSY, RO: A capo swap is between events 1 and 3 (spec/14_dual_head_nerryn.md). -/
def NRN.PAIR_STS.SWAP_BUSY : Fld := ⟨8 * 0x120008 + 24, 1, 0⟩
/-- NRN_PAIR_STS[23:20] REFUSE_CAUSE, RO: Cause of R416 (spec/14_dual_head_nerryn.md). -/
def NRN.PAIR_STS.REFUSE_CAUSE : Fld := ⟨8 * 0x120008 + 20, 4, 0⟩
/-- NRN_PAIR_STS[15:8] RESYNC_PCT, RO: Progress of step 3 of R432, in % (spec/14_dual_head_nerryn.md). -/
def NRN.PAIR_STS.RESYNC_PCT : Fld := ⟨8 * 0x120008 + 8, 8, 0⟩
/-- NRN_LANE_STS[31:30] SPARES, RO: Usable spare lanes, 0–2 (spec/14_dual_head_nerryn.md). -/
def NRN.LANE_STS.SPARES : Fld := ⟨8 * 0x120010 + 30, 2, 2⟩
/-- NRN_LANE_STS[29:24] ACTIVE, RO: Active lanes, 0–16 (spec/14_dual_head_nerryn.md). -/
def NRN.LANE_STS.ACTIVE : Fld := ⟨8 * 0x120010 + 24, 6, 0⟩
/-- NRN_LANE_STS[17:0] FAILED, RO: Bit k is 1 if lane Nk is failed or out of service (spec/14_dual_head_nerryn.md). -/
def NRN.LANE_STS.FAILED : Fld := ⟨8 * 0x120010 + 0, 18, 0⟩
/-- NRN_PAIR_VER[31:0] VER, RO: Pair version (R421) (spec/14_dual_head_nerryn.md). -/
def NRN.PAIR_VER.VER : Fld := ⟨8 * 0x120014 + 0, 32, 0⟩
/-- NRN_KEY_EPOCH[31:0] EPOCH, RO: Current Nerryn key epoch (R414) (spec/14_dual_head_nerryn.md). -/
def NRN.KEY_EPOCH.EPOCH : Fld := ⟨8 * 0x120018 + 0, 32, 0⟩
/-- NRN_MIRROR[31:16] HELD_64M, RO: Partner data held in the mirror region, in 64 MiB units (spec/14_dual_head_nerryn.md). -/
def NRN.MIRROR.HELD_64M : Fld := ⟨8 * 0x12001C + 16, 16, 0⟩
/-- NRN_MIRROR[15:0] UNACKED_64K, RO: Own write data awaiting MIRROR_ACK, in 64 KiB units, saturating (spec/14_dual_head_nerryn.md). -/
def NRN.MIRROR.UNACKED_64K : Fld := ⟨8 * 0x12001C + 0, 16, 0⟩
/-- MEM_STS[3:3] REPAIR_PEND, W1C: A column awaits repair at cold reset (R449) (spec/15_memory_banks_cache.md). -/
def MEM.STS.REPAIR_PEND : Fld := ⟨8 * 0x130000 + 3, 1, 0⟩
/-- MEM_STS[2:2] BLOCK_SPARED, W1C: A background test spared a block (R450) (spec/15_memory_banks_cache.md). -/
def MEM.STS.BLOCK_SPARED : Fld := ⟨8 * 0x130000 + 2, 1, 0⟩
/-- MEM_STS[1:1] UE_SRAM, W1C: An SRAM word was poisoned (R445) (spec/15_memory_banks_cache.md). -/
def MEM.STS.UE_SRAM : Fld := ⟨8 * 0x130000 + 1, 1, 0⟩
/-- MEM_STS[0:0] UE, W1C: A DRAM burst was poisoned (R443) (spec/15_memory_banks_cache.md). -/
def MEM.STS.UE : Fld := ⟨8 * 0x130000 + 0, 1, 0⟩
/-- MEM_CFG[31:16] RATE_CAP, RW: Highest rate in MT/s (8,800) (R438) (spec/15_memory_banks_cache.md). -/
def MEM.CFG.RATE_CAP : Fld := ⟨8 * 0x130004 + 16, 16, 0x2260⟩
/-- MEM_CFG[15:8] SCRUB_H, RW: Scrub period in hours (24); 0 counts as 1 (spec/15_memory_banks_cache.md). -/
def MEM.CFG.SCRUB_H : Fld := ⟨8 * 0x130004 + 8, 8, 0x18⟩
/-- MEM_CFG[7:4] PPR_CE, RW: Correctable errors per row in 24 h for repair (4); 0 counts as 1 (spec/15_memory_banks_cache.md). -/
def MEM.CFG.PPR_CE : Fld := ⟨8 * 0x130004 + 4, 4, 4⟩
/-- MEM_CFG[3:0] COL_CE, RW: Corrected errors per column in 24 h for repair (8); 0 counts as 1 (spec/15_memory_banks_cache.md). -/
def MEM.CFG.COL_CE : Fld := ⟨8 * 0x130004 + 0, 4, 8⟩
/-- MEM_ERR[31:31] VALID, W1C: An uncorrectable error is recorded (spec/15_memory_banks_cache.md). -/
def MEM.ERR.VALID : Fld := ⟨8 * 0x130008 + 31, 1, 0⟩
/-- MEM_ERR[30:27] CHANNEL, RO: Channel 0–11 (spec/15_memory_banks_cache.md). -/
def MEM.ERR.CHANNEL : Fld := ⟨8 * 0x130008 + 27, 4, 0⟩
/-- MEM_ERR[24:0] ADDR_16K, RO: Quadrant address in 16 KiB units (spec/15_memory_banks_cache.md). -/
def MEM.ERR.ADDR_16K : Fld := ⟨8 * 0x130008 + 0, 25, 0⟩
/-- MEM_PPR_STS[31:16] HARD, RO: Rows repaired permanently, saturating (spec/15_memory_banks_cache.md). -/
def MEM.PPR_STS.HARD : Fld := ⟨8 * 0x13000C + 16, 16, 0⟩
/-- MEM_PPR_STS[15:0] SOFT, RO: Rows repaired since the last reset and awaiting hard repair (spec/15_memory_banks_cache.md). -/
def MEM.PPR_STS.SOFT : Fld := ⟨8 * 0x13000C + 0, 16, 0⟩
/-- MEM_BGT_CFG[31:31] EN, RW: Background test enabled (spec/15_memory_banks_cache.md). -/
def MEM.BGT_CFG.EN : Fld := ⟨8 * 0x130010 + 31, 1, 1⟩
/-- MEM_BGT_CFG[15:0] PERIOD_H, RW: Lap period in hours (24); 0 counts as 1 (spec/15_memory_banks_cache.md). -/
def MEM.BGT_CFG.PERIOD_H : Fld := ⟨8 * 0x130010 + 0, 16, 0x18⟩
/-- MEM_BGT_STS[31:24] LAP_PCT, RO: Progress of the current lap in % (spec/15_memory_banks_cache.md). -/
def MEM.BGT_STS.LAP_PCT : Fld := ⟨8 * 0x130014 + 24, 8, 0⟩
/-- MEM_BGT_STS[23:23] LATE, W1C: A lap ended late (R451) (spec/15_memory_banks_cache.md). -/
def MEM.BGT_STS.LATE : Fld := ⟨8 * 0x130014 + 23, 1, 0⟩
/-- MEM_BGT_STS[15:0] LAPS, RO: Laps since the last cold reset, saturating (spec/15_memory_banks_cache.md). -/
def MEM.BGT_STS.LAPS : Fld := ⟨8 * 0x130014 + 0, 16, 0⟩
/-- MEM_Qn_STS[31:22] USABLE_GIB, RO: Usable quadrant memory in GiB (R439) (spec/15_memory_banks_cache.md). -/
def MEM.Qn_STS.USABLE_GIB (n : Nat) : Fld := ⟨8 * 0x130020 + 22 + 32 * n, 10, 0⟩
/-- MEM_Qn_STS[21:20] TYPE, RO: 0b00 none; 0b01 RDIMM 1 per channel; 0b10 RDIMM 2 per channel; 0b11 MRDIMM (spec/15_memory_banks_cache.md). -/
def MEM.Qn_STS.TYPE (n : Nat) : Fld := ⟨8 * 0x130020 + 20 + 32 * n, 2, 0⟩
/-- MEM_Qn_STS[19:17] TRAINED, RO: Bit i is 1 if channel 3n + i trained (spec/15_memory_banks_cache.md). -/
def MEM.Qn_STS.TRAINED (n : Nat) : Fld := ⟨8 * 0x130020 + 17 + 32 * n, 3, 0⟩
/-- MEM_Qn_STS[16:16] CACHED_RESULTS, RO: Training used stored results (R440) (spec/15_memory_banks_cache.md). -/
def MEM.Qn_STS.CACHED_RESULTS (n : Nat) : Fld := ⟨8 * 0x130020 + 16 + 32 * n, 1, 0⟩
/-- MEM_Qn_STS[15:0] RATE, RO: Rate in MT/s (spec/15_memory_banks_cache.md). -/
def MEM.Qn_STS.RATE (n : Nat) : Fld := ⟨8 * 0x130020 + 0 + 32 * n, 16, 0⟩
/-- MEM_REPAIR_Qn_LO[31:0] BGT, RO: Bit b is 1 if bank b is in background mode now (spec/15_memory_banks_cache.md). -/
def MEM.REPAIR_Qn_LO.BGT (n : Nat) : Fld := ⟨8 * 0x130040 + 0 + 64 * n, 32, 0xFFFFFFFF⟩
/-- MEM_REPAIR_Qn_HI[15:0] BGT, RO: Bit b − 32 is 1 if bank b is in background mode now (spec/15_memory_banks_cache.md). -/
def MEM.REPAIR_Qn_HI.BGT (n : Nat) : Fld := ⟨8 * 0x130044 + 0 + 64 * n, 16, 0x7FFF⟩
/-- MEM_CHc_ERR[31:24] UE, RC: Uncorrectable bursts, saturating (spec/15_memory_banks_cache.md). -/
def MEM.CHc_ERR.UE (c : Nat) : Fld := ⟨8 * 0x130080 + 24 + 32 * c, 8, 0⟩
/-- MEM_CHc_ERR[23:0] CE, RC: Corrected bursts, saturating (spec/15_memory_banks_cache.md). -/
def MEM.CHc_ERR.CE (c : Nat) : Fld := ⟨8 * 0x130080 + 0 + 32 * c, 24, 0⟩
/-- MCC_CTL[11:8] PF_DEPTH, RW: Lines prefetched ahead (4); 0 counts as 1 (spec/15_memory_banks_cache.md). -/
def MCC.CTL.PF_DEPTH : Fld := ⟨8 * 0x140000 + 8, 4, 4⟩
/-- MCC_CTL[7:4] PF_EN, RW: Bit n enables prefetch in slice n (spec/15_memory_banks_cache.md). -/
def MCC.CTL.PF_EN : Fld := ⟨8 * 0x140000 + 4, 4, 0xF⟩
/-- MCC_CTL[3:0] EN, RW: Bit n enables slice n (R458) (spec/15_memory_banks_cache.md). -/
def MCC.CTL.EN : Fld := ⟨8 * 0x140000 + 0, 4, 0xF⟩
/-- MCC_STS[7:4] DRAINING, RO: Bit n is 1 while slice n drains (spec/15_memory_banks_cache.md). -/
def MCC.STS.DRAINING : Fld := ⟨8 * 0x140004 + 4, 4, 0⟩
/-- MCC_STS[3:0] DISABLED, RO: Bit n is 1 while slice n is disabled and empty (spec/15_memory_banks_cache.md). -/
def MCC.STS.DISABLED : Fld := ⟨8 * 0x140004 + 0, 4, 0⟩
/-- MCC_Qn_HIT[31:0] COUNT, RC: Demand hits, saturating (spec/15_memory_banks_cache.md). -/
def MCC.Qn_HIT.COUNT (n : Nat) : Fld := ⟨8 * 0x140010 + 0 + 128 * n, 32, 0⟩
/-- MCC_Qn_MISS[31:0] COUNT, RC: Demand misses, saturating (spec/15_memory_banks_cache.md). -/
def MCC.Qn_MISS.COUNT (n : Nat) : Fld := ⟨8 * 0x140014 + 0 + 128 * n, 32, 0⟩
/-- MCC_Qn_WB[31:0] COUNT, RC: Dirty lines written back, saturating (spec/15_memory_banks_cache.md). -/
def MCC.Qn_WB.COUNT (n : Nat) : Fld := ⟨8 * 0x140018 + 0 + 128 * n, 32, 0⟩
/-- MCC_Qn_PF[31:16] USED, RC: Prefetched lines used, saturating (spec/15_memory_banks_cache.md). -/
def MCC.Qn_PF.USED (n : Nat) : Fld := ⟨8 * 0x14001C + 16 + 128 * n, 16, 0⟩
/-- MCC_Qn_PF[15:0] WASTE, RC: Prefetched lines evicted unused, saturating (spec/15_memory_banks_cache.md). -/
def MCC.Qn_PF.WASTE (n : Nat) : Fld := ⟨8 * 0x14001C + 0 + 128 * n, 16, 0⟩
/-- PCI_STS[2:2] FATAL, RO: A fatal error stopped upstream requests (R472); clears at endpoint reset (spec/16_pcie_endpoint.md). -/
def PCI.STS.FATAL : Fld := ⟨8 * 0x150000 + 2, 1, 0⟩
/-- PCI_STS[1:1] POISON_WR, W1C: A poisoned write to BAR0, BAR2 or BAR4 was dropped (spec/16_pcie_endpoint.md). -/
def PCI.STS.POISON_WR : Fld := ⟨8 * 0x150000 + 1, 1, 0⟩
/-- PCI_STS[0:0] READ_FAIL, W1C: A read failed (R469) (spec/16_pcie_endpoint.md). -/
def PCI.STS.READ_FAIL : Fld := ⟨8 * 0x150000 + 0, 1, 0⟩
/-- PCI_CTL[16:16] EVT_INT_EN, RW: 1 signals EVT_VEC on a failed read (spec/16_pcie_endpoint.md). -/
def PCI.CTL.EVT_INT_EN : Fld := ⟨8 * 0x150004 + 16, 1, 0⟩
/-- PCI_CTL[10:0] EVT_VEC, RW: MSI-X vector (spec/16_pcie_endpoint.md). -/
def PCI.CTL.EVT_VEC : Fld := ⟨8 * 0x150004 + 0, 11, 0⟩
/-- PCI_LINK_STS[8:8] FLIT, RO: Flit mode in use, at whatever rate the link runs (spec/16_pcie_endpoint.md). -/
def PCI.LINK_STS.FLIT : Fld := ⟨8 * 0x150008 + 8, 1, 0⟩
/-- PCI_LINK_STS[7:4] WIDTH, RO: Negotiated width: 0x1 x1, 0x2 x2, 0x3 x4, 0x4 x8, 0x5 x16; 0x0 link down. Reported whenever the link is trained, whatever Bus Master Enable, the power state and R466 say. (spec/16_pcie_endpoint.md). -/
def PCI.LINK_STS.WIDTH : Fld := ⟨8 * 0x150008 + 4, 4, 0⟩
/-- PCI_LINK_STS[3:0] SPEED, RO: 0x1 2.5 to 0x6 64.0 GT/s; 0x0 link down. Reported whenever the link is trained, as WIDTH is. (spec/16_pcie_endpoint.md). -/
def PCI.LINK_STS.SPEED : Fld := ⟨8 * 0x150008 + 0, 4, 0⟩
/-- PCI_ERR[31:31] VALID, W1C: A failed read is recorded (spec/16_pcie_endpoint.md). -/
def PCI.ERR.VALID : Fld := ⟨8 * 0x15000C + 31, 1, 0⟩
/-- PCI_ERR[30:27] KIND, RO: Table "PCIe Endpoint" 5 (spec/16_pcie_endpoint.md). -/
def PCI.ERR.KIND : Fld := ⟨8 * 0x15000C + 27, 4, 0⟩
/-- PCI_ERR[26:24] CAUSE, RO: 1 timeout; 2 unsupported request; 3 completer abort; 4 poisoned; 5 context CRC (R470); 6 abandoned at an endpoint reset (R475) (spec/16_pcie_endpoint.md). -/
def PCI.ERR.CAUSE : Fld := ⟨8 * 0x15000C + 24, 3, 0⟩
/-- PCI_ERR[19:0] ID, RO: QPID or connection ID for kinds 1–4 and 7; zero otherwise (spec/16_pcie_endpoint.md). -/
def PCI.ERR.ID : Fld := ⟨8 * 0x15000C + 0, 20, 0⟩
/-- PCI_CTO_CNT[31:0] COUNT, RC: Completion timeouts, saturating (spec/16_pcie_endpoint.md). -/
def PCI.CTO_CNT.COUNT : Fld := ⟨8 * 0x150010 + 0, 32, 0⟩
/-- PCI_CORR_CNT[31:0] COUNT, RC: Correctable errors, saturating (spec/16_pcie_endpoint.md). -/
def PCI.CORR_CNT.COUNT : Fld := ⟨8 * 0x150014 + 0, 32, 0⟩
/-- PCI_ERR_CNT[31:0] COUNT, RC: Exception entries skipped under R469, saturating (spec/16_pcie_endpoint.md). -/
def PCI.ERR_CNT.COUNT : Fld := ⟨8 * 0x150018 + 0, 32, 0⟩
/-- EVR_STS[31:31] FULL, RO: Recording stopped (R483) (spec/17_event_recorder.md). -/
def EVR.STS.FULL : Fld := ⟨8 * 0x30000 + 31, 1, 0⟩
/-- EVR_STS[30:30] QOVF, W1C: The intake queue overflowed (spec/17_event_recorder.md). -/
def EVR.STS.QOVF : Fld := ⟨8 * 0x30000 + 30, 1, 0⟩
/-- EVR_STS[29:29] MIRROR_LAG, RO: More than 1,024 records unmirrored (R484) (spec/17_event_recorder.md). -/
def EVR.STS.MIRROR_LAG : Fld := ⟨8 * 0x30000 + 29, 1, 0⟩
/-- EVR_STS[28:28] ERASING, RO: The old mirror is being erased (R487) (spec/17_event_recorder.md). -/
def EVR.STS.ERASING : Fld := ⟨8 * 0x30000 + 28, 1, 0⟩
/-- EVR_STS[27:27] LOADING, RO: Mirror records are loading (R485) (spec/17_event_recorder.md). -/
def EVR.STS.LOADING : Fld := ⟨8 * 0x30000 + 27, 1, 1⟩
/-- EVR_STS[26:26] WALL, RO: Wall time is set (spec/17_event_recorder.md). -/
def EVR.STS.WALL : Fld := ⟨8 * 0x30000 + 26, 1, 0⟩
/-- EVR_STS[16:0] COUNT, RO: Records in the log, 0–65,536 (spec/17_event_recorder.md). -/
def EVR.STS.COUNT : Fld := ⟨8 * 0x30000 + 0, 17, 0⟩
/-- EVR_LOG[15:0] LOG, RO: Log number (spec/17_event_recorder.md). -/
def EVR.LOG.LOG : Fld := ⟨8 * 0x30004 + 0, 16, 0⟩
/-- EVR_DROPPED[31:0] COUNT, RO: Records dropped under R30 and R483, saturating; zeroed by a clear (spec/17_event_recorder.md). -/
def EVR.DROPPED.COUNT : Fld := ⟨8 * 0x30008 + 0, 32, 0⟩
/-- EVR_SUPP[31:0] COUNT, RC: Records suppressed under R480, saturating (spec/17_event_recorder.md). -/
def EVR.SUPP.COUNT : Fld := ⟨8 * 0x3000C + 0, 32, 0⟩
/-- EVR_CFG[31:24] DEF_RATE, RW: Default records per second (16); 0xFF unlimited (spec/17_event_recorder.md). -/
def EVR.CFG.DEF_RATE : Fld := ⟨8 * 0x30010 + 24, 8, 0x10⟩
/-- EVR_CFG[23:16] DEF_BURST, RW: Default burst (64); 0 counts as 1 (spec/17_event_recorder.md). -/
def EVR.CFG.DEF_BURST : Fld := ⟨8 * 0x30010 + 16, 8, 0x40⟩
/-- EVR_CFG[15:0] READ_IDS, RWL: Bit i permits identity i to read (identities 0, 2, 4, 7) (spec/17_event_recorder.md). -/
def EVR.CFG.READ_IDS : Fld := ⟨8 * 0x30010 + 0, 16, 0x95⟩
/-- EVR_CTL[0:0] LOCK, RWL: Write 1 to lock READ_IDS until reset (spec/17_event_recorder.md). -/
def EVR.CTL.LOCK : Fld := ⟨8 * 0x30014 + 0, 1, 0⟩
/-- EVR_MIRROR[16:0] MIRRORED, RO: Records durable in the mirror (spec/17_event_recorder.md). -/
def EVR.MIRROR.MIRRORED : Fld := ⟨8 * 0x30018 + 0, 17, 0⟩
/-- EVR_RD_IDX[15:0] INDEX, RW: Slot shown in EVR_RD_DATA0–15 (spec/17_event_recorder.md). -/
def EVR.RD_IDX.INDEX : Fld := ⟨8 * 0x30020 + 0, 16, 0⟩
/-- EVR_RD_DATAw[31:0] DATA, RO: Bytes 4w to 4w + 3 of the record; zero under R486 (spec/17_event_recorder.md). -/
def EVR.RD_DATAw.DATA (w : Nat) : Fld := ⟨8 * 0x30040 + 0 + 32 * w, 32, 0⟩
/-- UPD_STS[31:28] STATE, RO: 0 IDLE; 1 LOADING; 2 LOADED; 3 STAGING; 4 SWITCHING; 5 WRITING; 6 RESTARTING; 7 HELD: the image region holds the new image, and the head runs the old one until its next warm or cold reset (R505) (spec/18_firmware_update.md). -/
def UPD.STS.STATE : Fld := ⟨8 * 0x160000 + 28, 4, 0⟩
/-- UPD_STS[23:16] PCT, RO: Progress of the current state in % (spec/18_firmware_update.md). -/
def UPD.STS.PCT : Fld := ⟨8 * 0x160000 + 16, 8, 0⟩
/-- UPD_STS[2:2] FUSE_FULL, RO: All 255 version slots are used (R495) (spec/18_firmware_update.md). -/
def UPD.STS.FUSE_FULL : Fld := ⟨8 * 0x160000 + 2, 1, 0⟩
/-- UPD_STS[1:1] REVERTED, W1C: Components were reverted (R500) (spec/18_firmware_update.md). -/
def UPD.STS.REVERTED : Fld := ⟨8 * 0x160000 + 1, 1, 0⟩
/-- UPD_STS[0:0] FAIL, W1C: An activation failed (R500) (spec/18_firmware_update.md). -/
def UPD.STS.FAIL : Fld := ⟨8 * 0x160000 + 0, 1, 0⟩
/-- UPD_RUN_VER[31:0] VER, RO: Version of the running image (spec/18_firmware_update.md). -/
def UPD.RUN_VER.VER : Fld := ⟨8 * 0x160004 + 0, 32, 0⟩
/-- UPD_LOAD_VER[31:0] VER, RO: Version of the loaded image; 0 if none (spec/18_firmware_update.md). -/
def UPD.LOAD_VER.VER : Fld := ⟨8 * 0x160008 + 0, 32, 0⟩
/-- UPD_FLOOR[31:0] VER, RO: Lowest version accepted (R495); 0 on E and P (spec/18_firmware_update.md). -/
def UPD.FLOOR.VER : Fld := ⟨8 * 0x16000C + 0, 32, 0⟩
/-- UPD_SET_STS[31:16] FORMAT, RO: FORMAT of the current settings slot (spec/18_firmware_update.md). -/
def UPD.SET_STS.FORMAT : Fld := ⟨8 * 0x160010 + 16, 16, 0⟩
/-- UPD_SET_STS[0:0] SLOT, RO: Current settings slot (spec/18_firmware_update.md). -/
def UPD.SET_STS.SLOT : Fld := ⟨8 * 0x160010 + 0, 1, 0⟩
/-- UPD_COMP_OUT[7:0] COUNT, RO: Modules and carriers whose running version differs from the manifest (spec/18_firmware_update.md). -/
def UPD.COMP_OUT.COUNT : Fld := ⟨8 * 0x160014 + 0, 8, 0⟩
/-- SYS_ACC_ERR[31:31] VALID, W1C: A refused write is recorded (spec/20_register_index.md). -/
def SYS.ACC_ERR.VALID : Fld := ⟨8 * 0x60 + 31, 1, 0⟩
/-- SYS_ACC_ERR[30:28] CAUSE, RO: 1 locked field (R523); 2 identity not permitted (R515); 3 partial or misaligned (R465); 4 shadow write while PEND (R27) (spec/20_register_index.md). -/
def SYS.ACC_ERR.CAUSE : Fld := ⟨8 * 0x60 + 28, 3, 0⟩
/-- SYS_ACC_ERR[27:24] IDENT, RO: Identity of the write (spec/20_register_index.md). -/
def SYS.ACC_ERR.IDENT : Fld := ⟨8 * 0x60 + 24, 4, 0⟩
/-- SYS_ACC_ERR[23:0] OFFSET_W, RO: BAR0 offset of the write, in 4-byte units (spec/20_register_index.md). -/
def SYS.ACC_ERR.OFFSET_W : Fld := ⟨8 * 0x60 + 0, 24, 0⟩
/-- SYS_ACC_CNT[31:0] COUNT, RC: Refused writes, saturating (spec/20_register_index.md). -/
def SYS.ACC_CNT.COUNT : Fld := ⟨8 * 0x64 + 0, 32, 0⟩

/-- The access table of the SYS block. -/
def regTableSYS : List RDesc := [
  -- SYS_ID
  ⟨0x0, 1, 0, [⟨0, 4, .ro, 3⟩, ⟨8, 4, .ro, 0⟩, ⟨12, 4, .ro, 0⟩, ⟨16, 16, .ro, 0x880⟩]⟩,
  -- SYS_HEAD
  ⟨0x4, 1, 0, [⟨0, 1, .ro, 0⟩]⟩,
  -- SYS_CLMAP_Qn
  ⟨0x10, 4, 4, [⟨0, 4, .ro, 0⟩, ⟨4, 4, .ro, 1⟩, ⟨8, 4, .ro, 2⟩, ⟨12, 4, .ro, 3⟩, ⟨16, 4, .ro, 4⟩, ⟨20, 4, .ro, 5⟩, ⟨24, 4, .ro, 6⟩, ⟨28, 4, .ro, 7⟩]⟩,
  -- SYS_SPARE_STS
  ⟨0x20, 1, 0, [⟨0, 4, .ro, 0⟩, ⟨6, 1, .ro, 0⟩, ⟨7, 1, .ro, 0⟩, ⟨8, 4, .ro, 0⟩, ⟨14, 1, .ro, 0⟩, ⟨15, 1, .ro, 0⟩, ⟨16, 4, .ro, 0⟩, ⟨22, 1, .ro, 0⟩, ⟨23, 1, .ro, 0⟩, ⟨24, 4, .ro, 0⟩, ⟨30, 1, .ro, 0⟩, ⟨31, 1, .ro, 0⟩]⟩,
  -- SYS_HEALTH_SUM0
  ⟨0x24, 1, 0, [⟨0, 8, .ro, 0x64⟩, ⟨8, 8, .ro, 0x64⟩, ⟨16, 8, .ro, 0x64⟩, ⟨24, 8, .ro, 0x64⟩]⟩,
  -- SYS_HEALTH_SUM1
  ⟨0x28, 1, 0, [⟨0, 8, .ro, 0x64⟩, ⟨8, 8, .ro, 0x64⟩, ⟨16, 8, .ro, 0x64⟩, ⟨24, 8, .ro, 0x64⟩]⟩,
  -- SYS_EPOCH_CTL
  ⟨0x30, 1, 0, [⟨0, 1, .wo, 0⟩, ⟨1, 1, .wo, 0⟩]⟩,
  -- SYS_EPOCH_STS
  ⟨0x34, 1, 0, [⟨0, 1, .ro, 0⟩, ⟨1, 1, .ro, 0⟩, ⟨2, 1, .w1c, 0⟩]⟩,
  -- SYS_EPOCH_NUM
  ⟨0x38, 1, 0, [⟨0, 32, .ro, 1⟩]⟩,
  -- SYS_EPOCH_RET
  ⟨0x3C, 1, 0, [⟨0, 20, .ro, 0⟩]⟩,
  -- SYS_START_STS
  ⟨0x40, 1, 0, [⟨0, 3, .ro, 0⟩, ⟨3, 1, .ro, 0⟩, ⟨12, 4, .ro, 0⟩, ⟨16, 4, .ro, 0⟩, ⟨20, 4, .ro, 0⟩, ⟨24, 4, .ro, 0⟩, ⟨30, 1, .ro, 0⟩, ⟨31, 1, .ro, 0⟩]⟩,
  -- SYS_START_CFG
  ⟨0x44, 1, 0, [⟨0, 4, .rw, 8⟩, ⟨6, 2, .rw, 0⟩, ⟨8, 1, .rw, 1⟩]⟩,
  -- SYS_RST_CTL
  ⟨0x48, 1, 0, [⟨0, 1, .wo, 0⟩, ⟨1, 1, .wo, 0⟩, ⟨2, 1, .wo, 0⟩, ⟨16, 16, .wo, 0⟩]⟩,
  -- SYS_RST_CAUSE
  ⟨0x4C, 1, 0, [⟨0, 1, .w1c, 1⟩, ⟨2, 1, .w1c, 0⟩, ⟨3, 1, .w1c, 0⟩, ⟨4, 1, .w1c, 0⟩, ⟨5, 1, .w1c, 0⟩, ⟨6, 1, .w1c, 0⟩, ⟨24, 8, .ro, 0⟩]⟩,
  -- SYS_STAGE_T
  ⟨0x50, 1, 0, [⟨0, 16, .ro, 0xFFFF⟩, ⟨16, 16, .ro, 0xFFFF⟩]⟩,
  -- SYS_ACC_ERR
  ⟨0x60, 1, 0, [⟨0, 24, .ro, 0⟩, ⟨24, 4, .ro, 0⟩, ⟨28, 3, .ro, 0⟩, ⟨31, 1, .w1c, 0⟩]⟩,
  -- SYS_ACC_CNT
  ⟨0x64, 1, 0, [⟨0, 32, .rc, 0⟩]⟩]

/-- The access table of the PWR block. -/
def regTablePWR : List RDesc := [
  -- PWR_FEED_STS
  ⟨0x10000, 1, 0, [⟨0, 3, .ro, 0⟩, ⟨4, 3, .ro, 0⟩, ⟨8, 1, .ro, 0⟩, ⟨9, 1, .ro, 0⟩, ⟨10, 1, .w1c, 0⟩, ⟨11, 1, .w1c, 0⟩, ⟨16, 1, .ro, 0⟩]⟩,
  -- PWR_FEED_CTL
  ⟨0x10004, 1, 0, [⟨0, 1, .wo, 0⟩, ⟨1, 1, .wo, 0⟩, ⟨2, 1, .wo, 0⟩]⟩,
  -- PWR_FEED_CFG
  ⟨0x10008, 1, 0, [⟨0, 12, .rw, 0x438⟩, ⟨12, 12, .rw, 0x528⟩, ⟨24, 8, .rw, 0xA⟩]⟩,
  -- PWR_SWAP_CFG
  ⟨0x1000C, 1, 0, [⟨0, 8, .rw, 0x18⟩, ⟨8, 8, .rw, 0x3C⟩]⟩,
  -- PWR_SPRINT_CFG
  ⟨0x10010, 1, 0, [⟨8, 8, .rw, 0x5A⟩, ⟨16, 8, .rw, 0x1E⟩, ⟨31, 1, .rw, 1⟩]⟩,
  -- PWR_CAP
  ⟨0x10014, 1, 0, [⟨0, 9, .rw, 0x12C⟩, ⟨16, 9, .rw, 0x168⟩]⟩,
  -- PWR_SPRINT_STS
  ⟨0x10018, 1, 0, [⟨4, 10, .ro, 0x384⟩, ⟨14, 1, .ro, 0⟩, ⟨15, 1, .ro, 0⟩, ⟨16, 9, .ro, 0x168⟩]⟩,
  -- PWR_MEAS
  ⟨0x1001C, 1, 0, [⟨0, 9, .ro, 0⟩, ⟨16, 9, .ro, 0⟩]⟩,
  -- PWR_THERM_CFG
  ⟨0x10020, 1, 0, [⟨0, 8, .rw, 0x5F⟩, ⟨8, 8, .rw, 0x66⟩, ⟨16, 8, .ro, 0x70⟩]⟩,
  -- PWR_THERM_STS
  ⟨0x10024, 1, 0, [⟨0, 4, .ro, 0⟩, ⟨4, 1, .ro, 0⟩, ⟨5, 1, .w1c, 0⟩, ⟨8, 8, .ro, 0⟩]⟩,
  -- PWR_IDLE
  ⟨0x10028, 1, 0, [⟨0, 16, .rw, 0x64⟩, ⟨16, 16, .rw, 0xA⟩]⟩,
  -- PWR_GATE_STS
  ⟨0x1002C, 1, 0, [⟨0, 32, .ro, 0xFFFFFFFF⟩]⟩]

/-- The access table of the CLK block. -/
def regTableCLK : List RDesc := [
  -- CLK_REF_STS
  ⟨0x20000, 1, 0, [⟨0, 1, .ro, 0⟩, ⟨1, 1, .ro, 0⟩, ⟨2, 1, .ro, 0⟩]⟩,
  -- CLK_Qn_CTL
  ⟨0x20010, 4, 8, [⟨0, 4, .rw, 0⟩, ⟨4, 1, .rw, 0⟩]⟩,
  -- CLK_Qn_STS
  ⟨0x20014, 4, 8, [⟨0, 4, .ro, 0⟩, ⟨6, 1, .ro, 0⟩, ⟨7, 1, .ro, 1⟩]⟩]

/-- The access table of the CMD block. -/
def regTableCMD : List RDesc := [
  -- CMD_STS
  ⟨0x40000, 1, 0, [⟨8, 8, .ro, 0⟩, ⟨16, 8, .ro, 0⟩, ⟨31, 1, .ro, 0⟩]⟩,
  -- CMD_LOAD
  ⟨0x40004, 1, 0, [⟨0, 8, .ro, 0⟩, ⟨8, 8, .rc, 0⟩]⟩,
  -- CMD_LOAD_CFG
  ⟨0x40008, 1, 0, [⟨0, 8, .rw, 0x55⟩, ⟨8, 8, .rw, 0x5F⟩]⟩,
  -- CMD_SESS_CFG
  ⟨0x4000C, 1, 0, [⟨0, 16, .rw, 0x384⟩, ⟨16, 8, .rw, 0x40⟩]⟩,
  -- CMD_WDOG_CFG
  ⟨0x40010, 1, 0, [⟨0, 16, .rw, 0x1F4⟩, ⟨31, 1, .rw, 1⟩]⟩,
  -- CMD_WDOG_STS
  ⟨0x40014, 1, 0, [⟨0, 10, .ro, 0⟩, ⟨16, 2, .ro, 0⟩]⟩,
  -- CMD_CORE_STS
  ⟨0x40018, 1, 0, [⟨0, 10, .ro, 0xFF⟩, ⟨10, 10, .ro, 0⟩, ⟨26, 2, .ro, 2⟩, ⟨28, 4, .ro, 0⟩]⟩,
  -- CMD_BUSY_CNT
  ⟨0x4001C, 1, 0, [⟨0, 16, .rc, 0⟩, ⟨16, 16, .rc, 0⟩]⟩,
  -- CMD_WDOG_KICK
  ⟨0x40020, 1, 0, [⟨0, 32, .wo, 0⟩]⟩]

/-- The access table of the MBX block. -/
def regTableMBX : List RDesc := [
  -- MBX_BIND_LOCK
  ⟨0x200000, 1, 0, [⟨0, 1, .rwl, 0⟩]⟩,
  -- MBX_ERR
  ⟨0x200004, 1, 0, [⟨0, 6, .ro, 0⟩, ⟨8, 4, .ro, 0⟩, ⟨16, 3, .ro, 0⟩, ⟨31, 1, .w1c, 0⟩]⟩,
  -- MBX_CHn_BIND
  ⟨0x200100, 64, 64, [⟨0, 4, .rwl, 0⟩, ⟨4, 4, .rwl, 0⟩, ⟨8, 1, .rwl, 0⟩, ⟨9, 1, .rwl, 0⟩]⟩,
  -- MBX_CHn_STS
  ⟨0x200104, 64, 64, [⟨0, 1, .ro, 0⟩, ⟨1, 1, .ro, 0⟩, ⟨2, 1, .w1c, 0⟩, ⟨3, 1, .w1c, 0⟩, ⟨16, 4, .ro, 0⟩]⟩,
  -- MBX_CHn_SEND
  ⟨0x200108, 64, 64, [⟨0, 13, .wo, 0⟩]⟩,
  -- MBX_CHn_RECV
  ⟨0x20010C, 64, 64, [⟨0, 13, .rc, 0⟩, ⟨31, 1, .rc, 0⟩]⟩,
  -- MBX_CHn_WDRAW
  ⟨0x200120, 64, 64, [⟨0, 1, .rc, 0⟩]⟩,
  -- MBX_CHn_LOCK
  ⟨0x200110, 64, 64, [⟨0, 4, .rw, 0⟩]⟩,
  -- MBX_CHn_DB_SET
  ⟨0x200114, 64, 64, [⟨0, 32, .wo, 0⟩]⟩,
  -- MBX_CHn_DB_PEND
  ⟨0x200118, 64, 64, [⟨0, 32, .w1c, 0⟩]⟩,
  -- MBX_CHn_DB_MASK
  ⟨0x20011C, 64, 64, [⟨0, 32, .rw, 0xFFFFFFFF⟩]⟩,
  -- MBX_CHn_NOTIFY
  ⟨0x200124, 64, 64, [⟨0, 11, .rw, 0⟩, ⟨16, 11, .rw, 0⟩]⟩]

/-- The access table of the HQ block. -/
def regTableHQ : List RDesc := [
  -- HQ_CTL
  ⟨0x50000, 1, 0, [⟨0, 11, .rw, 0⟩, ⟨16, 1, .rw, 0⟩, ⟨31, 1, .rwl, 0⟩]⟩,
  -- HQ_STS
  ⟨0x50004, 1, 0, [⟨0, 1, .w1c, 0⟩, ⟨1, 1, .w1c, 0⟩, ⟨2, 1, .w1c, 0⟩]⟩,
  -- HQ_ERR
  ⟨0x50008, 1, 0, [⟨0, 20, .ro, 0⟩, ⟨24, 4, .ro, 0⟩, ⟨31, 1, .w1c, 0⟩]⟩,
  -- HQ_SPILL_LO
  ⟨0x50010, 1, 0, [⟨0, 1, .rwl, 0⟩, ⟨12, 20, .rwl, 0⟩]⟩,
  -- HQ_SPILL_HI
  ⟨0x50014, 1, 0, [⟨0, 32, .rwl, 0⟩]⟩,
  -- HQ_LOCK_STS
  ⟨0x50018, 1, 0, [⟨0, 14, .rc, 0⟩, ⟨16, 16, .ro, 0⟩]⟩,
  -- HQ_CTX_STS
  ⟨0x5001C, 1, 0, [⟨0, 17, .ro, 0⟩]⟩,
  -- HQ_CTX_MISS
  ⟨0x50020, 1, 0, [⟨0, 32, .rc, 0⟩]⟩]

/-- The access table of the VRM block. -/
def regTableVRM : List RDesc := [
  -- VRM_CTL
  ⟨0x60000, 1, 0, [⟨0, 11, .rw, 0⟩, ⟨16, 1, .rw, 0⟩, ⟨31, 1, .rwl, 0⟩]⟩,
  -- VRM_STS
  ⟨0x60004, 1, 0, [⟨0, 1, .w1c, 0⟩, ⟨1, 1, .w1c, 0⟩, ⟨2, 1, .w1c, 0⟩]⟩,
  -- VRM_CFG
  ⟨0x60008, 1, 0, [⟨0, 8, .rw, 0x14⟩, ⟨8, 4, .rw, 4⟩, ⟨12, 4, .rw, 8⟩, ⟨16, 16, .rw, 0x2F3A⟩]⟩,
  -- VRM_TMO
  ⟨0x6000C, 1, 0, [⟨0, 10, .rw, 0x64⟩, ⟨10, 10, .rw, 0x32⟩, ⟨20, 12, .rw, 0x3E8⟩]⟩,
  -- VRM_SPILL_LO
  ⟨0x60010, 1, 0, [⟨0, 1, .rwl, 0⟩, ⟨12, 20, .rwl, 0⟩]⟩,
  -- VRM_SPILL_HI
  ⟨0x60014, 1, 0, [⟨0, 32, .rwl, 0⟩]⟩,
  -- VRM_CTX_STS
  ⟨0x60018, 1, 0, [⟨0, 17, .ro, 0⟩]⟩,
  -- VRM_CTX_MISS
  ⟨0x6001C, 1, 0, [⟨0, 32, .rc, 0⟩]⟩,
  -- VRM_STAMP
  ⟨0x60020, 1, 0, [⟨0, 32, .ro, 0⟩]⟩,
  -- VRM_STAMP_HI
  ⟨0x60024, 1, 0, [⟨0, 8, .ro, 0⟩]⟩,
  -- VRM_DROP
  ⟨0x60028, 1, 0, [⟨0, 16, .rc, 0⟩, ⟨16, 16, .rc, 0⟩]⟩,
  -- VRM_DROP2
  ⟨0x6002C, 1, 0, [⟨0, 16, .rc, 0⟩, ⟨16, 16, .rc, 0⟩]⟩,
  -- VRM_PORTp_CFG
  ⟨0x60040, 8, 8, [⟨0, 14, .rw, 0x2400⟩, ⟨16, 8, .rw, 0x60⟩, ⟨24, 3, .rw, 3⟩, ⟨27, 1, .rw, 0⟩, ⟨28, 2, .rw, 0⟩, ⟨30, 1, .rw, 1⟩, ⟨31, 1, .rw, 0⟩]⟩,
  -- VRM_PORTp_STS
  ⟨0x60044, 8, 8, [⟨0, 4, .ro, 0⟩, ⟨4, 4, .ro, 0⟩, ⟨8, 4, .ro, 0⟩]⟩]

/-- The access table of the XF block. -/
def regTableXF : List RDesc := [
  -- XF_STS
  ⟨0x70000, 1, 0, [⟨0, 1, .w1c, 0⟩, ⟨1, 1, .w1c, 0⟩, ⟨2, 1, .w1c, 0⟩, ⟨3, 1, .w1c, 0⟩]⟩,
  -- XF_DEDUP_CFG
  ⟨0x70004, 1, 0, [⟨0, 9, .rw, 0x20⟩]⟩,
  -- XF_DEDUP_STS
  ⟨0x70008, 1, 0, [⟨0, 8, .ro, 0⟩, ⟨31, 1, .ro, 0⟩]⟩,
  -- XF_DEDUP_HIT
  ⟨0x7000C, 1, 0, [⟨0, 32, .rc, 0⟩]⟩,
  -- XF_DEDUP_MISS
  ⟨0x70010, 1, 0, [⟨0, 32, .rc, 0⟩]⟩,
  -- XF_RAW_CNT
  ⟨0x70014, 1, 0, [⟨0, 32, .rc, 0⟩]⟩,
  -- XF_CHECK_ERR
  ⟨0x70018, 1, 0, [⟨0, 16, .ro, 0⟩, ⟨16, 8, .ro, 0⟩, ⟨31, 1, .w1c, 0⟩]⟩,
  -- XF_ENT_STS
  ⟨0x7001C, 1, 0, [⟨0, 4, .ro, 0⟩, ⟨4, 4, .ro, 0⟩, ⟨8, 4, .ro, 0⟩, ⟨12, 4, .ro, 0⟩, ⟨16, 4, .ro, 0⟩, ⟨20, 4, .ro, 0⟩, ⟨24, 4, .ro, 0⟩, ⟨28, 4, .ro, 0⟩]⟩,
  -- XF_ENT_CFG
  ⟨0x70020, 1, 0, [⟨0, 8, .rw, 0x80⟩]⟩]

/-- The access table of the KDF block. -/
def regTableKDF : List RDesc := [
  -- KDF_STS
  ⟨0x80000, 1, 0, [⟨0, 1, .ro, 0⟩, ⟨1, 1, .ro, 0⟩, ⟨2, 1, .ro, 0⟩, ⟨3, 1, .ro, 0⟩]⟩,
  -- KDF_KCV_ARK
  ⟨0x80004, 1, 0, [⟨0, 32, .ro, 0⟩]⟩,
  -- KDF_KCV_FRK
  ⟨0x80008, 1, 0, [⟨0, 32, .ro, 0⟩]⟩,
  -- KDF_DERIVE_CNT
  ⟨0x8000C, 1, 0, [⟨0, 32, .rc, 0⟩]⟩,
  -- KDF_EXPORT_CNT
  ⟨0x80010, 1, 0, [⟨0, 32, .rc, 0⟩]⟩]

/-- The access table of the FTL block. -/
def regTableFTL : List RDesc := [
  -- FTL_STS
  ⟨0x90000, 1, 0, [⟨0, 1, .ro, 0⟩, ⟨2, 1, .w1c, 0⟩, ⟨3, 1, .ro, 0⟩, ⟨4, 4, .ro, 0⟩]⟩,
  -- FTL_MAP_CFG
  ⟨0x90004, 1, 0, [⟨0, 12, .rw, 0x20⟩]⟩,
  -- FTL_FINE_CFG
  ⟨0x90008, 1, 0, [⟨8, 8, .rw, 0x10⟩, ⟨16, 8, .rw, 0x18⟩, ⟨24, 8, .rw, 8⟩]⟩,
  -- FTL_HOST_CFG
  ⟨0x9000C, 1, 0, [⟨0, 16, .rwl, 0⟩, ⟨31, 1, .rwl, 0⟩]⟩,
  -- FTL_HOST_BASE_LO
  ⟨0x90010, 1, 0, [⟨0, 1, .rwl, 0⟩, ⟨12, 20, .rwl, 0⟩]⟩,
  -- FTL_HOST_BASE_HI
  ⟨0x90014, 1, 0, [⟨0, 32, .rwl, 0⟩]⟩,
  -- FTL_FREE_CFG
  ⟨0x90018, 1, 0, [⟨0, 8, .rw, 2⟩, ⟨8, 8, .rw, 4⟩, ⟨16, 8, .rw, 8⟩]⟩,
  -- FTL_OP_CFG
  ⟨0x9001C, 1, 0, [⟨0, 8, .rw, 0xA⟩, ⟨8, 8, .rw, 3⟩]⟩,
  -- FTL_DUMP_STS
  ⟨0x90020, 1, 0, [⟨0, 16, .ro, 0⟩, ⟨16, 12, .ro, 0⟩, ⟨28, 1, .ro, 0⟩, ⟨29, 1, .w1c, 0⟩, ⟨30, 1, .ro, 0⟩, ⟨31, 1, .ro, 0⟩]⟩,
  -- FTL_DIRTY
  ⟨0x90024, 1, 0, [⟨0, 32, .ro, 0⟩]⟩,
  -- FTL_HOST_BAD
  ⟨0x90028, 1, 0, [⟨0, 32, .rc, 0⟩]⟩]

/-- The access table of the FLK block. -/
def regTableFLK : List RDesc := [
  -- FLK_CFG
  ⟨0xA0000, 1, 0, [⟨8, 8, .rw, 7⟩, ⟨16, 8, .rw, 0x14⟩, ⟨24, 8, .rw, 4⟩]⟩,
  -- FLK_DOWN_LO
  ⟨0xA0008, 1, 0, [⟨0, 32, .ro, 0xFFFFFFFF⟩]⟩,
  -- FLK_DOWN_HI
  ⟨0xA000C, 1, 0, [⟨0, 16, .ro, 0xFFFF⟩]⟩,
  -- FLK_LINKk_STS
  ⟨0xA0100, 48, 16, [⟨0, 7, .ro, 0⟩, ⟨18, 2, .ro, 2⟩, ⟨20, 2, .ro, 1⟩, ⟨22, 2, .ro, 0⟩, ⟨25, 2, .ro, 0⟩, ⟨27, 1, .ro, 0⟩, ⟨28, 1, .ro, 0⟩, ⟨29, 1, .ro, 1⟩, ⟨30, 2, .ro, 0⟩]⟩,
  -- FLK_LINKk_CORR
  ⟨0xA0104, 48, 16, [⟨0, 32, .rc, 0⟩]⟩,
  -- FLK_LINKk_UNCORR
  ⟨0xA0108, 48, 16, [⟨0, 32, .rc, 0⟩]⟩,
  -- FLK_LINKk_REPLAY
  ⟨0xA010C, 48, 16, [⟨0, 32, .rc, 0⟩]⟩]

/-- The access table of the TUN block. -/
def regTableTUN : List RDesc := [
  -- TUN_STS
  ⟨0xB0000, 1, 0, [⟨1, 1, .w1c, 0⟩, ⟨2, 1, .w1c, 0⟩, ⟨3, 1, .w1c, 0⟩, ⟨4, 1, .w1c, 0⟩, ⟨5, 1, .w1c, 0⟩, ⟨6, 1, .ro, 0⟩]⟩,
  -- TUN_CAL_CFG
  ⟨0xB0004, 1, 0, [⟨0, 12, .rw, 0x800⟩, ⟨12, 4, .rw, 4⟩, ⟨16, 8, .rw, 2⟩, ⟨24, 8, .rw, 0xA⟩]⟩,
  -- TUN_VAL_CFG
  ⟨0xB0008, 1, 0, [⟨0, 12, .rw, 0x100⟩, ⟨12, 4, .rw, 2⟩, ⟨16, 8, .rw, 8⟩, ⟨24, 8, .rw, 0xA⟩]⟩,
  -- TUN_LOAD_CFG
  ⟨0xB000C, 1, 0, [⟨0, 8, .rw, 2⟩, ⟨8, 8, .rw, 8⟩, ⟨16, 8, .rw, 0x1E⟩, ⟨24, 8, .rw, 0x46⟩]⟩,
  -- TUN_DIST_CFG
  ⟨0xB0010, 1, 0, [⟨0, 8, .rw, 0x60⟩, ⟨8, 8, .rw, 0x5A⟩, ⟨16, 16, .rw, 0x64⟩]⟩,
  -- TUN_WEAR_CFG
  ⟨0xB0014, 1, 0, [⟨4, 4, .rw, 2⟩, ⟨8, 8, .rw, 0x30⟩, ⟨16, 8, .rw, 0x32⟩, ⟨24, 8, .rw, 0x90⟩]⟩,
  -- TUN_PAT_CFG
  ⟨0xB0018, 1, 0, [⟨0, 16, .rw, 0x90⟩, ⟨16, 8, .rw, 5⟩, ⟨24, 4, .rw, 5⟩, ⟨31, 1, .rw, 1⟩]⟩,
  -- TUN_PAT_STS
  ⟨0xB001C, 1, 0, [⟨0, 16, .ro, 0⟩, ⟨23, 1, .ro, 0⟩, ⟨24, 8, .ro, 0⟩]⟩,
  -- TUN_MODk_STS
  ⟨0xB0100, 48, 8, [⟨0, 8, .ro, 0⟩, ⟨8, 8, .ro, 0⟩, ⟨16, 8, .ro, 0⟩, ⟨25, 4, .ro, 0⟩, ⟨29, 3, .ro, 0⟩]⟩,
  -- TUN_MODk_WEAR
  ⟨0xB0104, 48, 8, [⟨0, 16, .ro, 0⟩, ⟨16, 16, .ro, 0⟩]⟩,
  -- TUN_HDA_STS
  ⟨0xB0400, 1, 0, [⟨0, 1, .w1c, 0⟩, ⟨1, 1, .w1c, 0⟩, ⟨16, 16, .ro, 0⟩]⟩,
  -- TUN_HDA_CAL
  ⟨0xB0404, 1, 0, [⟨0, 16, .rw, 0x400⟩, ⟨16, 4, .rw, 2⟩, ⟨20, 4, .rw, 8⟩, ⟨24, 8, .rw, 0x3C⟩]⟩,
  -- TUN_HDA_VAL
  ⟨0xB0408, 1, 0, [⟨0, 12, .rw, 0x80⟩, ⟨12, 4, .rw, 2⟩, ⟨16, 8, .rw, 8⟩, ⟨24, 8, .rw, 5⟩]⟩,
  -- TUN_HDA_LOAD
  ⟨0xB040C, 1, 0, [⟨0, 8, .rw, 0xC⟩, ⟨8, 8, .rw, 0x20⟩, ⟨16, 8, .rw, 4⟩, ⟨24, 8, .rw, 0xC⟩]⟩]

/-- The access table of the HRC block. -/
def regTableHRC : List RDesc := [
  -- HRC_STS
  ⟨0xC0000, 1, 0, [⟨0, 1, .w1c, 0⟩, ⟨1, 1, .w1c, 0⟩, ⟨2, 1, .w1c, 0⟩, ⟨3, 1, .w1c, 0⟩, ⟨4, 1, .w1c, 0⟩]⟩,
  -- HRC_DEC_CFG
  ⟨0xC0004, 1, 0, [⟨0, 8, .rw, 0x70⟩, ⟨8, 4, .rw, 4⟩, ⟨12, 4, .rw, 8⟩]⟩,
  -- HRC_POOL_CFG
  ⟨0xC0008, 1, 0, [⟨8, 8, .rw, 0x32⟩, ⟨16, 16, .rw, 0x1F4⟩]⟩,
  -- HRC_RCV_CFG
  ⟨0xC000C, 1, 0, [⟨0, 8, .rw, 1⟩, ⟨8, 8, .rw, 6⟩, ⟨16, 8, .rw, 0x40⟩]⟩,
  -- HRC_POOLn_STS
  ⟨0xC0010, 4, 4, [⟨0, 8, .ro, 0⟩, ⟨8, 8, .ro, 0x10⟩, ⟨24, 8, .ro, 0⟩]⟩,
  -- HRC_LIC
  ⟨0xC0020, 1, 0, [⟨0, 16, .ro, 0⟩, ⟨16, 16, .ro, 0⟩]⟩,
  -- HRC_REALLOC_CNT
  ⟨0xC0024, 1, 0, [⟨0, 32, .rc, 0⟩]⟩,
  -- HRC_OVERRUN_CNT
  ⟨0xC0028, 1, 0, [⟨0, 32, .rc, 0⟩]⟩,
  -- HRC_HDAh_STS
  ⟨0xC0100, 192, 4, [⟨0, 8, .rc, 0⟩, ⟨8, 8, .ro, 0⟩, ⟨16, 8, .ro, 0x64⟩, ⟨26, 2, .ro, 0⟩, ⟨28, 1, .ro, 0⟩, ⟨29, 3, .ro, 0⟩]⟩]

/-- The access table of the STR block. -/
def regTableSTR : List RDesc := [
  -- STR_CFG
  ⟨0xF0000, 1, 0, [⟨24, 8, .rw, 0x10⟩]⟩,
  -- STR_DOWN0
  ⟨0xF0004, 1, 0, [⟨0, 32, .ro, 0xFFFFFFFF⟩]⟩,
  -- STR_DOWN1
  ⟨0xF0008, 1, 0, [⟨0, 32, .ro, 0xFFFFFFFF⟩]⟩,
  -- STR_DOWN2
  ⟨0xF000C, 1, 0, [⟨0, 32, .ro, 0xFFFFFFFF⟩]⟩,
  -- STR_k_STS
  ⟨0xF0100, 96, 16, [⟨8, 8, .ro, 0⟩, ⟨16, 8, .ro, 0⟩, ⟨24, 1, .ro, 0⟩, ⟨25, 1, .ro, 0⟩, ⟨26, 1, .w1c, 0⟩, ⟨27, 1, .ro, 0⟩, ⟨28, 1, .ro, 0⟩, ⟨29, 1, .ro, 0⟩, ⟨30, 2, .ro, 0⟩]⟩,
  -- STR_k_RTLOST
  ⟨0xF0104, 96, 16, [⟨0, 32, .rc, 0⟩]⟩,
  -- STR_k_REPLAY
  ⟨0xF0108, 96, 16, [⟨0, 32, .rc, 0⟩]⟩,
  -- STR_k_UNCORR
  ⟨0xF010C, 96, 16, [⟨0, 32, .rc, 0⟩]⟩]

/-- The access table of the SRV block. -/
def regTableSRV : List RDesc := [
  -- SRV_STS
  ⟨0xD0000, 1, 0, [⟨0, 1, .w1c, 0⟩, ⟨1, 1, .w1c, 0⟩, ⟨2, 1, .w1c, 0⟩, ⟨3, 1, .w1c, 0⟩, ⟨4, 1, .w1c, 0⟩, ⟨5, 1, .w1c, 0⟩]⟩,
  -- SRV_CFG
  ⟨0xD0004, 1, 0, [⟨8, 8, .rw, 0x10⟩, ⟨16, 8, .rw, 0x10⟩, ⟨31, 1, .rw, 1⟩]⟩,
  -- SRV_TRACE_STS
  ⟨0xD0008, 1, 0, [⟨6, 1, .ro, 0⟩, ⟨7, 1, .ro, 0⟩, ⟨8, 8, .ro, 0⟩, ⟨16, 8, .ro, 0⟩, ⟨24, 8, .ro, 0⟩]⟩,
  -- SRV_ISSUE_LATE
  ⟨0xD000C, 1, 0, [⟨0, 32, .rc, 0⟩]⟩,
  -- SRV_MISS_CNT
  ⟨0xD0010, 1, 0, [⟨0, 32, .rc, 0⟩]⟩,
  -- SRV_DL_CNT
  ⟨0xD0014, 1, 0, [⟨0, 32, .rc, 0⟩]⟩,
  -- SRV_HDAh_STS
  ⟨0xD0100, 192, 4, [⟨8, 8, .ro, 0⟩, ⟨24, 1, .ro, 1⟩, ⟨25, 1, .ro, 0⟩, ⟨26, 2, .ro, 1⟩, ⟨28, 4, .ro, 0xF⟩]⟩]

/-- The access table of the SPN block. -/
def regTableSPN : List RDesc := [
  -- SPN_STS
  ⟨0xE0000, 1, 0, [⟨0, 1, .w1c, 0⟩, ⟨1, 1, .w1c, 0⟩, ⟨2, 1, .w1c, 0⟩, ⟨3, 1, .w1c, 0⟩]⟩,
  -- SPN_CFG
  ⟨0xE0004, 1, 0, [⟨0, 16, .rw, 0x1E⟩, ⟨16, 8, .rw, 0x32⟩, ⟨24, 8, .rw, 8⟩]⟩,
  -- SPN_SYNC_CFG
  ⟨0xE0008, 1, 0, [⟨0, 16, .rw, 0x7D0⟩, ⟨16, 8, .rw, 1⟩, ⟨31, 1, .rw, 1⟩]⟩,
  -- SPN_SYNC_STS
  ⟨0xE000C, 1, 0, [⟨0, 16, .rc, 0⟩, ⟨30, 2, .ro, 0⟩]⟩,
  -- SPN_MOTOR_CFG
  ⟨0xE0010, 1, 0, [⟨0, 8, .rw, 4⟩, ⟨16, 16, .rw, 0xC8⟩]⟩,
  -- SPN_ACTIVE
  ⟨0xE0014, 1, 0, [⟨0, 8, .ro, 0⟩, ⟨8, 8, .ro, 0⟩, ⟨16, 8, .ro, 0⟩]⟩,
  -- SPN_HDAh_STS
  ⟨0xE0100, 192, 4, [⟨0, 8, .ro, 0⟩, ⟨8, 16, .ro, 0⟩, ⟨27, 1, .ro, 0⟩, ⟨28, 4, .ro, 0⟩]⟩,
  -- SPN_HDAh_PHASE
  ⟨0xE0400, 192, 4, [⟨0, 13, .rw, 0⟩]⟩]

/-- The access table of the RDN block. -/
def regTableRDN : List RDesc := [
  -- RDN_STS
  ⟨0x100000, 1, 0, [⟨0, 1, .ro, 0⟩, ⟨1, 1, .ro, 0⟩, ⟨2, 1, .ro, 0⟩, ⟨3, 1, .w1c, 0⟩, ⟨4, 1, .w1c, 0⟩, ⟨5, 1, .w1c, 0⟩, ⟨6, 1, .w1c, 0⟩, ⟨7, 1, .w1c, 0⟩]⟩,
  -- RDN_JSD_CFG
  ⟨0x100004, 1, 0, [⟨0, 8, .rw, 6⟩, ⟨8, 8, .rw, 8⟩, ⟨16, 4, .rw, 3⟩, ⟨20, 4, .rw, 2⟩]⟩,
  -- RDN_REBUILD_CFG
  ⟨0x100008, 1, 0, [⟨0, 16, .rw, 0x18⟩, ⟨16, 8, .rw, 0x3C⟩, ⟨24, 8, .rw, 0x14⟩]⟩,
  -- RDN_REBUILD_MIN
  ⟨0x10000C, 1, 0, [⟨0, 16, .rw, 0xC8⟩]⟩,
  -- RDN_GATHER_CFG
  ⟨0x100010, 1, 0, [⟨8, 8, .rw, 4⟩, ⟨16, 16, .rw, 0x1388⟩]⟩,
  -- RDN_LOST_STS
  ⟨0x100014, 1, 0, [⟨0, 17, .ro, 0⟩, ⟨24, 8, .ro, 0⟩]⟩,
  -- RDN_JSD_OK
  ⟨0x100018, 1, 0, [⟨0, 32, .rc, 0⟩]⟩,
  -- RDN_JSD_FAIL
  ⟨0x10001C, 1, 0, [⟨0, 32, .rc, 0⟩]⟩,
  -- RDN_PAD_CNT
  ⟨0x100020, 1, 0, [⟨0, 32, .rc, 0⟩]⟩,
  -- RDN_SETs_STS
  ⟨0x100100, 64, 4, [⟨0, 4, .ro, 0⟩, ⟨4, 4, .ro, 0⟩, ⟨8, 8, .ro, 0x64⟩, ⟨16, 8, .ro, 0⟩, ⟨29, 3, .ro, 0⟩]⟩]

/-- The access table of the SNP block. -/
def regTableSNP : List RDesc := [
  -- SNP_STS
  ⟨0x110000, 1, 0, [⟨0, 1, .w1c, 0⟩, ⟨1, 1, .w1c, 0⟩, ⟨2, 1, .w1c, 0⟩, ⟨3, 1, .w1c, 0⟩, ⟨4, 1, .w1c, 0⟩]⟩,
  -- SNP_CFG
  ⟨0x110004, 1, 0, [⟨0, 5, .rw, 0x16⟩, ⟨8, 8, .rw, 0x18⟩, ⟨16, 16, .rw, 0x258⟩]⟩,
  -- SNP_LINKl_STS
  ⟨0x110100, 256, 4, [⟨0, 16, .ro, 0⟩, ⟨16, 8, .ro, 0⟩, ⟨28, 1, .ro, 0⟩, ⟨29, 3, .ro, 0⟩]⟩]

/-- The access table of the NRN block. -/
def regTableNRN : List RDesc := [
  -- NRN_STS
  ⟨0x120000, 1, 0, [⟨0, 1, .ro, 0⟩, ⟨1, 1, .ro, 0⟩, ⟨2, 1, .w1c, 0⟩, ⟨3, 1, .w1c, 0⟩, ⟨4, 1, .w1c, 0⟩, ⟨5, 1, .w1c, 0⟩, ⟨6, 1, .w1c, 0⟩, ⟨16, 16, .rc, 0⟩]⟩,
  -- NRN_CFG
  ⟨0x120004, 1, 0, [⟨0, 8, .rw, 0x14⟩, ⟨8, 8, .rw, 0xA⟩, ⟨16, 8, .rw, 0x14⟩, ⟨24, 8, .rw, 4⟩]⟩,
  -- NRN_CAPO_CFG
  ⟨0x12000C, 1, 0, [⟨0, 8, .rw, 0x18⟩, ⟨16, 8, .rw, 0x3C⟩, ⟨24, 8, .rw, 0x14⟩]⟩,
  -- NRN_PAIR_STS
  ⟨0x120008, 1, 0, [⟨8, 8, .ro, 0⟩, ⟨20, 4, .ro, 0⟩, ⟨24, 1, .ro, 0⟩, ⟨25, 1, .ro, 0⟩, ⟨26, 3, .ro, 0⟩, ⟨29, 3, .ro, 0⟩]⟩,
  -- NRN_LANE_STS
  ⟨0x120010, 1, 0, [⟨0, 18, .ro, 0⟩, ⟨24, 6, .ro, 0⟩, ⟨30, 2, .ro, 2⟩]⟩,
  -- NRN_PAIR_VER
  ⟨0x120014, 1, 0, [⟨0, 32, .ro, 0⟩]⟩,
  -- NRN_KEY_EPOCH
  ⟨0x120018, 1, 0, [⟨0, 32, .ro, 0⟩]⟩,
  -- NRN_MIRROR
  ⟨0x12001C, 1, 0, [⟨0, 16, .ro, 0⟩, ⟨16, 16, .ro, 0⟩]⟩]

/-- The access table of the MEM block. -/
def regTableMEM : List RDesc := [
  -- MEM_STS
  ⟨0x130000, 1, 0, [⟨0, 1, .w1c, 0⟩, ⟨1, 1, .w1c, 0⟩, ⟨2, 1, .w1c, 0⟩, ⟨3, 1, .w1c, 0⟩]⟩,
  -- MEM_CFG
  ⟨0x130004, 1, 0, [⟨0, 4, .rw, 8⟩, ⟨4, 4, .rw, 4⟩, ⟨8, 8, .rw, 0x18⟩, ⟨16, 16, .rw, 0x2260⟩]⟩,
  -- MEM_ERR
  ⟨0x130008, 1, 0, [⟨0, 25, .ro, 0⟩, ⟨27, 4, .ro, 0⟩, ⟨31, 1, .w1c, 0⟩]⟩,
  -- MEM_PPR_STS
  ⟨0x13000C, 1, 0, [⟨0, 16, .ro, 0⟩, ⟨16, 16, .ro, 0⟩]⟩,
  -- MEM_BGT_CFG
  ⟨0x130010, 1, 0, [⟨0, 16, .rw, 0x18⟩, ⟨31, 1, .rw, 1⟩]⟩,
  -- MEM_BGT_STS
  ⟨0x130014, 1, 0, [⟨0, 16, .ro, 0⟩, ⟨23, 1, .w1c, 0⟩, ⟨24, 8, .ro, 0⟩]⟩,
  -- MEM_Qn_STS
  ⟨0x130020, 4, 4, [⟨0, 16, .ro, 0⟩, ⟨16, 1, .ro, 0⟩, ⟨17, 3, .ro, 0⟩, ⟨20, 2, .ro, 0⟩, ⟨22, 10, .ro, 0⟩]⟩,
  -- MEM_REPAIR_Qn_LO
  ⟨0x130040, 4, 8, [⟨0, 32, .ro, 0xFFFFFFFF⟩]⟩,
  -- MEM_REPAIR_Qn_HI
  ⟨0x130044, 4, 8, [⟨0, 16, .ro, 0x7FFF⟩]⟩,
  -- MEM_CHc_ERR
  ⟨0x130080, 12, 4, [⟨0, 24, .rc, 0⟩, ⟨24, 8, .rc, 0⟩]⟩]

/-- The access table of the MCC block. -/
def regTableMCC : List RDesc := [
  -- MCC_CTL
  ⟨0x140000, 1, 0, [⟨0, 4, .rw, 0xF⟩, ⟨4, 4, .rw, 0xF⟩, ⟨8, 4, .rw, 4⟩]⟩,
  -- MCC_STS
  ⟨0x140004, 1, 0, [⟨0, 4, .ro, 0⟩, ⟨4, 4, .ro, 0⟩]⟩,
  -- MCC_Qn_HIT
  ⟨0x140010, 4, 16, [⟨0, 32, .rc, 0⟩]⟩,
  -- MCC_Qn_MISS
  ⟨0x140014, 4, 16, [⟨0, 32, .rc, 0⟩]⟩,
  -- MCC_Qn_WB
  ⟨0x140018, 4, 16, [⟨0, 32, .rc, 0⟩]⟩,
  -- MCC_Qn_PF
  ⟨0x14001C, 4, 16, [⟨0, 16, .rc, 0⟩, ⟨16, 16, .rc, 0⟩]⟩]

/-- The access table of the PCI block. -/
def regTablePCI : List RDesc := [
  -- PCI_STS
  ⟨0x150000, 1, 0, [⟨0, 1, .w1c, 0⟩, ⟨1, 1, .w1c, 0⟩, ⟨2, 1, .ro, 0⟩]⟩,
  -- PCI_CTL
  ⟨0x150004, 1, 0, [⟨0, 11, .rw, 0⟩, ⟨16, 1, .rw, 0⟩]⟩,
  -- PCI_LINK_STS
  ⟨0x150008, 1, 0, [⟨0, 4, .ro, 0⟩, ⟨4, 4, .ro, 0⟩, ⟨8, 1, .ro, 0⟩]⟩,
  -- PCI_ERR
  ⟨0x15000C, 1, 0, [⟨0, 20, .ro, 0⟩, ⟨24, 3, .ro, 0⟩, ⟨27, 4, .ro, 0⟩, ⟨31, 1, .w1c, 0⟩]⟩,
  -- PCI_CTO_CNT
  ⟨0x150010, 1, 0, [⟨0, 32, .rc, 0⟩]⟩,
  -- PCI_CORR_CNT
  ⟨0x150014, 1, 0, [⟨0, 32, .rc, 0⟩]⟩,
  -- PCI_ERR_CNT
  ⟨0x150018, 1, 0, [⟨0, 32, .rc, 0⟩]⟩]

/-- The access table of the EVR block. -/
def regTableEVR : List RDesc := [
  -- EVR_STS
  ⟨0x30000, 1, 0, [⟨0, 17, .ro, 0⟩, ⟨26, 1, .ro, 0⟩, ⟨27, 1, .ro, 1⟩, ⟨28, 1, .ro, 0⟩, ⟨29, 1, .ro, 0⟩, ⟨30, 1, .w1c, 0⟩, ⟨31, 1, .ro, 0⟩]⟩,
  -- EVR_LOG
  ⟨0x30004, 1, 0, [⟨0, 16, .ro, 0⟩]⟩,
  -- EVR_DROPPED
  ⟨0x30008, 1, 0, [⟨0, 32, .ro, 0⟩]⟩,
  -- EVR_SUPP
  ⟨0x3000C, 1, 0, [⟨0, 32, .rc, 0⟩]⟩,
  -- EVR_CFG
  ⟨0x30010, 1, 0, [⟨0, 16, .rwl, 0x95⟩, ⟨16, 8, .rw, 0x40⟩, ⟨24, 8, .rw, 0x10⟩]⟩,
  -- EVR_CTL
  ⟨0x30014, 1, 0, [⟨0, 1, .rwl, 0⟩]⟩,
  -- EVR_MIRROR
  ⟨0x30018, 1, 0, [⟨0, 17, .ro, 0⟩]⟩,
  -- EVR_RD_IDX
  ⟨0x30020, 1, 0, [⟨0, 16, .rw, 0⟩]⟩,
  -- EVR_RD_DATAw
  ⟨0x30040, 16, 4, [⟨0, 32, .ro, 0⟩]⟩]

/-- The access table of the UPD block. -/
def regTableUPD : List RDesc := [
  -- UPD_STS
  ⟨0x160000, 1, 0, [⟨0, 1, .w1c, 0⟩, ⟨1, 1, .w1c, 0⟩, ⟨2, 1, .ro, 0⟩, ⟨16, 8, .ro, 0⟩, ⟨28, 4, .ro, 0⟩]⟩,
  -- UPD_RUN_VER
  ⟨0x160004, 1, 0, [⟨0, 32, .ro, 0⟩]⟩,
  -- UPD_LOAD_VER
  ⟨0x160008, 1, 0, [⟨0, 32, .ro, 0⟩]⟩,
  -- UPD_FLOOR
  ⟨0x16000C, 1, 0, [⟨0, 32, .ro, 0⟩]⟩,
  -- UPD_SET_STS
  ⟨0x160010, 1, 0, [⟨0, 1, .ro, 0⟩, ⟨16, 16, .ro, 0⟩]⟩,
  -- UPD_COMP_OUT
  ⟨0x160014, 1, 0, [⟨0, 8, .ro, 0⟩]⟩]

/-- Every register of BAR0 that a chapter assigns (R513); the MBX secondary window repeats the primary (R514). -/
def regTable : List RDesc :=
  regTableSYS ++ regTablePWR ++ regTableCLK ++ regTableCMD ++ regTableMBX ++ regTableHQ ++ regTableVRM ++ regTableXF ++ regTableKDF ++ regTableFTL ++ regTableFLK ++ regTableTUN ++ regTableHRC ++ regTableSTR ++ regTableSRV ++ regTableSPN ++ regTableRDN ++ regTableSNP ++ regTableNRN ++ regTableMEM ++ regTableMCC ++ regTablePCI ++ regTableEVR ++ regTableUPD

end Sys2Proof.Machine
end

