-- ==== Sys2Proof/Machine/State.lean ====
section
/-! DEFINITION. The state of the HX880 block, all of it plain data, and the state right after reset. -/

namespace Sys2Proof.Machine

/-- Why the block stops. -/
inductive Fault where
  /-- Raised by a meaning whose operand spells nothing its interface can carry (a quadrant above 3, a byte count the
  path does not have): no sender of the spec produces it. Safe: the model stops where the hardware has no such event. -/
  | illFormed
  deriving DecidableEq, Repr

/-- Why the model gives a command no meaning. -/
inductive Refusal where
  /-- Raised only by an arm of Dispatch.lean for a command not modelled yet. Safe. -/
  | notModelled (mnemonic : String)
  deriving DecidableEq, Repr

/-! ## Addressed buffers -/

/-- Bytes at addresses, in one canonical form: addresses strictly rising, no entry 0, what an unlisted address reads as
(log entry 5). -/
abbrev Memory := List Host.Cell

/-! ## Package, feeds, power and clocks (spec/02) -/

/-- One feed: the pins the HX880 drives and samples, and what R41 to R44 and R528 count. -/
structure Feed where
  /-- The EN output. -/
  en : Bool := false
  /-- The LO output. -/
  lo : Bool := true
  /-- PGOOD has been 1 without a break since EN last rose (R42). -/
  seen : Bool := false
  /-- AON time at which EN last rose. -/
  enAt : Nat := 0
  /-- Failed verifications in a row (R44). -/
  fails : Nat := 0
  /-- AON time from which the resync wait counts (R44). -/
  waitSince : Nat := 0
  /-- Enabled as active and waiting for its first PGOOD (R528). -/
  proving : Bool := false
  /-- AON time of the tick at which the feed became good (R41, R528). -/
  goodAt : Nat := 0
  deriving DecidableEq, Repr, Inhabited

/-- The power state of a cluster or a quadrant (R31, R32, R54). -/
inductive Gate where
  | awake
  /-- Entering the gated state; wake: a wake cause has arrived meanwhile. -/
  | entering (wake : Bool)
  | gated
  deriving DecidableEq, Repr, Inhabited

/-- Power, feeds, caps, thermal and gating state without a register of its own. -/
structure Pwr where
  feedA : Feed := {}
  feedB : Feed := {}
  /-- The POR_N pin. -/
  porN : Bool := true
  /-- The HOLDUP_OK pin. -/
  holdup : Bool := false
  /-- Both EN outputs stay 0 until this AON time after a cold reset by POR_N or COLD (R41). -/
  holdUntil : Nat := 0
  swapDueAt : Option Nat := none
  /-- AON time since which a due swap has waited (R47). -/
  swapWaitSince : Option Nat := none
  /-- AON time of event 1 of the running swap, and the feed ACTIVE at it (R48, R49). -/
  swapStart : Option (Nat × FeedId) := none
  /-- The power-loss draw limit of R50 is in force. -/
  drawLimited : Bool := false
  /-- Train-switched rails are up. -/
  rails : Bool := false
  /-- Sprint budget in ms (R56). -/
  budgetMs : Nat := 90000
  /-- The cap ramp in mW: from, to and the AON time it began (R57). -/
  capFrom : Nat := 360000
  capTo : Nat := 360000
  capSince : Nat := 0
  /-- AON time since which the estimate has stayed 5 W or more below the cap (R58). -/
  lowSince : Option Nat := none
  powerStep : Nat := 0
  /-- Thermal step of each quadrant and the AON time of its last fall (R59). -/
  thermStep : List Nat := [0, 0, 0, 0]
  thermFell : List (Option Nat) := [none, none, none, none]
  /-- Sensors whose reading has reached WARN_C and not fallen below it since. -/
  warned : List Nat := []
  /-- The THERMTRIP_N latch (R61). -/
  tripped : Bool := false
  /-- Gating of the 32 clusters (index 8q + k) and of the 4 quadrants, and the AON time each has been idle since. -/
  clusters : List Gate := List.replicate 32 .gated
  quads : List Gate := List.replicate 4 .gated
  /-- Clusters that work waits for while their quadrant is gated or entering (R32). -/
  wakeDue : List Nat := []
  clusterIdle : List Nat := List.replicate 32 0
  quadIdle : List Nat := List.replicate 4 0
  /-- Whether each cluster and quadrant had work at the last step. -/
  clusterBusy : List Bool := List.replicate 32 false
  quadBusy : List Bool := List.replicate 4 false
  deriving DecidableEq, Repr, Inhabited

/-! ## Clusters, spares and epochs (spec/01) -/

/-- Where a quadrant's swap or retirement stands (Table "Architecture: Quadrants, Clusters and Three Planes" 5). -/
inductive SwapPhase where
  | idle
  /-- Events 1 to 3: cluster k drains; retire: no usable spare; parity: the trigger was a parity failure. -/
  | draining (k : Nat) (retire parity : Bool)
  /-- Events 4 and 5: the spare is powered and under self-test. -/
  | selfTest (k : Nat)
  /-- Waiting for event 6. -/
  | remap (k : Nat) (retire : Bool)
  deriving DecidableEq, Repr, Inhabited

/-- The spare cluster of one quadrant (R16 to R18). -/
structure Spare where
  phase : SwapPhase := .idle
  /-- Triggers that wait until SWAP_BUSY clears: cluster and whether a parity failure. -/
  waiting : List (Nat × Bool) := []
  /-- Physical number of the unused spare. -/
  phys : Nat := 8
  /-- AON times of the uncorrectable parity errors of the last 24 h, with their clusters. -/
  parity : List (Nat × Nat) := []
  /-- AON time of the last weekly test. -/
  testedAt : Nat := 0
  deriving DecidableEq, Repr, Inhabited

/-! ## Start and reset (spec/03) -/

/-- A warm reset in progress (R85). -/
inductive WarmPhase where
  | none
  /-- Events 1 to 4: intake stopped, dump running. -/
  | dumping
  deriving DecidableEq, Repr, Inhabited

/-- Start state without a register of its own. -/
structure Start where
  /-- AON time the stage times count from (R67), once a feed is good or a warm reset is released. -/
  base : Option Nat := none
  /-- Stages reached: 0 none, 1 S0, 2 S1, 3 S2, 4 S3. -/
  reached : Nat := 0
  s0At : Nat := 0
  /-- BOOT_MODE as the boot code read it at the cold reset, and that it has (R94). -/
  bootMode : Nat := 0
  bootRead : Bool := false
  warm : WarmPhase := .none
  /-- The fields of R522 as loaded from the settings at this start, in force until the next: bit address and value. -/
  inForce : List (Nat × Nat) := []
  /-- Settings keys whose store by R522 is still due. -/
  storeDue : List (List Nat) := []
  /-- The settings of the current slot have been applied since the start (R89). -/
  settingsApplied : Bool := false
  /-- The start-deadline record has been written (R75). -/
  deadlineTold : Bool := false
  /-- AON time of the last dead line on the UART (R93). -/
  deadLineAt : Nat := 0
  /-- AON time at which each quadrant's entropy start-up began (R81). -/
  entSince : List Nat := [0, 0, 0, 0]
  deriving DecidableEq, Repr, Inhabited

/-! ## Command packets and mailboxes (spec/04) -/

/-- A command taken from its slot or ring and still without a reply (R98, R113). -/
structure Taken where
  pkt : Packet
  cls : Nat
  at_ : Nat
  /-- Promoted before class 2 after 10 s (R115). -/
  promoted : Bool := false
  /-- A core has begun it (R110). -/
  started : Bool := false
  /-- Status and DETAIL of a reply that is decided and waits for room on its channel (R93, R116, R125). -/
  owed : Option (Nat × Nat) := none
  deriving DecidableEq, Repr, Inhabited

/-- A command with FLAGS.COMMIT that waits (R95): for PEND to read 0 before it writes, or for its commit to reach
event 3 after it has written. -/
structure CommitWait where
  pkt : Packet
  cls : Nat
  at_ : Nat
  /-- The write has been done; the commit has not reached event 3. -/
  wrote : Bool
  detail : Nat
  data : List Byte
  deriving DecidableEq, Repr, Inhabited

/-- A reply (Table "Command Packets, Mailboxes and Doorbells" 2) with its path. -/
structure Reply where
  via : Via
  ident : Nat
  status : Nat
  opcode : Nat
  tag : Nat
  loc : Nat
  cls : Nat
  detail : Nat
  epoch : Nat
  time : Nat
  data : List Byte
  rbuf : Nat := 0
  deriving DecidableEq, Repr, Inhabited

/-- A session (R105, R106). -/
structure Session where
  handle : Nat
  owner : Nat
  nonce : List Byte
  nonceUsed : Bool := false
  fails : Nat := 0
  expert : Bool := false
  lastUse : Nat
  deriving DecidableEq, Repr, Inhabited

/-- A message waiting in a mailbox slot: channel, slot B or not, length, and the identity that sent it (R122). -/
structure SlotMsg where
  ch : Nat
  slotB : Bool
  len : Nat
  sender : Nat
  deriving DecidableEq, Repr, Inhabited

/-- The management complex, its intake and its watchdog, without registers of their own. -/
structure Cmd where
  taken : List Taken := []
  waits : List CommitWait := []
  /-- Commands executed whose reply comes with a later event of their own. -/
  later : List Packet := []
  /-- Replies the complex holds for a full slot B, oldest first (R125). -/
  held : List Reply := []
  sessions : List Session := []
  /-- Identities whose OPEN_SESSION is refused until an AON time (R106). -/
  barred : List (Nat × Nat) := []
  /-- Class and AON time of completions in the last 1 s (R115). -/
  done : List (Nat × Nat) := []
  /-- AON time of each core's last kick. -/
  kicks : List Nat := List.replicate 10 0
  /-- Watchdog restarts of the last 60 s: AON time and late cores (R118). -/
  restarts : List (Nat × Nat) := []
  /-- The complex is held in reset between events 2 and 4 of a restart (R116); the cores' self-test, event 3, is still due. -/
  inReset : Bool := false
  testDue : Bool := false
  /-- Contents of the mailbox slots by offset in the primary window (spec/04, "MBX registers"). -/
  mem : Memory := []
  msgs : List SlotMsg := []
  deriving DecidableEq, Repr, Inhabited

/-! ## Event recorder (spec/17) -/

/-- A record (Table "Event Recorder" 1), its CRC left to the encoding. -/
structure Rec where
  time : Nat
  wall : Nat
  code : Nat
  loc : Nat
  flags : Nat
  log : Nat := 0
  index : Nat := 0
  suppressed : Nat := 0
  res : Nat
  value : Nat
  data : List Byte := []
  deriving DecidableEq, Repr, Inhabited

/-- A record in the intake queue with its snapshot (R481, R482): trigger, the registers still to read, and their
values once read. -/
structure Group where
  head : Rec
  trig : Nat := 0
  offs : List Nat := []
  vals : Option (List Nat) := none
  deriving DecidableEq, Repr, Inhabited

/-- A token bucket of one code (R480): rate and burst set by EVR_RATE_SET or none, tokens in units of 10^-9,
AON time of the last update, records suppressed since the last accepted. -/
structure Bucket where
  code : Nat
  own : Option (Nat × Nat) := none
  tokens : Nat
  at_ : Nat
  supp : Nat := 0
  deriving DecidableEq, Repr, Inhabited

/-- A snapshot trigger (R481). -/
structure Trig where
  num : Nat
  code : Nat
  mask : Nat
  offs : List Nat
  deriving DecidableEq, Repr, Inhabited

/-- Recorder state without a register of its own. -/
structure Evr where
  intake : List Group := []
  /-- The log, newest record first; its length is EVR_STS.COUNT. -/
  log : List Rec := []
  buckets : List Bucket := []
  trigs : List Trig := []
  /-- Wall time in ms at a device time in ns, once set (R479). -/
  wallAt : Option (Nat × Nat) := none
  /-- High 32 bits of wall time as last recorded, or as the mirror header gave them. -/
  wallHi : Nat := 0
  /-- The nonce of the latest EVR_CLEAR_NONCE, while it is good (R487). -/
  nonce : Option (List Byte) := none
  /-- Log slots loaded from the mirror so far, and slots to load, while LOADING is 1 (R485). -/
  loaded : Nat := 0
  toLoad : Nat := 0
  /-- AON time of the last header write (R484). -/
  headerAt : Nat := 0
  deriving DecidableEq, Repr, Inhabited

/-! ## PCIe endpoint (spec/16) -/

/-- A read outstanding upstream or waiting to be issued (R469): tag, kind, the QPID or connection, the command or page
it serves, whether issued, and the AON time it was issued at. -/
structure URead where
  tag : Nat
  kind : Nat
  id : Nat
  ref : Nat := 0
  /-- Address and bytes asked for; part 0 of a command's data is its scatter list, the others its pieces in order. -/
  addr : Nat := 0
  len : Nat := 0
  part : Nat := 0
  issued : Bool := false
  /-- Its data has arrived, and is this. -/
  arrived : Bool := false
  data : List Byte := []
  at_ : Nat := 0
  deriving DecidableEq, Repr, Inhabited

/-- One MSI-X table entry (R467). -/
structure MsixEntry where
  vec : Nat
  lo : Nat := 0
  hi : Nat := 0
  data : Nat := 0
  mask : Bool := true
  deriving DecidableEq, Repr, Inhabited

/-- Endpoint state without a BAR0 register. -/
structure Pci where
  /-- The PCIE_PERST_N pin. -/
  perstN : Bool := false
  /-- The endpoint is ready (R80). -/
  ready : Bool := false
  linkUp : Bool := false
  /-- Subsystem and subsystem vendor ID, from the settings block (R462). -/
  subIds : Nat := 0x08801F9C
  /-- Configuration space dwords that differ from their reset value: offset and value, rising offsets. -/
  cfg : List (Nat × Nat) := []
  table : List MsixEntry := []
  /-- The pending bit array: vectors whose bit is 1, rising. -/
  pba : List Nat := []
  reads : List URead := []
  nextTag : Nat := 0
  deriving DecidableEq, Repr, Inhabited

/-! ## Host queues (spec/05) -/

/-- A queue pair's binding, as CREATE_QP wrote it (Table "Host Queues and Command Ordering" 2): an epoch-committed
table. cluster is 8q + k: the one it is bound to; home: the one its CREATE_QP named, restored at the S3 epoch commit
(R73). -/
structure QpBind where
  qpid : Nat
  typ : Nat
  location : Nat
  cluster : Nat
  home : Nat
  weight : Nat
  sqLog2 : Nat
  cqLog2 : Nat
  conn : Nat
  sqBase : Nat
  cqBase : Nat
  sqKey : Nat
  cqKey : Nat
  vector : Nat
  accessGroup : Nat
  deriving DecidableEq, Repr, Inhabited

/-- A queue pair's running context (R133, R135, R145, R160). -/
structure Qp where
  qpid : Nat
  /-- The code of Table "Host Queues and Command Ordering" 3. -/
  state : Nat
  sqHead : Nat := 0
  sqTail : Nat := 0
  cqTail : Nat := 0
  cqHead : Nat := 0
  phase : Nat := 1
  lost : Nat := 0
  cause : Nat := 0
  /-- Coalescing settings (R160) and its counters. -/
  aggCount : Nat := 0
  aggTime : Nat := 1
  cqFlags : Nat := 0
  vector : Nat := 0
  pend : Nat := 0
  firstAt : Nat := 0
  /-- GET_QP_STATS: commands, bytes read, bytes written, lock waits, context misses; and ignored doorbells (R136). -/
  commands : Nat := 0
  bytesRead : Nat := 0
  bytesWritten : Nat := 0
  lockWaits : Nat := 0
  ctxMisses : Nat := 0
  ignored : Nat := 0
  /-- The context is cached in its cluster, or written back to quadrant SRAM by a swap (R17); AON time of its last use
  (R140). -/
  cached : Bool := false
  sram : Bool := false
  usedAt : Nat := 0
  /-- DRAINING from FAULT_CQ: completions stay dropped (R134). -/
  drainFaulted : Bool := false
  deriving DecidableEq, Repr, Inhabited

/-- Where a host command in flight stands. -/
inductive HPhase where
  /-- Fetched, not yet taken for processing. -/
  | fetched
  /-- Waits for a free lock entry or for its grant (R152, R153). -/
  | locking
  /-- Granted or without a lock, still catchable (R155). -/
  | ready
  /-- Past the point where an ABORT could catch it. -/
  | running
  deriving DecidableEq, Repr, Inhabited

/-- A host command in flight (Table "Host Queues and Command Ordering" 4), stamped with its epoch (R24). -/
structure HCmd where
  qpid : Nat
  sub : SubEntry
  phase : HPhase := .fetched
  /-- Epoch number at its start. -/
  epoch : Nat
  /-- Logical cluster 8q + k it runs on. -/
  cluster : Nat
  /-- Order of fetch. -/
  seq : Nat
  /-- The volume's quota was used up at the fetch (R393). -/
  full : Bool := false
  /-- Some of its data came from redundancy (R146). -/
  recovered : Bool := false
  /-- Serials of its frames that joint decoding has given up (R374). -/
  lost : List Nat := []
  /-- Serials of its frames whose check failed and that redundancy has been asked for; those it could not reconstruct (R193,
R207). -/
  rebuilt : List Nat := []
  failed : List Nat := []
  /-- A FLUSH: the writes that completed before it was fetched (R153). -/
  covers : List Nat := []
  deriving DecidableEq, Repr, Inhabited

/-- A range-lock request, in request order (R150 to R153). -/
structure LockReq where
  qpid : Nat
  cid : Nat
  volume : Nat
  lo : Nat
  n : Nat
  excl : Bool
  /-- It holds an entry of its shard; else it waits for one. -/
  entry : Bool
  granted : Bool
  deriving DecidableEq, Repr, Inhabited

/-- A completion (Table "Host Queues and Command Ordering" 6). -/
structure Completion where
  qpid : Nat
  cid : Nat
  status : Nat
  result : Nat
  sqHead : Nat
  info : Nat
  phase : Nat
  slot : Nat
  deriving DecidableEq, Repr, Inhabited

/-- Host queue state without a register of its own. -/
structure Hq where
  qps : List Qp := []
  cmds : List HCmd := []
  locks : List LockReq := []
  seq : Nat := 0
  /-- The QPID each cluster fetched for last (R139). -/
  turns : List Nat := List.replicate 32 0
  deriving DecidableEq, Repr, Inhabited

/-! ## Remote memory access (spec/06) -/

/-- A VRM packet: the header of Table "Remote Memory Access over Ethernet" 6 and its payload in clear (R176). In an ACK addr is
the echoed stamp, and the payload its SACK blocks (R180). -/
structure VrmPkt where
  op : Nat
  flags : Nat := 0
  xfer : Nat := 0
  dconn : Nat
  path : Nat := 0
  psn : Nat := 0
  stamp : Nat := 0
  kind : Nat := 0
  xcnt : Nat := 0
  len : Nat := 0
  addr : Nat := 0
  key : Nat := 0
  tag : Nat := 0
  arg : Nat := 0
  payload : List Byte := []
  /-- What its sender keeps with it and does not send: the generation it is sealed under (R221), and the path set that its
  transfer uses (R190). -/
  gen : Nat := 0
  set : Nat := 0
  deriving DecidableEq, Repr, Inhabited

/-- A UDP datagram that the block sends (R165, R176): next hop, tag (PCP × 2^13 + VID), addresses, the don't-fragment bit of
IPv4, the ECN field (2 is ECT(0)), ports, checksum, and payload. -/
structure Datagram where
  mac : Nat
  vlan : Option Nat
  ipv6 : Bool
  src : Nat
  dst : Nat
  dscp : Nat
  df : Bool
  ecn : Nat
  sport : Nat
  dport : Nat
  csum : Nat
  bytes : List Byte
  deriving DecidableEq, Repr, Inhabited

/-- What a sub-port sends: a VRM packet, or a frame of the host's transmit ring (R167). -/
inductive EthTx where
  | vrm (d : Datagram)
  | host (frame : List Byte)
  deriving DecidableEq, Repr, Inhabited

/-- A path entry (Table "Remote Memory Access over Ethernet" 4). -/
structure PathEntry where
  port : Nat
  sub : Nat
  laddr : Nat
  sport : Nat
  vlan : Nat
  dscp : Nat
  mac : Nat
  ip : Nat
  deriving DecidableEq, Repr, Inhabited

/-- A connection's binding and path set (Table "Remote Memory Access over Ethernet" 3): an epoch-committed table. -/
structure ConnBind where
  id : Nat
  peer : Nat
  cluster : Nat
  pmtu : Nat
  flags : Nat
  txPsn : Nat
  rxPsn : Nat
  win : Nat
  label : Nat
  paths : List PathEntry
  deriving DecidableEq, Repr, Inhabited

/-- What R181 to R183 keep for a path: liveness, window and timers. Times are AON times; srtt and rttvar in µs. -/
structure Path where
  entry : PathEntry
  up : Bool := true
  timeouts : Nat := 0
  unanswered : Nat := 0
  probeOut : Bool := false
  probeAt : Nat := 0
  cwnd : Nat
  srtt : Nat := 0
  rttvar : Nat := 0
  lastCut : Nat := 0
  lastUse : Nat := 0
  /-- Stamp of the newest packet received on it. -/
  newest : Nat := 0
  /-- The path sets that hold it, and its index in the newest of them (R190). -/
  sets : List Nat := [0]
  wire : Nat := 0
  deriving DecidableEq, Repr, Inhabited

/-- A packet sent and not acknowledged (R179, R181): its path, when it was sent, and when a packet sent later on the
same path was acknowledged; lost: declared lost, it waits to go out again. -/
structure Unacked where
  pkt : VrmPkt
  path : Nat
  sentAt : Nat
  order : Nat
  laterAcked : Option Nat := none
  lost : Bool := false
  deriving DecidableEq, Repr, Inhabited

/-- A remote read in progress: what it reads for (1 SQ entries, 2 command data, 8 a triggered READ, 9 replication), the
object, bytes asked for and bytes placed (R184, R186). -/
structure Pull where
  xfer : Nat
  kind : Nat
  id : Nat
  ref : Nat := 0
  len : Nat
  placed : Nat := 0
  dest : Nat := 0
  /-- Part 0 of a command's data is its scatter list, the others its pieces in order; the bytes placed, by offset. -/
  part : Nat := 0
  data : Memory := []
  deriving DecidableEq, Repr, Inhabited

/-- A connection's running context. -/
structure Conn where
  id : Nat
  /-- The code of Table "Remote Memory Access over Ethernet" 5. -/
  state : Nat
  txPsn : Nat
  rxCum : Nat
  /-- PSNs received beyond the cumulative one. -/
  ooo : List Nat := []
  /-- The paths of the set in force, and behind them those of older sets that transfers still use; the number of the set in
  force (R190). -/
  paths : List Path
  pathSet : Nat := 0
  /-- Generations of the packets sent, once one is, and of the cumulative PSN received (R221). -/
  txGen : Nat := 0
  txStarted : Bool := false
  rxGen : Nat := 0
  /-- Next path for ties in round robin. -/
  rr : Nat := 0
  sent : Nat := 0
  unacked : List Unacked := []
  /-- Packets waiting for the window or for a path. -/
  sendq : List VrmPkt := []
  retrans : Nat := 0
  nextXfer : Nat := 1
  latest : Option Nat := none
  lastRx : Nat := 0
  ackCount : Nat := 0
  ackSince : Option Nat := none
  ce : Bool := false
  /-- Packets placed, by transfer and PSN, until their transfer ends; the last packets of transfers that end without a
  FENCE; and the FENCE packets held (R184). -/
  placed : List (Nat × Nat) := []
  ended : List (Nat × Nat) := []
  fences : List VrmPkt := []
  pulls : List Pull := []
  /-- Notices that wait until the PSNs of the completion writes they cover are acknowledged, with the CQ tail they carry
  (R185). -/
  notices : List (Nat × Nat × List Nat) := []
  /-- PSNs of completion writes of each queue pair not yet acknowledged. -/
  cqWrites : List (Nat × Nat) := []
  cached : Bool := true
  /-- Written back to quadrant SRAM by a swap (R17). -/
  sram : Bool := false
  usedAt : Nat := 0
  /-- CONN_DESTROY has been accepted, at this AON time. -/
  destroyAt : Option Nat := none
  /-- DRAINING has lasted LOSS_MS, so it closes at the next commit (R173, Table 5). -/
  closeDue : Bool := false
  deriving DecidableEq, Repr, Inhabited

/-- A packet in a port's ingress buffer (R168, R171): its bytes, and where it came from. -/
structure Ingress where
  raw : List Byte
  sub : Nat := 0
  srcMac : Nat := 0
  vlan : Option Nat := none
  ipv6 : Bool := false
  srcIp : Nat := 0
  dstIp : Nat := 0
  sport : Nat := 0
  size : Nat
  ce : Bool := false
  deriving DecidableEq, Repr, Inhabited

/-- A port's state without registers (R166 to R168). -/
structure Port where
  /-- Local addresses: index, IPv6 or not, address. -/
  addrs : List (Nat × Bool × Nat) := []
  /-- Exception ring pair: RX base, TX base, size log2. -/
  exc : Option (Nat × Nat × Nat) := none
  /-- AON times of the frames passed to the host in the last second, newest first; frames dropped; the next entry of each
  ring. -/
  excTimes : List Nat := []
  excDropped : Nat := 0
  rxIdx : Nat := 0
  txIdx : Nat := 0
  ingress : List Ingress := []
  pfcSent : Bool := false
  /-- What waits, by sub-port, for the peer's pause to end (R168). -/
  stalled : List (Nat × EthTx) := []
  framesIn : Nat := 0
  framesOut : Nat := 0
  fecCorr : Nat := 0
  fecUncorr : Nat := 0
  deriving DecidableEq, Repr, Inhabited

/-- A triggered entry (Table "Remote Memory Access over Ethernet" 7). -/
structure TrigEntry where
  handle : Nat
  thresh : Nat
  conn : Nat
  action : Nat
  aflags : Nat
  localH : Nat
  remote : Nat
  rkey : Nat
  len : Nat
  rtag : Nat
  step : Nat
  /-- It has fired at its threshold and, with STEP 0, has no other (R188). -/
  spent : Bool := false
  deriving DecidableEq, Repr, Inhabited

/-- A trigger tag (R187). -/
structure Tag where
  tag : Nat
  cluster : Nat
  counter : Nat := 0
  entries : List TrigEntry := []
  fired : Nat := 0
  deriving DecidableEq, Repr, Inhabited

/-- A key the head has issued for a region of its memory, with the region's buffer handle (R177). -/
structure IssuedKey where
  key : Nat
  handle : Nat
  base : Nat
  len : Nat
  link : Nat
  deriving DecidableEq, Repr, Inhabited

/-- VRM state without registers. -/
structure Vrm where
  conns : List Conn := []
  ports : List Port := List.replicate 8 {}
  tags : List Tag := []
  keys : List IssuedKey := []
  /-- Landing-region memory by address. -/
  land : Memory := []
  /-- Peer addresses and AON times of the last NAK CONN_UNKNOWN (R190). -/
  naks : List (Nat × Nat) := []
  deriving DecidableEq, Repr, Inhabited

/-! ## Replication (spec/13) -/

/-- What the far end's link descriptor gives (Table "Volumes, Snapshots and Replication" 4). -/
structure RPeer where
  slotLog2 : Nat
  key : Nat
  addr : Nat
  tag : Nat
  slots : Nat
  deriving DecidableEq, Repr, Inhabited

/-- A replication link of this head (R399, R400), lost with the connection it uses at a reset. -/
structure RLink where
  num : Nat
  target : Bool
  conn : Nat
  /-- 1 DOWN, 2 HELLO, 3 UP, 5 REFUSED (Table "Volumes, Snapshots and Replication" 11); STALLED is a volume's. -/
  state : Nat := 1
  mib : Nat
  slotLog2 : Nat
  key : Nat
  base : Nat
  tag : Nat
  peer : Option RPeer := none
  /-- Source: slots of the target taken so far. Target: slots given back so far, in ring order; those free beyond a slot
  still in use; transfers that wait in a slot for the write cache (slot, bytes); notes written to the source. -/
  used : Nat := 0
  freed : Nat := 0
  ahead : List Nat := []
  waits : List (Nat × Nat) := []
  notes : Nat := 0
  /-- HELLOs heard and not served yet (R406, R408). -/
  heard : List ReplHello := []
  deriving DecidableEq, Repr, Inhabited

/-- A volume's replication binding (R401 to R407): an epoch-committed binding with its progress. -/
structure Repl where
  vol : Nat
  link : Nat
  target : Bool
  epochS : Nat := 60
  /-- 0 running, 2 STALLED, 3 REFUSED. -/
  state : Nat := 0
  /-- Source: the epoch in flight, 0 for none. Both: the last applied. -/
  epoch : Nat := 0
  applied : Nat := 0
  /-- Source: the snapshots of epochs N − 1 and N, a cut that is asked for, device times of their cuts, AON time of
  APPLIED (N − 1). -/
  base : Option Nat := none
  snap : Option Nat := none
  asked : Bool := false
  cutAt : Nat := 0
  baseCut : Nat := 0
  appliedAt : Nat := 0
  lagTold : Bool := false
  /-- Source: transfers of the epoch once scanned, the next to send, those sent and not ACKed, and COMMIT sent. -/
  total : Option Nat := none
  next : Nat := 0
  sent : List Nat := []
  commitSent : Bool := false
  /-- Target: the COMMIT that has come (epoch, transfers, frames) and whether the partner handed it on; the apply job (its
  write-cache job, and that its records cannot be applied). -/
  commit : Option (Nat × Nat × Nat) := none
  handed : Bool := false
  job : Option (Nat × Bool) := none
  deriving DecidableEq, Repr, Inhabited

/-- A transfer of an unapplied epoch in the target's write cache (R405, R406): its records, and since when it is kept. -/
structure Staged where
  vol : Nat
  epoch : Nat
  xseq : Nat
  recs : List Byte
  at_ : Nat
  deriving DecidableEq, Repr, Inhabited

/-! ## DRAM, banks and the metadata cache (spec/15) -/

/-- A DDR5 channel since the last reset: training tried and passed; correctable errors of rows within 24 h: row, AON time. -/
structure Chan where
  tried : Bool := false
  trained : Bool := false
  rowCe : List (Nat × Nat) := []
  deriving DecidableEq, Repr, Inhabited

/-- A 1 MiB bank (R444 to R450): its repair mode now; 4 KiB blocks remapped to spare blocks, and blocks remapped to nothing;
corrected errors of columns within 24 h: column, AON time. -/
structure Bank where
  bgt : Bool := true
  spared : List Nat := []
  gone : List Nat := []
  colCe : List (Nat × Nat) := []
  deriving DecidableEq, Repr, Inhabited

/-- A valid line of the metadata cache (R453): its set, way and line address, dirty or not, prefetched and not yet used. -/
structure MccLine where
  set : Nat
  way : Nat
  addr : Nat
  dirty : Bool := false
  pf : Bool := false
  deriving DecidableEq, Repr, Inhabited

/-- A stride tracker (R457). -/
structure Tracker where
  last : Int := 0
  stride : Int := 0
  conf : Nat := 0
  deriving DecidableEq, Repr, Inhabited

/-- A slice: its lines, its trees that are not zero by set (bit k of a number for node k), and its trackers. -/
structure Slice where
  lines : List MccLine := []
  trees : List (Nat × Nat) := []
  trackers : List Tracker := List.replicate 64 {}
  deriving DecidableEq, Repr, Inhabited

/-- Memory state without a register of its own. -/
structure Mem where
  chans : List Chan := List.replicate 12 {}
  /-- Bank b of Qn is number 48n + b. -/
  banks : List Bank := (List.range 192).map (fun i => { bgt := i % 48 ≠ 47 })
  /-- The banks have been tested since the cold reset (R449). -/
  tested : Bool := false
  scrubAt : Nat := 0
  /-- The background test's lap: AON time of its start, and blocks tested in it (R451). -/
  lapAt : Nat := 0
  lapDone : Nat := 0
  slices : List Slice := List.replicate 4 {}
  deriving DecidableEq, Repr, Inhabited
/-! ## Volumes, snapshots and the map (spec/07, spec/08, spec/13) -/

/-- A volume table entry (Table "Volumes, Snapshots and Replication" 1) without what other state gives: the mark
EPOCH_HWM, which outlives it, and the count SNAPS. -/
structure Vol where
  num : Nat
  /-- 1 ACTIVE, 2 DELETING; a FREE number has no entry. -/
  state : Nat := 1
  readOnly : Bool := false
  replica : Bool := false
  ownerB : Bool := false
  level : Nat := 2
  tier : Nat := 2
  coolDays : Nat := 0
  warmReads : Nat := 0
  vgen : Nat := 1
  gset : Bool := false
  size : Nat
  quota : Nat := 0
  keyEpoch : Nat
  minEpoch : Nat
  agroup : List Nat := []
  link : Nat := 0xFFFF
  remote : Nat := 0
  deriving DecidableEq, Repr, Inhabited

/-- A volume's transform policy (Table "De-duplication, Compression, Check Values and Encryption" 10). -/
structure Policy where
  num : Nat
  flags : Nat := 5
  chunkBits : Nat := 2
  minGain : Nat := 1
  deriving DecidableEq, Repr, Inhabited

/-- A snapshot (Table "Volumes, Snapshots and Replication" 3); asked: the packet whose reply waits for READY; cut: the
replication epoch it holds. -/
structure Snap where
  vol : Nat
  num : Nat
  gen : Nat
  /-- 1 CREATING, 2 READY, 3 DELETING. -/
  state : Nat
  held : Bool := false
  repl : Bool := false
  created : Nat := 0
  /-- Epoch number from which no earlier-stamped write may remain (event 3), once the commit of event 2 is done. -/
  since : Option Nat := none
  asked : Option Packet := none
  deriving DecidableEq, Repr, Inhabited

/-- What a block of a unit version holds (R246). -/
inductive BlkRef where
  | frame (serial nth : Nat)
  | discarded
  deriving DecidableEq, Repr, Inhabited

/-- A version of a map unit: a map entry with its directory or fine table (R245 to R247, R395). -/
structure Version where
  gen : Nat
  gset : Bool
  /-- KIND: 1 LARGE, 2 FINE, 3 DISCARDED; an UNMAPPED unit has no live version. -/
  kind : Nat
  /-- Blocks written or discarded, by index in the unit, rising. -/
  blocks : List (Nat × BlkRef) := []
  /-- GEN and GSET of fine units. -/
  fine : List (Nat × Nat × Bool) := []
  /-- PTR of the map entry. -/
  ptr : Nat := 0
  deriving DecidableEq, Repr, Inhabited

/-- A map unit with its version chain, newest retained version first (R395). Times are AON times. -/
structure MapUnit where
  vol : Nat
  unit : Nat
  live : Option Version := none
  kept : List Version := []
  /-- Times of the writes of less than 256 KiB of the last hour (R248). -/
  small : List Nat := []
  wroteAt : Nat := 0
  readAt : Nat := 0
  /-- Times of the reads of the last 24 h while on an HDA (R261). -/
  reads : List Nat := []
  deriving DecidableEq, Repr, Inhabited

/-- A stored frame (R191, R192), its content in clear, with its index entry and its place. -/
structure SFrame where
  serial : Nat
  vol : Nat
  epoch : Nat
  raw : Bool
  /-- Length of the coded payload. -/
  payLen : Nat
  /-- Original bytes. -/
  data : List Byte
  /-- The digest, where the frame has an index entry (R195, R197). -/
  digest : Option (List Byte) := none
  /-- Full index page and entry, once its write has committed. -/
  page : Nat := 0
  entry : Nat := 0
  created : Nat := 0
  /-- Set and zone of its band, position, and offset in the position's data strips of the band (R367). -/
  band : Option (Nat × Nat) := none
  pos : Nat := 0
  off : Nat := 0
  deriving DecidableEq, Repr, Inhabited

/-- A full index page: its number, its volume, and the SERIAL and key epoch it is enciphered under (R198, R218, R219). Its
entries are those of the frames that name it. -/
structure IndexPage where
  num : Nat
  vol : Nat
  serial : Nat
  epoch : Nat
  deriving DecidableEq, Repr, Inhabited

/-- An entry of the summary that is not empty: its bucket, PAGE and TAG (Table "De-duplication, Compression, Check Values and
Encryption" 4). -/
structure SumEntry where
  bucket : Nat
  page : Nat
  tag : Nat
  deriving DecidableEq, Repr, Inhabited

/-- What a job in the write cache is for. -/
inductive WKind where
  | write
  | discard
  /-- Relocation of a frame: garbage collection, refresh, migration or rekey (R260, R285, R261, R216). -/
  | reloc (old : Nat)
  /-- The map changes of a replicated epoch (R401). -/
  | apply
  deriving DecidableEq, Repr, Inhabited

/-- A write in the write cache from its admission to its map commit (R253, R417), or a relocation. -/
structure WJob where
  id : Nat
  kind : WKind
  qpid : Nat
  cid : Nat
  vol : Nat
  slba : Nat := 0
  nblk : Nat := 0
  fua : Bool := false
  /-- Configuration epoch and the volume's generation it runs under (R24, R255). -/
  epoch : Nat
  vgen : Nat := 0
  gset : Bool := false
  frames : List SFrame
  /-- Serials of the frames it refers to as duplicates. -/
  dups : List Nat := []
  blocks : List (Nat × BlkRef) := []
  /-- Sent to the partner's mirror, and acknowledged. -/
  sent : Bool := false
  mirrored : Bool := false
  /-- The number its mirror entry has at the partner, where it is not this job's own (R420). -/
  mid : Option Nat := none
  completed : Bool := false
  /-- Its log record is durable in the map store. -/
  durable : Bool := false
  adopted : Bool := false
  /-- Admitted while no dirty data may be (R52, R265): it completes once durable and counts as no dirty data. -/
  through : Bool := false
  at_ : Nat
  deriving DecidableEq, Repr, Inhabited

/-- A rekey sweep (R216). -/
structure Rekey where
  vol : Nat
  /-- KEY_EPOCH it sweeps to; the sweep has ended, and MIN_EPOCH follows at the next commit. -/
  epoch : Nat
  ended : Bool := false
  deriving DecidableEq, Repr, Inhabited

/-! ## Sets, bands and what is lost (spec/12) -/

/-- A set version (Table "Declustered Redundancy and Rebuild" 2). -/
structure SetVer where
  ver : Nat
  pairVer : Nat
  /-- Positions of this version, rising. -/
  live : List Nat
  pattern : List (List Nat)
  deriving DecidableEq, Repr, Inhabited

/-- A fret-map set (R361 to R363). -/
structure RSet where
  num : Nat
  tier : Nat
  quad : Nat
  width : Nat
  pmax : Nat
  stripLog2 : Nat
  spareZones : Nat
  /-- Zones that the percentage of FTL_OP_CFG in force at its creation withholds (R258). -/
  opZones : Nat := 0
  /-- Zones of each member and their size in bytes. -/
  zones : Nat
  zoneSize : Nat
  /-- Member codes by position. -/
  members : List Nat
  pstate : List Nat
  /-- Newest first. -/
  vers : List SetVer
  deriving DecidableEq, Repr, Inhabited

/-- A band that is not FREE (R242, R363 to R371). -/
structure Band where
  set : Nat
  zone : Nat
  /-- 1 OPEN, 2 FULL, 3 RECLAIMING, 4 RESERVED. -/
  state : Nat
  /-- What an open band is filled by: 0 destage, 1 garbage collection, 2 migration. -/
  use_ : Nat := 0
  ver : Nat
  level : Nat
  /-- Bytes gathered in each position's data strips. -/
  fills : List (Nat × Nat) := []
  /-- Stripes (row, number) closed early, handed to the members, and durable; outstanding strips of a stripe. -/
  closed : List (Nat × Nat) := []
  issued : List (Nat × Nat) := []
  done_ : List (Nat × Nat) := []
  waiting : List (Nat × Nat × Nat) := []
  /-- AON times at which the oldest frame of a gathering stripe came. -/
  since : Nat := 0
  /-- Regions whose bit is set (R370), and void stripes (R371). -/
  dirty : List Nat := []
  void : List (Nat × Nat) := []
  fullAt : Nat := 0
  lastWrite : Nat := 0
  pinned : Bool := false
  /-- A block of it is marked for refresh (R284). -/
  marked : Bool := false
  /-- OWN and ERASE commands of its allocation that are not complete (R242). -/
  erasing : Nat := 0
  /-- Reads of its blocks since they were programmed, by position, die and plane (R284), and AON times at which codewords
  of them reached step 4 of R283 (R290). -/
  rcount : List (Nat × Nat) := []
  jointAt : List (Nat × Nat) := []
  /-- Opened by the partner's head. -/
  theirs : Bool := false
  /-- OWN commands and zone resets of its allocation that are not complete (R240, R241). -/
  owning : Nat := 0
  /-- Its relocation was started by wear levelling (R286). -/
  wl : Bool := false
  /-- Strips that a rebuild has given up, by row and position (R381). -/
  gone : List (Nat × Nat) := []
  /-- HDAs whose zone's write pointer is to be reset before it is written (R318). -/
  resets : List Nat := []
  deriving DecidableEq, Repr, Inhabited

/-- A lost-range entry (Table "Declustered Redundancy and Rebuild" 5); for a FRAME entry first holds page and entry. -/
structure Lost where
  kind : Nat
  cause : Nat
  vol : Nat
  gen : Nat
  gset : Bool := false
  first : Nat
  count : Nat
  set : Nat
  zone : Nat
  time : Nat
  /-- The lost frame's serial, 0 for WRITE_LOST. -/
  serial : Nat := 0
  deriving DecidableEq, Repr, Inhabited

/-- A rebuilt-strip entry (R377). -/
structure RStrip where
  set : Nat
  zone : Nat
  row : Nat
  pos : Nat
  target : Nat
  spareZone : Nat
  index : Nat
  deriving DecidableEq, Repr, Inhabited

/-- A strip on its way into spare capacity, and the write commands still to complete; its entry is used once the map log holds
it too (R377). -/
structure Moving where
  strip : RStrip
  left : Nat
  deriving DecidableEq, Repr, Inhabited

/-- A rebuild or copy-back of a position (R376, R386). -/
structure Rebuild where
  set : Nat
  pos : Nat
  /-- Copy-back instead of rebuild. -/
  copy : Bool
  startAt : Nat
  /-- Bytes left to read, and all of them. -/
  left : Nat
  total : Nat
  /-- Bands left to copy. -/
  bands : List Nat := []
  started : Bool := false
  rate : Nat := 0
  deriving DecidableEq, Repr, Inhabited

/-- A dump's own records on a module (R266 to R268). -/
structure DumpRec where
  link : Nat
  seq : Nat
  modules : Nat
  bytes : Nat
  time : Nat
  deriving DecidableEq, Repr, Inhabited

/-! ## Flash links and modules (spec/08, spec/09) -/

/-- What a bridge command was sent for. -/
inductive BrUse where
  /-- A page slot of a zone, or the first sector of a run, for a read job. -/
  | read (job part : Nat)
  /-- A strip of a stripe: set, zone, row, stripe and position. -/
  | strip (set zone row stripe pos : Nat)
  | erase (set zone : Nat)
  | own (set zone : Nat)
  /-- The copy of a zone's blocks on the die of a swap (R291). -/
  | copy (zone : Nat)
  /-- FENCE of the other port or of its own, to fence or to unfence (R240). -/
  | fence (other on_ : Bool)
  | ident
  | other
  /-- FW_STAGE with its subcommand and offset, and its QUERY for COMP_STATUS (R496, R506). -/
  | stage (sub off : Nat)
  | version (p : Packet)
  | raw (p : Packet)
  /-- The spare copy of a reallocated sector (R321). -/
  | realloc (hda sector spare : Nat)
  /-- A capture's read: its packet and sample offset (R330). -/
  | capture (p : Packet) (off : Nat)
  /-- A seek test: its packet, head and cylinder (R359). -/
  | seekTest (p : Packet) (head cyl : Nat)
  /-- A strip that moves into spare capacity: set, band zone, row and position (R377). -/
  | spare (set zone row pos : Nat)
  /-- The part of a write run that goes to the spare sector of a reallocated one (R322). -/
  | sparePart (run : Nat)
  /-- A read for the partner, by the number of its job there (R315). -/
  | partner (job : Nat) (soft : Bool)
  deriving DecidableEq, Repr, Inhabited

/-- The state of a tuning set (R276). -/
inductive TuneState where
  | valid | validating | candidate | suspect
  deriving DecidableEq, Repr, Inhabited

/-- A run on an HDA (R313, R316, R317): class, zone and sectors, when it was asked for, and since when it holds a
detector–decoder pair. -/
structure HdaRun where
  id : Nat
  hda : Nat
  cls : Nat
  write : Bool
  zone : Nat
  sector : Nat
  count : Nat
  use_ : BrUse
  askedAt : Nat
  pairAt : Option Nat := none
  /-- Sectors of it that have been read or written. -/
  done_ : Nat := 0
  /-- Recovery step of the current sector (R319), its re-reads so far, the samples here of its stream and the index of the first, and that it gives its
  pair up after the current sector. -/
  step : Nat := 1
  revs : Nat := 0
  samples : List Byte := []
  base : Nat := 0
  yield_ : Bool := false
  /-- Samples of the current sector were discarded (R314), or its head was off track (R343). -/
  overrun : Bool := false
  /-- The load class of the tuning set it reads under, and that set's state (R325, R280). -/
  load : Nat := 1
  used : TuneState := .valid
  deriving DecidableEq, Repr, Inhabited

/-- A bridge command without its completion (R238). -/
structure BrCmd where
  link : Nat
  tag : Nat
  op : Nat
  args : List Nat
  use_ : BrUse
  deriving DecidableEq, Repr, Inhabited

/-- A codeword of a flash read: page slot of its zone and index, the read of R283 it is at (1 first; 2 and 3 soft; 4 to 7
with moved offsets), whether the read has returned, and the set it was read under with that set's state then. -/
structure Cw where
  page : Nat
  idx : Nat
  step : Nat
  here : Bool := false
  ret : Nat
  load : Nat
  used : TuneState
  deriving DecidableEq, Repr, Inhabited

/-- A column of a stripe (R364): its band, row, column within the strip, and the position read. -/
structure Column where
  set : Nat
  zone : Nat
  row : Nat
  col : Nat
  pos : Nat
  deriving DecidableEq, Repr, Inhabited

/-- A read from a medium: of a frame for a command, or of a block for patrol (R283, R287, R319, R372). -/
structure RdJob where
  id : Nat
  qpid : Nat := 0
  cid : Nat := 0
  serial : Nat := 0
  patrol : Bool := false
  /-- Member code and zone it reads; its band. -/
  code : Nat := 0
  zone : Nat := 0
  band : Nat × Nat := (0, 0)
  pos : Nat := 0
  /-- Its data came from redundancy; columns of it at joint decoding. -/
  recovered : Bool := false
  joint : List Column := []
  /-- It reconstructs a frame that failed its check (R207). -/
  check : Bool := false
  /-- HDA runs it still waits for, codewords not decoded, iterations and codewords so far. -/
  open_ : Nat := 0
  cws : List Cw := []
  itSum : Nat := 0
  itN : Nat := 0
  deriving DecidableEq, Repr, Inhabited

/-- A zone that a die swap copies: the job that reads the old die's pages, then commands of the copy without a completion
(R291). -/
structure DieCopy where
  link : Nat
  zone : Nat
  job : Nat
  writing : Bool := false
  left : Nat := 0
  deriving DecidableEq, Repr, Inhabited

/-- A REFSET of a die that holds a tuning set's offsets (R272). -/
structure RefSlot where
  die : Nat
  slot : Nat
  plane : Nat
  ret : Nat
  load : Nat
  offs : List Int
  deriving DecidableEq, Repr, Inhabited

/-- A flash link without its registers (R230 to R235). Times are AON times. -/
structure FLink where
  ident : Option Ident := none
  /-- Next SEQ to send, last SEQ acknowledged, next SEQ expected, flits received since the last ACKSEQ. -/
  txSeq : Nat := 0
  /-- Flits sent in all: flit n goes out on active lane n mod A (R231, R410). -/
  sent : Nat := 0
  acked : Nat := 0
  rxSeq : Nat := 0
  rxSince : Nat := 0
  ackAt : Nat := 0
  /-- Replays of one flit without progress, retrainings that failed in a row. -/
  replays : Nat := 0
  retrains : Nat := 0
  training : Bool := false
  /-- Flit slot the spare lane will take over, and the switch SEQ has been agreed. -/
  swapSlot : Option Nat := none
  switchReady : Bool := false
  /-- Flits sent and not acknowledged, newest first: SEQ and TYPE; flits that wait while 512 are unacknowledged, as TYPE and
  count (R232). -/
  kept : List (Nat × Nat) := []
  stalled : List (Nat × Nat) := []
  /-- Uncorrectable codewords of each flit slot's lane in its last window; 2^32 once it has lost lock (R234). -/
  winUncorr : List (Nat × Nat) := []
  /-- REFSETs, most recently used first (R272). -/
  slots : List RefSlot := []
  testedAt : Nat := 0
  nextTag : Nat := 0
  temp : Option Int := none
  tempAt : Nat := 0
  /-- Load class 0 LIGHT, 1 MID, 2 FULL, and the BW of its last update. -/
  load : Nat := 1
  bw : Nat := 0
  deriving DecidableEq, Repr, Inhabited

/-- What a tuning set holds (R276): 15 read-level and 2 soft offsets, its tag, IT0 in 1/8 iteration, and it_mean in 1/256
of that. -/
structure TuneVals where
  offs : List Int
  tagTemp : Int := 0
  tagBw : Nat := 0
  it0 : Nat := 0xFF
  itMean : Nat := 0
  state : TuneState := .valid
  deriving DecidableEq, Repr, Inhabited

/-- A tuning set of a block group, retention class 0 FRESH, 1 SETTLED, 2 AGED, and load class; a CANDIDATE's or
VALIDATING set's predecessor (R276, R279). -/
structure TSet where
  link : Nat
  die : Nat
  plane : Nat
  ret : Nat
  load : Nat
  cur : TuneVals
  prev : Option TuneVals := none
  /-- Codewords, their iterations in 1/8 and first-decode failures of the validation that runs (R281). -/
  vCw : Nat := 0
  vIt : Nat := 0
  vFail : Nat := 0
  /-- Codewords and iterations of the open window, the temperature at its start, and that it will be discarded (R278). -/
  winCw : Nat := 0
  winIt : Nat := 0
  winTemp : Option Int := none
  winBad : Bool := false
  deriving DecidableEq, Repr, Inhabited

/-- A module's lasting state (R271, R290 to R294): its die map and what has worn. -/
structure Module where
  link : Nat
  ident : Ident
  spareDies : Nat
  /-- Physical die of each in-service position. -/
  dieMap : List Nat
  retiredDies : List Nat := []
  /-- Retired blocks: die, plane, block and the spare block that serves it (R290). -/
  retired : List (Nat × Nat × Nat × Nat) := []
  /-- Blocks whose band was refreshed and not yet patrolled: die, plane, block (R290). -/
  refreshed : List (Nat × Nat × Nat) := []
  /-- Erase counts of zones. -/
  erases : List (Nat × Nat) := []
  stage : Nat := 0
  /-- A die swap in progress: position, spare die, old die, zones left to copy; agreed with the partner. -/
  swap : Option (Nat × Nat × Nat × List Nat) := none
  agreed : Bool := false
  /-- Die map entries of zones that still take the old die of a swap: zone and position. -/
  oldDie : List (Nat × Nat × Nat) := []
  deriving DecidableEq, Repr, Inhabited

/-! ## Dual heads (spec/14) -/

/-- A partner's write in the mirror region (R417). -/
structure MirWrite where
  id : Nat
  whole : Bool
  vol : Nat
  slba : Nat
  nblk : Nat
  frames : List SFrame
  blocks : List (Nat × BlkRef)
  at_ : Nat
  deriving DecidableEq, Repr, Inhabited

/-- A quorum that runs (R426): modules asked, wins so far, answers outstanding; absent: at start (R430). -/
structure Quorum where
  modules : List Nat
  wins : List Nat := []
  waiting : Nat
  absent : Bool
  at_ : Nat
  deriving DecidableEq, Repr, Inhabited

/-- Pair state without a register of its own. Times are AON times. -/
structure Pair where
  /-- Physical lane of each flit slot, usable spares, lowest first; a swap: slot, spare lane, switch agreed. -/
  slots : List Nat := []
  spares : List Nat := [16, 17]
  swap : Option (Nat × Nat × Bool) := none
  mseqTx : Nat := 0
  mseqRx : Nat := 0
  drops : List Nat := []
  hello : Option Hello := none
  beat : Beat := {}
  lastRx : Nat := 0
  beatAt : Nat := 0
  mirror : List MirWrite := []
  /-- Parts that wait for space in the mirror region (R417). -/
  parts : List MirPart := []
  /-- Replication records that the partner hands on, as far as they have come (R406). -/
  handing : List Byte := []
  /-- The proposal that runs on the capo, those queued, and the one this head has answered READY. -/
  proposal : Option (Nat × PairChange) := none
  queue : List PairChange := []
  accepted : Option (Nat × PairChange) := none
  /-- FREE bands granted to this head and to the partner: set, level, zone (R422). -/
  granted : List (Nat × Nat × Nat) := []
  given : List (Nat × Nat × Nat) := []
  /-- Bands asked for and not granted yet: set and level. -/
  asked : List (Nat × Nat) := []
  /-- A proposal that waits for PEND to read 0 (R25, R421). -/
  proposed : Option (Nat × PairChange) := none
  /-- Members the partner cannot reach. -/
  downThere : List Nat := []
  /-- Volumes on their way to this head, and those this head still has to release (Table "Dual Heads and the Nerryn
  Link" 4); packets that wait for a move's event 4. -/
  coming : List Nat := []
  leaving : List Nat := []
  moveWaits : List (Nat × Packet) := []
  /-- Device time of the last capo change; when the next swap falls due, and since when a due swap has waited. -/
  capoAt : Nat := 0
  swapDueAt : Option Nat := none
  swapWaitSince : Option Nat := none
  swapPackets : List Packet := []
  /-- Requests of the partner that wait for this capo's firmware (R435); the role SURVIVOR waits for its commit (R427). -/
  reqs : List PairReq := []
  becomes : Bool := false
  quorum : Option Quorum := none
  /-- The partner serves while this head returns (R432). -/
  returning : Bool := false
  /-- Dirty writes of missing dump shares, which neither source holds yet (R268). -/
  missing : List WJob := []
  /-- AON time of S1. -/
  s1At : Nat := 0
  deriving DecidableEq, Repr, Inhabited
/-! ## Strings, carriers and HDAs (spec/10, spec/11) -/

/-- An HDA tuning set's values (Table "HDA Strings and the Central Read Channel" 7). -/
structure HVals where
  eq : List Int
  tgt : List Int
  np : List Int
  heat : Int := 0
  gain : Int := 0
  tagTemp : Int := 0
  tagBw : Nat := 0
  it0 : Nat := 0xFF
  clr : Nat := 0
  windows : Nat := 0
  state : TuneState := .valid
  deriving DecidableEq, Repr, Inhabited

/-- The tuning set of a zone and load class, with its predecessor (R325, R327). -/
structure HSet where
  hda : Nat
  zone : Nat
  load : Nat
  cur : HVals
  prev : Option HVals := none
  /-- Sectors, their iterations in 1/8 and first-decode failures of the validation; the same of the open window, the
  temperature at its start, and that it will be discarded (R281, R326). -/
  vCw : Nat := 0
  vIt : Nat := 0
  vFail : Nat := 0
  winCw : Nat := 0
  winIt : Nat := 0
  winTemp : Option Int := none
  winBad : Bool := false
  deriving DecidableEq, Repr, Inhabited

/-- What an HDA itself holds: identity, formatted or not, reallocations (sector, spare index, ms), write pointers and
write passes by zone, sets in its system zones, and times at which sectors of a head reached step 6. -/
structure HdaMedia where
  hda : Nat
  ident : HdaIdent
  formatted : Bool := false
  realloc : List (Nat × Nat × Nat) := []
  wptr : List (Nat × Nat) := []
  pass : List (Nat × Nat) := []
  sets : List HSet := []
  headsFailed : List Nat := []
  /-- Step-6 recoveries since the format, and those of the last hour: head and AON time. -/
  step6 : Nat := 0
  step6At : List (Nat × Nat) := []
  failing : Bool := false
  failed : Bool := false
  /-- Formats of the HDA: they add to the write pass of every zone. -/
  formats : Nat := 0
  deriving DecidableEq, Repr, Inhabited

/-- What a carrier command was sent for. -/
inductive StrUse where
  | ident
  | drive (claim force handover : Bool) (p : Option Packet)
  | stream (run : Nat)
  | writeRun (run : Nat)
  | stage (sub off : Nat)
  | version (p : Packet)
  | other
  deriving DecidableEq, Repr, Inhabited

/-- A carrier command without its completion (R301). -/
structure StrCmd where
  str : Nat
  tag : Nat
  op : Nat
  use_ : StrUse
  deriving DecidableEq, Repr, Inhabited

/-- A string without its registers (R298 to R302). Times are AON times. -/
structure Str where
  ident : Option CarrierIdent := none
  /-- Its firmware lets the servo engine take its HDAs up (R501). -/
  joined : Bool := false
  retrains : Nat := 0
  nextTag : Nat := 0
  /-- SEQ of the next real-time flit from the carrier, once one has come, and of the next SOUT (R299). -/
  rtSeq : Option Nat := none
  soutSeq : Nat := 0
  /-- Lost real-time flits so far, and at the last second's check; seconds at or above the threshold, and below it. -/
  rtLost : Nat := 0
  lostAt : Nat := 0
  badSecs : Nat := 0
  goodSecs : Nat := 0
  /-- Last CSTAT, the deadline misses of the running second, and when that second began. -/
  cstatAt : Nat := 0
  /-- A CSTAT has come within the last second. -/
  fresh : Bool := false
  dlMisses : Nat := 0
  dlSince : Nat := 0
  dlTold : Bool := false
  /-- Drive released with HANDOVER, not yet claimed. -/
  handed : Bool := false
  /-- A release of drive has been asked for, and the packet whose reply it gives; this head is claiming (R357). -/
  leave : Bool := false
  leaveFor : Option Packet := none
  claiming : Bool := false
  deriving DecidableEq, Repr, Inhabited

/-- A seek in progress until FOLLOW: where from and where to, wedges of its trajectory and in SETTLE, what asked for it. -/
structure Seek where
  fromY : Int
  toY : Int
  wedges : Nat := 0
  settled : Nat := 0
  startAt : Nat
  test : Option Packet := none
  deriving DecidableEq, Repr, Inhabited

/-- A servo loop (R333 to R349). Times are AON times. -/
structure Servo where
  r : Int := 0
  i : Int := 0
  d : Int := 0
  ePrev : Int := 0
  /-- States of notch 1 and notch 2, in 1/16,384. -/
  n1a : Int := 0
  n1b : Int := 0
  n2a : Int := 0
  n2b : Int := 0
  u : Int := 0
  ff : Int := 0
  head : Nat := 0
  /-- Bias table: head × 32 + band, value. -/
  bias : List (Nat × Int) := []
  /-- The estimator: position, velocity and bias (R334). -/
  est : Int × Int × Int := (0, 0, 0)
  /-- The wedge window whose parts are coming: its number and the carrier time of its first sample (R307). -/
  win : Option (Nat × Nat) := none
  /-- PES of the wedges of the last 256, newest first. -/
  pes : List Int := []
  misses : Nat := 0
  missed : Nat := 0
  good : Nat := 0
  settle : Nat := 0
  expect : Nat := 0
  /-- Wedges for which INHIBIT stays at 1 after a handover (Table "Servo and Spindle Control" 9) or a range switch. -/
  hold : Nat := 0
  range : Bool := false
  since : Nat := 0
  lostAt : List Nat := []
  reloadAt : Option Nat := none
  seek : Option Seek := none
  /-- The block in use: it changes with a commit, or to SAFE after an oscillation (R342, R349). -/
  block : List Byte := []
  /-- The stamp of the committed block it took up last; 0 for the block a new HDA starts with. -/
  taken : Nat := 0
  safe : Bool := false
  /-- Oscillations so far, and whether one is flagged now (R348). -/
  osc : Nat := 0
  oscOn : Bool := false
  /-- AON time and PES of the wedges of the last second, newest first, and whether the loop was in FOLLOW. -/
  hist : List (Nat × Int × Bool) := []
  dlMisses : Nat := 0
  /-- Unload on the way: brake after it, or only park. -/
  brake : Bool := false
  offset : Int := 0
  deriving DecidableEq, Repr, Inhabited

/-- A spindle (R351 to R356). Times are AON times. -/
structure Spindle where
  /-- Class and time of the spin-up request; it holds the carrier's switch. -/
  cls : Nat := 3
  askedAt : Nat := 0
  recapture : Bool := false
  switch : Bool := false
  grantAt : Nat := 0
  retried : Bool := false
  faultAt : Nat := 0
  /-- Speed in 1/100 % of 7,200 rpm, phase error in 200 ns, revolutions in a row within and beyond the lock limits. -/
  speed : Nat := 0
  phaseErr : Int := 0
  inside : Nat := 0
  beyond : Nat := 0
  /-- Errors of the last 64 revolutions, newest first; gains halved by an oscillation. -/
  errs : List Int := []
  oscOn : Bool := false
  halved : Bool := false
  spinUps : Nat := 0
  fails : Nat := 0
  spinAt : Nat := 0
  spinNs : Nat := 0
  /-- When a run of the HDA was last granted, or its spindle reached SYNC. -/
  lastRun : Nat := 0
  deriving DecidableEq, Repr, Inhabited

/-- A trace buffer (R350). -/
structure Trace where
  hda : Nat := 0
  nodes : List Nat := []
  trig : Nat := 0
  level : Int := 0
  pre : Nat := 0
  decim : Nat := 1
  tick : Nat := 0
  /-- Samples, newest first, and how many are still to come once triggered. -/
  buf : List Int := []
  left : Option Nat := none
  /-- The capture has ended; the buffer holds it. -/
  full : Bool := false
  deriving DecidableEq, Repr, Inhabited

/-- Volatile HDA state by HDA and string number. -/
structure Hdas where
  strs : List Str := List.replicate 96 {}
  cmds : List StrCmd := []
  servos : List Servo := List.replicate 192 {}
  spins : List Spindle := List.replicate 192 {}
  traces : List Trace := [{}, {}, {}, {}]
  /-- Recovered sectors held until their spare copy is durable: HDA, sector, bytes; spare index and what is durable. -/
  held : List (Nat × Nat × Nat) := []
  /-- Reallocations that found the hold full: HDA and sector (R321). -/
  queued : List (Nat × Nat) := []
  /-- Load class of each HDA, HDAs whose sets changed since the last flush; candidates that wait for their commit, and when
  the last such commit was (R327). -/
  loads : List (Nat × Nat) := []
  changed : List Nat := []
  cands : List HSet := []
  tunedAt : Nat := 0
  flushAt : Nat := 0
  /-- SPINSYNC: device time of the last accepted edge, the measured period in ns, and when the last spin-up started. -/
  edge : Option Nat := none
  /-- The last accepted edge of all, which holdover goes on from. -/
  ref : Nat := 0
  period : Option Nat := none
  lastSpinUp : Option Nat := none
  deriving DecidableEq, Repr, Inhabited
/-- Data that the media themselves hold, through every reset: the map store, the bands and the modules. -/
structure Media where
  hdas : List HdaMedia := []
  /-- Current dump zone 0 or 1 of this head's port on each module that has dumped (R265). -/
  dumpZone : List (Nat × Nat) := []
  vols : List Vol := []
  policies : List Policy := []
  sets : List RSet := []
  /-- EPOCH_HWM by volume number (R392). -/
  hwm : List (Nat × Nat) := []
  snaps : List Snap := []
  units : List MapUnit := []
  frames : List SFrame := []
  bands : List Band := []
  lost : List Lost := []
  strips : List RStrip := []
  /-- Strips written into spare zones: set, position and zone as one key (R377). -/
  spareFill : List (Nat × Nat) := []
  /-- Volumes whose whole live image is lost (R385). -/
  lostVols : List Nat := []
  rebuilds : List Rebuild := []
  rekeys : List Rekey := []
  /-- Every block ever written to a volume, which a discarded block may read as (R263). -/
  written : List (Nat × List Byte) := []
  /-- Full index pages (R198). -/
  ipages : List IndexPage := []
  /-- The frame counter's high-water mark, durable before any value up to it is used (R219). -/
  serial : Nat := 0
  /-- Map pages in DRAM at the last checkpoint (R254). -/
  ckpt : List (Nat × Nat) := []
  modules : List Module := []
  /-- Replication bindings, and what a target has staged of unapplied epochs. -/
  repl : List Repl := []
  staged : List Staged := []
  /-- Dump records of the latest dump sequence, and the dirty writes the dump holds. -/
  dumpSeq : Nat := 0
  dumpRecs : List DumpRec := []
  /-- The modules the sequence's start records name, and the share of dirty writes that each holds. -/
  dumpStart : Option (Nat × List Nat) := none
  /-- Modules whose current dump zone is not erased (R265). -/
  dumpUsed : List Nat := []
  dumped : List (Nat × WJob) := []
  deriving DecidableEq, Repr, Inhabited

/-- Root keys in the fuses (R208, R209). -/
structure Roots where
  ark : Option (List Byte) := none
  frk : Option (List Byte) := none
  arkBad : Bool := false
  frkBad : Bool := false
  deriving DecidableEq, Repr, Inhabited

/-- An entropy source (R224, R225): AON times of the failures of the last 60 min, and when its state was entered. -/
structure Entropy where
  fails : List Nat := []
  retestAt : Nat := 0
  /-- It was in BORROW when its quadrant was gated. -/
  borrowed : Bool := false
  /-- The claimed min-entropy that its last start-up test latched (R224). -/
  claim : Nat := 0x80
  deriving DecidableEq, Repr, Inhabited

/-- A cluster's cipher: its key slots (purpose, volume, epoch, label), most recently used first, the derivations that
jobs wait for, and its DRBG (R213, R223). -/
structure Cipher where
  slots : List (Nat × Nat × Nat × Nat) := []
  wanted : List (Nat × Nat × Nat × Nat) := []
  seededAt : Option Nat := none
  requests : Nat := 0
  /-- XF_STATS: frames coded, frames RAW, bytes in, bytes stored, hits, misses. -/
  stats : List Nat := [0, 0, 0, 0, 0, 0]
  deriving DecidableEq, Repr, Inhabited

/-- Where a map page is held (R251): volume, page, in DRAM, and the clean copy in the host region, with its CRC. -/
structure MapPage where
  vol : Nat
  page : Nat
  dram : Bool
  host : Option Nat := none
  /-- CRC-32C of the host-held copy (R252). -/
  crc : Nat := 0
  dirty : Bool := false
  usedAt : Nat := 0
  deriving DecidableEq, Repr, Inhabited

/-- Volatile state of the data plane. -/
structure Dp where
  writes : List WJob := []
  nextWrite : Nat := 1
  ciphers : List Cipher := List.replicate 32 {}
  entropy : List Entropy := List.replicate 4 {}
  /-- Flash links 0 to 47, and the retry and lanes of the Nerryn link (R410) as number 48. -/
  links : List FLink := List.replicate 49 {}
  brs : List BrCmd := []
  reads : List RdJob := []
  nextRead : Nat := 1
  runs : List HdaRun := []
  nextRun : Nat := 1
  pages : List MapPage := []
  /-- The summary's entries, newest first (R198). -/
  summary : List SumEntry := []
  /-- The next value of the frame counter; none after a reset, when it resumes at the durable mark (R219). -/
  serial : Option Nat := none
  flushedAt : Nat := 0
  /-- Rebase sweeps: volume, live snapshot generations frozen at the start, oldest first, VGEN then, and whether the sweep
  has ended and waits for its commit (R256, R257). -/
  sweeps : List (Nat × List Nat × Nat × Bool) := []
  /-- Candidates that wait for their commit, and when the last such commit was (R279). -/
  cands : List TSet := []
  tunedAt : Nat := 0
  /-- Patrol: when the lap began, member code, zone and bytes still to read, all bytes of the lap, bytes it may read now
  (R287, R288). -/
  lapAt : Nat := 0
  lapLeft : List (Nat × Nat × Nat) := []
  lapAll : Nat := 0
  lapCredit : Nat := 0
  /-- Resync of dirty regions is still to run (R371); sets whose rebuild is paused (R390). -/
  resync : Bool := false
  paused : List Nat := []
  /-- Zones that die swaps are copying now. -/
  copies : List DieCopy := []
  /-- Strips on their way into spare capacity. -/
  moving : List Moving := []
  /-- Bands that PURGE still has to clear. -/
  purge : Option (List (Nat × Nat)) := none
  /-- AON times of the dump's trigger and of the records' issue; modules taking part. -/
  dumpAt : Nat := 0
  dumpPhase : Nat := 0
  /-- 16 KiB slots written into the dump zone of each module (R239, R265). -/
  dumpPos : List (Nat × Nat) := []
  /-- The dump records have been read at this start; restored writes that still wait for their commit (R267). -/
  dumpRead : Bool := false
  restored : List Nat := []
  /-- Volumes whose delete sweep or snapshots' sweeps run are DELETING; flushes waiting: qpid, cid, jobs to wait for. -/
  flushes : List (Nat × Nat × List Nat) := []
  /-- Replication links of this head. -/
  rlinks : List RLink := []
  deriving DecidableEq, Repr, Inhabited

/-! ## Non-volatile state -/

/-- One settings slot of the SPI NOR (R89, R503): its records by key, each a key and its bytes or values. -/
structure Slot where
  valid : Bool
  format : Nat
  seq : Nat
  recs : List (List Nat × List Nat)
  deriving DecidableEq, Repr, Inhabited

/-- The event recorder mirror in the SPI NOR (R484). -/
structure Mirror where
  log : Nat := 0
  count : Nat := 0
  full : Bool := false
  dropped : Nat := 0
  wallHi : Nat := 0
  /-- Records durable in the mirror, newest first. -/
  recs : List Rec := []
  /-- Old sectors left to erase, and how many the erase began with (R487). -/
  eraseLeft : Nat := 0
  eraseAll : Nat := 0
  deriving DecidableEq, Repr, Inhabited

/-- A component entry of an image's manifest (Table "Firmware and Configuration Update" 3). -/
structure Comp where
  /-- 1 management firmware, 2 decoder microcode, 3 bridge firmware, 4 carrier firmware, 5 servo coefficients. -/
  kind : Nat
  sub : Nat := 0
  version : Nat
  offset : Nat := 0
  length : Nat := 0
  digest : List Byte := []
  name : List Byte := []
  deriving DecidableEq, Repr, Inhabited

/-- A firmware image as its header states it (R491), with its body: runs of bytes by offset, newest first. -/
structure Image where
  /-- Whole, with checks 1 and 2 of Table "Firmware and Configuration Update" 4 passed. -/
  good : Bool
  version : Nat
  /-- Settings format the image supports (R89). -/
  format : Nat
  /-- EXPERT_KEYS, 64 bytes each; an all-zero key is unused (R106). -/
  expertKeys : List (List Byte)
  comps : List Comp
  /-- TYPE_MASK, MIN_STEP, PAIR_STEP and the serial of a bound image. -/
  types : Nat := 7
  minStep : Nat := 0
  pairStep : Bool := false
  bound : Option (List Byte) := none
  /-- Its 4,096 header bytes; none for the image that the block is made with (R491). -/
  header : List Byte := []
  bodyLen : Nat := 1
  bodyDigest : List Byte := []
  body : List (Nat × List Byte) := []
  deriving DecidableEq, Repr, Inhabited

/-- Where the staging of a bridge or carrier stands (R496, R499 to R501). -/
inductive StagePhase where
  /-- Waits for the end of an activation. -/
  | wait
  | begin | data (off : Nat) | verify | verified | switch | switched | revert | commit
  /-- BEGIN was refused: QUERY follows at the AON time. -/
  | retry (at_ : Nat)
  deriving DecidableEq, Repr, Inhabited

/-- The staging of a component: 0x100 + link or 0x200 + string, for an activation or because it has trained (R501). -/
structure Staging where
  comp : Nat
  join : Bool
  phase : StagePhase
  deriving DecidableEq, Repr, Inhabited

/-- Volatile state of firmware update (spec/18). -/
structure Upd where
  /-- The image that is LOADING or LOADED. -/
  image : Option Image := none
  /-- Bytes that UPD_DATA has placed. -/
  placed : Nat := 0
  /-- Running version of each component that has answered. -/
  vers : List (Nat × Nat) := []
  jobs : List Staging := []
  /-- Components that are switched or to be switched, in order, and when the open SWITCH was sent. -/
  order : List Nat := []
  switchAt : Nat := 0
  /-- Components whose REVERT failed, and the status and component that a failed activation reports once its reverts end. -/
  stuck : List Nat := []
  failing : Option (Nat × Nat) := none
  /-- An UPD_ACTIVATE that waits for its GRANT; this head holds one; the partner holds one, or waits for one (R498). -/
  asked : Option Packet := none
  granted : Bool := false
  given : Bool := false
  wanted : Bool := false
  /-- AON time of the current STATE, and that the partner fell SILENT in event 4 (R505). -/
  since : Nat := 0
  hold : Bool := false
  deriving DecidableEq, Repr, Inhabited

/-- The manifest of the image that the SPI NOR holds at first: the entries that R492 asks for and decoder microcode of
NAND types 0 and 1, all of version 1.0.0. -/
def firstComps : List Comp :=
  [{ kind := 1, version := 0x01000000 }, { kind := 2, version := 0x01000000 }, { kind := 2, sub := 1, version := 0x01000000 }, { kind := 3, version := 0x01000000 }, { kind := 4, version := 0x01000000 },
   { kind := 5, version := 0x01000000 }]

/-- What survives every reset: fuses, SPI NOR and the VDD_AON cell of SYS_RST_CAUSE. -/
structure Nv where
  /-- Fuses and straps shown in SYS_ID and SYS_HEAD: variant 1 E, 2 P, 3 X. -/
  variant : Nat := 3
  stepMajor : Nat := 0
  stepMinor : Nat := 0
  headB : Bool := false
  serial : List Byte := List.replicate 16 0
  /-- Physical clusters of each quadrant that passed manufacturing test (R530), bit k for Pk. -/
  goodClusters : List Nat := [0x1FF, 0x1FF, 0x1FF, 0x1FF]
  /-- Health area: the quadrants that have an entry, and by it logical map of each quadrant, spare used, retired count, physical
  number of the spare; a quadrant without an entry starts from the fuse map (R530). -/
  healthWritten : List Bool := [false, false, false, false]
  clmap : List (List Nat) := List.replicate 4 [0, 1, 2, 3, 4, 5, 6, 7]
  spareUsed : List Bool := [false, false, false, false]
  retired : List Nat := [0, 0, 0, 0]
  sparePhys : List Nat := [8, 8, 8, 8]
  /-- Health area: management core map. -/
  coresEnabled : Nat := 0xFF
  coresFailed : Nat := 0
  healthCore : Nat := 0
  mirror : Mirror := {}
  /-- Columns of each bank that fuses have replaced, columns entered for repair (bank, column), and banks that run the
  column-mode test once at the next cold reset (R449, R450). -/
  bankFuses : List (Nat × Nat) := []
  bankPend : List (Nat × Nat) := []
  bistOnce : List Nat := []
  /-- Root-key fuses, and what the media hold. -/
  roots : Roots := {}
  media : Media := {}
  /-- Nerryn key epoch high-water mark (R414): what settings record 0x0008 last took, and it outlives SETTINGS_RESET. -/
  keyMark : Nat := 0
  /-- The running image, as the last S0 loaded it; what an activation has put into the image region since (R499); and that
  an activated image has not reached S2 yet (R495). -/
  image : Image := { good := true, version := 0x01000000, format := 1, expertKeys := [], comps := firstComps }
  region : Option Image := none
  arriving : Bool := false
  /-- Version fuses, and the vendor image-key fuses: digest where set, revoked or not (R491, R495). -/
  fuses : List Nat := []
  imageKeys : List (Option (List Byte) × Bool) := [(some [], false), (none, false), (none, false), (none, false)]
  slots : List Slot := [{ valid := true, format := 1, seq := 1, recs := [] }, { valid := false, format := 0, seq := 0, recs := [] }]
  deriving DecidableEq, Repr, Inhabited

/-! ## What the block sends -/

/-- Everything the block drives onto its interfaces, newest first in State.out. -/
inductive Out where
  /-- A reply that left by its transport. -/
  | reply (r : Reply)
  /-- An MSI-X message of a vector (R467). -/
  | msix (vec : Nat)
  /-- A doorbell notification of an identity other than the host (Table 6 of spec/04). -/
  | notify (ident ch : Nat)
  /-- A completion written to a queue pair's CQ (R145). -/
  | cqe (c : Completion)
  /-- A reply written to RBUF of an in-band command (R109). -/
  | rbuf (addr : Nat) (r : Reply)
  /-- What a read of a register or slot at a BAR0 offset returned to an identity. -/
  | readData (ident addr value : Nat)
  /-- What a sub-port sends (R165, R167, R176). -/
  | eth (port sub : Nat) (x : EthTx)
  /-- A PFC frame of a port: pause or release (R168). -/
  | pfc (port : Nat) (pause : Bool)
  /-- Data of a READ written into a host buffer (R149). -/
  | hostData (addr : Nat) (bytes : List Byte)
  /-- A command to a TB2 bridge: link, tag, op, its fields, and its data (R238). -/
  | bridge (link tag op : Nat) (args : List Nat) (data : List Byte)
  /-- A read or write run of an HDA given to its carrier's string: HDA, zone, first sector, count, write or not, data. -/
  | run (hda zone sector count : Nat) (write : Bool) (data : List Byte)
  /-- A flit of link management or retry: its link, the physical lane it goes out on, and its 128 bytes (R231, R232, R410). -/
  | flit (link lane : Nat) (bytes : List Byte)
  /-- Bytes written to the map store: a map page, a unit directory or a full index page (R218, R246, R251, R253). -/
  | mapStore (bytes : List Byte)
  /-- A Nerryn message: TYPE, SUB and its content, and the bytes on the link, header, sealed body and tag (R413). -/
  | nerryn (typ sub : Nat) (args : List Nat) (data bytes : List Byte)
  /-- A replication HELLO on a link: role, pair serial and variant, and for each bound volume the peer's number, A and P
  (R406). -/
  | replHello (link : Nat) (target answer : Bool) (serial : List Byte) (variant : Nat) (vols : List (Nat × Nat × Nat))
  /-- A command to a carrier: string, tag, op, its fields (R301). -/
  | carrier (str tag op : Nat) (args : List Nat)
  /-- An SOUT flit on a string: its 128 bytes (R298, R335). -/
  | sout (str : Nat) (bytes : List Byte)
  /-- WDATA of one sector of a write run: its gates, each with the wedge it follows, its start in ns and its bits, and its
  channel bits (R316, Table "HDA Strings and the Central Read Channel" 5). -/
  | wdata (str run : Nat) (gates : List (Nat × Nat × Nat)) (bits : List Byte)
  /-- A line on the UART, as character codes (R529, R93). -/
  | uart (line : List Nat)
  deriving DecidableEq, Repr, Inhabited

/-- An internal job in flight, stamped with its epoch (R24): what it is and what it works on. -/
structure Job where
  kind : Nat
  ref : Nat
  epoch : Nat
  deriving DecidableEq, Repr, Inhabited

/-! ## The whole -/

/-- The epoch-committed tables (Table "Architecture: Quadrants, Clusters and Three Planes" 6). -/
structure Tables where
  /-- Queue-pair bindings (R131). -/
  qps : List QpBind := []
  /-- VRM connection bindings and path sets (R170). -/
  conns : List ConnBind := []
  /-- Volume table, transform policies and fret map (R391, R228, R361). -/
  vols : List Vol := []
  policies : List Policy := []
  sets : List RSet := []
  /-- Tuning table: sets of flash and of HDAs that differ from what a format gives (R276, R325). -/
  tuning : List TSet := []
  hsets : List HSet := []
  /-- Servo and spindle table: HDA, stamp and loop block; phase offsets by HDA (R342). -/
  loops : List (Nat × Nat × List Byte) := []
  phases : List (Nat × Nat) := []
  deriving DecidableEq, Repr, Inhabited

/-- The state of the HX880 block. -/
structure State where
  /-- Commands waiting, first in first out. -/
  pending : List Instr := []
  /-- Register fields that differ from their reset value: bit address and value, bit addresses rising. -/
  flds : List (Nat × Nat) := []
  /-- The AON timebase and device time, in ns (R70). -/
  aon : Nat := 0
  dev : Nat := 0
  /-- The model's own: how many free values have been drawn (log entry 2). -/
  free : Nat := 0
  out : List Out := []
  nv : Nv := {}
  pwr : Pwr := {}
  spares : List Spare := List.replicate 4 {}
  start : Start := {}
  /-- The active and shadow banks, and the retiring banks until SYS_EPOCH_RET reaches zero (R25). -/
  act : Tables := {}
  shadow : Tables := {}
  retiring : Option Tables := none
  /-- Internal jobs in flight (R24). -/
  jobs : List Job := []
  cmd : Cmd := {}
  hq : Hq := {}
  vrm : Vrm := {}
  dp : Dp := {}
  pair : Pair := {}
  hdas : Hdas := {}
  mem : Mem := {}
  evr : Evr := {}
  pci : Pci := {}
  upd : Upd := {}
  deriving DecidableEq, Repr, Inhabited

/-- The machine right after reset: VDD_AON has risen, no feed is good, every register holds its reset value; UPD_RUN_VER
shows the version of the image that the SPI NOR holds. -/
def State.reset : State := { flds := [(UPD.RUN_VER.VER.bit, 0x01000000)] }

end Sys2Proof.Machine
end

