-- ==== Sys2Proof/Machine/Operands.lean ====
section
/-! DEFINITION. Bytes and fields: little-endian numbers, CRC-32C, SHA-256, the command header and the reply as byte
strings, and a packet's parameters by offset. -/

namespace Sys2Proof

/-! ## Bytes -/

/-- The n lowest bytes of a number, lowest first (R95). -/
def leBytes : Nat → Nat → List Byte
  | 0, _ => []
  | n + 1, v => BitVec.ofNat 8 v :: leBytes n (v / 256)

/-- The number that bytes spell, lowest first. -/
def leNat : List Byte → Nat
  | [] => 0
  | b :: bs => b.toNat + 256 * leNat bs

/-- The number that bytes spell, highest first (R525). -/
def beNat (bs : List Byte) : Nat := bs.foldl (fun a b => a * 256 + b.toNat) 0

/-- The n bytes of a number, highest first (R525). -/
def beBytes (n v : Nat) : List Byte := (leBytes n v).reverse

/-- n bytes of a list from an offset, zeros past its end. -/
def slice (bs : List Byte) (off n : Nat) : List Byte :=
  let r := (bs.drop off).take n
  r ++ List.replicate (n - r.length) 0

/-- The little-endian field of n bytes at an offset. -/
def fieldAt (bs : List Byte) (off n : Nat) : Nat := leNat (slice bs off n)

/-- The characters of a string as bytes. -/
def ascii (s : String) : List Byte := s.toList.map (fun c => BitVec.ofNat 8 c.toNat)

/-! ## CRC-32C -/

/-- One bit of the reflected CRC with polynomial 0x82F63B78. -/
def crcBit (c : Nat) : Nat := if c % 2 = 1 then (c / 2) ^^^ 0x82F63B78 else c / 2

/-- One byte of the CRC. -/
def crcByte (c : Nat) (b : Byte) : Nat :=
  crcBit (crcBit (crcBit (crcBit (crcBit (crcBit (crcBit (crcBit (c ^^^ b.toNat))))))))

/-- CRC-32C of a byte string (log entry 6). -/
def crc32c (bs : List Byte) : Nat := (bs.foldl crcByte 0xFFFFFFFF) ^^^ 0xFFFFFFFF

/-! ## Flits (R231, R298) -/

/-- A flit (Table "Flash Modules and the Translation Layer" 1). -/
def flitBytes (typ vc seq cred ackSeq : Nat) (payload : List Byte) : List Byte :=
  let p := payload.take 120
  let b := leBytes 2 (typ * 2 ^ 12 + vc * 2 ^ 10 + seq) ++ leBytes 2 (cred * 2 ^ 10 + ackSeq) ++ p ++ List.replicate (120 - p.length) 0
  b ++ leBytes 4 (crc32c b)

/-- A received flit's TYPE, SEQ and ACKSEQ, and whether its FCRC is good. -/
def flitTyp (f : List Byte) : Nat := bitsAt (fieldAt f 0 2) 12 4
def flitSeq (f : List Byte) : Nat := bitsAt (fieldAt f 0 2) 0 10
def flitAck (f : List Byte) : Nat := bitsAt (fieldAt f 2 2) 0 10
def flitGood (f : List Byte) : Bool := decide (fieldAt f 124 4 = crc32c (slice f 0 124))

/-! ## SHA-256 -/

/-- Word i of a 256-bit number, most significant word first. -/
def word256 (x i : Nat) : Nat := x / 2 ^ (32 * (7 - i)) % 2 ^ 32

/-- The round constants of FIPS 180-4, eight in a number. -/
def shaConstants : List Nat :=
  [0x428a2f9871374491b5c0fbcfe9b5dba53956c25b59f111f1923f82a4ab1c5ed5,
   0xd807aa9812835b01243185be550c7dc372be5d7480deb1fe9bdc06a7c19bf174,
   0xe49b69c1efbe47860fc19dc6240ca1cc2de92c6f4a7484aa5cb0a9dc76f988da,
   0x983e5152a831c66db00327c8bf597fc7c6e00bf3d5a7914706ca635114292967,
   0x27b70a852e1b21384d2c6dfc53380d13650a7354766a0abb81c2c92e92722c85,
   0xa2bfe8a1a81a664bc24b8b70c76c51a3d192e819d6990624f40e3585106aa070,
   0x19a4c1161e376c082748774c34b0bcb5391c0cb34ed8aa4a5b9cca4f682e6ff3,
   0x748f82ee78a5636f84c878148cc7020890befffaa4506cebbef9a3f7c67178f2]
def shaConstant (t : Nat) : Nat := word256 (shaConstants.getD (t / 8) 0) (t % 8)

/-- Rotate a 32-bit number right. -/
def rotr32 (x n : Nat) : Nat := (x / 2 ^ n) ||| (x * 2 ^ (32 - n) % 2 ^ 32)

/-- Exclusive or of some rotations of a word. -/
def rotSum (x : Nat) (ns : List Nat) : Nat := ns.foldl (fun acc n => acc ^^^ rotr32 x n) 0

/-- The message schedule, newest word first: extends 16 words to 64. -/
def shaSchedule : Nat → List Nat → List Nat
  | 0, w => w
  | n + 1, w =>
    let back := fun (k : Nat) => w.getD (k - 1) 0
    let s1 := rotSum (back 2) [17, 19] ^^^ back 2 / 2 ^ 10
    let s0 := rotSum (back 15) [7, 18] ^^^ back 15 / 2 ^ 3
    shaSchedule n ((back 7 + back 16 + s0 + s1) % 2 ^ 32 :: w)

/-- One round on the eight working variables, a to h. -/
def shaRound (v : List Nat) (t w : Nat) : List Nat :=
  let x := fun (i : Nat) => v.getD i 0
  let choose := ((x 4 &&& x 5) ^^^ (x 6 &&& (2 ^ 32 - 1 - x 4)))
  let major := (x 0 &&& (x 1 ||| x 2)) ||| (x 1 &&& x 2)
  let add := x 7 + rotSum (x 4) [6, 11, 25] + choose + shaConstant t + w
  let next := fun (i : Nat) =>
    if i = 0 then (add + rotSum (x 0) [2, 13, 22] + major) % 2 ^ 32 else if i = 4 then (x 3 + add) % 2 ^ 32 else x (i - 1)
  (List.range 8).map next

/-- One 64-byte block into the hash value. -/
def shaBlock (hv : List Nat) (blk : List Byte) : List Nat :=
  let first := (List.range 16).map (fun i => beNat (slice blk (4 * i) 4))
  let words := (shaSchedule 48 first.reverse).reverse
  let out := (words.mapIdx Prod.mk).foldl (fun v tw => shaRound v tw.1 tw.2) hv
  List.zipWith (fun x y => (x + y) % 2 ^ 32) hv out

/-- The padded message. -/
def shaPad (bs : List Byte) : List Byte :=
  bs ++ [0x80] ++ List.replicate ((119 - bs.length % 64) % 64) 0 ++ beBytes 8 (8 * bs.length)

/-- SHA-256 of a byte string: 32 bytes. -/
def sha256 (bs : List Byte) : List Byte :=
  let init := 0x6a09e667bb67ae853c6ef372a54ff53a510e527f9b05688c1f83d9ab5be0cd19
  let blocks := (List.range ((shaPad bs).length / 64)).map (fun i => slice (shaPad bs) (64 * i) 64)
  (blocks.foldl shaBlock ((List.range 8).map (word256 init))).flatMap (beBytes 4)

/-- HMAC-SHA-256. -/
def hmacSha256 (key msg : List Byte) : List Byte :=
  let k := slice (if key.length > 64 then sha256 key else key) 0 64
  sha256 (k.map (· ^^^ 0x5C) ++ sha256 (k.map (· ^^^ 0x36) ++ msg))

/-- Key derivation of SP 800-108 in counter mode (R211). -/
def derive (key : List Byte) (purpose vol epoch label bits : Nat) : List Byte :=
  let it := fun (i : Nat) => hmacSha256 key (beBytes 4 (i + 1) ++ [0x56, 0x58, 0x4B, 0x44] ++ beBytes 1 purpose ++ [0] ++
    beBytes 2 vol ++ beBytes 4 epoch ++ beBytes 4 label ++ beBytes 4 bits)
  ((List.range ((bits + 255) / 256)).flatMap it).take (bits / 8)

/-! ## The command header and the reply -/

/-- Bytes 0 to 59 of a packet's header (Table "Command Packets, Mailboxes and Doorbells" 1). -/
def Packet.headBytes (p : Packet) : List Byte :=
  leBytes 2 p.opcode ++ leBytes 1 p.flags ++ leBytes 1 p.loc ++ leBytes 4 p.tag ++ leBytes 2 p.plen ++
  leBytes 1 p.hver ++ leBytes 1 p.rsvd11 ++ leBytes 4 p.session ++ leBytes 8 p.pbuf ++ leBytes 8 p.rbuf ++
  slice p.rsvd32 0 24 ++ leBytes 4 p.pcrc

/-- A packet read from the bytes of a message (R95). -/
def Packet.ofBytes (via : Via) (ident msgLen : Nat) (h params : List Byte) : Packet where
  via := via
  ident := ident
  msgLen := msgLen
  opcode := fieldAt h 0 2
  flags := fieldAt h 2 1
  loc := fieldAt h 3 1
  tag := fieldAt h 4 4
  plen := fieldAt h 8 2
  hver := fieldAt h 10 1
  rsvd11 := fieldAt h 11 1
  session := fieldAt h 12 4
  pbuf := fieldAt h 16 8
  rbuf := fieldAt h 24 8
  rsvd32 := slice h 32 24
  pcrc := fieldAt h 56 4
  hcrc := fieldAt h 60 4
  params := params

/-- An I/O submission read from its 64 bytes (Table "Host Queues and Command Ordering" 4). -/
def SubEntry.ofBytes (b : List Byte) : SubEntry where
  opcode := fieldAt b 0 1
  flags := fieldAt b 1 1
  cid := fieldAt b 2 2
  volume := fieldAt b 4 2
  snap := fieldAt b 6 2
  slba := fieldAt b 8 8
  nblk := fieldAt b 16 2
  rsvd18 := fieldAt b 18 6
  dptr := fieldAt b 24 8
  dkey := fieldAt b 32 4
  sglCnt := fieldAt b 36 2
  rsvd38 := fieldAt b 38 10
  arg := fieldAt b 48 8
  rsvd56 := fieldAt b 56 8

/-- The submissions that a ring read has brought. -/
def entriesOf (b : List Byte) : List SubEntry := (List.range (b.length / 64)).map (fun i => SubEntry.ofBytes (slice b (64 * i) 64))

/-- The entries of a scatter list: address, memory key and length (R142). -/
def scatterOf (b : List Byte) : List (Nat × Nat × Nat) :=
  (List.range (b.length / 16)).map (fun i => (fieldAt b (16 * i) 8, fieldAt b (16 * i + 8) 4, fieldAt b (16 * i + 12) 4))

/-- The parameters proper: PLEN bytes; what lies beyond is ignored (R97). -/
def Packet.body (p : Packet) : List Byte := slice p.params 0 p.plen

/-- A one-, two-, four- and eight-byte parameter at an offset. -/
def Packet.u8 (p : Packet) (off : Nat) : Nat := fieldAt p.params off 1
def Packet.u16 (p : Packet) (off : Nat) : Nat := fieldAt p.params off 2
def Packet.u32 (p : Packet) (off : Nat) : Nat := fieldAt p.params off 4
def Packet.u64 (p : Packet) (off : Nat) : Nat := fieldAt p.params off 8

/-- The FLAGS bits of R95. -/
def Packet.commit (p : Packet) : Bool := bitAt p.flags 4
def Packet.serial (p : Packet) : Bool := bitAt p.flags 3
def Packet.dryRun (p : Packet) : Bool := bitAt p.flags 2

/-- An expert opcode has bit 15 set (R101). -/
def Packet.expert (p : Packet) : Bool := bitAt p.opcode 15

/-- The in-band transport (R109). -/
def Packet.isInband (p : Packet) : Bool :=
  match p.via with
  | .inband _ _ => true
  | .mailbox _ => false

/-- The priority class (R113): health commands 0; another command that asks for 0 runs as 1. -/
def Packet.cls (p : Packet) : Nat :=
  if 0x0100 ≤ p.opcode ∧ p.opcode ≤ 0x011F then 0 else max 1 (p.flags % 4)

/-- The transports of R110: PCIe 0, I3C 1, Nerryn 2, in-band 3. -/
def transportOf (ident : Nat) : Nat :=
  if ident = 4 then 1 else if ident = 5 then 2 else if ident = 6 then 3 else 0

/-- Scope, quadrant and cluster of a location code, when R12 accepts it. -/
def locOk (loc : Nat) : Bool :=
  let scope := bitsAt loc 6 2; let quad := bitsAt loc 4 2; let cl := bitsAt loc 0 3
  scope ≠ 3 ∧ ¬ bitAt loc 3 ∧ (scope = 0 → quad = 0) ∧ (scope ≠ 2 → cl = 0)

/-- The location code of a quadrant and of a cluster (R12). -/
def locQuad (q : Nat) : Nat := 0x40 + 16 * q
def locCluster (q k : Nat) : Nat := 0x80 + 16 * q + k

end Sys2Proof

namespace Sys2Proof.Machine

/-- Bytes of a reply: the status packet with its RCRC, then the data (R96). -/
def Reply.bytes (r : Reply) : List Byte :=
  let h := leBytes 2 r.status ++ leBytes 2 r.opcode ++ leBytes 4 r.tag ++ leBytes 2 r.data.length ++ leBytes 1 r.loc ++
    leBytes 1 r.cls ++ leBytes 4 r.detail ++ leBytes 4 r.epoch ++ leBytes 8 r.time
  h ++ leBytes 4 (crc32c (h ++ r.data)) ++ r.data

/-- Bytes of a record (Table "Event Recorder" 1). -/
def Rec.bytes (r : Rec) : List Byte :=
  let h := leBytes 8 r.time ++ leBytes 4 r.wall ++ leBytes 2 r.code ++ leBytes 1 r.loc ++ leBytes 1 r.flags ++
    leBytes 2 r.log ++ leBytes 2 r.index ++ leBytes 2 r.suppressed ++ [0, 0] ++
    (if r.code = 0x0405 then slice r.data 0 36 else leBytes 4 r.res ++ leBytes 4 r.value ++ slice r.data 0 28)
  h ++ leBytes 4 (crc32c h)

end Sys2Proof.Machine
end

