-- ==== Sys2Proof/Machine/Ops.lean ====
section
/-! DEFINITION. The named operations over the state that several chapters share: register fields, addressed
buffers, time, what the block sends, event records, MSI-X vectors and upstream requests. -/

namespace Sys2Proof.Machine

/-! ## Register fields -/

/-- Look a bit address up in the sparse field list. -/
def fldFind : List (Nat × Nat) → Nat → Option Nat
  | [], _ => none
  | (a, v) :: r, b => if a = b then some v else fldFind r b

/-- Put a value at a bit address of the sparse field list, in rising order. -/
def fldIns : List (Nat × Nat) → Nat → Nat → List (Nat × Nat)
  | [], b, v => [(b, v)]
  | (a, w) :: r, b, v => if a < b then (a, w) :: fldIns r b v else if a = b then (b, v) :: r else (b, v) :: (a, w) :: r

/-- Set a bit address in the sparse field list; its reset value d removes the entry. -/
def fldSet (l : List (Nat × Nat)) (b v d : Nat) : List (Nat × Nat) :=
  if v = d then l.filter (fun e => e.1 ≠ b) else fldIns l b v

/-- The value of a register field. -/
def State.get (s : State) (f : Fld) : Nat := (fldFind s.flds f.bit).getD f.reset

/-- Give a register field a value, modulo its width. -/
def State.put (s : State) (f : Fld) (v : Nat) : State :=
  { s with flds := fldSet s.flds f.bit (v % 2 ^ f.width) f.reset }

/-- A one-bit field as a Bool. -/
def State.on (s : State) (f : Fld) : Bool := s.get f ≠ 0
/-- Set and clear a one-bit field. -/
def State.setB (s : State) (f : Fld) : State := s.put f 1
def State.clrB (s : State) (f : Fld) : State := s.put f 0

/-- Add to a saturating counter (R519). -/
def State.count (s : State) (f : Fld) (n : Nat) : State := s.put f (min (2 ^ f.width - 1) (s.get f + n))

/-- Set bit i of a field that holds one bit per item. -/
def State.putBit (s : State) (f : Fld) (i : Nat) (b : Bool) : State :=
  let v := s.get f
  s.put f (if b then v ||| 2 ^ i else v - (v &&& 2 ^ i))

/-- Bit i of a field. -/
def State.bit (s : State) (f : Fld) (i : Nat) : Bool := bitAt (s.get f) i

/-- Apply a change only when a condition holds. -/
def State.iff (s : State) (c : Bool) (f : State → State) : State := if c then f s else s

/-! ## Addressed buffers -/

/-- The byte a buffer reads as at an address: 0 where nothing is listed. -/
def Memory.read : Memory → Nat → Byte
  | [], _ => 0
  | (a, v) :: r, b => if a = b then v else Memory.read r b

/-- Put a byte at an address of a buffer, in rising order. -/
def Memory.ins : Memory → Nat → Byte → Memory
  | [], b, v => [(b, v)]
  | (a, w) :: r, b, v => if a < b then (a, w) :: Memory.ins r b v else if a = b then (b, v) :: r else (b, v) :: (a, w) :: r

/-- Write a byte, keeping the canonical form: 0 removes the entry. -/
def Memory.write (m : Memory) (b : Nat) (v : Byte) : Memory :=
  if v = 0 then m.filter (fun e => e.1 ≠ b) else m.ins b v

/-- Write bytes from an address upwards. -/
def Memory.writes : Memory → Nat → List Byte → Memory
  | m, _, [] => m
  | m, a, b :: bs => Memory.writes (m.write a b) (a + 1) bs

/-- Read n bytes from an address upwards. -/
def Memory.reads (m : Memory) (a n : Nat) : List Byte := (List.range n).map (fun i => m.read (a + i))

/-- The canonical form: addresses strictly rising from a lower bound, no entry 0. -/
def Memory.wfFrom : Nat → Memory → Bool
  | _, [] => true
  | lo, (a, v) :: r => lo ≤ a && v ≠ 0 && Memory.wfFrom (a + 1) r

/-- The canonical form of a buffer. -/
def Memory.wf (m : Memory) : Bool := Memory.wfFrom 0 m

/-! ## Time -/

/-- Let ns nanoseconds pass: the AON timebase always runs, device time only once the crystal is found (R70). -/
def State.pass (s : State) (ns : Nat) : State :=
  { s with aon := s.aon + ns, dev := if s.on CLK.REF_STS.X32K_OK then s.dev + ns else s.dev }

/-- Let time pass up to an AON time, if it lies ahead (log entry 4). -/
def State.passTo (s : State) (t : Nat) : State := s.pass (t - s.aon)

/-- The next tick of a grid of the AON timebase. -/
def State.nextTick (s : State) (grid : Nat) : Nat := (s.aon / grid + 1) * grid

/-! ## Free values and what the block sends -/

/-- Draw a free value (log entry 2). -/
def State.draw (s : State) : Nat × State := (Config.freeValue s.free, { s with free := s.free + 1 })

/-- Draw n bytes from a cluster DRBG (R223). -/
def State.drbg (s : State) (n : Nat) : List Byte × State :=
  ((List.range n).map (Config.drbgByte s.free), { s with free := s.free + 1 })

/-- Map-log records of the partner, as the head reads them from the map store: a free value (log entry 192). -/
def State.partnerLog (s : State) : List LogRec × State :=
  (Config.partnerLog s.free, { s with free := s.free + 1 })

/-- Draw n free bytes: content the spec gives no layout or value for (log entry 2). -/
def State.freeBytes (s : State) (n : Nat) : List Byte × State :=
  ((List.range n).map (fun i => BitVec.ofNat 8 (Config.freeValue (s.free + i))), { s with free := s.free + n })

/-- A number not among those used: the free candidate where it serves, else the smallest positive one. -/
def freshNat (cand : Nat) (used : List Nat) : Nat :=
  if cand ≠ 0 ∧ ¬ used.contains cand then cand
  else ((List.range (used.length + 1)).map (· + 1)).find? (fun n => ¬ used.contains n) |>.getD 0

/-- Send something. -/
def State.emit (s : State) (o : Out) : State := { s with out := o :: s.out }

/-- Change the durable data. -/
def State.media (s : State) (f : Media → Media) : State := { s with nv := { s.nv with media := f s.nv.media } }
def State.setDp (s : State) (f : Dp → Dp) : State := { s with dp := f s.dp }

/-- A usable root: set and not bad. -/
def State.ark (s : State) : Option (List Byte) := if s.nv.roots.arkBad then none else s.nv.roots.ark
def State.frk (s : State) : Option (List Byte) := if s.nv.roots.frkBad then none else s.nv.roots.frk

/-- The NERRYN key of a Nerryn key epoch (spec/07, Table 7). -/
def State.nerrynKey (s : State) (epoch : Nat) : List Byte := derive (s.ark.getD []) 3 0 epoch 0 256

/-- A Nerryn message on the link (R413): its header in clear, its body and tag sealed under the key of the current key
epoch (R220); the layout of a body is the HX880's own (Config.nrnBody, log entry 145). -/
def State.nrnBytes (s : State) (typ sub : Nat) (args : List Nat) (data : List Byte) : List Byte :=
  let body := Config.nrnBody typ sub args data
  let epoch := s.get NRN.KEY_EPOCH.EPOCH
  let head := leBytes 1 typ ++ leBytes 1 sub ++ leBytes 2 0 ++ leBytes 4 body.length ++ leBytes 8 s.pair.mseqTx ++
    leBytes 4 epoch ++ List.replicate 12 0
  let nonce := leBytes 1 (s.get SYS.HEAD.HEAD_B) ++ List.replicate 3 0 ++ leBytes 8 s.pair.mseqTx
  head ++ slice (Config.gcm (s.nerrynKey epoch) nonce head body) 0 (body.length + 16)

/-- Send a Nerryn message, sealed and numbered, while the link is trained (R413); a refused link carries HEARTBEAT only (R416). -/
def State.sendNrn (s : State) (typ sub : Nat) (args : List Nat) (data : List Byte) : State :=
  if s.on NRN.STS.UP ∧ (s.get NRN.PAIR_STS.PARTNER ≠ 2 ∨ typ = 1) then
    ({ s with pair := { s.pair with mseqTx := s.pair.mseqTx + 1 } } : State).emit
      (.nerryn typ sub args data (s.nrnBytes typ sub args data))
  else s

/-! ## Event records (R30, R478 to R482) -/

/-- Wall time in ms, zero while it is not set. -/
def State.wallFull (s : State) : Nat :=
  match s.evr.wallAt with
  | none => 0
  | some (ms, at_) => (ms + (s.dev - at_) / Config.ms) % 2 ^ 64

/-- Its low 32 bits. -/
def State.wallMs (s : State) : Nat := s.wallFull % 2 ^ 32

/-- The codes that bypass their buckets (R480). -/
def bypassCodes : List Nat := [0x0106, 0x0105, 0x0401, 0x0402, 0x0403, 0x0404]

/-- Rate and burst in force for a bucket; a burst of 0 counts as 1. -/
def State.rateOf (s : State) (b : Bucket) : Nat × Nat :=
  let rb := b.own.getD (s.get EVR.CFG.DEF_RATE, s.get EVR.CFG.DEF_BURST)
  (rb.1, max 1 rb.2)

/-- The bucket of a code; one starts full (R480). -/
def State.bucket (s : State) (code : Nat) : Bucket :=
  (s.evr.buckets.find? (fun b => b.code = code)).getD
    { code := code, tokens := max 1 (s.get EVR.CFG.DEF_BURST) * Config.sec, at_ := s.aon }

/-- The rate limit of R480: the bucket after the record, and whether the record is accepted. -/
def State.limit (s : State) (code : Nat) : Bucket × Bool :=
  let b := s.bucket code
  let rb := s.rateOf b
  let t := min (rb.2 * Config.sec) (b.tokens + rb.1 * (s.aon - b.at_))
  if bypassCodes.contains code then ({ b with supp := 0 }, true)
  else if rb.1 = 0xFF then ({ b with tokens := t, at_ := s.aon, supp := 0 }, true)
  else if Config.sec ≤ t then ({ b with tokens := t - Config.sec, at_ := s.aon, supp := 0 }, true)
  else ({ b with tokens := t, at_ := s.aon, supp := min 65535 (b.supp + 1) }, false)

/-- Intake entries in use: a group takes 1 + ceil(n/8) (R482). -/
def Group.size (g : Group) : Nat := 1 + (g.offs.length + 7) / 8
def State.intakeUsed (s : State) : Nat := (s.evr.intake.map Group.size).sum

/-- Post one event record to the recorder (R30, R480 to R483). -/
def State.postRecord (s : State) (code loc res value : Nat) (data : List Byte) : State :=
  let b := s.bucket code
  let (b', ok) := s.limit code
  let s := { s with evr := { s.evr with buckets := b' :: s.evr.buckets.filter (fun x => x.code ≠ code) } }
  if ¬ ok then s.count EVR.SUPP.COUNT 1 else
  let tr := s.evr.trigs.find? (fun t => code ≠ 0x0405 ∧ code &&& t.mask = t.code &&& t.mask)
  let r : Rec :=
    { time := s.dev, wall := s.wallMs % 2 ^ 32, code := code, loc := loc,
      flags := b2n s.evr.wallAt.isSome + (if tr.isSome then 2 else 0), suppressed := b.supp, res := res, value := value,
      data := data }
  let g : Group := { head := r, trig := (tr.map Trig.num).getD 0, offs := (tr.map Trig.offs).getD [] }
  if s.on EVR.STS.FULL then s.count EVR.DROPPED.COUNT g.size
  else if s.intakeUsed + g.size > 256 then (s.count EVR.DROPPED.COUNT g.size).setB EVR.STS.QOVF
  else { s with evr := { s.evr with intake := s.evr.intake ++ [g] } }

/-- A WALL_EPOCH record comes before every record stamped after WALL_MS has wrapped (R479). -/
def State.wallEpoch (s : State) : State :=
  let hi := s.wallFull / 2 ^ 32
  if s.evr.wallAt.isNone ∨ hi = s.evr.wallHi then s
  else ({ s with evr := { s.evr with wallHi := hi } } : State).postRecord 0x0403 0 0 hi []

/-- Post an event record (R30, R479). -/
def State.record (s : State) (code loc res value : Nat) (data : List Byte) : State :=
  s.wallEpoch.postRecord code loc res value data

/-! ## PCI Express (R465 to R469) -/

/-- The capabilities at their offsets (R461, R463): each header with its identity and the next one's offset, the MSI-X table and PBA
in BAR4, No_Soft_Reset, the widest link and the completion timeout ranges; the field layouts are the base specification's
(log entry 7). -/
def pciCaps : List (Nat × Nat) :=
  [(0x34, 0x40), (0x40, 0x0003_5001), (0x44, 8), (0x50, 0x07FF_7011), (0x54, 4), (0x58, 0x8004), (0x70, 0x0002_0010), (0x74, 0x1000_8022),
   (0x7C, 0x0000_0906), (0x94, 0x0003_001F), (0x100, 0x1482_0001), (0x148, 0x1581_0003), (0x158, 0x1981_0019), (0x198, 0x1A81_0025),
   (0x1A8, 0x1D81_0026), (0x1D8, 0x2001_002A), (0x200, 0x2201_0031), (0x220, 0x2A01_0027), (0x2A0, 0x0001_0032)]

/-- What a configuration dword resets to (R462 to R464 and the base specification, log entry 7). -/
def State.cfgReset (s : State) (off : Nat) : Nat :=
  if off = 0x00 then 0x0880_1F9C
  else if off = 0x04 then 0x0010_0000
  else if off = 0x08 then 0x0180_0000 + 16 * s.get SYS.ID.STEP_MAJOR + s.get SYS.ID.STEP_MINOR
  else if off = 0x10 ∨ off = 0x18 ∨ off = 0x20 then 4
  else if off = 0x2C then s.pci.subIds
  else if off = 0x10C then 0x0046_2030
  else if off = 0x14C ∨ off = 0x150 then fieldAt s.nv.serial (off - 0x14C) 4
  else (fldFind pciCaps off).getD 0

/-- A configuration dword. -/
def State.cfgRead (s : State) (off : Nat) : Nat := (fldFind s.pci.cfg off).getD (s.cfgReset off)

/-- Memory Space Enable, Bus Master Enable, D3hot, MSI-X Enable and Function Mask. -/
def State.mse (s : State) : Bool := bitAt (s.cfgRead 0x04) 1
def State.bme (s : State) : Bool := bitAt (s.cfgRead 0x04) 2
def State.d3hot (s : State) : Bool := bitsAt (s.cfgRead 0x44) 0 2 = 3
def State.msixEnable (s : State) : Bool := bitAt (s.cfgRead 0x50) 31
def State.functionMask (s : State) : Bool := bitAt (s.cfgRead 0x50) 30

/-- Whether the block may issue a request upstream (R466, R472). -/
def State.mayIssue (s : State) : Bool :=
  s.pci.ready && s.pci.linkUp && s.bme && !s.d3hot && !s.on PCI.STS.FATAL

/-- The mask bit of a vector. -/
def State.vecMask (s : State) (v : Nat) : Bool :=
  ((s.pci.table.find? (fun e => e.vec = v)).map MsixEntry.mask).getD true

/-- Insert a number in a strictly rising list. -/
def insertNat : List Nat → Nat → List Nat
  | [], n => [n]
  | a :: r, n => if a < n then a :: insertNat r n else if a = n then a :: r else n :: a :: r

/-- A source signals a vector (R467). -/
def State.signal (s : State) (v : Nat) : State :=
  if s.mayIssue ∧ s.msixEnable ∧ ¬ s.functionMask ∧ ¬ s.vecMask v then
    (if s.pci.pba.contains v then s else s.emit (.msix v))
  else { s with pci := { s.pci with pba := insertNat s.pci.pba v } }

/-- Each set pending bit of an unmasked vector sends one message and clears, while messages may flow (R467). -/
def State.flushVectors (s : State) : State :=
  if s.mayIssue ∧ s.msixEnable ∧ ¬ s.functionMask then
    let go := s.pci.pba.filter (fun v => ¬ s.vecMask v)
    { s with
      out := (go.map Out.msix).reverse ++ s.out
      pci := { s.pci with pba := s.pci.pba.filter (fun v => s.vecMask v) } }
  else s

/-- Reads that may still be issued: at most 1,024 are outstanding (R461). -/
def State.readRoom (s : State) : Nat := 1024 - (s.pci.reads.filter (fun r => r.issued && !r.arrived)).length

/-- Issue an upstream read, or leave it waiting while requests may not flow (R87, R461, R466): its tag and the new state. -/
def State.upRead (s : State) (kind id ref : Nat) (addr len part : Nat := 0) : State :=
  { s with pci := { s.pci with
    reads := s.pci.reads ++ [{ tag := s.pci.nextTag, kind := kind, id := id, ref := ref, addr := addr, len := len, part := part,
                               issued := s.mayIssue && decide (0 < s.readRoom), at_ := s.aon }]
    nextTag := s.pci.nextTag + 1 } }

/-- Take a read off the outstanding ones. -/
def State.dropRead (s : State) (tag : Nat) : State :=
  { s with pci := { s.pci with reads := s.pci.reads.filter (fun r => r.tag ≠ tag) } }

/-- Waiting reads are issued, oldest first, once requests may flow (R461, R466). -/
def State.issueReads (s : State) : State :=
  let go := ((s.pci.reads.filter (fun r => !r.issued)).take s.readRoom).map URead.tag
  if s.mayIssue ∧ ¬ go.isEmpty then
    { s with pci := { s.pci with
      reads := s.pci.reads.map (fun r => if go.contains r.tag then { r with issued := true, at_ := s.aon } else r) } }
  else s

/-- Record the first failed read, count a timeout, set READ_FAIL and signal EVT_VEC (R469). -/
def State.readFailed (s : State) (kind cause id : Nat) : State :=
  let s := if s.on PCI.ERR.VALID then s else
    (((s.put PCI.ERR.VALID 1).put PCI.ERR.KIND kind).put PCI.ERR.CAUSE cause).put PCI.ERR.ID
      (if kind ≤ 4 ∨ kind = 7 then id else 0)
  let s := if cause = 1 then s.count PCI.CTO_CNT.COUNT 1 else s
  let s := s.setB PCI.STS.READ_FAIL
  s.iff (s.on PCI.CTL.EVT_INT_EN) (·.signal (s.get PCI.CTL.EVT_VEC))

/-! ## Clusters that work (R17, R32, R54) -/

/-- The cluster of its quadrant that a swap or retirement is at, from event 2 to event 7. -/
def SwapPhase.cluster : SwapPhase → Option Nat
  | .idle => none
  | .draining k _ _ => some k
  | .selfTest k => some k
  | .remap k _ => some k

/-- A swap or retirement keeps a cluster from new work (R17, R18). -/
def State.swapping (s : State) (cl : Nat) : Bool := decide ((s.spares.getD (cl / 8) {}).phase.cluster = some (cl % 8))

/-- Clusters of a quadrant that are not retired. -/
def State.liveClusters (s : State) (q : Nat) : List Nat :=
  ((List.range 8).filter (fun k => s.get (SYS.CLMAP.C q k) ≠ 0xF)).map (8 * q + ·)

/-- A cluster and its quadrant are awake, so that commands in flight go on (R32, R54, R158). -/
def State.clusterAwake (s : State) (cl : Nat) : Bool :=
  decide (s.pwr.clusters.getD cl .gated = .awake) && decide (s.pwr.quads.getD (cl / 8) .gated = .awake)

/-- A cluster takes new work: awake, and not between events 2 and 7 of a swap (R17, R190). -/
def State.clusterWorks (s : State) (cl : Nat) : Bool := s.clusterAwake cl && !s.swapping cl

/-! ## Work that stops (R50, R61, R85, R92, R428) -/

/-- Intake has stopped: Ethernet, the queues and the Nerryn link. -/
def State.intakeStopped (s : State) : Bool :=
  s.start.warm = .dumping || s.pwr.drawLimited || s.on SYS.START_STS.DEAD || s.pwr.tripped

/-- The head is ISOLATED (R428). -/
def State.isolated (s : State) : Bool := s.get NRN.PAIR_STS.ROLE = 4

/-- No data-plane job runs that is not part of a dump. -/
def State.halted (s : State) : Bool := s.intakeStopped || s.on FTL.DUMP_STS.RUN || s.isolated

/-! ## The register map (R513 to R519) -/

/-- Which instance of a register or register array lies at an offset. -/
def RDesc.instanceAt (d : RDesc) (addr : Nat) : Option Nat :=
  if addr < d.off then none
  else if d.stride = 0 then (if addr = d.off then some 0 else none)
  else if (addr - d.off) % d.stride = 0 ∧ (addr - d.off) / d.stride < d.count then some ((addr - d.off) / d.stride)
  else none

/-- The fields of instance n of a register; MBX_CHn_BIND resets to its channel's default binding. -/
def RDesc.fieldsAt (d : RDesc) (n : Nat) : List FDesc :=
  if d.off = 0x200100 then
    [⟨0, 4, .rwl, bindEnd0 n⟩, ⟨4, 4, .rwl, bindEnd1 n⟩, ⟨8, 1, .rwl, bindMode n⟩, ⟨9, 1, .rwl, bindEn n⟩]
  else d.fields

/-- The fields of the register at a BAR0 offset; none where none is assigned. -/
def regAt (addr : Nat) : Option (List FDesc) :=
  regTable.findSome? (fun d => (d.instanceAt addr).map d.fieldsAt)

/-- The field of an access-table row at an offset. -/
def FDesc.at_ (f : FDesc) (addr : Nat) : Fld := ⟨8 * addr + f.lsb, f.width, f.reset⟩

/-- A register as a word; zero at an unassigned offset (R465). -/
def State.word (s : State) (addr : Nat) : Nat :=
  match regAt addr with
  | none => 0
  | some fs => (fs.map (fun f => s.get (f.at_ addr) * 2 ^ f.lsb)).sum

/-- Clear the RC fields of a register, as a read does (R519). -/
def State.clearRc (s : State) (addr : Nat) : State :=
  match regAt addr with
  | none => s
  | some fs => fs.foldl (fun s f => if f.acc = .rc then s.put (f.at_ addr) 0 else s) s

/-- Read a register: its word, and the state with its RC fields cleared. -/
def State.readWord (s : State) (addr : Nat) : Nat × State := (s.word addr, s.clearRc addr)

/-- Read registers in order for a reply (R519): their bytes, and the state after. -/
def State.readRegs (s : State) : List Nat → List Byte × State
  | [] => ([], s)
  | a :: as =>
    let (w, s) := s.readWord a
    let (bs, s) := s.readRegs as
    (leBytes 4 w ++ bs, s)

/-- The host reaches BAR0: endpoint ready, link up, Memory Space Enable 1, not in D3hot (R80, R465). -/
def State.hostReaches (s : State) : Bool := s.pci.ready && s.pci.linkUp && s.mse && !s.d3hot

/-- An offset lies in the blocks SYS, PWR, CLK and EVR. -/
def aonBlock (addr : Nat) : Bool := addr < 0x40000

/-- An offset lies in the primary or in the secondary mailbox window. -/
def inMbx (addr : Nat) : Bool := 0x200000 ≤ addr && addr < 0x300000
def inMbx2 (addr : Nat) : Bool := 0x300000 ≤ addr && addr < 0x400000

/-- The path of an identity reaches an offset now (Table "Register Index" 2). -/
def State.reaches (s : State) (ident addr : Nat) : Bool :=
  if ident = 0 then s.on CMD.STS.MC_RUN
  else if ident = 2 then s.hostReaches && !inMbx2 addr
  else if ident = 3 then s.hostReaches && inMbx2 addr
  else if ident = 4 then aonBlock addr && 1 ≤ s.start.reached || inMbx addr && 2 ≤ s.start.reached
  else if ident = 5 then inMbx addr && s.get NRN.PAIR_STS.PARTNER = 4
  else if ident = 7 then 1 ≤ s.start.reached
  else false

/-- A field of R522 as in force: the value the last start loaded (R521). -/
def State.forced (s : State) (f : Fld) : Nat := (fldFind s.start.inForce f.bit).getD f.reset

/-! ## Variants (R1, R2) -/

/-- Whether a flash link, a string or an Ethernet port is enabled on the unit's variant. -/
def State.linkEnabled (s : State) (k : Nat) : Bool :=
  let v := s.get SYS.ID.VARIANT
  k < 48 && k % 12 < (if v = 1 then 4 else if v = 2 then 8 else 12)
def State.stringEnabled (s : State) (k : Nat) : Bool :=
  let v := s.get SYS.ID.VARIANT
  k < 96 && k % 24 < (if v = 1 then 8 else if v = 2 then 16 else 24)
def State.portEnabled (s : State) (p : Nat) : Bool := p < 8 && (s.get SYS.ID.VARIANT ≠ 1 || p % 2 = 0)

/-! ## Refused accesses (R524) -/

/-- A refused register write: count it, and record the first. -/
def State.refuse (s : State) (cause ident addr : Nat) : State :=
  let s := s.count SYS.ACC_CNT.COUNT 1
  if s.on SYS.ACC_ERR.VALID then s else
  (((s.put SYS.ACC_ERR.VALID 1).put SYS.ACC_ERR.CAUSE cause).put SYS.ACC_ERR.IDENT ident).put SYS.ACC_ERR.OFFSET_W (addr / 4)

/-- A refused mailbox access (R121): MBX_ERR keeps the first; REJ of the channel sets where the access fell in one. -/
def State.mbxRefuse (s : State) (cause ident ch : Nat) (rej : Bool) : State :=
  let s := s.iff rej (·.setB (MBX.CHn_STS.REJ ch))
  if s.on MBX.ERR.VALID then s else
  (((s.put MBX.ERR.VALID 1).put MBX.ERR.CAUSE cause).put MBX.ERR.IDENT ident).put MBX.ERR.CHANNEL ch

/-- A write to a register that acts by a row of its own: nothing where the path does not reach it (R514); refused whole
with cause 2 where the identity may change no field of it, if it would change one (R515, R524). -/
def State.ctlWrite (s : State) (ident addr : Nat) (data : Word) (perm : List Nat) (f : State → State) : State :=
  if ¬ s.reaches ident addr then s
  else if perm.contains ident then f s
  else if data.toNat = 0 then s
  else s.refuse 2 ident addr

/-! ## Settings slots (R89, R503) -/

/-- A slot that is not valid. -/
def Slot.empty : Slot := { valid := false, format := 0, seq := 0, recs := [] }

/-- A settings slot. -/
def State.slot (s : State) (i : Nat) : Slot := s.nv.slots.getD i Slot.empty

/-- Sequence number a is later than b under serial-number arithmetic modulo 2^32 (R503). -/
def seqLater (a b : Nat) : Bool := (a + 2 ^ 32 - b) % 2 ^ 32 ≠ 0 && (a + 2 ^ 32 - b) % 2 ^ 32 < 2 ^ 31

/-- The current slot: the valid one with the later sequence number (R503). -/
def State.curSlot (s : State) : Nat :=
  if (s.slot 0).valid ∧ (s.slot 1).valid then (if seqLater (s.slot 1).seq (s.slot 0).seq then 1 else 0)
  else if (s.slot 1).valid then 1 else 0

/-- The value a record of the current slot holds. -/
def State.setting (s : State) (key : List Nat) : Option (List Nat) :=
  ((s.slot s.curSlot).recs.find? (fun r => r.1 = key)).map Prod.snd

end Sys2Proof.Machine
end

