-- ==== Sys2Proof/Machine/Keys.lean ====
section
/-! DEFINITION. Derived keys and the key slots of the clusters' ciphers (spec/07, R208 to R222). -/

namespace Sys2Proof.Machine

/-- A root's check value: CHECK output bytes 0 to 3 (R209, R212); zeros for a root not set. -/
def kcv (root : Option (List Byte)) : List Byte :=
  match root with
  | none => [0, 0, 0, 0]
  | some k => (derive k 6 0 0 0 256).take 4

/-- Show the root fuses in KDF_STS and the KCV registers (spec/07, Tables 20 and 21). -/
def State.showRoots (s : State) : State :=
  let r := s.nv.roots
  let s := ((s.put KDF.STS.ARK_SET (b2n r.ark.isSome)).put KDF.STS.FRK_SET (b2n r.frk.isSome))
  let s := (s.put KDF.STS.ARK_BAD (b2n r.arkBad)).put KDF.STS.FRK_BAD (b2n r.frkBad)
  (s.put KDF.KCV_ARK.KCV (beNat (kcv r.ark))).put KDF.KCV_FRK.KCV (beNat (kcv r.frk))

/-- Keys by purpose (Table "De-duplication, Compression, Check Values and Encryption" 7): DATA and META of a volume and key
epoch, K_conn of a label, and the SEALGEN key of a generation of it (R221). -/
def State.dataKey (s : State) (vol epoch : Nat) : List Byte := derive (s.ark.getD []) 1 vol epoch 0 512
def State.metaKey (s : State) (vol epoch : Nat) : List Byte := derive (s.ark.getD []) 2 vol epoch 0 512
def State.sealKey (s : State) (label : Nat) : List Byte := derive (s.frk.getD []) 4 0 0 label 256
def State.sealGenKey (s : State) (label gen : Nat) : List Byte := derive (s.sealKey label) 5 0 gen label 256

/-- A cluster's cipher. -/
def State.cipher (s : State) (cl : Nat) : Cipher := s.dp.ciphers.getD cl {}
def State.setCipher (s : State) (cl : Nat) (c : Cipher) : State := s.setDp fun d => { d with ciphers := d.ciphers.set cl c }

/-- Whether a job's key is in a slot (R213). -/
def State.hasKey (s : State) (cl : Nat) (k : Nat × Nat × Nat × Nat) : Bool := (s.cipher cl).slots.contains k

/-- Ask for a derivation; a derivation of DATA or META below MIN_EPOCH is refused by the engine (R215). -/
def State.wantKey (s : State) (cl : Nat) (k : Nat × Nat × Nat × Nat) : State :=
  let c := s.cipher cl
  if c.slots.contains k ∨ c.wanted.contains k then s else s.setCipher cl { c with wanted := c.wanted ++ [k] }

/-- Ask for the key of a generation of a sealed connection, and for K_conn, from which it is derived (R221). -/
def State.wantSeal (s : State) (cl label gen : Nat) : State :=
  if s.hasKey cl (4, 0, 0, label) then s.wantKey cl (5, 0, gen, label) else (s.wantKey cl (4, 0, 0, label)).wantKey cl (5, 0, gen, label)

/-- Zeroise every slot of a cluster (R213); its DRBG is seeded again at the wake (R223). -/
def State.zeroise (s : State) (cl : Nat) : State :=
  s.setCipher cl { s.cipher cl with slots := [], wanted := [], seededAt := none }

/-- Seed a cluster's DRBG (R223), and those of a quadrant. -/
def State.seed (s : State) (cl : Nat) : State := s.setCipher cl { s.cipher cl with seededAt := some s.aon, requests := 0 }
def State.seedQuad (s : State) (q : Nat) : State := (List.range 8).foldl (fun (s : State) k => s.seed (8 * q + k)) s

/-- Masks for some bytes of keyed work: a request of the cluster's DRBG for each 16-byte block (R223; log entry 150). -/
def State.masked (s : State) (cl n : Nat) : State :=
  s.setCipher cl { s.cipher cl with requests := (s.cipher cl).requests + (n + 15) / 16 }

/-- Keyed work of a quadrant may run: its entropy is ready (R81, R82, R225). -/
def State.entReady (s : State) (q : Nat) : Bool := s.bit SYS.START_STS.ENT_READY q

/-- The cluster whose cipher does a volume's keyed work that belongs to no command (log entry 151): one that is not retired. -/
def State.keyCluster (s : State) (vol : Nat) : Nat :=
  let live := [0, 1, 2, 3].flatMap s.liveClusters
  live.getD (Config.sweepCluster vol % max 1 live.length) 0

/-- Keyed work that needs some keys goes on in a cluster once its entropy is ready and the keys are in its slots; else the keys
it lacks are asked for (R81, R213). -/
def State.withKeys (s : State) (cl : Nat) (ks : List (Nat × Nat × Nat × Nat)) (go : State → State) : State :=
  let lack := ks.eraseDups.filter (fun k => !s.hasKey cl k)
  if !ks.isEmpty && !s.entReady (cl / 8) then s
  else if lack.isEmpty then go s else lack.foldl (fun (s : State) k => s.wantKey cl k) s

end Sys2Proof.Machine
end

