-- ==== Sys2Proof/Machine/VrmOps.lean ====
section
/-! DEFINITION. Operations on VRM connections that other blocks use: sending, paths and windows, acknowledgements and
remote reads (spec/06). -/

namespace Sys2Proof.Machine

/-- A connection's running context, and its binding in force. -/
def State.conn (s : State) (id : Nat) : Option Conn := s.vrm.conns.find? (fun c => c.id = id)
def State.connBind (s : State) (id : Nat) : Option ConnBind := s.act.conns.find? (fun c => c.id = id)

/-- A binding in force, or as CONN_CREATE wrote it for the next commit (R170). -/
def State.connBindNew (s : State) (id : Nat) : Option ConnBind :=
  match s.connBind id with
  | some b => some b
  | none => s.shadow.conns.find? (fun b => b.id = id)

/-- Replace a connection's running context. -/
def State.setConn (s : State) (c : Conn) : State :=
  { s with vrm := { s.vrm with conns := c :: s.vrm.conns.filter (fun x => x.id ≠ c.id) } }

/-- A port's state. -/
def State.port (s : State) (p : Nat) : Port := s.vrm.ports.getD p {}
def State.setPort (s : State) (p : Nat) (x : Port) : State := { s with vrm := { s.vrm with ports := s.vrm.ports.set p x } }

/-- The sender's 40-bit microsecond stamp (R189). -/
def State.stamp (s : State) : Nat := s.dev / 1000 % 2 ^ 40

/-- a is later than b in serial-number arithmetic modulo 2^32 (R179). -/
def psnLater (a b : Nat) : Bool := (a + 2 ^ 32 - b) % 2 ^ 32 ≠ 0 && (a + 2 ^ 32 - b) % 2 ^ 32 < 2 ^ 31

/-! ## Packets on the wire (R176, R178, R221) -/

/-- Bytes 0 to 43 of a packet's header (Table "Remote Memory Access over Ethernet" 6). -/
def VrmPkt.head (p : VrmPkt) : List Byte :=
  leBytes 1 (16 + p.op) ++ leBytes 1 p.flags ++ leBytes 2 p.xfer ++ leBytes 4 (p.dconn + 2 ^ 20 * p.path) ++ leBytes 4 p.psn ++
  leBytes 5 p.stamp ++ leBytes 1 p.kind ++ leBytes 2 p.xcnt ++ leBytes 4 p.len ++ leBytes 8 p.addr ++ leBytes 4 p.key ++
  leBytes 4 p.tag ++ leBytes 4 p.arg

/-- A header with its VCRC, the payload as it goes out, and a GCM tag where there is one. -/
def vrmFramed (head payload tag : List Byte) : List Byte := head ++ leBytes 4 (crc32c (head ++ payload)) ++ payload ++ tag

/-- Payload bytes of a datagram's packet: all behind the header but a sealed packet's tag. -/
def payloadLen (bs : List Byte) : Nat := bs.length - 48 - (if bitAt (fieldAt bs 1 1) 4 then 16 else 0)

/-- A packet as its bytes spell it; a sealed one's payload is still enciphered. -/
def VrmPkt.ofBytes (bs : List Byte) : VrmPkt :=
  { op := fieldAt bs 0 1 % 16, flags := fieldAt bs 1 1, xfer := fieldAt bs 2 2, dconn := fieldAt bs 4 4 % 2 ^ 20
    path := fieldAt bs 4 4 / 2 ^ 20 % 16, psn := fieldAt bs 8 4, stamp := fieldAt bs 12 5, kind := fieldAt bs 17 1
    xcnt := fieldAt bs 18 2, len := fieldAt bs 20 4, addr := fieldAt bs 24 8, key := fieldAt bs 32 4, tag := fieldAt bs 36 4
    arg := fieldAt bs 40 4, payload := (bs.drop 48).take (payloadLen bs) }

/-- VCRC holds (Table "Remote Memory Access over Ethernet" 6). -/
def vcrcGood (bs : List Byte) : Bool :=
  48 + (if bitAt (fieldAt bs 1 1) 4 then 16 else 0) ≤ bs.length &&
  fieldAt bs 44 4 = crc32c (bs.take 44 ++ (bs.drop 48).take (payloadLen bs))

/-- LEN agrees with the payload of the packet's type: none in a READ_REQ and in what carries no data, 0 to 4 SACK blocks in an
ACK (Tables "Remote Memory Access over Ethernet" 6 and 8, R180; log entry 146). -/
def VrmPkt.lenFits (p : VrmPkt) : Bool :=
  if p.op = 2 then p.payload.isEmpty
  else p.len = p.payload.length && (p.op = 1 || p.op = 3 || p.op = 5 && p.len % 12 = 0 && decide (p.len ≤ 48) || p.len = 0)

def Ingress.pkt (g : Ingress) : VrmPkt := VrmPkt.ofBytes g.raw

/-- The GCM nonce of a sealed packet: the sender's connection ID, the PSN and the sender's direction byte (R178). -/
def sealNonce (conn psn dir : Nat) : List Byte := leBytes 4 conn ++ leBytes 4 psn ++ leBytes 1 dir ++ List.replicate 3 0

/-- The direction byte of this end (R178). -/
def ConnBind.dir (b : ConnBind) : Nat := b2n (bitAt b.flags 2)

/-- A packet's bytes: a sealed one enciphered under the key of its generation (R178, R221). -/
def State.vrmBytes (s : State) (b : ConnBind) (p : VrmPkt) : List Byte :=
  if bitAt p.flags 4 then
    let n := p.payload.length
    let c := slice (Config.gcm (s.sealGenKey b.label p.gen) (sealNonce b.id p.psn b.dir) p.head p.payload) 0 (n + 16)
    vrmFramed p.head (c.take n) (c.drop n)
  else vrmFramed p.head p.payload []

/-- The text of a sealed packet, where its tag verifies under the other end's direction byte and not under this end's own
(R178). -/
def State.unseal (s : State) (b : ConnBind) (gen psn : Nat) (raw : List Byte) : Option (List Byte) :=
  let key := s.sealGenKey b.label gen
  let text := fun (dir : Nat) => Config.gcmOpen key (sealNonce b.peer psn dir) (raw.take 44) (raw.drop 48)
  if (text b.dir).isSome then none else text (1 - b.dir)

/-- The generation of a received packet, from the cumulative PSN and its generation (R221). -/
def Conn.genOf (c : Conn) (psn : Nat) : Nat :=
  if !psnLater c.rxCum psn && psn < c.rxCum && psnLater psn c.rxCum then c.rxGen + 1
  else if psnLater c.rxCum psn && c.rxCum < psn then c.rxGen - 1
  else c.rxGen

/-- The generation of packet i of those numbered from PSN first on: it rises at each packet but the direction's first whose
PSN is 0 (R221). -/
def genAt (gen : Nat) (started : Bool) (first i : Nat) : Nat :=
  let j := (2 ^ 32 - first) % 2 ^ 32
  if j ≤ i && (started || j ≠ 0) then gen + 1 else gen

/-! ## Datagrams and sub-ports (R165, R168, R176) -/

/-- 16-bit words of some bytes, high byte first, added up. -/
def sum16 : List Byte → Nat
  | a :: b :: r => 256 * a.toNat + b.toNat + sum16 r
  | [a] => 256 * a.toNat
  | [] => 0

/-- The words that a UDP checksum covers, without the checksum itself: pseudo-header, header and payload. -/
def udpWords (ipv6 : Bool) (src dst sport dport : Nat) (bs : List Byte) : Nat :=
  let n := if ipv6 then 16 else 4
  sum16 (leBytes n src ++ leBytes n dst) + 17 + 2 * (8 + bs.length) + sport + dport + sum16 bs

/-- The UDP checksum of a datagram over IPv6 (R176). -/
def udpSum (src dst sport dport : Nat) (bs : List Byte) : Nat :=
  let r := udpWords true src dst sport dport bs % 65535
  if r = 0 then 65535 else 65535 - r

/-- A received UDP checksum is accepted: a correct one, or zero on IPv4 (R176). -/
def frameCsumOk (f : Frame) : Bool :=
  if f.csum = 0 then !f.ipv6
  else (udpWords f.ipv6 f.srcIp f.dstIp f.sport f.udpPort (f.bytes.drop f.udpAt) + f.csum) % 65535 = 0

/-- The priority of a tag; untagged traffic has priority 0 (log entry 147). -/
def prioOf (vlan : Option Nat) : Nat := (vlan.map (· / 2 ^ 13)).getD 0

/-- The tag of a path (Table "Remote Memory Access over Ethernet" 4). -/
def PathEntry.tag (e : PathEntry) : Option Nat := if bitAt e.vlan 12 then some (e.vlan - 2 ^ 12) else none

/-- The datagram that carries some bytes on a path (R165, R176). -/
def State.datagram (s : State) (b : ConnBind) (e : PathEntry) (bs : List Byte) : Datagram :=
  let ipv6 := bitAt b.flags 1
  let src := (((s.port e.port).addrs.find? (fun a => a.1 = e.laddr)).map (fun a => a.2.2)).getD 0
  let dport := s.get VRM.CFG.UDP_PORT
  { mac := e.mac, vlan := e.tag, ipv6 := ipv6, src := src, dst := e.ip, dscp := e.dscp, df := !ipv6, ecn := 2, sport := e.sport,
    dport := dport, csum := if ipv6 then udpSum src e.ip e.sport dport bs else 0, bytes := bs }

/-- The peer has paused a priority of a sub-port (R168). -/
def State.paused (s : State) (port sub prio : Nat) : Bool :=
  s.bit (VRM.PORTp_STS.PAUSED port) sub && decide (prio = s.get (VRM.PORTp_CFG.PFC_PRIO port))

/-- Send on a sub-port: nothing where it is down; behind a pause where the peer has paused the priority (R168). -/
def State.ethSend (s : State) (port sub prio : Nat) (x : EthTx) : State :=
  let y := s.port port
  if ¬ s.bit (VRM.PORTp_STS.UP port) sub then s
  else if s.paused port sub prio then s.setPort port { y with stalled := y.stalled ++ [(sub, x)] }
  else (s.setPort port { y with framesOut := y.framesOut + 1 }).emit (.eth port sub x)

/-- The pause of a sub-port has ended: what waited goes out (R168). -/
def State.unstall (s : State) (port sub : Nat) : State :=
  let y := s.port port
  let go := y.stalled.filter (fun x => x.1 = sub)
  go.foldl (fun (s : State) x => s.ethSend port sub 0 x.2) (s.setPort port { y with stalled := y.stalled.filter (fun x => x.1 ≠ sub) })

/-- The priority of a host's frame: that of its 802.1Q tag, else 0. -/
def framePrio (bs : List Byte) : Nat := if fieldAt bs 12 2 = 0x0081 then fieldAt bs 14 1 / 32 else 0

/-- What the host's transmit ring has brought of a port (R167): an entry, whose frame is read next, or the frame, which goes
out on the entry's sub-port. -/
def State.txArrived (s : State) (r : URead) (bs : List Byte) : State :=
  let s := s.dropRead r.tag
  if r.part = 0 then
    (if fieldAt bs 8 2 = 0 ∨ 3 < fieldAt bs 10 1 then s else s.upRead 6 r.id (fieldAt bs 10 1) (fieldAt bs 0 8) (fieldAt bs 8 2) 1)
  else s.ethSend r.id r.ref (framePrio bs) (.host bs)

/-! ## Paths and windows (R181, R183, R190) -/

/-- Bytes in flight on a path. -/
def Conn.inflight (c : Conn) (i : Nat) : Nat :=
  ((c.unacked.filter (fun u => u.path = i && !u.lost)).map (fun u => max 1 u.pkt.payload.length)).sum

/-- A path is up with its sub-port (R164, R181), and can carry packets now: not paused (R168). -/
def State.pathUp (s : State) (p : Path) : Bool := p.up && s.bit (VRM.PORTp_STS.UP p.entry.port) p.entry.sub
def State.pathUsable (s : State) (p : Path) : Bool := s.pathUp p && !s.paused p.entry.port p.entry.sub (prioOf p.entry.tag)

/-- Free congestion window of path i, none where a packet of n bytes does not fit or the path is not usable. -/
def State.freeWindow (s : State) (c : Conn) (n i : Nat) : Option Nat :=
  match c.paths[i]? with
  | none => none
  | some p =>
    let used := c.inflight i
    if s.pathUsable p ∧ (used + n ≤ p.cwnd ∨ used = 0) then some (p.cwnd - used) else none

/-- The up path of a set with the most free window, ties in round robin from c.rr (R181, R190); avoid: the path a packet was
lost on, used again only where no other is up. -/
def State.pickPath (s : State) (c : Conn) (set n : Nat) (avoid : Option Nat) : Option Nat :=
  let order := ((List.range c.paths.length).map (fun i => (i + c.rr) % max 1 c.paths.length)).filter
    (fun i => ((c.paths[i]?).map (fun p => p.sets.contains set)).getD false)
  let best := fun (is : List Nat) => is.foldl (fun (b : Option (Nat × Nat)) i =>
    match s.freeWindow c n i, b with
    | some w, some (_, w') => if w' < w then some (i, w) else b
    | some w, none => some (i, w)
    | none, _ => b) none
  let others := order.filter (fun i => some i ≠ avoid)
  let other := others.any (fun i => ((c.paths[i]?).map s.pathUp).getD false)
  (best (if other then others else order)).map Prod.fst

/-- Send a packet on path i of a connection. -/
def State.putOnPath (s : State) (c : Conn) (i : Nat) (p : VrmPkt) : State :=
  match c.paths[i]?, s.connBind c.id with
  | some x, some b =>
    s.ethSend x.entry.port x.entry.sub (prioOf x.entry.tag) (.vrm (s.datagram b x.entry (s.vrmBytes b p)))
  | _, _ => s

/-- The path that an index in a packet names; the first where the set has no such index (log entry 146). -/
def Conn.pathNamed (c : Conn) (i : Nat) : Nat :=
  (c.paths.findIdx? (fun x => x.probeOut && x.wire = i)).getD (if i < c.paths.length then i else 0)

/-- A path stays while the set in force holds it, or a packet of a transfer whose set holds it is not acknowledged (R190). -/
def Conn.keepsPath (c : Conn) (x : Path) : Bool :=
  x.sets.contains c.pathSet || (c.unacked.map Unacked.pkt ++ c.sendq).any (fun p => x.sets.contains p.set)

/-- Paths that no set in use holds go. -/
def Conn.prune (c : Conn) : Conn :=
  if c.paths.all c.keepsPath then c else
  let keep := (List.range c.paths.length).filter (fun i => ((c.paths[i]?).map c.keepsPath).getD false)
  { c with
    paths := keep.filterMap (fun i => c.paths[i]?)
    unacked := c.unacked.map (fun u => { u with path := keep.findIdx (· = u.path) }) }

/-- The keyed work of a sealed packet may run in the connection's cluster: entropy is ready and the generation's key is in a
slot (R55, R81, R213). -/
def State.sealReady (s : State) (b : ConnBind) (gen : Nat) : Bool :=
  s.entReady (b.cluster / 8) && s.hasKey b.cluster (5, 0, gen, b.label)

/-- The first packet of a transfer that ends with a FENCE waits while 256 such transfers are open on the connection (R184). -/
def Conn.fenceFull (c : Conn) (p : VrmPkt) : Bool :=
  bitAt p.flags 0 && (p.op = 1 || p.op = 4) &&
  c.sendq.any (fun x => x.xfer = p.xfer && (x.op = 1 || x.op = 4) && bitAt x.flags 2) &&
  decide (256 ≤ (c.unacked.filter (fun u => bitAt u.pkt.flags 2)).length)

/-- Send the oldest waiting packet, if window and path allow (R179, R181); only an OPEN connection sends new ones. -/
def State.sendOne (s : State) (id : Nat) : State :=
  match s.conn id, s.connBind id with
  | some c, some b =>
    match c.sendq with
    | [] => s
    | p :: rest =>
      if c.state ≠ 2 ∨ b.win ≤ c.unacked.length ∨ c.fenceFull p then s
      else if bitAt p.flags 4 ∧ ¬ s.sealReady b p.gen then
        (if s.entReady (b.cluster / 8) then s.wantSeal b.cluster b.label p.gen else s)
      else
      match s.pickPath c p.set (max 1 p.payload.length) none with
      | none => s
      | some i =>
        let p := { p with path := ((c.paths[i]?).map Path.wire).getD i, stamp := s.stamp }
        let u : Unacked := { pkt := p, path := i, sentAt := s.aon, order := c.sent }
        let c' := { c with
          sendq := rest, unacked := c.unacked ++ [u], sent := c.sent + 1, rr := i + 1
          paths := c.paths.mapIdx (fun j x => if j = i then { x with lastUse := s.aon } else x) }
        (s.setConn c').putOnPath c' i p
  | _, _ => s

/-- Send a packet declared lost again, the identical packet, on another up path if one exists (R178, R181); it waits while no
path takes it. -/
def State.resend (s : State) (id psn : Nat) : State :=
  match s.conn id with
  | none => s
  | some c =>
    match c.unacked.find? (fun u => u.pkt.psn = psn && u.lost) with
    | none => s
    | some u =>
      match s.pickPath c u.pkt.set (max 1 u.pkt.payload.length) (some u.path) with
      | none => s
      | some i =>
        let u' := { u with path := i, sentAt := s.aon, order := c.sent, laterAcked := none, lost := false }
        let c' := { c with
          unacked := c.unacked.filter (fun x => x.pkt.psn ≠ psn) ++ [u'], sent := c.sent + 1, retrans := c.retrans + 1 }
        (s.setConn c').putOnPath c' i u.pkt

/-- Send what waits, as far as windows allow: lost packets first. -/
def State.kick (s : State) (id : Nat) : State :=
  match s.conn id with
  | none => s
  | some c =>
    let s := (c.unacked.filter Unacked.lost).foldl (fun (s : State) u => s.resend id u.pkt.psn) s
    (List.range c.sendq.length).foldl (fun (s : State) _ => s.sendOne id) s

/-- Send what waits on every connection. -/
def State.kickAll (s : State) : State := s.vrm.conns.foldl (fun (s : State) c => s.kick c.id) s

/-- Number packets by PSN and hand them to the connection (R179, R221); a sealed connection seals all but ACK, NAK and PROBE
(R178). -/
def State.vrmSend (s : State) (id : Nat) (pkts : List VrmPkt) : State :=
  match s.conn id, s.connBind id with
  | some c, some b =>
    if c.state ≠ 2 ∨ pkts.isEmpty then s else
    let sealed := if bitAt b.flags 0 then 16 else 0
    let num := pkts.mapIdx (fun i p => { p with
      dconn := b.peer, psn := (c.txPsn + i) % 2 ^ 32, flags := p.flags + sealed, gen := genAt c.txGen c.txStarted c.txPsn i
      set := c.pathSet })
    (s.setConn { c with
      sendq := c.sendq ++ num, txPsn := (c.txPsn + pkts.length) % 2 ^ 32, txStarted := true
      txGen := genAt c.txGen c.txStarted c.txPsn (pkts.length - 1) }).kick id
  | _, _ => s

/-- Cut bytes into packets' payloads of at most n bytes, with their offsets. -/
def cutBytes (n : Nat) (bs : List Byte) : List (Nat × List Byte) :=
  (List.range ((bs.length + n - 1) / max 1 n)).map (fun i => (i * n, (bs.drop (i * n)).take n))

/-- A new transfer ID of a connection. -/
def State.newXfer (s : State) (id : Nat) : Nat × State :=
  match s.conn id with
  | none => (0, s)
  | some c => (c.nextXfer, s.setConn { c with nextXfer := (c.nextXfer + 1) % 2 ^ 16 })

/-- FLAGS of packet i of n (R184): FIRST, LAST. -/
def xferFlags (i n : Nat) : Nat := (if i = 0 then 1 else 0) + (if i + 1 = n then 2 else 0)

/-- Start a remote read (R186): one READ_REQ, remembered until LEN bytes are placed. -/
def State.startPull (s : State) (id kind obj ref addr key len dest : Nat) (part : Nat := 0) : State :=
  let (x, s) := s.newXfer id
  match s.conn id with
  | none => s
  | some c =>
    let pl : Pull := { xfer := x, kind := kind, id := obj, ref := ref, len := len, dest := dest, part := part }
    (s.setConn { c with pulls := c.pulls ++ [pl] }).vrmSend id
      [{ op := 2, flags := 3, xfer := x, dconn := 0, len := len, addr := addr, key := key }]

/-- SACK blocks of rising distances from the cumulative PSN, at most n: offset and bitmap (R180). -/
def sackBlocks : Nat → List Nat → List (Nat × Nat)
  | _, [] => []
  | 0, _ => []
  | n + 1, d :: ds =>
    let here := (d :: ds).filter (fun x => x < d + 64)
    (d, (here.map (fun x => 2 ^ (x - d))).sum) :: sackBlocks n (ds.filter (fun x => d + 64 ≤ x))

/-- The SACK payload of an ACK: at most four blocks of 12 bytes (R180). -/
def Conn.sacks (c : Conn) : List Byte :=
  let ds := (c.ooo.map (fun p => (p + 2 ^ 32 - c.rxCum) % 2 ^ 32)).foldl insertNat []
  (sackBlocks 4 ds).flatMap (fun b => leBytes 2 b.1 ++ leBytes 2 0 ++ leBytes 8 b.2)

/-- A SACK payload marks a PSN (R180). -/
def sackMarks (cum : Nat) (payload : List Byte) (psn : Nat) : Bool :=
  let d := (psn + 2 ^ 32 - cum) % 2 ^ 32
  (List.range (payload.length / 12)).any (fun i =>
    let off := fieldAt payload (12 * i) 2
    decide (off ≤ d) && decide (d < off + 64) && bitAt (fieldAt payload (12 * i + 4) 8) (d - off))

/-- Send an ACK for a packet whose header named path index path (R180). -/
def State.sendAck (s : State) (id path : Nat) : State :=
  match s.conn id, s.connBind id with
  | some c, some b =>
    let i := c.pathNamed path
    let x := c.paths[i]?
    let p : VrmPkt :=
      { op := 5, dconn := b.peer, path := (x.map Path.wire).getD path, psn := c.rxCum, stamp := s.stamp
        addr := (x.map Path.newest).getD 0, flags := if c.ce then 32 else 0, len := c.sacks.length, payload := c.sacks }
    let c' := { c with ackCount := 0, ackSince := none, ce := false }
    (s.setConn c').putOnPath c' i p
  | _, _ => s

/-- Send a NAK for a packet on its path (R177). -/
def State.sendNak (s : State) (id path psn code : Nat) : State :=
  match s.conn id, s.connBind id with
  | some c, some b =>
    s.putOnPath c (c.pathNamed path) { op := 6, dconn := b.peer, path := path, psn := psn, stamp := s.stamp, kind := code }
  | _, _ => s

/-- Send the notices whose completion writes are all acknowledged (R185). -/
def State.sendNotices (s : State) (id : Nat) : State :=
  match s.conn id with
  | none => s
  | some c =>
    let open_ := fun (n : Nat × Nat × List Nat) =>
      n.2.2.any (fun psn => c.unacked.any (fun u => u.pkt.psn = psn) || c.sendq.any (fun p => p.psn = psn))
    let ready := c.notices.filter (fun n => ¬ open_ n)
    let s := s.setConn { c with notices := c.notices.filter open_ }
    ready.foldl (fun (s : State) n => s.vrmSend id [{ op := 4, flags := 3, dconn := 0, kind := 2, tag := n.1, arg := n.2.1 }]) s

/-- The spill slot of a connection context (R171). -/
def State.connSlot (s : State) (id : Nat) : Nat :=
  4096 * s.get VRM.SPILL_LO.BASE_LO + 2 ^ 32 * s.get VRM.SPILL_HI.BASE_HI + 256 * id

/-- Contexts of a cluster that are cached. -/
def State.cachedConns (s : State) (cl : Nat) : List Conn :=
  s.vrm.conns.filter (fun c => c.cached && (s.act.conns ++ s.shadow.conns).any (fun b => b.id = c.id && b.cluster = cl))

/-- Evict least recently used contexts of a cluster until at most n are cached: each goes to its spill slot, in a layout of the
HX880's own with its CRC (R171, R470; log entry 2). -/
def State.evictConns (s : State) (cl n : Nat) : Nat → State
  | 0 => s
  | k + 1 =>
    let here := s.cachedConns cl
    if here.length ≤ n then s else
    match here.foldl (fun (o : Option Conn) x => match o with
      | some y => if x.usedAt < y.usedAt then some x else o
      | none => some x) none with
    | none => s
    | some y =>
      let (bs, s) := s.freeBytes 252
      ((s.setConn { y with cached := false }).emit (.hostData (s.connSlot y.id) (bs ++ leBytes 4 (crc32c bs)))).evictConns cl n k

/-- Cache a connection's context in its cluster, which holds 2,048 (R171). -/
def State.cacheConn (s : State) (c : Conn) (cl : Nat) : State :=
  let s := if c.cached then s else s.evictConns cl 2047 (s.vrm.conns.length)
  s.setConn { c with cached := true, sram := false, usedAt := s.aon }

/-- The LOSS_MS and KEEPALIVE_MS counts (spec/06, VRM_TMO). -/
def State.keepaliveNs (s : State) : Nat := max 1 (s.get VRM.TMO.KEEPALIVE_MS) * Config.ms
def State.lossNs (s : State) : Nat := max (s.get VRM.TMO.LOSS_MS * Config.ms) (4 * s.keepaliveNs)

end Sys2Proof.Machine
end

