-- ==== Sys2Proof/Machine/HqOps.lean ====
section
/-! DEFINITION. Operations on queue pairs that other blocks use: posting a completion, signalling a CQ, faulting a
queue pair, ending a command and releasing its range lock (spec/05). -/

namespace Sys2Proof.Machine

/-- The running context of a queue pair; a DISABLED one where none is held. -/
def State.qp (s : State) (qpid : Nat) : Qp :=
  (s.hq.qps.find? (fun q => q.qpid = qpid)).getD { qpid := qpid, state := 0 }

/-- The binding in force of a queue pair. -/
def State.qpBind (s : State) (qpid : Nat) : Option QpBind := s.act.qps.find? (fun b => b.qpid = qpid)

/-- A binding in force, or as CREATE_QP wrote it for the next commit (R131, R136). -/
def State.qpBindNew (s : State) (qpid : Nat) : Option QpBind :=
  match s.qpBind qpid with
  | some b => some b
  | none => s.shadow.qps.find? (fun b => b.qpid = qpid)

/-- Replace the running context of a queue pair. -/
def State.setQp (s : State) (q : Qp) : State :=
  { s with hq := { s.hq with qps := q :: s.hq.qps.filter (fun x => x.qpid ≠ q.qpid) } }

/-- Commands of a queue pair in flight. -/
def State.qpCmds (s : State) (qpid : Nat) : List HCmd := s.hq.cmds.filter (fun c => c.qpid = qpid)

/-- Packets of a management queue pair without a reply. -/
def State.inbandCount (s : State) (qpid : Nat) : Nat :=
  (s.cmd.taken.filter (fun t => match t.pkt.via with
    | .inband q _ => q = qpid
    | .mailbox _ => false)).length

/-- Commands in flight of a queue pair of either type (R130, R134, R135). -/
def State.inflight (s : State) (qpid : Nat) : Nat := (s.qpCmds qpid).length + s.inbandCount qpid

/-- A queue pair in host memory (R129). -/
def QpBind.isHost (b : QpBind) : Bool := b.location = 0

/-- CQ slots posted and not yet released (R139). -/
def State.cqUsed (s : State) (b : QpBind) : Nat :=
  let q := s.qp b.qpid
  (q.cqTail + 2 ^ b.cqLog2 - q.cqHead) % 2 ^ b.cqLog2

/-- A queue pair may take one more entry (R139): the smaller of SQ size − 1 and the CQ's free slots. -/
def State.fetchLimit (s : State) (b : QpBind) : Nat := min (2 ^ b.sqLog2 - 1) (2 ^ b.cqLog2 - 1 - s.cqUsed b)

/-- The statuses marked retryable in Table "Host Queues and Command Ordering" 7. -/
def retryable (status : Nat) : Bool := status = 0x0702 || status = 0x0703 || status = 0x0704

/-- Signal a CQ: the vector of a host queue pair, a NOTICE of a client queue pair once its completion writes are
acknowledged (R160, R185). -/
def State.signalCq (s : State) (qpid : Nat) : State :=
  let s := s.setQp { s.qp qpid with pend := 0 }
  match s.qpBind qpid with
  | none => s
  | some b =>
    if b.isHost then s.signal (s.qp qpid).vector else
    match s.conn b.conn with
    | none => s
    | some c =>
      let psns := (c.cqWrites.filter (fun w => w.1 = qpid)).map Prod.snd
      (s.setConn { c with
        cqWrites := c.cqWrites.filter (fun w => w.1 ≠ qpid)
        notices := c.notices ++ [(qpid, (s.qp qpid).cqTail, psns)] }).sendNotices b.conn

/-- The coalescing rule on a completion posted (R160). -/
def State.coalesce (s : State) (qpid status : Nat) : State :=
  let q := s.qp qpid
  if ¬ bitAt q.cqFlags 0 then s else
  let q := { q with pend := q.pend + 1, firstAt := if q.pend = 0 then s.aon else q.firstAt }
  let s := s.setQp q
  if q.aggCount ≤ 1 ∨ q.aggCount ≤ q.pend then s.signalCq qpid
  else if bitAt q.cqFlags 1 ∧ status ≠ 0 then s.signalCq qpid
  else s

/-- A queue pair enters a fault state (R162): one PENDING, ACTIVE, in FAULT_SQ or in FAULT_DB does; one DRAINING drops its
further completions after cause 2 or 5. -/
def State.qpFault (s : State) (qpid cause newState : Nat) : State :=
  if (s.qp qpid).state = 6 ∧ newState = 4 then s.setQp { s.qp qpid with drainFaulted := true } else
  if (s.qp qpid).state = 0 ∨ (s.qp qpid).state = 4 ∨ (s.qp qpid).state = 6 then s else
  let s := s.setQp { s.qp qpid with state := newState, cause := cause }
  let s := s.record 0x0701 0 qpid cause []
  let s := if s.on HQ.ERR.VALID then s else
    ((s.put HQ.ERR.VALID 1).put HQ.ERR.CAUSE cause).put HQ.ERR.QPID qpid
  let s := s.setB HQ.STS.FAULT
  s.iff (s.on HQ.CTL.FAULT_INT_EN) (·.signal (s.get HQ.CTL.FAULT_VEC))

/-- Bytes of a completion (Table "Host Queues and Command Ordering" 6). -/
def Completion.bytes (c : Completion) : List Byte :=
  leBytes 4 c.result ++ leBytes 2 c.sqHead ++ leBytes 2 c.cid ++ leBytes 3 c.qpid ++ [0] ++ leBytes 2 c.status ++
  leBytes 1 c.info ++ leBytes 1 c.phase

/-- Send a completion: into the host's ring, or as the FENCE write that ends the command's transfer, behind its data
packets (R145, R149, R186). -/
def State.sendCqe (s : State) (b : QpBind) (c : Completion) (data : List VrmPkt) : State :=
  if s.isolated then s
  else if b.isHost then s.emit (.cqe c) else
  match s.conn b.conn with
  | none => s
  | some k =>
    let (x, s) := s.newXfer b.conn
    let n := data.length + 1
    let fence : VrmPkt :=
      { op := 1, flags := xferFlags data.length n + 12, dconn := 0, xfer := x, xcnt := n, len := 16,
        addr := b.cqBase + 16 * c.slot, key := b.cqKey, payload := c.bytes }
    let pkts := data.mapIdx (fun i p => { p with xfer := x, flags := xferFlags i n }) ++ [fence]
    let k := (s.conn b.conn).getD k
    let psn := (k.txPsn + data.length) % 2 ^ 32
    (s.setConn { k with cqWrites := k.cqWrites ++ [(c.qpid, psn)] }).vrmSend b.conn pkts

/-- Write a completion to the CQ tail and advance it (R145), or count it as lost in FAULT_CQ (R162); data: the packets of
a READ's data on a client queue pair. -/
def State.postCqeData (s : State) (qpid cid status result : Nat) (recovered : Bool) (data : List VrmPkt) : State :=
  let q := s.qp qpid
  match s.qpBind qpid with
  | none => s
  | some b =>
    -- A head that lost its quorum posts no further completion (R428).
    if s.get NRN.PAIR_STS.ROLE = 4 then s else
    if q.state = 4 ∨ q.drainFaulted then s.setQp { q with lost := q.lost + 1 } else
    let c : Completion :=
      { qpid := qpid, cid := cid, status := status, result := result, sqHead := q.sqHead,
        info := b2n recovered + 2 * b2n (retryable status), phase := q.phase, slot := q.cqTail }
    let wrap := q.cqTail + 1 = 2 ^ b.cqLog2
    let s := s.setQp { q with usedAt := s.aon, cqTail := if wrap then 0 else q.cqTail + 1, phase := if wrap then 1 - q.phase else q.phase }
    (s.sendCqe b c data).coalesce qpid status

/-- The WRITE packets of some bytes to an address under a landing key, cut to the PMTU. -/
def writePackets (pmtu addr key : Nat) (bs : List Byte) : List VrmPkt :=
  (cutBytes pmtu bs).map fun y => { op := 1, dconn := 0, len := y.2.length, addr := addr + y.1, key := key, payload := y.2 }

/-- A completion without data packets. -/
def State.postCqe (s : State) (qpid cid status result : Nat) (recovered : Bool) : State :=
  s.postCqeData qpid cid status result recovered []

/-! ## Doorbells (R136, R137, R186) -/

/-- A doorbell of a queue pair acts in ACTIVE, PENDING and the fault states. -/
def Qp.takesDoorbell (q : Qp) : Bool := 1 ≤ q.state && q.state ≤ 5

/-- A read of submission entries of a queue pair is in progress or waits. -/
def State.fetching (s : State) (b : QpBind) : Bool :=
  if b.isHost then s.pci.reads.any (fun r => r.kind = 1 && r.id = b.qpid)
  else ((s.conn b.conn).map (fun c => c.pulls.any (fun p => p.kind = 1 && p.id = b.qpid))).getD false

/-- A read of submission entries is no longer wanted (R134, R135). -/
def State.dropFetch (s : State) (b : QpBind) : State :=
  if b.isHost then { s with pci := { s.pci with reads := s.pci.reads.filter (fun r => ¬ (r.kind = 1 ∧ r.id = b.qpid)) } }
  else match s.conn b.conn with
    | some c => s.setConn { c with pulls := c.pulls.filter (fun p => ¬ (p.kind = 1 ∧ p.id = b.qpid)) }
    | none => s

/-- The entries that a ring read has brought, once all of it is here. -/
def State.ringData (s : State) (b : QpBind) : Option (List Byte) :=
  if b.isHost then (s.pci.reads.find? (fun r => r.kind = 1 ∧ r.id = b.qpid ∧ r.arrived)).map URead.data
  else ((s.conn b.conn).bind (fun c => c.pulls.find? (fun p => p.kind = 1 ∧ p.id = b.qpid ∧ p.len ≤ p.placed))).map
    (fun p => p.data.reads 0 p.len)

/-- Contexts of a cluster that are cached. -/
def State.cachedQps (s : State) (cl : Nat) : List Qp :=
  s.hq.qps.filter (fun q => q.cached && (s.act.qps ++ s.shadow.qps).any (fun b => b.qpid = q.qpid && b.cluster = cl))

/-- The spill slot of a queue-pair context (R140). -/
def State.qpSlot (s : State) (qpid : Nat) : Nat :=
  4096 * s.get HQ.SPILL_LO.BASE_LO + 2 ^ 32 * s.get HQ.SPILL_HI.BASE_HI + 128 * qpid

/-- A management queue pair's entry is done with, taken or not. -/
def State.passInband (s : State) (b : QpBind) (slot : Nat) : State :=
  let q := s.qp b.qpid
  let s := s.dropFetch b
  let s : State := { s with
    pci := { s.pci with reads := s.pci.reads.filter (fun r => ¬ (r.kind = 7 ∧ r.id = b.qpid ∧ r.ref = slot)) }
    vrm := { s.vrm with conns := s.vrm.conns.map (fun k => { k with
      pulls := k.pulls.filter (fun p => ¬ (p.kind = 7 ∧ p.id = b.qpid ∧ p.ref = slot)) }) } }
  s.setQp { q with sqHead := (q.sqHead + 1) % 2 ^ b.sqLog2 }

/-- The PBUF of an in-band command cannot be read (Table "PCIe Endpoint" 5, kind 7): no effect, no reply. -/
def State.failInband (s : State) (qpid slot : Nat) : State :=
  match s.qpBind qpid with
  | some b => (s.passInband b slot).postCqe qpid slot 0x070C 0 false
  | none => s

/-- Cache a queue pair's context in its cluster: where 2,048 are, the least recently used one goes to its spill slot, as 128
bytes of a layout of the HX880's own with their CRC-32C (R140, R470; log entry 2). -/
def State.cacheQp (s : State) (qpid cl : Nat) : State :=
  let here := (s.cachedQps cl).filter (fun q => q.qpid ≠ qpid)
  let old := here.foldl (fun (o : Option Qp) x => match o with
    | some y => if x.usedAt < y.usedAt then some x else o
    | none => some x) none
  let s := if here.length < 2048 then s else match old with
    | none => s
    | some y =>
      let (bs, s) := s.freeBytes 124
      (s.setQp { y with cached := false }).emit (.hostData (s.qpSlot y.qpid) (bs ++ leBytes 4 (crc32c bs)))
  s.setQp { s.qp qpid with cached := true, sram := false, usedAt := s.aon }

/-- A queue pair's context is brought into its cluster: at once from quadrant SRAM, else from its spill slot (R17, R140). -/
def State.loadCtx (s : State) (b : QpBind) : State :=
  let q := s.qp b.qpid
  if q.cached ∨ s.pci.reads.any (fun r => r.kind = 3 && r.id = b.qpid) ∨ ¬ s.clusterWorks b.cluster then s
  else if q.sram then s.cacheQp b.qpid b.cluster
  else ((s.setQp { q with ctxMisses := q.ctxMisses + 1 }).count HQ.CTX_MISS.COUNT 1).upRead 3 b.qpid 0 (s.qpSlot b.qpid) 128

/-- Start reading new entries, once the context is cached, the cluster works and a completion has room (R139, R140, R186): at
most 32 entries, up to the end of the ring. -/
def State.startFetch (s : State) (qpid : Nat) : State :=
  match s.qpBind qpid with
  | none => s
  | some b =>
    let s := if (s.qp qpid).state = 2 ∧ (s.qp qpid).sqHead ≠ (s.qp qpid).sqTail ∧ ¬ s.halted then s.loadCtx b else s
    let q := s.qp qpid
    if q.state ≠ 2 ∨ q.sqHead = q.sqTail ∨ s.fetching b ∨ s.halted ∨ ¬ s.clusterWorks b.cluster ∨ ¬ q.cached ∨
        s.fetchLimit b ≤ s.inflight qpid then s
    else
      let n := min (if b.typ = 1 then 1 else 32) (if q.sqHead < q.sqTail then q.sqTail - q.sqHead else 2 ^ b.sqLog2 - q.sqHead)
      if b.isHost then s.upRead 1 qpid 0 (b.sqBase + 64 * q.sqHead) (64 * n)
      else s.startPull b.conn 1 qpid 0 (b.sqBase + 64 * q.sqHead) b.sqKey (64 * n) 0

/-- Set the SQ tail, or fault (Table "Host Queues and Command Ordering" 9, cause 3); an uncached context is fetched (R140). -/
def State.ringSq (s : State) (qpid tail : Nat) : State :=
  let q := s.qp qpid
  match s.qpBindNew qpid with
  | none => s
  | some b =>
    if 2 ^ b.sqLog2 ≤ tail then (if q.state = 2 ∨ q.state = 1 then s.qpFault qpid 3 5 else s)
    else ((s.setQp { q with sqTail := tail, usedAt := s.aon }).loadCtx b).startFetch qpid

/-- Set the CQ head, or fault (cause 4): at least the CQ size, or slots that were never posted. -/
def State.ringCq (s : State) (qpid head : Nat) : State :=
  let q := s.qp qpid
  match s.qpBindNew qpid with
  | none => s
  | some b =>
    let size := 2 ^ b.cqLog2
    if size ≤ head ∨ s.cqUsed b < (head + size - q.cqHead) % size then
      (if q.state = 2 ∨ q.state = 1 then s.qpFault qpid 4 5 else s)
    else (s.setQp { q with cqHead := head, usedAt := s.aon }).loadCtx b

/-! ## Range locks (R150 to R153) -/

/-- The home shard of a volume. -/
def shardOf (volume : Nat) : Nat := volume % 32

/-- The logical cluster that holds a shard: its own, or once that is retired the lowest-numbered one left in its quadrant
(R150). -/
def State.shardHome (s : State) (shard : Nat) : Nat :=
  if s.get (SYS.CLMAP.C (shard / 8) (shard % 8)) ≠ 0xF then shard
  else 8 * (shard / 8) + ((List.range 8).find? (fun k => s.get (SYS.CLMAP.C (shard / 8) k) ≠ 0xF)).getD (shard % 8)

/-- Two requests overlap. -/
def LockReq.overlaps (a b : LockReq) : Bool :=
  a.volume = b.volume && a.lo < b.lo + b.n && b.lo < a.lo + a.n

/-- Entries in use in a shard. -/
def shardUsed (ls : List LockReq) (shard : Nat) : Nat :=
  (ls.filter (fun l => l.entry && shardOf l.volume = shard)).length

/-- A request may be granted: it holds an entry and overlaps no earlier request, unless both are shared. -/
def grantable (earlier : List LockReq) (r : LockReq) : Bool :=
  r.entry && earlier.all (fun e => ¬ e.overlaps r || (¬ e.excl && ¬ r.excl))

/-- Give waiting requests the entries that are free, in request order. -/
def giveEntries : List LockReq → List LockReq → List LockReq
  | before, [] => before
  | before, r :: rest =>
    let r := if r.entry then r else { r with entry := decide (shardUsed (before ++ rest) (shardOf r.volume) < 8192) }
    giveEntries (before ++ [r]) rest

/-- Request a lock entry (R151): granted at once where R152 allows. -/
def State.lockReq (s : State) (qpid cid volume lo n : Nat) (excl : Bool) : State :=
  let room := decide (shardUsed s.hq.locks (shardOf volume) < 8192)
  let r : LockReq := { qpid := qpid, cid := cid, volume := volume, lo := lo, n := n, excl := excl, entry := room, granted := false }
  let r := { r with granted := grantable s.hq.locks r }
  let s := { s with hq := { s.hq with locks := s.hq.locks ++ [r] } }
  let s := s.put HQ.LOCK_STS.PEAK_USED (max (s.get HQ.LOCK_STS.PEAK_USED) (shardUsed s.hq.locks (shardOf volume)))
  let s := s.iff (!room) (·.setB HQ.STS.LOCK_FULL)
  s.iff (!r.granted) (fun s => s.setQp { s.qp qpid with lockWaits := (s.qp qpid).lockWaits + 1 })

/-- Whether a command's lock is granted, or it holds none. -/
def State.lockHeld (s : State) (qpid cid : Nat) : Bool :=
  match s.hq.locks.find? (fun l => l.qpid = qpid ∧ l.cid = cid) with
  | some l => l.granted
  | none => true

/-- Release a command's lock entry. -/
def State.unlock (s : State) (qpid cid : Nat) : State :=
  { s with hq := { s.hq with locks := giveEntries [] (s.hq.locks.filter (fun l => ¬ (l.qpid = qpid ∧ l.cid = cid))) } }

/-! ## Commands -/

/-- A command in flight. -/
def State.hcmd (s : State) (qpid cid : Nat) : Option HCmd :=
  s.hq.cmds.find? (fun c => c.qpid = qpid ∧ c.sub.cid = cid)

/-- Put a command's phase. -/
def State.setPhase (s : State) (qpid cid : Nat) (ph : HPhase) : State :=
  { s with hq := { s.hq with
    cmds := s.hq.cmds.map (fun c => if c.qpid = qpid ∧ c.sub.cid = cid then { c with phase := ph } else c) } }

/-- End a command: its completion behind its data packets, then its lock entry and its place in flight
(R147, R149, R151). -/
def State.endCmdData (s : State) (qpid cid status result : Nat) (recovered : Bool) (data : List VrmPkt) : State :=
  let s := (s.postCqeData qpid cid status result recovered data).unlock qpid cid
  { s with
    hq := { s.hq with cmds := s.hq.cmds.filter (fun c => ¬ (c.qpid = qpid ∧ c.sub.cid = cid)) }
    dp := { s.dp with reads := s.dp.reads.filter (fun r => ¬ (r.qpid = qpid ∧ r.cid = cid)) }
    pci := { s.pci with reads := s.pci.reads.filter (fun r => ¬ (r.kind = 2 ∧ r.id = qpid ∧ r.ref = cid)) }
    vrm := { s.vrm with conns := s.vrm.conns.map (fun k => { k with
      pulls := k.pulls.filter (fun p => ¬ (p.kind = 2 ∧ p.id = qpid ∧ p.ref = cid)) }) } }

/-- A completion without data packets. -/
def State.endCmd (s : State) (qpid cid status result : Nat) (recovered : Bool) : State :=
  s.endCmdData qpid cid status result recovered []

/-- A command whose data or scatter list cannot be read ends with TRANSFER_ERROR, once (R148). -/
def State.endPull (s : State) (qpid cid : Nat) : State :=
  if (s.hcmd qpid cid).isSome then s.endCmd qpid cid 0x070C 0 false else s

/-! ## Loss of a connection (R175) -/

/-- A connection becomes LOST: transfers are discarded, its client queue pairs fault, triggered entries that use it are
cancelled, each with a record. -/
def State.loseConn (s : State) (id : Nat) : State :=
  match s.conn id with
  | none => s
  | some c =>
    if c.state = 3 then s else
    let s := s.setConn { c with
      state := 3, unacked := [], sendq := [], fences := [], placed := [], ended := [], pulls := [], notices := [], cqWrites := [] }
    let qps := (((s.act.qps ++ s.shadow.qps).filter (fun b => b.location ≠ 0 ∧ b.conn = id)).map QpBind.qpid).eraseDups
    let s := qps.foldl (fun (s : State) i => s.qpFault i 5 4) s
    -- A command whose payload was being pulled ends with TRANSFER_ERROR (R148, R163); its completion is dropped.
    let s := (c.pulls.filter (fun p => p.kind = 2)).foldl (fun (s : State) p => s.endPull p.id p.ref) s
    let gone := s.vrm.tags.flatMap (fun t => (t.entries.filter (fun e => e.conn = id)).map (fun _ => t.tag))
    let s := { s with vrm := { s.vrm with tags := s.vrm.tags.map (fun t =>
      { t with entries := t.entries.filter (fun e => e.conn ≠ id) }) } }
    let s := gone.foldl (fun (s : State) t => s.record 0x0802 0 t id []) s
    let s := (s.record 0x0801 0 id 0 []).setB VRM.STS.CONN_LOST
    s.iff (s.on VRM.CTL.LOST_INT_EN) (·.signal (s.get VRM.CTL.LOST_VEC))

end Sys2Proof.Machine
end

