-- ==== Sys2Proof/Machine/Data.lean ====
section
/-! DEFINITION. The data a volume holds: volumes and who serves them, keys, chunks and frames, the de-duplication index,
unit versions and lookups, and what a map commit does to the map (spec/07, spec/08, spec/13). -/

namespace Sys2Proof.Machine

/-! ## Volumes -/

/-- The tables a command of an epoch runs on (R24). -/
def State.tablesOf (s : State) (epoch : Nat) : Tables :=
  if epoch = s.get SYS.EPOCH_NUM.NUM then s.act else s.retiring.getD s.act

/-- A volume table entry in force, and its policy (R228). -/
def Tables.vol (t : Tables) (n : Nat) : Option Vol := t.vols.find? (fun v => v.num = n)
def Tables.policy (t : Tables) (n : Nat) : Policy := (t.policies.find? (fun p => p.num = n)).getD { num := n }
def State.vol (s : State) (n : Nat) : Option Vol := s.act.vol n

/-- Put a volume entry into a list. -/
def putVol (vs : List Vol) (v : Vol) : List Vol := v :: vs.filter (fun x => x.num ≠ v.num)

/-- Change a volume's entry in the active and the shadow table at once: data-plane state and background ends. -/
def State.bothVol (s : State) (n : Nat) (f : Vol → Vol) : State :=
  let m := fun (vs : List Vol) => vs.map (fun v => if v.num = n then f v else v)
  { s with act := { s.act with vols := m s.act.vols }, shadow := { s.shadow with vols := m s.shadow.vols } }

/-- The highest epoch a volume number has used (R217, R392). -/
def State.hwm (s : State) (n : Nat) : Nat := (fldFind s.nv.media.hwm n).getD 0
def State.setHwm (s : State) (n v : Nat) : State := s.media fun m => { m with hwm := fldSet m.hwm n v 0 }

/-- The role codes of Table "Dual Heads and the Nerryn Link" 3. -/
def roleServing : Nat := 1
def roleSurvivor : Nat := 2

/-- The partner is SYNCED (R416). -/
def State.synced (s : State) : Bool := s.get NRN.PAIR_STS.PARTNER = 4

/-- Map-log records go to a partner that is SYNCED or comes back (R253, R432). -/
def State.ship (s : State) (sub : Nat) (args : List Nat) (data : List Byte) : State :=
  if s.synced ∨ s.get NRN.PAIR_STS.PARTNER = 3 then s.sendNrn 4 sub args data else s

/-- The head's number: 0 A, 1 B. -/
def State.headNo (s : State) : Nat := s.get SYS.HEAD.HEAD_B

/-- This head serves a volume (R419, R420); at S2 its own ones, unless a synchronised partner serves or brings this head back
(R74); S2_EN as the start loaded it (R76). -/
def State.serves (s : State) (v : Vol) : Bool :=
  let home := b2n v.ownerB = s.headNo
  if s.start.reached = 3 then decide (s.forced SYS.START_CFG.S2_EN ≠ 0) && decide home && !s.synced && !(s.get NRN.PAIR_STS.PARTNER = 3 && s.pair.returning)
  else if s.start.reached < 4 ∨ s.pair.coming.contains v.num then false
  else s.get NRN.PAIR_STS.ROLE = roleSurvivor ||
    (s.get NRN.PAIR_STS.ROLE = roleServing && decide home)

/-- A snapshot's entry. -/
def State.snap (s : State) (vol num : Nat) : Option Snap := s.nv.media.snaps.find? (fun x => x.vol = vol ∧ x.num = num)
def State.snapsOf (s : State) (vol : Nat) : List Snap := s.nv.media.snaps.filter (fun x => x.vol = vol)

/-- Bytes of a volume table entry (Table "Volumes, Snapshots and Replication" 1). -/
def State.volBytes (s : State) (v : Vol) : List Byte :=
  let flags := b2n v.readOnly + 2 * b2n v.replica + 4 * b2n v.ownerB
  let b := leBytes 2 v.num ++ leBytes 1 v.state ++ leBytes 1 flags ++ leBytes 1 v.level ++ leBytes 1 v.tier ++
    leBytes 2 v.coolDays ++ leBytes 2 v.warmReads ++ leBytes 3 v.vgen ++ leBytes 1 (b2n v.gset) ++
    leBytes 2 (s.snapsOf v.num).length ++ leBytes 4 v.size ++ leBytes 4 v.quota ++ leBytes 4 v.keyEpoch ++
    leBytes 4 v.minEpoch ++ leBytes 4 (s.hwm v.num) ++ (List.range 8).flatMap (fun i => leBytes 2 (v.agroup.getD i 0)) ++
    leBytes 2 v.link ++ leBytes 2 v.remote ++ leBytes 4 0
  b ++ leBytes 4 (crc32c b)

/-! ## Chunks (R194) -/

/-- gear[x] (R194). -/
def gear (x : Byte) : Nat := beNat ((sha256 [x]).take 4)

/-- h of a block. -/
def blockHash (b : List Byte) : Nat := b.foldl (fun h x => (h * 2 + gear x) % 2 ^ 32) 0

/-- The blocks of a payload. -/
def blocksOf (n : Nat) (data : List Byte) : List (List Byte) := (List.range n).map (fun i => slice data (4096 * i) 4096)

/-- Cut blocks into chunks; cur: the blocks of the current chunk, newest first (R194). -/
def cutChunks (bits : Nat) : List (List Byte) → List (List Byte) → List (List (List Byte))
  | cur, [] => if cur.isEmpty then [] else [cur.reverse]
  | cur, b :: rest =>
    let cur := b :: cur
    let cut := rest.isEmpty || cur.length = 16 || (4 ≤ cur.length && blockHash b / 2 ^ (32 - bits) = 0)
    if cut then cur.reverse :: cutChunks bits [] rest else cutChunks bits cur rest

/-- The policy's values in force: DEDUP, CMP, CHUNK_BITS and MIN_GAIN. -/
def Policy.dedup (p : Policy) : Bool := bitAt p.flags 0
def Policy.cmp (p : Policy) : Nat := bitsAt p.flags 1 2
def Policy.bits (p : Policy) : Nat := if p.chunkBits = 0 then 2 else min 4 p.chunkBits
def Policy.gain (p : Policy) : Nat := if p.minGain = 0 then 1 else min 16 p.minGain

/-! ## Frames (R191 to R193, R203 to R206, R218) -/

/-- Blocks in a frame, and BODY_LEN. -/
def SFrame.nb (f : SFrame) : Nat := f.data.length / 4096
def SFrame.bodyLen (f : SFrame) : Nat := 4 * f.nb + f.payLen

/-- Bytes a frame occupies, in 32-byte units (R192, R244). -/
def SFrame.units (f : SFrame) : Nat := (32 + max 16 f.bodyLen + 31) / 32
def SFrame.size (f : SFrame) : Nat := 32 + max 16 f.bodyLen

/-- A block of a frame. -/
def SFrame.block (f : SFrame) (i : Nat) : List Byte := slice f.data (4096 * i) 4096

/-- The frame header (Table "De-duplication, Compression, Check Values and Encryption" 1). -/
def SFrame.header (f : SFrame) : List Byte :=
  let b := leBytes 2 0x5846 ++ [1] ++ leBytes 1 (b2n f.raw + 2 * b2n f.digest.isSome) ++ leBytes 1 f.nb ++
    leBytes 1 (b2n (!f.raw)) ++ leBytes 2 f.vol ++ leBytes 4 f.epoch ++ leBytes 4 f.bodyLen ++ leBytes 8 f.serial ++
    leBytes 4 0
  b ++ leBytes 4 (crc32c b)

/-- The frame body in clear (Table "De-duplication, Compression, Check Values and Encryption" 2). -/
def SFrame.body (f : SFrame) : List Byte :=
  let cvs := (List.range f.nb).flatMap (fun i => leBytes 4 (crc32c (f.block i)))
  let b := cvs ++ (if f.raw then f.data else Config.coded f.data)
  b ++ List.replicate (16 - b.length) 0

/-- The frame as it goes to media (R191, R218). -/
def State.frameBytes (s : State) (f : SFrame) : List Byte :=
  f.header ++ Config.xts (s.dataKey f.vol f.epoch) f.serial f.body

/-- Whether a header as read passes the check of R193: MAGIC, VER and HCRC. -/
def headerGood (h : List Byte) : Bool :=
  decide (fieldAt h 0 2 = 0x5846) && decide (fieldAt h 2 1 = 1) && decide (fieldAt h 28 4 = crc32c (slice h 0 28))

/-- The next serial of this head, for a frame or an index page: the mark moves on before a value beyond it is used (R219). -/
def State.nextSerial (s : State) : Nat × State :=
  let n := s.dp.serial.getD s.nv.media.serial
  let s := if n < s.nv.media.serial then s else s.media fun m => { m with serial := n + max 1 Config.serialStep }
  (2 ^ 63 * s.headNo + n, s.setDp fun d => { d with serial := some (n + 1) })

/-- Add to the transform counters of a cluster. -/
def State.xfCount (s : State) (cl i n : Nat) : State :=
  let c := s.cipher cl
  s.setCipher cl { c with stats := c.stats.set i (c.stats.getD i 0 + n) }

/-! ## De-duplication (R196 to R202) -/

/-- Versions that name a frame: its REFS (R200, R396). -/
def Version.names (v : Version) (serial : Nat) : Bool :=
  v.blocks.any (fun b => match b.2 with
    | .frame f _ => f = serial
    | .discarded => false)
def MapUnit.versions (u : MapUnit) : List Version := u.live.toList ++ u.kept
def State.refs (s : State) (serial : Nat) : Nat :=
  (s.nv.media.units.map (fun u => (u.versions.filter (fun v => v.names serial)).length)).sum

/-- Buckets of the summary and the bucket of a digest (R198). -/
def summaryBuckets (gib : Nat) : Nat := min 256 gib * 2 ^ 24
def bucketOf (gib vol : Nat) (d : List Byte) : Nat :=
  (fieldAt d 0 8 ^^^ (vol * 0x9e3779b97f4a7c15 % 2 ^ 64)) % max 1 (summaryBuckets gib)

/-- SUMMARY_GIB in force: loaded before S2, changed by the next warm reset. -/
def State.summaryGib (s : State) : Nat := s.forced XF.DEDUP_CFG.SUMMARY_GIB

/-- TAG of a digest (Table "De-duplication, Compression, Check Values and Encryption" 4). -/
def tagOfDigest (d : List Byte) : Nat := fieldAt d 8 4

/-- The entries of the summary that a lookup of a digest finds (R198). -/
def State.candidates (s : State) (vol : Nat) (d : List Byte) : List SumEntry :=
  if s.summaryGib = 0 then [] else
  s.dp.summary.filter (fun x => x.bucket = bucketOf s.summaryGib vol d && x.tag = tagOfDigest d)

/-- A duplicate of a digest: the frame of an entry, in a full index page that a summary entry names, of that digest, volume and
current key epoch, live, with references to spare (R198). -/
def State.findDup (s : State) (vol epoch : Nat) (d : List Byte) : Option SFrame :=
  (s.candidates vol d).findSome? (fun x => s.nv.media.frames.find? (fun f =>
    f.page = x.page ∧ f.digest = some d ∧ f.vol = vol ∧ f.epoch = epoch ∧ 1 ≤ s.refs f.serial ∧ s.refs f.serial < 0xFFFFFFFF))

/-- The summary entry of a frame with a digest, and whether an entry is that of the frame. -/
def SFrame.sumEntry (gib : Nat) (f : SFrame) : Option SumEntry :=
  f.digest.map (fun d => { bucket := bucketOf gib f.vol d, page := f.page, tag := tagOfDigest d })

/-- A new summary entry; in a bucket of eight it replaces the one whose index entry is the oldest (R201). -/
def State.addSummary (s : State) (f : SFrame) : State :=
  match f.sumEntry s.summaryGib with
  | none => s
  | some e =>
    if s.summaryGib = 0 then s else
    let same := s.dp.summary.filter (fun x => x.bucket = e.bucket)
    let made := fun (x : SumEntry) =>
      ((s.nv.media.frames.find? (fun g => g.sumEntry s.summaryGib = some x)).map SFrame.created).getD 0
    let oldest := same.foldl (fun (o : Option SumEntry) x => match o with
      | some y => if made x < made y then some x else o
      | none => some x) none
    let s := if same.length < 8 then s else match oldest with
      | some x => (s.setB XF.STS.SUMMARY_EVICT).setDp fun d => { d with summary := d.summary.erase x }
      | none => s
    s.setDp fun d => { d with summary := e :: d.summary }

/-- Entries of a full index page in use: by index, digest, frame, key epoch, references and CREATED (Table "De-duplication,
Compression, Check Values and Encryption" 5). -/
def State.indexEntries (s : State) (page : Nat) : List (Nat × List Byte × SFrame × Nat) :=
  (s.nv.media.frames.filter (fun f => f.page = page)).filterMap (fun f => f.digest.map (fun d => (f.entry, d, f, s.refs f.serial)))

/-- A frame with a digest takes a free entry of a full index page of its volume, or of a new page (R198, R199); which of them
is a free choice (log entry 2). -/
def State.giveEntry (s : State) (f : SFrame) : SFrame × State :=
  if f.digest.isNone then (f, s) else
  let open_ := (s.nv.media.ipages.filter (fun p => p.vol = f.vol)).flatMap (fun p =>
    let used := (s.indexEntries p.num).map Prod.fst
    ((List.range 64).filter (fun i => !used.contains i)).map (fun i => (p.num, i)))
  let (n, s) := s.draw
  match open_[n % max 1 open_.length]? with
  | some (p, i) => ({ f with page := p, entry := i }, s)
  | none =>
    let used := s.nv.media.ipages.map IndexPage.num
    let c := n % 0xFFFFFFFF
    let num := if used.contains c then ((List.range (used.length + 1)).find? (fun k => !used.contains k)).getD 0 else c
    let (x, s) := s.nextSerial
    ({ f with page := num, entry := n / 2 ^ 32 % 64 }, s.media fun m => { m with
      ipages := { num := num, vol := f.vol, serial := x, epoch := f.epoch } :: m.ipages })

/-- A full index page is written again: under a serial of its own and the META key of its volume's KEY_EPOCH (R218, R219). -/
def State.rewritePage (s : State) (num : Nat) : State :=
  let (x, s) := s.nextSerial
  s.media fun m => { m with ipages := m.ipages.map (fun p =>
    if p.num = num then { p with serial := x, epoch := max p.epoch (((s.vol p.vol).map Vol.keyEpoch).getD p.epoch) } else p) }

/-- The pages whose entries a change of the map has changed are written again; pages without an entry go. -/
def State.reindex (s old : State) : State :=
  let s := s.media fun m => { m with ipages := m.ipages.filter (fun p => m.frames.any (fun f => f.digest.isSome && f.page = p.num)) }
  (s.nv.media.ipages.filter (fun p => s.indexEntries p.num ≠ old.indexEntries p.num)).foldl (fun (s : State) p => s.rewritePage p.num) s

/-- A frame by its serial, among the committed ones. -/
def State.frame (s : State) (serial : Nat) : Option SFrame := s.nv.media.frames.find? (fun f => f.serial = serial)

/-- Frames that no version names any more are garbage, with their index and summary entries and their lost-range
entries (R200, R384). -/
def State.dropGarbage (s : State) : State :=
  let keep := s.nv.media.frames.filter (fun f => s.refs f.serial ≠ 0)
  let has := fun (n : Nat) => keep.any (fun f => f.serial = n)
  let s := s.media fun m => { m with
    frames := keep, lost := m.lost.filter (fun l => l.serial = 0 || has l.serial) }
  s.setDp fun d => { d with summary := d.summary.filter (fun x => keep.any (fun f => f.sumEntry s.summaryGib = some x)) }

/-! ## Generations (R255) -/

/-- a is newer than b. -/
def genNewer (a b : Nat) : Bool :=
  let d := (a + 2 ^ 24 - b) % 2 ^ 24
  1 ≤ d && d ≤ 2 ^ 23 - 1

/-- The version a read of generation g uses: the newest that is not newer than g (R395). -/
def MapUnit.versionAt (u : MapUnit) (g : Nat) : Option Version := u.versions.find? (fun v => !genNewer v.gen g)

/-- A map unit. -/
def State.unit (s : State) (vol unit : Nat) : MapUnit :=
  (s.nv.media.units.find? (fun u => u.vol = vol ∧ u.unit = unit)).getD { vol := vol, unit := unit }
def State.setUnit (s : State) (u : MapUnit) : State := s.media fun m => { m with
  units := u :: m.units.filter (fun x => ¬ (x.vol = u.vol ∧ x.unit = u.unit)) }

/-! ## Lookups (R249, R384) -/

/-- What a block of a volume image is. -/
inductive BlkData where
  | zeros
  | undefined
  | frame (f : SFrame) (nth : Nat)
  | cached (bytes : List Byte)
  | lost
  deriving DecidableEq, Repr

/-- The newest write in the cache that holds a block of the live image (R249, first step). -/
def State.cachedBlock (s : State) (vol lba : Nat) : Option BlkData :=
  let hits := s.dp.writes.filter (fun w => w.vol = vol && (match w.kind with
    | .reloc _ => false
    | _ => w.slba ≤ lba && lba < w.slba + w.nblk))
  match hits.getLast? with
  | none => none
  | some w => match (w.blocks.find? (fun b => b.1 = lba)).map Prod.snd with
    | some (.frame n i) =>
      match w.frames.find? (fun f => f.serial = n) with
      | some f => some (.cached (f.block i))
      | none => (s.frame n).map (fun f => .frame f i)
    | _ => if w.kind = .discard then some .undefined else none

/-- An entry of the lost-range table covers a block (R384): through its unit version, its frame, or its write. -/
def State.lostBlock (s : State) (vol lba : Nat) (snapGen : Option Nat) (v : Option Version) (serial : Nat) : Bool :=
  (snapGen.isNone && s.nv.media.lostVols.contains vol) || s.nv.media.lost.any (fun l =>
    (l.kind = 1 && l.vol = vol && l.first ≤ lba && lba < l.first + l.count &&
      (match v with
        | some x => x.gen = l.gen
        | none => false)) ||
    (l.kind = 2 && serial ≠ 0 && l.serial = serial) ||
    (l.kind = 3 && l.vol = vol && l.first ≤ lba && lba < l.first + l.count &&
      (match snapGen with
        | none => true
        | some g => !genNewer l.gen g)))

/-- The version of a unit that an image selects: the live one, or that of a snapshot's generation (R254, R395). -/
def MapUnit.pick (u : MapUnit) (snapGen : Option Nat) : Option Version :=
  match snapGen with
  | none => u.live
  | some g => u.versionAt g

/-- Look one block up (R249): snapGen is none for the live image. -/
def State.lookup (s : State) (vol : Nat) (snapGen : Option Nat) (lba : Nat) : BlkData :=
  match (if snapGen.isNone then s.cachedBlock vol lba else none) with
  | some b => b
  | none =>
    let v := (s.unit vol (lba / 1024)).pick snapGen
    let ref := v.bind (fun x => (x.blocks.find? (fun b => b.1 = lba % 1024)).map Prod.snd)
    let serial := match ref with
      | some (.frame n _) => n
      | _ => 0
    if s.lostBlock vol lba snapGen v serial then .lost else
    match v with
    | none => .zeros
    | some x =>
      if x.kind = 3 then .undefined else
      match ref with
      | none => .zeros
      | some .discarded => .undefined
      | some (.frame n i) => match s.frame n with
        | some f => .frame f i
        | none => .zeros

/-- The bytes a block reads as; a discarded one as zeros or as any block ever written to the volume, a free choice
made anew at each read (R263). -/
def State.blockBytes (s : State) (vol : Nat) (b : BlkData) : List Byte × State :=
  match b with
  | .zeros => (List.replicate 4096 0, s)
  | .cached d => (d, s)
  | .frame f i => (f.block i, s)
  | .lost => s.freeBytes 4096
  | .undefined =>
    let cands := List.replicate 4096 0 :: (s.nv.media.written.filter (fun w => w.1 = vol)).map Prod.snd
    let (n, s) := s.draw
    (cands.getD (n % cands.length) [], s)

/-- The bytes of a run of blocks. -/
def State.readBlocks (s : State) (vol : Nat) (snapGen : Option Nat) (lba : Nat) : Nat → List Byte × State
  | 0 => ([], s)
  | n + 1 =>
    let (b, s) := s.blockBytes vol (s.lookup vol snapGen lba)
    let (r, s) := s.readBlocks vol snapGen (lba + 1) n
    (b ++ r, s)

/-! ## What a map commit does to a unit (R248, R255, R396) -/

/-- Insert a block reference by index. -/
def putRef : List (Nat × BlkRef) → Nat → BlkRef → List (Nat × BlkRef)
  | [], i, r => [(i, r)]
  | (j, x) :: t, i, r => if j < i then (j, x) :: putRef t i r else if i = j then (i, r) :: t else (i, r) :: (j, x) :: t

/-- The newest snapshot of a volume that is not FREE. -/
def State.newestSnap (s : State) (vol : Nat) : Option Nat :=
  (s.snapsOf vol).foldl (fun (g : Option Nat) x => match g with
    | some y => if genNewer x.gen y then some x.gen else g
    | none => some x.gen) none

/-- The live version is kept for a snapshot whose generation is not older than its GEN (R396). -/
def State.keeps (s : State) (vol : Nat) (v : Version) : Bool :=
  match s.newestSnap vol with
  | some g => !genNewer v.gen g
  | none => false

/-- PROMOTE_W writes of less than 256 KiB within one hour make a large unit fine (R248). -/
def State.promotes (s : State) (small : List Nat) : Bool :=
  let n := s.get FTL.FINE_CFG.PROMOTE_W
  n ≠ 0 && decide (n ≤ (small.filter (fun t => s.aon < t + Config.hour)).length)

/-- Rewrite a unit with new block references (index in the unit), stamped with a generation (R255, R396); whole: a
discard that covers the whole unit (R262). -/
def State.writeUnit (s : State) (w : WJob) (unit : Nat) (refs : List (Nat × BlkRef)) : State :=
  let u := s.unit w.vol unit
  let old := u.live.getD { gen := w.vgen, gset := w.gset, kind := 1 }
  let small := if w.nblk * 4096 < 262144 ∧ w.kind = .write then s.aon :: u.small.filter (fun t => s.aon < t + Config.hour) else u.small
  let whole := decide (refs.length = 1024) && refs.all (fun r => r.2 = .discarded)
  let base := if old.kind = 3 then (List.range 1024).map (fun i => (i, BlkRef.discarded)) else old.blocks
  let blocks := if whole then [] else refs.foldl (fun bs r => putRef bs r.1 r.2) base
  let kind := if whole then 3 else if old.kind = 2 ∨ s.promotes small then 2 else 1
  let touched := (refs.map (fun r => r.1 / 4)).eraseDups
  let fine := if kind = 2 then touched.map (fun i => (i, w.vgen, w.gset)) ++ old.fine.filter (fun f => ¬ touched.contains f.1) else []
  let (p, s) := s.draw
  let v : Version := { gen := w.vgen, gset := w.gset, kind := kind, blocks := blocks, fine := fine,
                       ptr := if kind = 3 then 0 else p % 2 ^ 37 }
  let kept := match u.live with
    | some l => if s.keeps w.vol l then l :: u.kept else u.kept
    | none => u.kept
  s.setUnit { u with live := some v, kept := kept, small := if kind = 2 ∧ old.kind ≠ 2 then [] else small, wroteAt := s.aon }

/-- Lost ranges that a write or discard of the live image ends (R384). -/
def State.endLost (s : State) (vol lo n : Nat) : State :=
  let snapAt := fun (g : Nat) => (s.snapsOf vol).any (fun x => !genNewer g x.gen)
  s.media fun m => { m with lost := m.lost.filter (fun l =>
    ¬ (l.kind = 3 && l.vol = vol && lo ≤ l.first && l.first + l.count ≤ lo + n && !snapAt l.gen)) }

/-- RANGE entries end with the last image that references their unit version (R384). -/
def State.endRanges (s : State) : State :=
  s.media fun m => { m with lost := m.lost.filter (fun l => l.kind ≠ 1 ||
    (s.unit l.vol (l.first / 1024)).versions.any (fun v => v.gen = l.gen)) }

/-- The map changes of a write or discard at its map commit, in one log record (R199, R253, R387). -/
def State.applyWrite (s : State) (w : WJob) : State :=
  let old := s
  let units := (w.blocks.map (fun b => b.1 / 1024)).eraseDups
  let s := w.frames.foldl (fun (s : State) f =>
    let (f, s) := s.giveEntry f
    (s.media fun m => { m with frames := f :: m.frames }).addSummary f) s
  let s := s.media fun m => { m with
    written := (w.blocks.filterMap (fun b => match b.2 with
      | .frame n i => (w.frames.find? (fun f => f.serial = n)).map (fun f => (w.vol, f.block i))
      | .discarded => none)) ++ m.written }
  let s := units.foldl (fun s u => s.writeUnit w u ((w.blocks.filter (fun b => b.1 / 1024 = u)).map (fun b => (b.1 % 1024, b.2)))) s
  (((s.endLost w.vol w.slba w.nblk).dropGarbage).endRanges).reindex old

/-- The map changes of a relocation: every reference follows the frame, which keeps its serial, or takes a new one when
a rekey sweep enciphers it again (R216, R250, R260); its index entry stays the one made before (R201). -/
def State.applyReloc (s : State) (old : Nat) (new : SFrame) : State :=
  let was := s
  let ref := fun (b : Nat × BlkRef) => match b.2 with
    | .frame n i => if n = old then (b.1, BlkRef.frame new.serial i) else b
    | .discarded => b
  let ver := fun (v : Version) => { v with blocks := v.blocks.map ref }
  let s := s.media fun m => { m with
    frames := new :: m.frames.filter (fun f => f.serial ≠ old)
    units := m.units.map (fun u => { u with live := u.live.map ver, kept := u.kept.map ver })
    lost := m.lost.map (fun l => if l.serial = old then { l with serial := new.serial } else l) }
  s.reindex was

/-- Retained versions that no remaining snapshot selects are freed (R398). -/
def State.sweepKept (s : State) (vol : Nat) : State :=
  let was := s
  let gens := (s.snapsOf vol).filter (fun x => x.state ≠ 3) |>.map Snap.gen
  let need := fun (u : MapUnit) (v : Version) => gens.any (fun g => u.versionAt g = some v)
  let s := s.media fun m => { m with units := m.units.map (fun u =>
    if u.vol = vol then { u with kept := u.kept.filter (need u) } else u) }
  (s.dropGarbage.endRanges).reindex was

/-- Bytes a volume's live image and snapshots store (R393). -/
def State.storedBytes (s : State) (vol : Nat) : Nat :=
  ((s.nv.media.frames.filter (fun f => f.vol = vol)).map SFrame.size).sum

end Sys2Proof.Machine
end

