-- ==== Sys2Proof/Machine/Media.lean ====
section
/-! DEFINITION. Where frames live: sets, patterns, bands, gathering and parity; what goes to modules and HDAs; and the
write cache from admission to map commit (spec/08, spec/12, spec/14). -/

namespace Sys2Proof.Machine

/-! ## Sets and patterns (R361 to R366) -/

/-- A set and a version of it. -/
def State.rset (s : State) (n : Nat) : Option RSet := s.act.sets.find? (fun x => x.num = n)
def RSet.version (r : RSet) (v : Nat) : Option SetVer := r.vers.find? (fun x => x.ver = v)
def RSet.strip (r : RSet) : Nat := 2 ^ r.stripLog2
def RSet.rows (r : RSet) : Nat := r.zoneSize / max 1 r.strip
/-- The first spare zone: the spare ones are the highest-numbered user zones (R377). -/
def RSet.firstSpare (r : RSet) : Nat := r.zones - r.spareZones

/-- Bands of a set: every user zone but the spare ones and those withheld below them (R258, R377). -/
def RSet.bandZones (r : RSet) : Nat := r.zones - r.spareZones - r.opZones

/-- A permutation of a list, chosen by a number. -/
def permute : Nat → List Nat → Nat → List Nat
  | 0, _, _ => []
  | n + 1, l, seed =>
    let i := seed % max 1 l.length
    l.getD i 0 :: permute n (l.eraseIdx i) (seed / max 1 l.length)

/-- The 64 rows of a version's pattern, each a permutation of its positions; which ones is no part of the interface
(R363). -/
def makePattern (set ver : Nat) (live : List Nat) : List (List Nat) :=
  (List.range 64).map (fun r => permute live.length live (Config.patternSeed set ver r))

/-- Bytes of a set version (Table "Declustered Redundancy and Rebuild" 2). -/
def RSet.verBytes (r : RSet) (v : SetVer) : List Byte :=
  let pad := fun (n : Nat) (bs : List Byte) => bs ++ List.replicate (n - bs.length) 0
  let row := fun (l : List Nat) => (List.range 64).flatMap (fun i => leBytes 1 (l.getD i 0xFF))
  let b := leBytes 1 r.num ++ leBytes 1 v.ver ++ leBytes 1 r.tier ++ leBytes 1 r.quad ++ leBytes 1 r.members.length ++
    leBytes 1 v.live.length ++ leBytes 1 r.width ++ leBytes 1 r.pmax ++ leBytes 1 r.stripLog2 ++
    leBytes 1 (v.live.length / max 1 r.width) ++ leBytes 2 r.spareZones ++ leBytes 4 v.pairVer ++
    pad 128 (r.members.flatMap (leBytes 2)) ++ pad 64 (r.pstate.flatMap (leBytes 1)) ++
    pad 4096 (v.pattern.flatMap row) ++ List.replicate 44 0
  b ++ leBytes 4 (crc32c b)

/-- Slots of a row: the stripe a position belongs to and its strip within it; none when idle (R364). -/
def slotOf (r : RSet) (v : SetVer) (row pos : Nat) : Option (Nat × Nat) :=
  let l := v.pattern.getD (row % 64) []
  let i := l.findIdx (· = pos)
  let g := v.live.length / max 1 r.width
  if i < l.length ∧ i < g * r.width then some (i / max 1 r.width, i % max 1 r.width) else none

/-- A position holds a data strip in a row at a level. -/
def isData (r : RSet) (v : SetVer) (level row pos : Nat) : Bool :=
  match slotOf r v row pos with
  | some (_, i) => i < r.width - level
  | none => false

/-- The positions of a stripe in slot order. -/
def stripeOf (r : RSet) (v : SetVer) (row t : Nat) : List Nat :=
  ((v.pattern.getD (row % 64) []).drop (t * r.width)).take r.width

/-- Data rows of a position among rows 0 to n − 1. -/
def dataBefore (r : RSet) (v : SetVer) (level pos n : Nat) : Nat :=
  let per := ((List.range 64).filter (fun i => isData r v level i pos)).length
  n / 64 * per + ((List.range (n % 64)).filter (fun i => isData r v level i pos)).length

/-- The row of a position's n-th data strip (R367). -/
def dataRow (r : RSet) (v : SetVer) (level pos n : Nat) : Option Nat :=
  let ds := (List.range 64).filter (fun i => isData r v level i pos)
  if ds.isEmpty then none
  else some (64 * (n / ds.length) + ds.getD (n % ds.length) 0)

/-- The zone offset of a byte of a position's data strips. -/
def zoneOffset (r : RSet) (v : SetVer) (level pos off : Nat) : Nat :=
  ((dataRow r v level pos (off / r.strip)).getD 0) * r.strip + off % r.strip

/-! ## Parity (R366) -/

/-- Multiplication in GF(2^8) with the polynomial 0x11D. -/
def gmul (a b : Nat) : Nat :=
  (List.range 8).foldl (fun acc i =>
    let sh := (List.range i).foldl (fun x _ => if 128 ≤ x then (2 * x) ^^^ 0x11D else 2 * x) a
    if bitAt b i then acc ^^^ sh else acc) 0

/-- Powers in GF(2^8). -/
def gpow (a : Nat) : Nat → Nat
  | 0 => 1
  | n + 1 => gmul a (gpow a n)

/-- Parity strip j of the data strips of a stripe. -/
def parityStrip (j len : Nat) (data : List (List Byte)) : List Byte :=
  (List.range len).map (fun x => BitVec.ofNat 8 ((data.mapIdx (fun i d => gmul (d.getD x 0).toNat (gpow 2 (i * j)))).foldl (· ^^^ ·) 0))

/-! ## Bands -/

/-- A band, and replacing it. -/
def State.band (s : State) (set zone : Nat) : Option Band :=
  s.nv.media.bands.find? (fun b => b.set = set ∧ b.zone = zone)

/-- Keep a band; a change of an own band's state, version or level is shipped (R253). -/
def State.setBand (s : State) (b : Band) : State :=
  let same : Bool := match s.band b.set b.zone with
    | some x => x.state = b.state && x.ver = b.ver && x.level = b.level
    | none => false
  let s := s.media fun m => { m with bands := b :: m.bands.filter (fun x => ¬ (x.set = b.set ∧ x.zone = b.zone)) }
  if b.theirs ∨ same then s else s.ship 5 [b.set, b.zone, b.state, b.ver, b.level] []

/-- A band becomes FREE, with its rebuilt-strip entries; of an own band the partner learns it (R253). -/
def State.freeBand (s : State) (set zone : Nat) : State :=
  let own : Bool := match s.band set zone with
    | some x => !x.theirs
    | none => false
  let s := (s.media fun m => { m with
    bands := m.bands.filter (fun x => ¬ (x.set = set ∧ x.zone = zone))
    strips := m.strips.filter (fun x => ¬ (x.set = set ∧ x.zone = zone)) }).setDp fun d => { d with
    moving := d.moving.filter (fun x => ¬ (x.strip.set = set ∧ x.strip.zone = zone)) }
  if own then s.ship 5 [set, zone, 0, 0, 0] [] else s

/-- Frames of a band: committed ones and those of jobs in the write cache. -/
def State.bandFrames (s : State) (set zone : Nat) : List SFrame :=
  s.nv.media.frames.filter (fun f => f.band = some (set, zone)) ++
  (s.dp.writes.flatMap WJob.frames).filter (fun f => f.band = some (set, zone))

/-- Live bytes of a band (R260). -/
def State.liveBytes (s : State) (set zone : Nat) : Nat :=
  ((s.nv.media.frames.filter (fun f => f.band = some (set, zone))).map (fun f => 32 * f.units)).sum

/-- Bytes gathered into a position's data strips. -/
def Band.fill (b : Band) (pos : Nat) : Nat := (fldFind b.fills pos).getD 0

/-- Bytes a band's data strips hold: rows × G × (WIDTH − L) × S (R364). -/
def bandBytes (r : RSet) (v : SetVer) (level : Nat) : Nat :=
  r.rows * (v.live.length / max 1 r.width) * (r.width - level) * r.strip

/-- FREE bands of a quadrant tier, and all its bands. -/
def State.poolBands (s : State) (q tier : Nat) : Nat × Nat :=
  let sets := s.act.sets.filter (fun r => r.quad = q ∧ r.tier = tier)
  let total := (sets.map RSet.bandZones).sum
  let used := (s.nv.media.bands.filter (fun b => sets.any (fun r => r.num = b.set))).length
  (total - used, total)

/-- The free pool in % (R259). -/
def State.freePct (s : State) (q tier : Nat) : Nat :=
  let p := s.poolBands q tier
  if p.2 = 0 then 100 else 100 * p.1 / p.2

/-- The GC thresholds in force (spec/08, FTL_FREE_CFG). -/
def State.gcStart (s : State) : Nat := s.get FTL.FREE_CFG.GC_START_PCT
def State.gcUrgent (s : State) : Nat := min (s.get FTL.FREE_CFG.GC_URGENT_PCT) s.gcStart
def State.writeRsv (s : State) : Nat := min (max 1 (s.get FTL.FREE_CFG.WRITE_RSV_PCT)) s.gcUrgent

/-! ## Reading from and writing to media (R238, R313, R316) -/

/-- The member behind a position: a module's link or an HDA (spec/12, MEMBER). -/
def memberIsModule (code : Nat) : Bool := bitsAt code 14 2 = 1
def memberNo (code : Nat) : Nat := bitsAt code 0 8
def RSet.member (r : RSet) (pos : Nat) : Nat := r.members.getD pos 0

/-- A link without its registers. -/
def State.flink (s : State) (k : Nat) : FLink := s.dp.links.getD k {}

/-- A link takes commands: UP, DEGRADED, or retraining with replay to follow (R232). -/
def State.linkUp (s : State) (k : Nat) : Bool := 2 ≤ s.get (FLK.LINKk_STS.STATE k) || (s.flink k).training

/-- Send n flits of a type, as far as 512 unacknowledged ones allow; the rest wait (R232). -/
def FLink.push (x : FLink) (typ n : Nat) : FLink :=
  let m := if x.stalled.isEmpty then min n (512 - x.kept.length) else 0
  { x with
    txSeq := (x.txSeq + m) % 1024
    sent := x.sent + m
    kept := ((List.range m).map (fun i => ((x.txSeq + i) % 1024, typ))).reverse ++ x.kept
    stalled := if m < n then x.stalled ++ [(typ, n - m)] else x.stalled
    rxSince := if m = 0 then x.rxSince else 0 }
def State.setFlink (s : State) (k : Nat) (x : FLink) : State := s.setDp fun d => { d with links := d.links.set k x }

/-- A flash link's new state; FLK_DOWN shows links that are DOWN or untrained. -/
def State.flashTo (s : State) (k st : Nat) : State :=
  (s.put (FLK.LINKk_STS.STATE k) st).putBit (if k < 32 then FLK.DOWN_LO.DOWN else FLK.DOWN_HI.DOWN) (k % 32) (st < 2)

/-- Send a command to a bridge, in one CMD flit with a tag of its own (R238). -/
def State.sendBridge (s : State) (link op : Nat) (args : List Nat) (data : List Byte) (use_ : BrUse) : State :=
  let x := s.flink link
  let tag := x.nextTag
  let n := if op = 2 ∨ op = 9 then (data.length + 119) / 120 else 0
  let s := s.setFlink link { (x.push 2 n).push 1 1 with nextTag := (tag + 1) % 2 ^ 16, ackAt := s.aon }
  (s.setDp fun d => { d with brs := d.brs ++ [{ link := link, tag := tag, op := op, args := args, use_ := use_ }] }).emit
    (.bridge link tag op args data)


/-- An internal job's stamp: the epoch number active when its work started (R24); kind 0 the destage of a write, 1 a read of a
medium, 2 another run on an HDA. -/
def State.stampJob (s : State) (kind ref : Nat) : State :=
  if s.jobs.any (fun j => j.kind = kind ∧ j.ref = ref) then s
  else { s with jobs := { kind := kind, ref := ref, epoch := s.get SYS.EPOCH_NUM.NUM } :: s.jobs }

/-- The stamp of an internal job, or the number now active for one not started. -/
def State.epochOf (s : State) (kind ref : Nat) : Nat :=
  ((s.jobs.find? (fun j => j.kind = kind ∧ j.ref = ref)).map Job.epoch).getD (s.get SYS.EPOCH_NUM.NUM)

/-- A run that is an internal job of its own: neither a read job's nor a stripe's (R24). -/
def BrUse.stamped : BrUse → Bool
  | .read _ _ => false
  | .strip _ _ _ _ _ => false
  | .sparePart _ => false
  | .spare _ _ _ _ => false
  | _ => true

/-- Put a run on an HDA; the data of a write run goes to the string's buffer. -/
def State.addRun (s : State) (hda cls zone sector count : Nat) (write : Bool) (data : List Byte) (use_ : BrUse) : State :=
  let r : HdaRun := { id := s.dp.nextRun, hda := hda, cls := cls, write := write, zone := zone, sector := sector, count := count,
                      use_ := use_, askedAt := s.aon }
  let s := s.setDp fun d => { d with runs := d.runs ++ [r], nextRun := d.nextRun + 1 }
  let s := if use_.stamped then s.stampJob 2 r.id else s
  if write then s.emit (.run hda zone sector count true data) else s

/-- Ask for a run on an HDA: the reallocated sectors of a write run are written to their spare sectors, as parts of it (R322). -/
def State.askRun (s : State) (hda cls zone sector count : Nat) (write : Bool) (data : List Byte) (use_ : BrUse) : State :=
  let id := s.dp.nextRun
  let s := s.addRun hda cls zone sector count write data use_
  match write, s.nv.media.hdas.find? (fun x => x.hda = hda) with
  | true, some m =>
    let lo := zone * 262144 + sector
    let base := m.ident.userZones * 262144
    (m.realloc.filter (fun e => lo ≤ e.1 ∧ e.1 < lo + count)).foldl (fun (s : State) e =>
      s.addRun hda cls ((base + e.2.1) / 262144) ((base + e.2.1) % 262144) 1 true (slice data (4096 * (e.1 - lo)) 4096)
        (.sparePart id)) s
  | _, _ => s

/-- Where a byte of a flash zone lies: die position, plane, page (R241). -/
def flashAddr (m : Module) (o : Nat) : Nat × Nat × Nat :=
  let slot := o / 16384
  let planes := max 1 m.ident.planes
  let dies := max 1 m.dieMap.length
  ((slot / planes) % dies, slot % planes, slot / (planes * dies))

/-- A module's lasting state. -/
def State.module (s : State) (k : Nat) : Option Module := s.nv.media.modules.find? (fun m => m.link = k)
def State.setModule (s : State) (x : Module) : State := s.media fun m => { m with
  modules := x :: m.modules.filter (fun y => y.link ≠ x.link) }

/-- The physical die of a position for a zone: during a swap each band keeps its own map (R291). -/
def Module.dieAt (m : Module) (zone pos : Nat) : Nat :=
  match m.oldDie.find? (fun x => x.1 = zone ∧ x.2.1 = pos) with
  | some x => x.2.2
  | none => m.dieMap.getD pos pos

/-- The block that serves a block number of a group: a spare where it is retired (R241, R290). -/
def Module.blockAt (m : Module) (die plane zone : Nat) : Nat :=
  match m.retired.find? (fun x => x.1 = die ∧ x.2.1 = plane ∧ x.2.2.1 = zone) with
  | some x => x.2.2.2
  | none => zone

/-- Slots of 16 KiB that some bytes fill, and the bytes of one of them, filled up with zeros. -/
def slotCount (data : List Byte) : Nat := (data.length + 16383) / 16384
def slotData (data : List Byte) (i : Nat) : List Byte :=
  let x := slice data (16384 * i) 16384
  x ++ List.replicate (16384 - x.length) 0

/-- Program bytes from an offset of a flash zone on: a PROGRAM for each 16 KiB slot, pages ascending (R238, R239, R241). -/
def State.programFlash (s : State) (m : Module) (zone off : Nat) (data : List Byte) (use_ : BrUse) : State :=
  (List.range (slotCount data)).foldl (fun (s : State) i =>
    let a := flashAddr m (off + 16384 * i)
    let die := m.dieAt zone a.1
    s.sendBridge m.link 2 [die, 2 ^ a.2.1, m.blockAt die a.2.1 zone, a.2.2, m.ident.bpc] (slotData data i) use_) s

/-- Give a strip of a row to its member (R239, R316). -/
def State.programAt (s : State) (r : RSet) (b : Band) (row pos : Nat) (data : List Byte) (use_ : BrUse) : State :=
  let code := r.member pos
  if memberIsModule code then
    match s.module (memberNo code) with
    | none => s
    | some m => s.programFlash m b.zone (row * r.strip) data use_
  else s.askRun (memberNo code) 2 b.zone (row * r.strip / 4096) (r.strip / 4096) true data use_

/-- Give a strip of a stripe to its member. -/
def State.programStrip (s : State) (r : RSet) (b : Band) (row t pos : Nat) (data : List Byte) : State :=
  s.programAt r b row pos data (.strip b.set b.zone row t pos)

/-- The bytes of a data strip: the frames gathered into it, zeros elsewhere (R367, R368). -/
def State.stripBytes (s : State) (r : RSet) (v : SetVer) (b : Band) (row pos : Nat) : List Byte :=
  let lo := dataBefore r v b.level pos row * r.strip
  let fs := (s.bandFrames b.set b.zone).filter (fun f => f.pos = pos && decide (f.off < lo + r.strip) && decide (lo < f.off + 32 * f.units))
  let mem : Memory := fs.foldl (fun (m : Memory) f => m.writes f.off (s.frameBytes f)) []
  mem.reads lo r.strip

/-! ## Gathering (R367, R368) -/

/-- Every data strip of a stripe is gathered. -/
def stripeFull (r : RSet) (v : SetVer) (b : Band) (row t : Nat) : Bool :=
  ((stripeOf r v row t).take (r.width - b.level)).all (fun p => decide ((dataBefore r v b.level p row + 1) * r.strip ≤ b.fill p))

/-- Regions of a band that are marked: the one being programmed and the next ones (R370). -/
def State.ahead (s : State) : Nat := min 16 (max 1 (s.get RDN.GATHER_CFG.AHEAD))
def aheadRegions (r : RSet) (ahead g : Nat) (marked : List Nat) : List Nat :=
  (((List.range (ahead + 1)).map (g + ·)).filter (fun x => 64 * x < r.rows)).foldl insertNat marked

/-- What a strip waits for: the PROGRAM of each of its slots on a module, or one run on an HDA. -/
def RSet.programs (r : RSet) (row t pos : Nat) : List (Nat × Nat × Nat) :=
  List.replicate (if memberIsModule (r.member pos) then (r.strip + 16383) / 16384 else 1) (row, t, pos)

/-- Hand a stripe to its members with its parity, its region's bit set first (R366, R368, R370). -/
def State.issueStripe (s : State) (r : RSet) (v : SetVer) (b : Band) (row t : Nat) : State :=
  let ps := stripeOf r v row t
  let data := (ps.take (r.width - b.level)).map (s.stripBytes r v b row)
  let all := data ++ (List.range b.level).map (fun j => parityStrip j r.strip data)
  let b' := { b with
    issued := b.issued ++ [(row, t)], waiting := b.waiting ++ ps.flatMap (r.programs row t), lastWrite := s.aon
    dirty := aheadRegions r s.ahead (row / 64) b.dirty }
  let s := s.setBand b'
  (ps.zip all).foldl (fun (s : State) x => s.programStrip r b' row t x.1 x.2) s

/-- Stripes of a row. -/
def RSet.stripes (r : RSet) (v : SetVer) : Nat := v.live.length / max 1 r.width

/-- The idle strips of a row are programmed with zeros as the row is written (R364). -/
def State.programIdle (s : State) (r : RSet) (v : SetVer) (b : Band) (row : Nat) : State :=
  ((v.pattern.getD (row % 64) []).drop (r.stripes v * r.width)).foldl (fun (s : State) p =>
    s.programAt r b row p (List.replicate r.strip 0) .other) s

/-- Issue every stripe that is full or closed, rows in order on each position: a row begins once the one before it is
handed over whole (R368). -/
def State.issueFrom (s : State) (set zone : Nat) : Nat → Nat → State
  | 0, _ => s
  | n + 1, row =>
    match s.rset set, s.band set zone with
    | some r, some b =>
      match r.version b.ver with
      | none => s
      | some v =>
        let ts := List.range (r.stripes v)
        let s := ts.foldl (fun (s : State) t =>
          match s.band set zone with
          | some b => if b.issued.contains (row, t) then s
            else if b.closed.contains (row, t) ∨ stripeFull r v b row t then s.issueStripe r v b row t else s
          | none => s) s
        let all : Bool := match s.band set zone with
          | some b => ts.all (fun t => b.issued.contains (row, t))
          | none => false
        let s := if all then s.programIdle r v b row else s
        if all ∧ row + 1 < r.rows then s.issueFrom set zone n (row + 1) else s
    | _, _ => s

/-- The first row not handed over whole. -/
def Band.row (b : Band) (per : Nat) : Nat := b.issued.length / max 1 per

/-- Issue what is ready in a band. -/
def State.issue (s : State) (set zone : Nat) : State :=
  if s.halted then s else
  match s.rset set, s.band set zone with
  | some r, some b =>
    match r.version b.ver with
    | some v => let row := b.row (r.stripes v); s.issueFrom set zone (r.rows - row) row
    | none => s
  | _, _ => s

/-- Close a stripe early: the unused bytes of its data strips are zeros and never mapped (R368). -/
def State.closeStripe (s : State) (set zone row t : Nat) : State :=
  match s.rset set, s.band set zone with
  | some r, some b =>
    match r.version b.ver with
    | none => s
    | some v =>
      if b.issued.contains (row, t) ∨ b.closed.contains (row, t) then s else
      let ps := (stripeOf r v row t).take (r.width - b.level)
      let up := fun (b : Band) (p : Nat) =>
        let want := (dataBefore r v b.level p row + 1) * r.strip
        if b.fill p < want then { b with fills := fldSet b.fills p want 0 } else b
      let b := ps.foldl up { b with closed := b.closed ++ [(row, t)] }
      ((s.setBand b).count RDN.PAD_CNT.COUNT 1).issue set zone
  | _, _ => s

/-- The stripes of a frame's data strips. -/
def frameStripes (r : RSet) (v : SetVer) (level : Nat) (f : SFrame) : List (Nat × Nat) :=
  let lo := f.off / r.strip
  let hi := (f.off + 32 * f.units - 1) / r.strip
  (List.range (hi + 1 - lo)).filterMap (fun i =>
    match dataRow r v level f.pos (lo + i) with
    | some row => (slotOf r v row f.pos).map (fun x => (row, x.1))
    | none => none)

/-- A frame and all the parity of its stripes are durable (R369). -/
def State.frameDurable (s : State) (f : SFrame) : Bool :=
  match f.band with
  | none => false
  | some (set, zone) =>
    match s.rset set, s.band set zone with
    | some r, some b => match r.version b.ver with
      | some v => (frameStripes r v b.level f).all b.done_.contains
      | none => false
    | _, _ => false

/-- Room in a position's data strips of a band. -/
def hasRoomAt (r : RSet) (v : SetVer) (b : Band) (pos need : Nat) : Bool :=
  decide (b.fill pos + need ≤ dataBefore r v b.level pos r.rows * r.strip)

/-- A band is FULL once no more is put into it (R242). -/
def State.fullBand (s : State) (b : Band) : State := s.setBand { b with state := 2, fullAt := s.aon }

/-- The tiers a volume's new data goes to (R261). -/
def Vol.writeTier (v : Vol) : Nat := if v.tier = 1 then 1 else 0

/-- Quadrants with a set of a tier that has positions for its stripes. -/
def State.tierQuads (s : State) (tier : Nat) : List Nat :=
  [0, 1, 2, 3].filter (fun q => s.act.sets.any (fun r => r.tier = tier && r.quad = q && decide (r.width ≤ (r.vers.headD default).live.length)))

/-- The quadrant whose media takes a volume's writes: one of those that can, a free choice (R23; log entry 143). -/
def State.mediaQuad (s : State) (vol tier : Nat) : Option Nat :=
  let qs := s.tierQuads tier
  qs[Config.mediaQuad vol % max 1 qs.length]?

/-- The quadrant of a frame of a job: that of its band, or the one its volume's writes go to. -/
def State.frameQuad (s : State) (w : WJob) (f : SFrame) : Option Nat :=
  match f.band with
  | some b => (s.rset b.1).map RSet.quad
  | none => s.mediaQuad w.vol (((s.vol w.vol).map Vol.writeTier).getD 0)

/-- Put a frame into an open band of its use, level and tier, and of a quadrant where one is given; which of them, and which
position, is a free choice. -/
def State.placeFrame (s : State) (use_ level tier : Nat) (quad : Option Nat) (f : SFrame) : SFrame × State :=
  let fits := s.nv.media.bands.filterMap (fun b =>
    match s.rset b.set with
    | some r => match r.version b.ver with
      | some v =>
        let ps := v.live.filter (fun p => hasRoomAt r v b p (32 * f.units))
        if b.state = 1 && b.erasing = 0 && !b.theirs && b.use_ = use_ && b.level = min level r.pmax && r.tier = tier && (quad.isNone || quad = some r.quad) && !ps.isEmpty then some (b, ps) else none
      | none => none
    | none => none)
  if fits.isEmpty then (f, s) else
  let (n, s) := s.draw
  let (b, ps) := fits.getD (n % fits.length) ({ set := 0, zone := 0, state := 0, ver := 0, level := 0 }, [])
  let (m, s) := s.draw
  let p := ps.getD (m % max 1 ps.length) 0
  let f' := { f with band := some (b.set, b.zone), pos := p, off := b.fill p }
  let b' := { b with
    fills := fldSet b.fills p (b.fill p + 32 * f.units) 0
    since := if b.fills.isEmpty then s.aon else b.since }
  (f', s.setBand b')

/-! ## The write cache -/

/-- An internal job still has work. -/
def State.jobLives (s : State) (j : Job) : Bool :=
  if j.kind = 0 then s.dp.writes.any (fun w => w.id = j.ref)
  else if j.kind = 1 then s.dp.reads.any (fun r => r.id = j.ref)
  else s.dp.runs.any (fun r => r.id = j.ref)

/-- The state with the tables that a job of an epoch runs on, for lookups (R24). -/
def State.under (s : State) (epoch : Nat) : State := { s with act := s.tablesOf epoch }

/-- A job in the write cache. -/
def State.wjob (s : State) (id : Nat) : Option WJob := s.dp.writes.find? (fun w => w.id = id)
def State.setWjob (s : State) (w : WJob) : State := s.setDp fun d => { d with
  writes := d.writes.map (fun x => if x.id = w.id then w else x) }

/-- Own dirty bytes: writes in the cache that are not yet committed; relocated frames are still on media (R265). -/
def WJob.dirty (w : WJob) : Bool := w.kind = .write && !w.through
def State.dirtyBytes (s : State) : Nat :=
  ((s.dp.writes.filter (fun w => w.dirty && !s.dp.restored.contains w.id)).map (fun w => (w.frames.map SFrame.size).sum)).sum

/-- The dump rate of a link in units of 10 MB/s: the smallest of 12.5 GB/s, the link's payload rate and
200 MB/s for each die in service (R265). -/
def State.dumpRate (s : State) (k : Nat) : Nat :=
  let lanes := if s.get (FLK.LINKk_STS.STATE k) = 2 then 2470 else 1235
  match s.module k with
  | none => 0
  | some m => min 1250 (min lanes (20 * (m.ident.dies - m.retiredDies.length)))

/-- A module is dump-ready for this head (R265). -/
def State.dumpReady (s : State) (k : Nat) : Bool :=
  s.linkUp k && !s.on (FLK.LINKk_STS.FENCED k) &&
  !s.nv.media.dumpUsed.contains k

/-- The dirty cap in bytes (R265). -/
def State.dirtyCap (s : State) : Nat :=
  min (2 ^ 34) ((((List.range 48).filter s.dumpReady).map s.dumpRate).sum * 287000)

/-- New dirty data may enter the cache (R52, R265). -/
def State.admitsDirty (s : State) : Bool := s.pwr.holdup && decide (s.dirtyBytes ≤ s.dirtyCap)

/-- Complete a host write: its completion, once (R20). -/
def State.completeWrite (s : State) (w : WJob) : State :=
  if w.completed ∨ w.adopted then s else
  let s := s.setWjob { w with completed := true }
  match w.kind with
  | .reloc _ => s
  | _ =>
    let n := w.nblk * 4096
    let s := if w.kind = .write then
      let q := s.qp w.qpid
      s.setQp { q with bytesWritten := q.bytesWritten + n } else s
    s.endCmd w.qpid w.cid 0 0 false

/-- Own write data sent to the mirror and not acknowledged, in bytes. -/
def State.unackedBytes (s : State) : Nat :=
  ((s.dp.writes.filter (fun w => w.sent && !w.mirrored)).map (fun w => (w.frames.map SFrame.size).sum)).sum

/-- The number of a job's mirror entry: its own and the head's (R417). -/
def State.mirId (s : State) (w : WJob) : Nat := w.mid.getD (2 * w.id + s.headNo)

/-- Send a write to the partner's mirror region, in parts of at most 65,536 bytes, SUB 1 the last of them, unless the
partner has no space for it (R413, R417). -/
def State.mirrorWrite (s : State) (w : WJob) : State :=
  if s.pair.beat.free < s.unackedBytes + (w.frames.map SFrame.size).sum then s else
  let parts := cutBytes 65536 (w.frames.flatMap s.frameBytes)
  let parts := if parts.isEmpty then [(0, [])] else parts
  let n := parts.length
  let s := parts.foldl (fun (s : State) x =>
    s.sendNrn 2 (if x.1 / 65536 + 1 = n then 1 else 0) [s.mirId w, w.vol, w.slba, w.nblk] x.2) s
  s.setWjob { w with sent := true }

/-- The use, level and tier of a job's bands, by the tables of the epoch it runs under (R24). -/
def State.jobPlace (s : State) (w : WJob) : Nat × Nat × Nat :=
  let v := (s.tablesOf (s.epochOf 0 w.id)).vol w.vol
  let level := (v.map Vol.level).getD 2
  let tier := (v.map Vol.writeTier).getD 0
  match w.kind with
  | .reloc old =>
    let t := match (s.frame old).bind SFrame.band with
      | some (set, _) => ((s.rset set).map RSet.tier).getD tier
      | none => tier
    (if w.qpid = 1 then 2 else 1, level, if w.qpid = 1 then 1 - t else t)
  | _ => (0, level, tier)

/-- Gather what has no place yet (R368). -/
def State.gatherJob (s : State) (w : WJob) : State :=
  if w.frames.all (fun f => f.band.isSome) then s else
  let s := s.stampJob 0 w.id
  let (u, l, t) := s.jobPlace w
  let quad := if u = 0 then s.mediaQuad w.vol t else none
  let (fs, s) := w.frames.foldl (fun (acc : List SFrame × State) f =>
    if f.band.isSome then (acc.1 ++ [f], acc.2) else
    let (f', s) := acc.2.placeFrame u l t quad f
    (acc.1 ++ [f'], s)) ([], s)
  let s := s.setWjob { w with frames := fs }
  ((fs.filterMap SFrame.band).eraseDups).foldl (fun (s : State) b => s.issue b.1 b.2) s

/-- Below GC_URGENT_PCT garbage collection goes ahead of the write cache's destage (R259). -/
def State.gcUrgentNow (s : State) : Bool :=
  [0, 1, 2, 3].any (fun q => [0, 1].any (fun t => decide (s.freePct q t < s.gcUrgent)))

/-- A relocation. -/
def WJob.isReloc (w : WJob) : Bool := match w.kind with
  | .reloc _ => true
  | _ => false

/-- Gather every waiting job, oldest first, adopted data ahead of the head's own (R429). -/
def State.gatherAll (s : State) : State :=
  if s.halted then s else
  let ws := s.dp.writes.filter WJob.adopted ++ s.dp.writes.filter (fun w => !w.adopted)
  let jobs := if s.gcUrgentNow then ws.filter WJob.isReloc ++ ws.filter (fun w => !w.isReloc) else ws
  jobs.foldl (fun (s : State) w => if w.frames.all (fun f => f.band.isSome) then s else
    match s.wjob w.id with
    | some x => s.gatherJob x
    | none => s) s

/-- Close the stripes that hold a job's frames, for a FLUSH or FUA write (R368). -/
def State.closeFor (s : State) (w : WJob) : State :=
  w.frames.foldl (fun (s : State) f =>
    match f.band with
    | none => s
    | some (set, zone) =>
      match s.rset set, s.band set zone with
      | some r, some b => match r.version b.ver with
        | some v => (frameStripes r v b.level f).foldl (fun (s : State) x =>
            -- Rows are handed over in order, so the rows before it close too.
            (List.range (x.1 + 1)).foldl (fun (s : State) row =>
              (List.range (r.stripes v)).foldl (fun (s : State) t =>
                if row < x.1 ∨ t = x.2 then s.closeStripe set zone row t else s) s) s) s
        | none => s
      | _, _ => s) s

/-- Writes are mirrored: to a SYNCED partner, and to one that a surviving head brings back (R417, R432). -/
def State.mirrors (s : State) : Bool :=
  s.synced || s.get NRN.PAIR_STS.PARTNER = 3 && s.get NRN.PAIR_STS.ROLE = roleSurvivor

/-- A new job enters the write cache (R20, R417). -/
def State.addJob (s : State) (w : WJob) : State :=
  let w := { w with id := s.dp.nextWrite }
  let s := s.setDp fun d => { d with writes := d.writes ++ [w], nextWrite := d.nextWrite + 1 }
  let mine : Bool := match w.kind with
    | .reloc _ => false
    | _ => !w.through
  let s := if s.mirrors && mine && !w.sent then s.mirrorWrite w else s
  match s.wjob w.id with
  | some x =>
    let s := s.gatherJob x
    (match s.wjob w.id with
      | some y => if w.fua then s.closeFor y else s
      | none => s)
  | none => s

/-- A job is a host's, in the write cache of this head (R417). -/
def WJob.hosts (w : WJob) : Bool := !w.through && !w.adopted && (match w.kind with
  | .write => true
  | .discard => true
  | _ => false)

/-- A job may reach its map commit: every frame durable, its log record durable, no older job of the same blocks before it
(R253, R369, R387), and, while the partner is SYNCED, a host's write held in the partner's mirror too (R20, R417). -/
def State.mayCommit (s : State) (w : WJob) : Bool :=
  w.durable && w.frames.all s.frameDurable && (!s.synced || !w.hosts || w.completed || w.mirrored) &&
  (s.dp.writes.takeWhile (fun x => x.id ≠ w.id)).all (fun x => x.vol ≠ w.vol || x.slba + x.nblk ≤ w.slba || w.slba + w.nblk ≤ x.slba)

/-- Flushes whose writes are all durable complete (spec/05, Table 5). -/
def State.endFlushes (s : State) : State :=
  let open_ := fun (f : Nat × Nat × List Nat) => f.2.2.any (fun id => (s.wjob id).isSome)
  let ready := s.dp.flushes.filter (fun f => ¬ open_ f)
  let s := s.setDp fun d => { d with flushes := d.flushes.filter open_ }
  ready.foldl (fun (s : State) f => s.endCmd f.1 f.2.1 0 0 false) s

/-- A relocated frame leaves its old band; a band RECLAIMING whose last frame has left becomes FREE (R260). -/
def State.freeReclaimed (s : State) : State :=
  let gone := s.nv.media.bands.filter (fun b => b.state = 3 && (s.bandFrames b.set b.zone).isEmpty &&
    !s.dp.writes.any (fun w => match w.kind with
      | .reloc old => (s.frame old).bind SFrame.band = some (b.set, b.zone)
      | _ => false))
  gone.foldl (fun (s : State) b => s.freeBand b.set b.zone) s

/-- A command ends before it took effect (R146, R147): its job leaves the write cache, and a FLUSH waits no more; then its
completion. -/
def State.cutCmd (s : State) (qpid cid status : Nat) : State :=
  let ends := fun (w : WJob) => (w.hosts || w.through) && !w.completed && w.qpid = qpid && w.cid = cid
  let s := (s.dp.writes.filter (fun w => ends w && w.sent)).foldl (fun (s : State) w => s.ship 7 [s.mirId w] []) s
  let s := s.setDp fun d => { d with
    writes := d.writes.filter (fun w => !ends w)
    flushes := d.flushes.filter (fun f => ¬ (f.1 = qpid ∧ f.2.1 = cid)) }
  s.endCmd qpid cid status 0 false

/-! ## What the map store holds (R243 to R247, R198, R218) -/

/-- Where a frame lives (Table "Flash Modules and the Translation Layer" 7), in its flash or HDA form; 0 without a place. -/
def State.locator (s : State) (f : SFrame) : Nat :=
  match f.band with
  | none => 0
  | some (set, zone) => match s.rset set, s.band set zone with
    | some r, some b => match r.version b.ver with
      | none => 0
      | some v =>
        let o := (zone * r.zoneSize + zoneOffset r v b.level f.pos f.off) / 32
        let code := r.member f.pos
        if memberIsModule code then memberNo code * 2 ^ 56 + o * 2 ^ 12 + f.units
        else 2 ^ 62 + memberNo code * 2 ^ 54 + o * 2 ^ 12 + f.units
    | _, _ => 0

/-- How the map names a frame: one with an index entry in the indirect form (R250). -/
def State.mapLocator (s : State) (f : SFrame) : Nat :=
  if f.digest.isSome then 3 * 2 ^ 62 + f.page * 2 ^ 6 + f.entry else s.locator f

/-- Frames that some blocks name, in their order. -/
def framesOf (blocks : List (Nat × BlkRef)) : List Nat :=
  (blocks.filterMap (fun b => match b.2 with
    | .frame n _ => some n
    | .discarded => none)).eraseDups

/-- A block entry of a directory or a fine table over a list of frames (R246). -/
def blockEntry (frames : List Nat) (blocks : List (Nat × BlkRef)) (i : Nat) : Nat :=
  match (blocks.find? (fun b => b.1 = i)).map Prod.snd with
  | none => 0xFFF
  | some .discarded => 0xFFE
  | some (.frame n k) => k * 2 ^ 12 + frames.findIdx (· = n)

/-- The locators of some frames, and 0 for one that is not committed. -/
def State.locators (s : State) (frames : List Nat) : List Nat :=
  frames.map (fun n => ((s.frame n).map s.mapLocator).getD 0)

/-- A unit directory (R246): where the header's fields lie is the model's (log entry 152). -/
def State.directory (s : State) (vol unit : Nat) (v : Version) : List Byte :=
  let fs := framesOf v.blocks
  let head := fun (crc : Nat) => leBytes 2 0x5544 ++ leBytes 1 1 ++ leBytes 1 0 ++ leBytes 2 fs.length ++ leBytes 2 vol ++
    leBytes 8 unit ++ leBytes 4 v.gen ++ List.replicate 40 0 ++ leBytes 4 crc
  let rest := (s.locators fs).flatMap (leBytes 8) ++ (List.range 1024).flatMap (fun i => leBytes 2 (blockEntry fs v.blocks i))
  let rest := rest ++ List.replicate ((256 - (64 + rest.length) % 256) % 256) 0
  head (crc32c (head 0 ++ rest)) ++ rest

/-- A fine entry of a unit: fine unit i of 256 (R247). -/
def State.fineEntry (s : State) (v : Version) (i : Nat) : List Byte :=
  let mine := v.blocks.filter (fun b => b.1 / 4 = i)
  let fs := framesOf mine
  let (g, gs) := ((v.fine.find? (fun x => x.1 = i)).map Prod.snd).getD (v.gen, v.gset)
  let b := (List.range 4).flatMap (fun k => leBytes 8 ((s.locators fs).getD k 0)) ++
    (List.range 4).flatMap (fun k => leBytes 2 (blockEntry fs mine (4 * i + k))) ++ leBytes 3 g ++ leBytes 1 (b2n gs) ++
    List.replicate 16 0
  b ++ leBytes 4 (crc32c b)

/-- A full index page (Table "De-duplication, Compression, Check Values and Encryption" 5), in clear and as it is stored, under
the META key of its epoch with a SERIAL of its own (R198, R218). -/
def State.indexPage (s : State) (p : IndexPage) : List Byte :=
  let es := s.indexEntries p.num
  (List.range 64).flatMap (fun i => match es.find? (fun e => e.1 = i) with
    | none => List.replicate 64 0
    | some (_, d, f, refs) => d ++ leBytes 2 f.vol ++ [2, 0] ++ leBytes 4 f.epoch ++ leBytes 8 (s.locator f) ++ leBytes 4 refs ++
        leBytes 4 f.data.length ++ leBytes 8 f.created)
def State.storedPage (s : State) (p : IndexPage) : List Byte := Config.xts (s.metaKey p.vol p.epoch) p.serial (s.indexPage p)

/-- Index pages that a change has written again go to the map store. -/
def State.storePages (s old : State) : State :=
  (s.nv.media.ipages.filter (fun p => !old.nv.media.ipages.contains p)).foldl (fun (s : State) p => s.emit (.mapStore (s.storedPage p))) s

/-- Directories of large units that a map commit has changed go to the map store; fine tables go with the map log (R246 to
R248). -/
def State.storeUnits (s : State) (units : List (Nat × Nat)) : State :=
  units.foldl (fun (s : State) u => match (s.unit u.1 u.2).live with
    | some v => if v.kind = 1 then s.emit (.mapStore (s.directory u.1 u.2 v)) else s
    | none => s) s

/-- What a map-log record says of a committed frame, and of a block. -/
def SFrame.placeArgs (f : SFrame) : List Nat :=
  [f.serial, (f.band.map Prod.fst).getD 0, (f.band.map Prod.snd).getD 0, f.pos, f.off]
def blockArgs (b : Nat × BlkRef) : List Nat := match b.2 with
  | .frame n k => [b.1, 1, n, k]
  | .discarded => [b.1, 0]

/-- Ship the map commit of a job (R253, R418). -/
def State.shipJob (s : State) (w : WJob) : State :=
  match w.kind with
  | .reloc old => s.ship 8 (old :: w.frames.flatMap SFrame.placeArgs) []
  | _ => s.ship 0 ([s.mirId w, w.vol, w.slba, w.nblk, w.frames.length] ++ w.frames.flatMap SFrame.placeArgs ++ w.blocks.flatMap blockArgs) []

/-- The map commit of a job (R199, R200, R253, R387, R418): the mirror entry frees with the shipped record, the job
leaves the cache, and what waited for it goes on. -/
def State.commitJob (s : State) (w : WJob) : State :=
  let was := s
  let s := match w.kind with
    | .reloc old => match w.frames with
      | f :: _ => (s.applyReloc old f).freeReclaimed
      | [] => s
    | _ => s.applyWrite w
  let s := s.storePages was
  let s := s.completeWrite w
  let s := s.setDp fun d => { d with writes := d.writes.filter (fun x => x.id ≠ w.id) }
  (s.shipJob w).endFlushes.freeReclaimed

/-- Relocate a frame: a copy as stored goes into a band of garbage collection; re: under a new serial and epoch for a
rekey sweep; cross: into the other tier (R216, R260, R261). -/
def State.relocate (s : State) (f : SFrame) (re cross : Bool) : State :=
  if s.dp.writes.any (fun w => w.kind = .reloc f.serial) then s else
  let (n, s) := if re then s.nextSerial else (f.serial, s)
  let ep := if re then ((s.vol f.vol).map Vol.keyEpoch).getD f.epoch else f.epoch
  let f' := { f with serial := n, epoch := ep, band := none, pos := 0, off := 0 }
  s.addJob { id := 0, kind := .reloc f.serial, qpid := b2n cross, cid := 0, vol := f.vol, epoch := s.get SYS.EPOCH_NUM.NUM,
             frames := [f'], at_ := s.aon }

/-- A frame of a lost column: its FRAME entry, or RANGE entries over the blocks that name it (R384). -/
def State.frameLost (s : State) (f : SFrame) : Bool :=
  s.nv.media.lost.any (fun l => l.kind = 2 && l.serial = f.serial ||
    l.kind = 1 && l.vol = f.vol && s.nv.media.units.any (fun u => u.vol = f.vol && u.versions.any (fun v => v.gen = l.gen &&
      v.blocks.any (fun x => (match x.2 with
        | .frame n _ => n = f.serial
        | .discarded => false) && decide (l.first ≤ 1024 * u.unit + x.1) && decide (1024 * u.unit + x.1 < l.first + l.count)))))

/-- Relocate every live frame of a band, which turns RECLAIMING (R260, R285); lost frames are skipped and have no place any
more (R384). -/
def State.relocateBand (s : State) (b : Band) : State :=
  if b.state ≠ 2 ∨ b.pinned then s else
  let here := s.nv.media.frames.filter (fun f => f.band = some (b.set, b.zone))
  let fs := here.filter (fun f => !s.frameLost f)
  let gone := (here.filter s.frameLost).map SFrame.serial
  let s := s.media fun m => { m with frames := m.frames.map (fun f => if gone.contains f.serial then { f with band := none } else f) }
  (fs.foldl (fun (s : State) f => s.relocate f false false) (s.setBand { b with state := 3 })).freeReclaimed

end Sys2Proof.Machine
end

