-- ==== Sys2Proof/Machine/Reply.lean ====
section
/-! DEFINITION. Mailbox slots, doorbells and notifications, and how a reply leaves the complex (R119 to R127, R96, R109). -/

namespace Sys2Proof.Machine

/-- Offset of a slot in the primary window (spec/04, "MBX registers"). -/
def slotBase (ch : Nat) (slotB : Bool) : Nat := 0x10000 + 0x2100 * ch + if slotB then 0x1080 else 0

/-- The FULL flag of a slot. -/
def fullFld (ch : Nat) (slotB : Bool) : Fld := if slotB then MBX.CHn_STS.FULL_B ch else MBX.CHn_STS.FULL_F ch

/-- SHARED mode of a channel. -/
def State.shared (s : State) (ch : Nat) : Bool := s.on (MBX.CHn_BIND.MODE ch)

/-- The identity notified by bits [15:0] and by bits [31:16] of a channel's doorbells (R127). -/
def State.lowSide (s : State) (ch : Nat) : Nat := if s.shared ch then 0 else s.get (MBX.CHn_BIND.END1 ch)
def State.highSide (s : State) (ch : Nat) : Nat :=
  if s.shared ch then s.get (MBX.CHn_STS.OWNER ch) else s.get (MBX.CHn_BIND.END0 ch)

/-- Notify an identity as Table "Command Packets, Mailboxes and Doorbells" 6 gives. -/
def State.notifyIdent (s : State) (ident ch vec : Nat) : State :=
  if ident = 2 ∨ ident = 3 then s.signal vec
  else if ident = 0 ∨ ident = 4 ∨ ident = 5 then s.emit (.notify ident ch)
  else s

/-- Notify both sides of a channel for a set of doorbell bits that are pending and not masked (R127). -/
def State.notifyBits (s : State) (ch bits : Nat) : State :=
  let open_ := bits &&& (0xFFFFFFFF - s.get (MBX.CHn_DB_MASK.MASK ch))
  let s := s.iff (open_ % 2 ^ 16 ≠ 0) (fun s => s.notifyIdent (s.lowSide ch) ch (s.get (MBX.CHn_NOTIFY.VEC1 ch)))
  s.iff (open_ / 2 ^ 16 ≠ 0) (fun s =>
    if s.shared ch ∧ s.get (MBX.CHn_STS.OWNER ch) = 0 then s
    else s.notifyIdent (s.highSide ch) ch (s.get (MBX.CHn_NOTIFY.VEC0 ch)))

/-- Set doorbell bits of a channel. -/
def State.ring (s : State) (ch bits : Nat) : State :=
  (s.put (MBX.CHn_DB_PEND.PEND ch) (s.get (MBX.CHn_DB_PEND.PEND ch) ||| bits)).notifyBits ch bits

/-- A message is sent: its length, FULL, and the first doorbell bit of the receiver's side (R122). -/
def State.fillSlot (s : State) (ch : Nat) (slotB : Bool) (len sender : Nat) : State :=
  let s := { s with cmd := { s.cmd with msgs :=
    { ch := ch, slotB := slotB, len := len, sender := sender } :: s.cmd.msgs.filter (fun m => ¬ (m.ch = ch ∧ m.slotB = slotB)) } }
  (s.setB (fullFld ch slotB)).ring ch (if slotB then 2 ^ 16 else 1)

/-- Length of the message a full slot holds. -/
def State.slotLen (s : State) (ch : Nat) (slotB : Bool) : Nat :=
  ((s.cmd.msgs.find? (fun m => m.ch = ch ∧ m.slotB = slotB)).map SlotMsg.len).getD 0

/-- Put a reply into slot B. -/
def State.writeReply (s : State) (ch : Nat) (r : Reply) : State :=
  let bs := r.bytes
  let s := { s with cmd := { s.cmd with mem := s.cmd.mem.writes (slotBase ch true) bs } }
  (s.fillSlot ch true bs.length 0).emit (.reply r)

/-- The channel a reply goes to, if it goes by mailbox. -/
def Reply.channel (r : Reply) : Option Nat :=
  match r.via with
  | .mailbox ch => some ch
  | .inband _ _ => none

/-- Once slot B of a channel is free, the oldest held reply goes into it (R125). -/
def State.pump (s : State) (ch : Nat) : State :=
  if s.on (MBX.CHn_STS.FULL_B ch) then s else
  match s.cmd.held.find? (fun r => r.channel = some ch) with
  | none => s
  | some r => { s with cmd := { s.cmd with held := s.cmd.held.erase r } }.writeReply ch r

/-- Send an in-band reply: to RBUF, and then the completion; on a client queue pair both go as one transfer, the reply under the
pair's SQ_KEY (R109, R130, R186; log entry 166). -/
def State.sendInband (s : State) (r : Reply) (qpid slot : Nat) : State :=
  match s.qpBind qpid with
  | some b =>
    if b.isHost then (s.emit (.rbuf r.rbuf r)).postCqe qpid slot r.status r.tag false
    else
      let pmtu := ((s.connBind b.conn).map ConnBind.pmtu).getD 4096
      s.postCqeData qpid slot r.status r.tag false (writePackets pmtu r.rbuf b.sqKey r.bytes)
  | none => s

/-- Send a reply: into slot B or held for it, or to RBUF with its completion (R109, R125, R130). -/
def State.sendReply (s : State) (r : Reply) : State :=
  match r.via with
  | .mailbox ch => { s with cmd := { s.cmd with held := s.cmd.held ++ [r] } }.pump ch
  | .inband qpid slot => s.sendInband r qpid slot

/-- Form the reply of a packet and send it. -/
def State.replyTo (s : State) (p : Packet) (status detail : Nat) (data : List Byte) : State :=
  s.sendReply
    { via := p.via, ident := p.ident, status := status, opcode := p.opcode, tag := p.tag, loc := p.loc, cls := p.cls,
      detail := detail, epoch := s.get SYS.EPOCH_NUM.NUM, time := s.dev, data := data, rbuf := p.rbuf }

/-- The reply of a taken command: it leaves the taken ones, and its completion counts for R115. -/
def State.answer (s : State) (p : Packet) (status detail : Nat) (data : List Byte) : State :=
  ({ s with cmd := { s.cmd with
    taken := s.cmd.taken.filter (fun t => t.pkt ≠ p)
    later := s.cmd.later.filter (fun x => x ≠ p)
    done := (p.cls, s.aon) :: s.cmd.done.filter (fun d => s.aon < d.2 + Config.sec) } } : State).replyTo p status detail data

/-- The channel a packet came by. -/
def packetChannel (p : Packet) : Option Nat :=
  match p.via with
  | .mailbox ch => some ch
  | .inband _ _ => none

/-- Replies that the complex holds for a channel, with those its started commands still owe it (log entry 156). -/
def State.owedOn (s : State) (ch : Nat) : Nat :=
  (s.cmd.held.filter (fun r => r.channel = some ch)).length +
  (s.cmd.taken.filter (fun t => t.started && t.owed.isNone && decide (packetChannel t.pkt = some ch))).length

/-- The complex can hold one more reply for a packet's channel (R125). -/
def State.roomFor (s : State) (p : Packet) : Bool :=
  match packetChannel p with
  | some ch => decide (s.owedOn ch < 16)
  | none => true

/-- Replies already decided leave as their channels have room (R125). -/
def State.sendOwed (s : State) : State :=
  (s.cmd.taken.filter (fun t => t.owed.isSome)).foldl (fun (s : State) t =>
    if s.roomFor t.pkt then s.answer t.pkt ((t.owed.map Prod.fst).getD 0) ((t.owed.map Prod.snd).getD 0) [] else s) s

/-- Decide the replies of every command without one. -/
def State.oweAll (s : State) (f : Taken → Nat × Nat) : State :=
  ({ s with cmd := { s.cmd with
    taken := s.cmd.taken.map (fun t => if t.owed.isSome then t else { t with owed := some (f t) })
    waits := [], later := [] } } : State).sendOwed

/-- Release every channel lock an identity holds (R126). -/
def State.releaseLocks (s : State) (ident : Nat) : State :=
  (List.range 64).foldl (fun (s : State) n =>
    if s.get (MBX.CHn_STS.OWNER n) = ident then s.put (MBX.CHn_STS.OWNER n) 0 else s) s

/-- The reply of a command that waited for an event of its own. -/
def State.answerLater (s : State) (p : Packet) (status detail : Nat) (data : List Byte) : State :=
  if s.cmd.later.contains p then s.answer p status detail data else s

end Sys2Proof.Machine
end

