-- ==== Sys2Proof/Machine/Gating.lean ====
section
/-! DEFINITION. Power-gated clusters and quadrants, how they wake, and each quadrant's entropy (R31, R32, R54, R81, R223 to
R225). -/

namespace Sys2Proof.Machine

/-- State of an HDA (Table "HDA Strings and the Central Read Channel" 14), of its servo and of its spindle. -/
def State.hdaState (s : State) (h : Nat) : Nat := s.get (HRC.HDAh_STS.STATE h)
def State.srvState (s : State) (h : Nat) : Nat := s.get (SRV.HDAh_STS.STATE h)
def State.spnState (s : State) (h : Nat) : Nat := s.get (SPN.HDAh_STS.STATE h)

/-- This head drives the carrier of an HDA (R301). -/
def State.drives (s : State) (h : Nat) : Bool := s.on (STR.STRING_STS.DRIVER (h / 2))

/-- HDAs of a quadrant on carriers this head drives. -/
def State.drivenIn (s : State) (q : Nat) : List Nat := ((List.range 48).map (48 * q + ·)).filter s.drives

/-- On wake, SOUT goes on (R337). -/
def State.wakeCarriers (s : State) (q : Nat) : State :=
  (s.drivenIn q).foldl (fun (s : State) h => if s.srvState h = 9 then s.put (SRV.HDAh_STS.STATE h) 0 else s) s

/-! ## Entropy (R223 to R225, R81) -/

/-- A quadrant's entropy context. -/
def State.ent (s : State) (q : Nat) : Entropy := s.dp.entropy.getD q {}
def State.setEnt (s : State) (q : Nat) (e : Entropy) : State := s.setDp fun d => { d with entropy := d.entropy.set q e }

/-- A quadrant whose own source is READY. -/
def State.anyReady (s : State) : Bool := [0, 1, 2, 3].any (fun q => s.get (XF.ENT_STS.STATE q) = 1)

/-- Enter RETEST, BORROW or STARVED: ENT_FAIL and a record (R225). -/
def State.enterEnt (s : State) (q st : Nat) : State :=
  ((s.put (XF.ENT_STS.STATE q) st).setB XF.STS.ENT_FAIL).record 0x0903 (locQuad q) q st []

/-- Quadrants that borrow starve while no quadrant is READY, and borrow again once one is (spec/07, Table 8). -/
def State.lendEntropy (s : State) : State :=
  [0, 1, 2, 3].foldl (fun (s : State) q =>
    let st := s.get (XF.ENT_STS.STATE q)
    if st = 3 ∧ ¬ s.anyReady then s.enterEnt q 4
    else if st = 4 ∧ s.anyReady then ((s.enterEnt q 3).putBit SYS.START_STS.ENT_READY q true).seedQuad q
    else s) s

/-- Failures of the last 60 minutes. -/
def State.entFails (s : State) (q : Nat) : List Nat := (s.ent q).fails.filter (fun t => s.aon < t + Config.hour)

/-! ## Gating and wake -/

/-- Where a cluster and a quadrant stand. -/
def State.setCluster (s : State) (cl : Nat) (g : Gate) : State :=
  { s with pwr := { s.pwr with clusters := s.pwr.clusters.set cl g } }
def State.setQuad (s : State) (q : Nat) (g : Gate) : State :=
  { s with pwr := { s.pwr with quads := s.pwr.quads.set q g } }

/-- A start-up test of a quadrant's source takes the claim of XF_ENT_CFG, 0x40 to 0x80 (R224). -/
def State.latchClaim (s : State) (q : Nat) : State :=
  s.setEnt q { s.ent q with claim := max 0x40 (min 0x80 (s.get XF.ENT_CFG.H_CLAIM)) }

/-- A quadrant has entered the gated state: its PLL stops, its entropy source is off (spec/07, Table 8), and its clusters' key
slots are zeroised (R213). -/
def State.gateQuad (s : State) (q : Nat) : State :=
  let st := s.get (XF.ENT_STS.STATE q)
  let s := (s.clrB (CLK.Qn_STS.LOCK q)).putBit SYS.START_STS.ENT_READY q false
  let s := (s.setEnt q { s.ent q with borrowed := decide (st = 3 ∨ st = 4) }).put (XF.ENT_STS.STATE q) 5
  let s := (List.range 8).foldl (fun (s : State) k => s.zeroise (8 * q + k)) s
  (s.setQuad q .gated).lendEntropy

/-- A quadrant wakes: PLL locked, entropy start-up begins, or it borrows again (R54, R81; spec/07, Table 8); after a thermal
trip the data-plane clocks stay stopped (R61, R88). The clusters that work waited for wake with it (R32). -/
def State.wakeQuad (s : State) (q : Nat) : State :=
  if s.pwr.tripped then s else
  let s := ((s.setQuad q .awake).setB (CLK.Qn_STS.LOCK q)).putBit SYS.START_STS.ENT_READY q false
  let s := if s.get (XF.ENT_STS.STATE q) ≠ 5 then s
    else if ¬ (s.ent q).borrowed then (s.put (XF.ENT_STS.STATE q) 0).latchClaim q
    else (((s.enterEnt q 3).putBit SYS.START_STS.ENT_READY q s.anyReady).iff s.anyReady (·.seedQuad q)).lendEntropy
  let due := fun (i : Nat) => decide (i / 8 = q) && s.pwr.wakeDue.contains i && decide (s.get (SYS.CLMAP.C q (i % 8)) ≠ 0xF)
  let s := { s with
    start := { s.start with entSince := s.start.entSince.set q s.aon }
    pwr := { s.pwr with
      clusters := s.pwr.clusters.mapIdx (fun i g => if due i then .awake else g)
      wakeDue := s.pwr.wakeDue.filter (fun i => i / 8 ≠ q) } }
  s.wakeCarriers q

/-- A wake cause: during entry it is remembered (R32, R54). -/
def State.causeWake (s : State) (q : Nat) : State :=
  match s.pwr.quads.getD q .gated with
  | .entering _ => s.setQuad q (.entering true)
  | .gated => if s.bit SYS.START_STS.Q_DOWN q then s else s.wakeQuad q
  | .awake => s

/-- A wake cause of a cluster (R32, R54): during its entry it is remembered; a gated cluster wakes, with its quadrant where
that is gated, or once it has woken where it is entering; a retired cluster does not wake. -/
def State.wakeCluster (s : State) (cl : Nat) : State :=
  let q := cl / 8
  match s.pwr.clusters.getD cl .gated with
  | .awake => s
  | .entering _ => s.setCluster cl (.entering true)
  | .gated =>
    if s.pwr.tripped ∨ s.get (SYS.CLMAP.C q (cl % 8)) = 0xF then s
    else if s.pwr.quads.getD q .gated = .awake then (s.setCluster cl .awake).iff (s.entReady q) (·.seed cl)
    else ({ s with pwr := { s.pwr with wakeDue := insertNat s.pwr.wakeDue cl } } : State).causeWake q

end Sys2Proof.Machine
end

