-- ==== Sys2Proof/Machine/Epoch.lean ====
section
/-! DEFINITION. Configuration epochs: the commit, its wait, the abandon, what a commit's event 3 does, and the remap
of a spare swap or retirement (R17, R18, R24 to R29). -/

namespace Sys2Proof.Machine

/-- The next epoch number: wraps from 0xFFFF_FFFF to 1 (spec/01, SYS_EPOCH_NUM). -/
def nextEpoch (n : Nat) : Nat := if n ≥ 0xFFFFFFFF then 1 else n + 1

/-- Commands and jobs in flight stamped with another epoch than the active one (R24, R25). -/
def State.retCount (s : State) : Nat :=
  (s.hq.cmds.filter (fun c => c.epoch ≠ s.get SYS.EPOCH_NUM.NUM)).length +
  (s.jobs.filter (fun j => j.epoch ≠ s.get SYS.EPOCH_NUM.NUM && s.jobLives j)).length

/-- The replies due at event 3 to commands that wrote with FLAGS.COMMIT (R95). -/
def State.answerWaits (s : State) : State :=
  let ws := s.cmd.waits.filter CommitWait.wrote
  ws.foldl (fun s w => s.answer w.pkt 0 w.detail w.data)
    { s with cmd := { s.cmd with waits := s.cmd.waits.filter (fun w => ¬ w.wrote) } }

/-! ## Queue-pair bindings at a commit -/

/-- Insert a binding by QPID. -/
def insertBind : List QpBind → QpBind → List QpBind
  | [], b => [b]
  | a :: r, b => if a.qpid ≤ b.qpid then a :: insertBind r b else b :: a :: r

/-- Queue pairs bound to a cluster that are not PENDING. -/
def State.boundCount (s : State) (cluster : Nat) : Nat :=
  (s.act.qps.filter (fun b => b.cluster = cluster ∧ (s.qp b.qpid).state ≠ 1)).length

/-- R141: a cluster has room for one more queue pair. -/
def State.hasRoom (s : State) (cluster : Nat) : Bool := s.on HQ.SPILL_LO.EN || s.boundCount cluster < 2048

/-- The serving quadrant while the head is at S2 (R73). -/
def State.s2Serving (s : State) : Option Nat :=
  if s.start.reached = 3 then [0, 1, 2, 3].find? (fun q => s.bit SYS.START_STS.SERVE_Q q) else none

/-- A queue pair or connection on a quadrant may leave PENDING: any at S3, at S2 only on the serving quadrant (R73). -/
def State.quadServes (s : State) (q : Nat) : Bool :=
  match s.s2Serving with
  | some n => q = n
  | none => true

/-- PENDING queue pairs with a binding become ACTIVE, lowest QPID first, where their cluster has room (R131, R141) and,
for a client queue pair, its connection is OPEN (R73). -/
def State.activateQps (s : State) : State :=
  (s.act.qps.foldl insertBind []).foldl (fun s b =>
    let q := s.qp b.qpid
    let connOk := b.location = 0 ∨ ((s.conn b.conn).map Conn.state).getD 0 = 2
    if q.state = 1 ∧ s.hasRoom b.cluster ∧ connOk then (s.setQp { q with state := 2 }).startFetch b.qpid else s) s

/-- At S2 every host queue pair is bound to the serving quadrant's clusters, at S3 to the configured one (R73; which of
the eight serves at S2: log entry 18). -/
def State.s2Bind (s : State) : State :=
  let place := fun (b : QpBind) =>
    match s.s2Serving with
    | some n =>
      let live := s.liveClusters n
      if b.location = 0 then { b with cluster := live.getD (b.home % max 1 live.length) b.home } else b
    | none => { b with cluster := b.home }
  { s with act := { s.act with qps := s.act.qps.map place }, shadow := { s.shadow with qps := s.shadow.qps.map place } }

/-! ## Connections at a commit -/

/-- A fresh path of a set, at an index of it (R183, R190). -/
def newPath (pmtu now set i : Nat) (e : PathEntry) : Path :=
  { entry := e, cwnd := 16 * pmtu, lastUse := now, probeAt := now, sets := [set], wire := i }

/-- The running context of a connection just created, PENDING. -/
def newConn (b : ConnBind) (now : Nat) : Conn :=
  { id := b.id, state := 1, txPsn := b.txPsn, rxCum := b.rxPsn, paths := b.paths.mapIdx (newPath b.pmtu now 0),
    lastRx := now, usedAt := now }

/-- A connection takes a new path set: a path of both sets keeps its state, and one that the new set removes stays for the
transfers that began under its own (R170, R190). -/
def Conn.newPaths (c : Conn) (b : ConnBind) (now : Nat) : Conn :=
  if (c.paths.filter (fun p => p.sets.contains c.pathSet)).map Path.entry = b.paths then c else
  let n := c.pathSet + 1
  let mine := b.paths.mapIdx (fun i e => match c.paths.find? (fun p => p.entry = e) with
    | some p => { p with sets := n :: p.sets, wire := i }
    | none => newPath b.pmtu now n i e)
  let paths := mine ++ c.paths.filter (fun p => ¬ b.paths.contains p.entry)
  let moved := fun (i : Nat) => ((c.paths[i]?).bind (fun p => paths.findIdx? (fun x => x.entry = p.entry))).getD paths.length
  ({ c with paths := paths, pathSet := n, unacked := c.unacked.map (fun u => { u with path := moved u.path }) } : Conn).prune

/-- Bindings in force: path sets take effect, PENDING connections open (R170, R173). -/
def State.activateConns (s : State) : State :=
  s.act.conns.foldl (fun (s : State) b =>
    match s.conn b.id with
    | none => s
    | some c =>
      let c := c.newPaths b s.aon
      s.setConn (if c.state = 1 ∧ s.quadServes (b.cluster / 8) then { c with state := 2, lastRx := s.aon } else c)) s

/-- Destroyed connections that are LOST, or have nothing left to be acknowledged, go (R173, Table 5). -/
def State.removeConns (s : State) : State :=
  let done := fun (c : Conn) => c.destroyAt.isSome && (c.state ≠ 4 || c.closeDue || c.unacked.isEmpty)
  let gone := (s.vrm.conns.filter done).map Conn.id
  let keep := fun (bs : List ConnBind) => bs.filter (fun b => ¬ gone.contains b.id)
  { s with
    act := { s.act with conns := keep s.act.conns }
    shadow := { s.shadow with conns := keep s.shadow.conns }
    vrm := { s.vrm with conns := s.vrm.conns.filter (fun c => ¬ gone.contains c.id) } }

/-- The bindings of deleted queue pairs without a command in flight go (R134). -/
def State.removeDrained (s : State) : State :=
  let gone := (s.hq.qps.filter (fun q => q.state = 6 ∧ s.inflight q.qpid = 0)).map Qp.qpid
  let keep := fun (bs : List QpBind) => bs.filter (fun b => ¬ gone.contains b.qpid)
  { s with
    act := { s.act with qps := keep s.act.qps }
    shadow := { s.shadow with qps := keep s.shadow.qps }
    hq := { s.hq with qps := s.hq.qps.filter (fun q => ¬ gone.contains q.qpid) } }

/-- Rebind what a retired cluster held to the remaining logical clusters of its quadrant; which of them is a free
choice (R18, log entry 12). -/
def State.rebindFrom (s : State) (cluster : Nat) : State :=
  let live := s.liveClusters (cluster / 8)
  let pick := fun (i : Nat) => live.getD (Config.freeValue (s.free + i) % max 1 live.length) cluster
  let moved := fun (bs : List QpBind) => bs.map (fun b => { b with
    cluster := if b.cluster = cluster then pick b.qpid else b.cluster
    home := if b.home = cluster then pick b.qpid else b.home })
  let ids := (s.act.qps.filter (fun b => b.cluster = cluster)).map QpBind.qpid
  let s := { s with
    act := { s.act with qps := moved s.act.qps }
    shadow := { s.shadow with qps := moved s.shadow.qps }
    free := s.free + 2 ^ 20 }
  -- R172: beyond 2,048 connections on one cluster, those of the shadow bank included, the highest IDs become LOST.
  let movedC := fun (bs : List ConnBind) => bs.map (fun b => if b.cluster = cluster then { b with cluster := pick b.id } else b)
  let s := { s with act := { s.act with conns := movedC s.act.conns }, shadow := { s.shadow with conns := movedC s.shadow.conns } }
  let excess := if s.on VRM.SPILL_LO.EN then [] else
    live.flatMap (fun cl =>
      ((((s.act.conns ++ s.shadow.conns).filter (fun b => b.cluster = cl)).map ConnBind.id).foldl insertNat []).drop 2048)
  let s := excess.foldl State.loseConn s
  -- R171: each of them caches 2,048 contexts.
  let s := live.foldl (fun (s : State) cl => s.evictConns cl 2048 s.vrm.conns.length) s
  -- R141: beyond 2,048 on one cluster, the highest QPIDs return to PENDING until a commit has room.
  let s := ids.foldl (fun s id => let q := s.qp id; if q.state = 2 then s.setQp { q with state := 1 } else s) s
  s.activateQps

/-! ## The remap of a swap or retirement (event 6) -/

/-- Write a quadrant's spare state to the health area (R17). -/
def State.healthWrite (s : State) (q : Nat) : State :=
  { s with nv := { s.nv with
    clmap := s.nv.clmap.set q ((List.range 8).map (fun k => s.get (SYS.CLMAP.C q k)))
    healthWritten := s.nv.healthWritten.set q true
    spareUsed := s.nv.spareUsed.set q (s.on (SYS.SPARE_STS.SPARE_USED q))
    retired := s.nv.retired.set q (s.get (SYS.SPARE_STS.RETIRED q))
    sparePhys := s.nv.sparePhys.set q (s.spares.getD q {}).phys } }

/-- Put a quadrant's spare context. -/
def State.setSpare (s : State) (q : Nat) (x : Spare) : State := { s with spares := s.spares.set q x }

/-- Event 6 and 7 of one quadrant whose remap is due (R17, R18). -/
def State.remapQuad (s : State) (q : Nat) : State :=
  let x := s.spares.getD q {}
  match x.phase with
  | .remap k retire =>
    let s := if retire
      then (s.put (SYS.CLMAP.C q k) 0xF).put (SYS.SPARE_STS.RETIRED q) (s.get (SYS.SPARE_STS.RETIRED q) + 1)
      else (s.put (SYS.CLMAP.C q k) x.phys).setB (SYS.SPARE_STS.SPARE_USED q)
    let s := (s.setSpare q { x with phase := .idle }).healthWrite q
    let s := s.clrB (SYS.SPARE_STS.SWAP_BUSY q)
    -- The stream's tracker is cleared (R459).
    let s := { s with mem := { s.mem with slices := s.mem.slices.map (fun x => { x with trackers := x.trackers.set (8 * q + k) {} }) } }
    if retire then s.rebindFrom (8 * q + k) else s
  | _ => s

/-- Start a swap or retirement: events 1 to 3 of Table "Architecture: Quadrants, Clusters and Three Planes" 5. Commands
in flight end with RETRY after a parity failure. -/
def State.startSwap (s : State) (q k : Nat) (parity : Bool) : State :=
  let retire := s.on (SYS.SPARE_STS.SPARE_USED q)
  let x := s.spares.getD q {}
  let s := (s.setSpare q { x with phase := .draining k retire parity }).setB (SYS.SPARE_STS.SWAP_BUSY q)
  let s := s.record (if retire then 0x0103 else 0x0102) (locCluster q k) (locCluster q k) (b2n parity) []
  let s := s.causeWake q
  if parity then
    (s.hq.cmds.filter (fun c => c.cluster = 8 * q + k)).foldl (fun s c => s.cutCmd c.qpid c.sub.cid 0x0703) s
  else s

/-- A trigger: its own swap, or one that waits until SWAP_BUSY clears (R17). -/
def State.swapTrigger (s : State) (q k : Nat) (parity : Bool) : State :=
  if s.on (SYS.SPARE_STS.SWAP_BUSY q) then
    let x := s.spares.getD q {}
    s.setSpare q { x with waiting := x.waiting ++ [(k, parity)] }
  else s.startSwap q k parity

/-- The next waiting trigger of a quadrant starts once SWAP_BUSY is clear; a cluster retired meanwhile is skipped. -/
def State.nextSwap (s : State) (q : Nat) : State :=
  if s.on (SYS.SPARE_STS.SWAP_BUSY q) then s else
  let x := s.spares.getD q {}
  match x.waiting with
  | [] => s
  | (k, parity) :: rest =>
    let s := s.setSpare q { x with waiting := rest }
    if s.get (SYS.CLMAP.C q k) = 0xF then s else s.startSwap q k parity

/-- Whether a quadrant's remap is due. -/
def State.remapDue (s : State) (q : Nat) : Bool :=
  match (s.spares.getD q {}).phase with
  | .remap _ _ => true
  | _ => false

/-! ## Volumes at a commit -/

/-- The committed tables of the pair are durable in the map store (R253, R361, R391); the progress of a binding ends with
it. -/
def State.saveTables (s : State) : State :=
  let bound := fun (b : Repl) => (s.act.vols ++ s.shadow.vols).any (fun v => v.num = b.vol && v.link ≠ 0xFFFF)
  s.media fun m => { m with
    vols := s.act.vols, policies := s.act.policies, sets := s.act.sets, repl := m.repl.filter bound
    staged := m.staged.filter (fun t => m.repl.any (fun b => b.vol = t.vol && bound b)) }

/-- A volume table entry and a snapshot entry go to the partner with the shipped map log, so that both heads hold the same
copy (R391; log entry 81); an entry that is FREE goes without bytes. -/
def State.shipVolume (s : State) (n : Nat) : State :=
  s.ship 1 [n] (((s.vol n).map s.volBytes).getD [])
def State.shipSnap (s : State) (vol num : Nat) : State :=
  s.ship 2 [vol, num] (((s.snap vol num).map (fun x => leBytes 3 x.gen ++ leBytes 1 x.state ++
    leBytes 1 (b2n x.held + 2 * b2n x.repl) ++ leBytes 3 0 ++ leBytes 8 x.created)).getD [])

/-- Entries that a commit changes go to the partner. -/
def State.shipChanged (s : State) (old : List Vol) : State :=
  let nums := ((old ++ s.act.vols).map Vol.num).eraseDups
  (nums.filter (fun n => old.find? (fun v => v.num = n) ≠ s.vol n)).foldl State.shipVolume s

/-- Event 2 of a snapshot's creation: from this commit on, writes run under VGEN + 1 (R397). -/
def State.snapCommit (s : State) (n : Nat) : State :=
  s.media fun m => { m with snaps := m.snaps.map (fun x =>
    if x.state = 1 ∧ x.since.isNone then { x with since := some n } else x) }

/-- The rank a generation is mapped to by a rebase sweep (R256). -/
def rebaseGen (gens : List Nat) (v g : Nat) : Nat :=
  let i := gens.findIdx (fun x => !genNewer g x)
  if i < gens.length then (v + 2 ^ 24 - (gens.length - (i + 1)) - 1) % 2 ^ 24 else v

/-- The generations of a sweep that has ended take effect: unit versions with their GSET, snapshots, and the lost
ranges of the versions (R256, R257, R389). -/
def State.rebase (s : State) (vol : Nat) (gens : List Nat) (v : Nat) : State :=
  let ng := fun (g : Nat) => if genNewer g v then g else rebaseGen gens v g
  let ver := fun (x : Version) => { x with
    gen := ng x.gen, gset := !x.gset, fine := x.fine.map (fun f => (f.1, ng f.2.1, !f.2.2)) }
  let snapGen := fun (x : Snap) => if gens.contains x.gen then rebaseGen gens v x.gen else x.gen
  let s := s.media fun m => { m with
    units := m.units.map (fun u => if u.vol = vol then { u with live := u.live.map ver, kept := u.kept.map ver } else u)
    snaps := m.snaps.map (fun x => if x.vol = vol then { x with gen := snapGen x } else x)
    lost := m.lost.map (fun l => if l.vol = vol ∧ l.kind = 1 then { l with gen := ng l.gen, gset := !l.gset } else l) }
  s.bothVol vol (fun x => { x with gset := !x.gset })

/-- Generations of a volume that are live: of any unit version or any snapshot (R256). -/
def State.liveGens (s : State) (vol : Nat) : List Nat :=
  (s.nv.media.units.filter (fun u => u.vol = vol)).flatMap (fun u => u.versions.map Version.gen) ++ (s.snapsOf vol).map Snap.gen

/-- A volume whose VGEN is 2^22 beyond its oldest live generation starts a rebase sweep on the head that serves it (R256). -/
def State.startSweeps (s : State) : State :=
  s.act.vols.foldl (fun (s : State) v =>
    let far := (s.liveGens v.num).any (fun g => 2 ^ 22 ≤ (v.vgen + 2 ^ 24 - g) % 2 ^ 24)
    if ¬ far ∨ ¬ s.serves v ∨ s.dp.sweeps.any (fun x => x.1 = v.num) then s else
    let back := fun (g : Nat) => (v.vgen + 2 ^ 24 - g) % 2 ^ 24
    let ins := fun (l : List Nat) (g : Nat) => l.takeWhile (fun x => back g < back x) ++ [g] ++ l.dropWhile (fun x => back g < back x)
    let gens := ((s.snapsOf v.num).map Snap.gen).foldl ins []
    s.setDp fun d => { d with sweeps := d.sweeps ++ [(v.num, gens, v.vgen, false)] }) s

/-- What a commit does to key epochs (R216, R217): EPOCH_HWM follows KEY_EPOCH; a volume whose KEY_EPOCH the commit raises begins
its sweep, and one whose sweep has ended takes KEY_EPOCH as MIN_EPOCH. -/
def State.commitKeys (s : State) (old : List Vol) : State :=
  let s := (s.nv.media.rekeys.filter Rekey.ended).foldl (fun (s : State) k => s.bothVol k.vol fun v => { v with minEpoch := k.epoch }) s
  let s := s.act.vols.foldl (fun (s : State) v => s.setHwm v.num (max v.keyEpoch (s.hwm v.num))) s
  let raised := s.act.vols.filter (fun v => old.any (fun o => o.num = v.num && decide (o.keyEpoch < v.keyEpoch)))
  s.media fun m => { m with
    rekeys := (m.rekeys.filter (fun k => !k.ended && !raised.any (fun v => v.num = k.vol))) ++
      raised.map (fun v => ({ vol := v.num, epoch := v.keyEpoch } : Rekey)) }

/-- What a commit does to volumes, their snapshots and their generations; old: the volume table before it. -/
def State.commitVolumes (s : State) (n : Nat) (old : List Vol) : State :=
  let s := (s.snapCommit n).commitKeys old
  let s := (s.dp.sweeps.filter (fun x => x.2.2.2)).foldl (fun (s : State) x =>
    (s.rebase x.1 x.2.1 x.2.2.1).ship 10 (x.1 :: x.2.2.1 :: x.2.1) []) s
  let s := s.setDp fun d => { d with sweeps := d.sweeps.filter (fun x => ¬ x.2.2.2) }
  s.startSweeps.saveTables

/-! ## The commit -/

/-- A takeover's role begins at an epoch commit (R427). -/
def State.becomeSurvivor (s : State) : State :=
  if s.pair.becomes then ({ s with pair := { s.pair with becomes := false } } : State).put NRN.PAIR_STS.ROLE roleSurvivor else s

/-- Event 3 of a commit (R25), with every remap that joins it (R29). -/
def State.commitEvent3 (s : State) : State :=
  let n := nextEpoch (s.get SYS.EPOCH_NUM.NUM)
  let old := s.act
  let s := { s with act := s.shadow }
  let s := (s.put SYS.EPOCH_NUM.NUM n).becomeSurvivor
  let s := [0, 1, 2, 3].foldl (fun (s : State) q => if s.remapDue q then (s.remapQuad q).nextSwap q else s) s
  let s := s.removeDrained.removeConns.s2Bind.activateConns.activateQps
  let s := (s.commitVolumes n old.vols).shipChanged old.vols
  let s := { s with shadow := s.act, retiring := if s.retCount = 0 then none else some old }
  let s := (s.clrB SYS.EPOCH_STS.PEND).clrB SYS.EPOCH_STS.WAIT
  let s := s.put SYS.EPOCH_RET.COUNT s.retCount
  (s.record 0x0101 0 n 0 []).answerWaits

/-- The commit of a quadrant's own remap, with no other change pending (R17, log entry 13). -/
def State.commitRemap (s : State) (q : Nat) : State :=
  let n := nextEpoch (s.get SYS.EPOCH_NUM.NUM)
  let old := s.act
  let s := ((s.put SYS.EPOCH_NUM.NUM n).remapQuad q).removeDrained.removeConns.activateQps
  let s := { s with retiring := if s.retCount = 0 then none else some old }
  let s := s.put SYS.EPOCH_RET.COUNT s.retCount
  (s.record 0x0101 0 n 0 []).nextSwap q

/-- A request for a commit (R25, R26): while PEND is 1 it has no further effect; while SYS_EPOCH_RET is not zero it waits. -/
def State.requestCommit (s : State) : State :=
  if s.on SYS.EPOCH_STS.PEND then s
  else if s.retCount ≠ 0 then (s.setB SYS.EPOCH_STS.PEND).setB SYS.EPOCH_STS.WAIT
  else s.commitEvent3

/-- Overwrite the shadow banks with the active contents (R28); queue pairs and connections created since the last commit have
no binding any more, and go. -/
def State.abandonShadow (s : State) : State := { s with
  shadow := s.act
  hq := { s.hq with qps := s.hq.qps.filter (fun q => (s.qpBind q.qpid).isSome) }
  vrm := { s.vrm with conns := s.vrm.conns.filter (fun c => (s.connBind c.id).isSome) } }

/-- Event 4: the retiring banks are freed, and a commit that waited starts (R25, R26). -/
def State.freeRetiring (s : State) : State :=
  let s := { s with retiring := none }
  if s.on SYS.EPOCH_STS.WAIT then (s.clrB SYS.EPOCH_STS.WAIT).commitEvent3 else s

/-- A shadow-bank write while PEND is 1 is ignored and sets LATE (R27). -/
def State.shadowWrite (s : State) (f : Tables → Tables) : State :=
  if s.on SYS.EPOCH_STS.PEND then s.setB SYS.EPOCH_STS.LATE else { s with shadow := f s.shadow }

end Sys2Proof.Machine
end

