-- ==== Sys2Proof/Machine/PairOps.lean ====
section
/-! DEFINITION. What both heads must hold alike and how it changes: set versions, position states, proposals, band
grants and the adoption of mirrored writes (spec/12, spec/14). -/

namespace Sys2Proof

/-- A change's own codes in a message. -/
def PairChange.args : PairChange → List Nat
  | .position a b c => [0, a, b, c]
  | .create a b c d e f g ms => [1, a, b, c, d, e, f, g] ++ ms
  | .replace a b c => [2, a, b, c]
  | .home v b => [3, v, b2n b]
  | .dieSwap a b c => [4, a, b, c]
  | .drive c b => [5, c, b2n b]
  | .grant set level b zs => [6, set, level, b2n b] ++ zs

end Sys2Proof

namespace Sys2Proof.Machine

def State.setPair (s : State) (f : Pair → Pair) : State := { s with pair := f s.pair }

/-- This head is capo. -/
def State.isCapo (s : State) : Bool := s.on NRN.PAIR_STS.CAPO

/-- The head that is capo, as DETAIL of RDN_NOT_CAPO and NRN_NOT_CAPO gives it. -/
def State.capoHead (s : State) : Nat := if s.isCapo then s.headNo else 1 - s.headNo

/-! ## Set versions (R362, R363) -/

/-- Versions of a set that some band not FREE carries. -/
def State.liveVers (s : State) (r : RSet) : List SetVer :=
  r.vers.filter (fun v => s.nv.media.bands.any (fun b => b.set = r.num && b.ver = v.ver))

/-- The set allocates no new band (R363). -/
def State.noAlloc (s : State) (r : RSet) : Bool :=
  decide (8 ≤ (s.liveVers r).length) || decide ((r.vers.headD default).live.length < r.width) ||
  (r.vers.headD default).live.any (fun p => let c := r.members.getD p 0
    !memberIsModule c && decide (s.get (HRC.HDAh_STS.STATE (memberNo c)) = 4))

/-- A new version of the ACTIVE positions; versions that no band carries go. -/
def State.newVersion (s : State) (r : RSet) (pairVer : Nat) : RSet :=
  let live := (List.range r.members.length).filter (fun p => r.pstate.getD p 0 = 0)
  let used := s.liveVers r
  let cand := (List.range 256).map (fun i => ((r.vers.headD default).ver + 1 + i) % 256)
  let num := (cand.find? (fun n => ¬ used.any (fun v => v.ver = n))).getD 0
  let v : SetVer := { ver := num, pairVer := pairVer, live := live, pattern := makePattern r.num num live }
  { r with vers := v :: used }

/-- Replace a set in the shadow table. -/
def State.setShadowSet (s : State) (r : RSet) : State :=
  { s with shadow := { s.shadow with sets := r :: s.shadow.sets.filter (fun x => x.num ≠ r.num) } }

/-- A position's new state, with a new version where it leaves or rejoins ACTIVE (R363). -/
def State.shadowPosition (s : State) (set pos st ver : Nat) : State :=
  match s.shadow.sets.find? (fun r => r.num = set) with
  | none => s
  | some r =>
    let old := r.pstate.getD pos 0
    let r' := { r with pstate := r.pstate.set pos st }
    s.setShadowSet (if (old = 0) ≠ (st = 0) then s.newVersion r' ver else r')

/-! ## Zones of members -/

/-- What an HDA holds, and its identity. -/
def State.hdaMedia (s : State) (h : Nat) : Option HdaMedia := s.nv.media.hdas.find? (fun x => x.hda = h)
def State.hdaIdent (s : State) (h : Nat) : Option HdaIdent := (s.hdaMedia h).map HdaMedia.ident
def State.setHdaMedia (s : State) (x : HdaMedia) : State := s.media fun m => { m with
  hdas := x :: m.hdas.filter (fun y => y.hda ≠ x.hda) }

/-- A member's zone count and zone size: a module's from IDENT (Table "Flash Modules and the Translation Layer" 6), less
its four dump zones; an HDA's 1 GiB zones. -/
def State.memberZones (s : State) (code : Nat) : Nat × Nat :=
  if memberIsModule code then
    match s.module (memberNo code) with
    | some m => (m.ident.blocks - m.ident.spareBlocks - 4, (m.ident.dies - m.spareDies) * m.ident.planes * m.ident.pages * 16384)
    | none => (0, 0)
  else ((s.hdaIdent (memberNo code)).map (fun h => (h.userZones, 2 ^ 30))).getD (0, 0)

/-! ## Applying a change (R421) -/

/-- What a change does to the shadow banks. A new set takes the overprovisioning in force, each percentage of its zones rounded up
(R258; log entry 153). -/
def State.applyShadow (s : State) (ver : Nat) (c : PairChange) : State :=
  match c with
  | .position set pos st => s.shadowPosition set pos st ver
  | .create set tier quad width pmax strip spare members =>
    let z := s.memberZones (members.headD 0)
    let pct := if tier = 0 then max 5 (s.get FTL.OP_CFG.FLASH_OP_PCT) else s.get FTL.OP_CFG.HDA_OP_PCT
    let r : RSet := { num := set, tier := tier, quad := quad, width := width, pmax := pmax, stripLog2 := strip,
                      spareZones := spare, opZones := (z.1 * pct + 99) / 100, zones := z.1, zoneSize := z.2, members := members,
                      pstate := members.map (fun _ => 0), vers := [] }
    s.setShadowSet (s.newVersion r ver)
  | .replace set pos member =>
    match s.shadow.sets.find? (fun r => r.num = set) with
    | some r => s.setShadowSet { r with members := r.members.set pos member, pstate := r.pstate.set pos 4 }
    | none => s
  | .home vol toB =>
    { s with shadow := { s.shadow with vols := s.shadow.vols.map (fun v => if v.num = vol then { v with ownerB := toB } else v) } }
  | .dieSwap _ _ _ => s
  | .drive _ _ => s
  | .grant _ _ _ _ => s

/-! ## Bands that close (R244, R269, R376) -/

/-- Every frame of a band that is not durable loses its place, and waits in the write cache for another. -/
def State.unplace (s : State) (set zone : Nat) : State :=
  let lost := fun (f : SFrame) => decide (f.band = some (set, zone)) && !s.frameDurable f
  s.setDp fun d => { d with writes := d.writes.map (fun w => { w with
    durable := w.durable && !w.frames.any lost
    frames := w.frames.map (fun f => if lost f then { f with band := none, pos := 0, off := 0 } else f) }) }

/-- A band stops taking frames; what is not durable goes elsewhere. -/
def State.dropBand (s : State) (b : Band) : State :=
  if b.state ≠ 1 then s else (s.unplace b.set b.zone).fullBand { b with erasing := 0 }

/-- A band closes: its gathering stripes close early, with padding (R368). -/
def State.closeBand (s : State) (b : Band) : State :=
  match s.rset b.set with
  | none => s.fullBand b
  | some r =>
    match r.version b.ver with
    | none => s.fullBand b
    | some v =>
      -- Only rows with gathered bytes close; the zone's tail is never written (R244).
      let top := (List.range r.rows).filter (fun row => v.live.any (fun p =>
        isData r v b.level row p && decide (dataBefore r v b.level p row * r.strip < b.fill p)))
      let s := top.foldl (fun (s : State) row => (List.range (r.stripes v)).foldl (fun (s : State) t =>
        s.closeStripe b.set b.zone row t) s) s
      match s.band b.set b.zone with
      | some b' => s.fullBand b'
      | none => s

/-- After a commit, open bands of older versions that include a position no longer ACTIVE close (R376, event 3). -/
def State.closeStale (s : State) : State :=
  let gone := s.nv.media.bands.filter (fun b => b.state = 1 && (match s.rset b.set with
    | some r => match r.version b.ver with
      | some v => v.live.any (fun p => r.pstate.getD p 0 ≠ 0)
      | none => true
    | none => true))
  gone.foldl State.dropBand s

/-- While 8 versions of a set are live, the bands of the oldest are relocated (R363). -/
def State.relocateOldest (s : State) : State :=
  s.act.sets.foldl (fun (s : State) r =>
    let live := s.liveVers r
    match live.getLast? with
    | some v =>
      if live.length < 8 then s else
      let bs := s.nv.media.bands.filter (fun b => b.set = r.num && b.ver = v.ver && !b.theirs)
      bs.foldl (fun (s : State) b =>
        let s := if b.state = 1 then s.closeBand b else s
        match s.band b.set b.zone with
        | some b => s.relocateBand b
        | none => s) s
    | none => s) s

/-! ## Proposals (R421) -/

/-- What a change does beside the tables, once it is committed: a die swap may copy from now on, a carrier's drive moves,
a volume moves between the heads (Table "Dual Heads and the Nerryn Link" 4). -/
def State.applyNow (s : State) (c : PairChange) : State :=
  match c with
  | .dieSwap link pos die =>
    match s.module link with
    | some m => s.setModule { m with agreed := true, swap := some (pos, die, m.dieMap.getD pos pos, []) }
    | none => s
  | .home vol toB =>
    -- With one head serving everything, only the home changes (R419).
    if s.get NRN.PAIR_STS.ROLE ≠ roleServing then s
    else if decide (b2n toB = s.headNo) then s.setPair fun p => { p with coming := insertNat p.coming vol }
    else s.setPair fun p => { p with leaving := insertNat p.leaving vol }
  | .position set pos st =>
    if st = 2 then s.media fun m => { m with rebuilds := m.rebuilds.filter (fun x => ¬ (x.set = set ∧ x.pos = pos ∧ x.copy)) } else s
  | .replace set pos _ =>
    let zones := (s.nv.media.bands.filter (fun b => b.set = set && !b.theirs && (match s.rset set with
      | some r => match r.version b.ver with
        | some v => v.live.contains pos
        | none => false
      | none => false))).map Band.zone
    let x : Rebuild := { set := set, pos := pos, copy := true, startAt := s.aon, left := 0, total := zones.length, bands := zones, started := true }
    s.media fun m => { m with rebuilds := x :: m.rebuilds.filter (fun x => ¬ (x.set = set ∧ x.pos = pos)) }
  | .drive k toB =>
    let x := s.hdas.strs.getD k {}
    if b2n toB ≠ s.headNo ∧ s.on (STR.STRING_STS.DRIVER k) then
      { s with hdas := { s.hdas with strs := s.hdas.strs.set k { x with leave := true, leaveFor := none } } }
    else s
  | .create _ _ _ _ _ _ _ _ => s
  | .grant set level toB zs =>
    -- The GRANT message brings the bands to the other head.
    if ¬ s.isCapo ∨ b2n toB = s.headNo then s else
    (s.setPair fun p => { p with given := p.given ++ zs.map (fun z => (set, level, z)) }).sendNrn 5 4 (0 :: set :: level :: zs) []

/-- The local commit of a change (R421, steps 3 and 4). -/
def State.commitChange (s : State) (ver : Nat) (c : PairChange) : State :=
  ((s.put NRN.PAIR_VER.VER ver).requestCommit.applyNow c).closeStale.relocateOldest

/-- The next proposal of the capo starts when none runs and no capo swap does; a capo alone commits at once. -/
def State.nextProposal (s : State) : State :=
  match s.pair.proposal, s.pair.queue with
  | none, c :: rest =>
    if ¬ s.isCapo ∨ s.on NRN.PAIR_STS.SWAP_BUSY ∨ s.on SYS.EPOCH_STS.PEND ∨ s.cmd.inReset then s else
    let ver := (s.get NRN.PAIR_VER.VER + 1) % 2 ^ 32
    let s := (s.setPair fun p => { p with queue := rest }).applyShadow ver c
    if s.synced then (s.setPair fun p => { p with proposal := some (ver, c) }).sendNrn 5 0 (ver :: c.args) []
    else s.commitChange ver c
  | _, _ => s

/-- Bring a change about: the capo decides, the other head asks it (R421). -/
def State.propose (s : State) (c : PairChange) : State :=
  if s.isCapo then (s.setPair fun p => { p with queue := p.queue ++ [c] }).nextProposal
  else if s.synced then s.sendNrn 5 3 (0 :: c.args) []
  else s

/-! ## Position triggers (R375, R376) -/

/-- The capo sends a position's state on its way, with the record of event 1. -/
def State.failPosition (s : State) (set pos st : Nat) : State :=
  match s.rset set with
  | none => s
  | some r =>
    let cur := r.pstate.getD pos 0
    let busy := s.pair.queue.contains (.position set pos st) || (s.pair.proposal.map Prod.snd) = some (.position set pos st)
    let ok := (cur = 0 ∧ (st = 1 ∨ st = 2)) ∨ (cur = 1 ∧ st = 2) ∨ (cur = 4 ∧ st = 2)
    if ¬ ok ∨ busy then s else (s.record 0x1201 (locQuad r.quad) set pos []).propose (.position set pos st)

/-- Positions a member holds. -/
def State.positionsOf (s : State) (code : Nat) : List (Nat × Nat) :=
  s.act.sets.flatMap (fun r => ((List.range r.members.length).filter (fun p => r.member p = code)).map (fun p => (r.num, p)))

/-- A member event that the capo turns into a state of its positions; the other head reports it. -/
def State.memberEvent (s : State) (code st : Nat) : State :=
  if s.isCapo then (s.positionsOf code).foldl (fun (s : State) x => s.failPosition x.1 x.2 st) s
  else if s.synced then (s.positionsOf code).foldl (fun (s : State) x => s.sendNrn 5 3 (0 :: (PairChange.position x.1 x.2 st).args) []) s
  else s

/-- A member that this head cannot reach: FAILED only if the partner cannot reach it either (R234, R300, R375). -/
def State.memberDown (s : State) (code : Nat) : State :=
  if s.isCapo then (if ¬ s.synced ∨ s.pair.downThere.contains code then s.memberEvent code 2 else s)
  else if s.synced then s.sendNrn 5 3 [2, code] []
  else s

/-! ## Adoption (R420, R427, R429) -/

/-- A mirror entry becomes this head's own dirty data; there: the partner holds it as its mirror entry from now on (R420). -/
def State.adopt (s : State) (there : Bool) (m : MirWrite) : State :=
  let v := s.vol m.vol
  let w : WJob := { id := 0, kind := if m.frames.isEmpty then .discard else .write, qpid := 0, cid := 0, vol := m.vol, slba := m.slba,
                    nblk := m.nblk, epoch := s.get SYS.EPOCH_NUM.NUM, vgen := (v.map Vol.vgen).getD 0, gset := (v.map Vol.gset).getD false,
                    frames := m.frames, blocks := m.blocks, completed := true, adopted := true, sent := there, mirrored := there
                    mid := if there then some m.id else none, at_ := m.at_ }
  (s.setPair fun p => { p with mirror := p.mirror.filter (fun x => x.id ≠ m.id) }).addJob w

/-- Own dirty data of a volume turns into mirror entries of the other head (Table "Dual Heads and the Nerryn Link" 4). -/
def State.surrender (s : State) (vol : Nat) : State :=
  let mine := s.dp.writes.filter (fun w => w.vol = vol && (match w.kind with
    | .reloc _ => false
    | _ => true))
  let s := s.setPair fun p => { p with mirror := p.mirror ++ mine.map (fun w =>
    { id := s.mirId w, whole := true, vol := w.vol, slba := w.slba, nblk := w.nblk, frames := w.frames.map (fun f => { f with band := none }), blocks := w.blocks, at_ := w.at_ }) }
  s.setDp fun d => { d with writes := d.writes.filter (fun w => ¬ mine.contains w) }

/-- Commands that wait for a volume's move are answered. -/
def State.answerMoves (s : State) (vol : Nat) : State :=
  let hit := s.pair.moveWaits.filter (fun x => x.1 = vol)
  let s := s.setPair fun p => { p with moveWaits := p.moveWaits.filter (fun x => x.1 ≠ vol) }
  hit.foldl (fun (s : State) x => s.answer x.2 0 0 []) s

/-- A volume whose writes in flight have ended leaves this head with RELEASE (Table "Dual Heads and the Nerryn Link" 4,
events 2 and 3). -/
def State.releaseVols (s : State) : State :=
  let ready := s.pair.leaving.filter (fun v => ¬ s.hq.cmds.any (fun c => c.sub.volume = v && (c.sub.opcode = 2 || c.sub.opcode = 3 || c.sub.opcode = 4)))
  ready.foldl (fun (s : State) v =>
    let s := (s.surrender v).setPair fun p => { p with leaving := p.leaving.filter (fun x => x ≠ v) }
    (s.sendNrn 5 6 [0, v] []).answerMoves v) s

/-- FREE bands of a set and level for the partner, up to four in its hands: a change that the capo coordinates (R421, R422); with
none left the answer holds none. -/
def State.grantBands (s : State) (set level : Nat) : State :=
  match s.rset set with
  | none => s
  | some r =>
    let s := s.setPair fun p => { p with given := p.given.filter (fun g => (s.band g.1 g.2.2).isNone) }
    let under := (s.pair.queue ++ (s.pair.proposal.map Prod.snd).toList).flatMap (fun c => match c with
      | .grant x _ _ zs => if x = set then zs else []
      | _ => [])
    let held := s.pair.given.filter (fun g => g.1 = set ∧ g.2.1 = level)
    let free := (List.range r.bandZones).filter (fun z => (s.band set z).isNone && !under.contains z && !s.pair.given.any (fun g => g.1 = set && g.2.2 = z))
    match free.take (4 - held.length) with
    | [] => s.sendNrn 5 4 [0, set, level] []
    | zs => s.propose (.grant set level (s.headNo = 0) zs)

/-- A proposal that waited for PEND is written to the shadow banks and answered READY (R421). -/
def State.answerProposal (s : State) : State :=
  match s.pair.proposed with
  | some (ver, c) =>
    if s.on SYS.EPOCH_STS.PEND ∨ s.cmd.inReset then s else
    let s := (s.applyShadow ver c).setPair fun p => { p with proposed := none, accepted := some (ver, c) }
    s.sendNrn 5 1 [ver] []
  | none => s

end Sys2Proof.Machine
end

