-- ==== Sys2Proof/Machine/WearOps.lean ====
section
/-! DEFINITION. Flash modules in use: tuning sets and REFSETs, reads of frames from their media, retirement of blocks
and dies, module stages, and links that go DOWN (spec/08, spec/09, spec/12). -/

namespace Sys2Proof.Machine

/-! ## Tuning sets (R274 to R280) -/

/-- The retention class of a band: 0 FRESH, 1 SETTLED, 2 AGED (R274). -/
def State.retClass (s : State) (b : Band) : Nat :=
  if b.state = 1 ∨ s.aon < b.fullAt + 24 * Config.hour then 0 else if s.aon ≤ b.fullAt + 30 * Config.day then 1 else 2

/-- What a format gives a block group for each retention class, in MID (R276). -/
def Module.defaultVals (m : Module) : TuneVals :=
  { offs := (List.range 17).map (fun i =>
      if i < 2 ^ m.ident.bpc - 1 ∨ 15 ≤ i then Config.defaultOffset m.ident.nandType i else 0) }

/-- A tuning set: the table's own, else a format's. -/
def State.tset (s : State) (link die plane ret load : Nat) : Option TSet :=
  match s.act.tuning.find? (fun t => t.link = link ∧ t.die = die ∧ t.plane = plane ∧ t.ret = ret ∧ t.load = load) with
  | some t => some t
  | none => if load ≠ 1 then none else
    (s.module link).map (fun m => { link := link, die := die, plane := plane, ret := ret, load := 1, cur := m.defaultVals })

/-- Put a set into a list of them. -/
def putTset (ts : List TSet) (t : TSet) : List TSet :=
  t :: ts.filter (fun x => ¬ (x.link = t.link ∧ x.die = t.die ∧ x.plane = t.plane ∧ x.ret = t.ret ∧ x.load = t.load))

/-- Change a set in force at once, in both banks: what the sequencers do to states and means. -/
def State.setTset (s : State) (t : TSet) : State :=
  { s with
    act := { s.act with tuning := putTset s.act.tuning t }
    shadow := { s.shadow with tuning := putTset s.shadow.tuning t } }

/-- Distance of two temperatures. -/
def tempGap (a b : Int) : Nat := (a - b).natAbs

/-- A set's tag is in context on its module (R273, R280). -/
def State.inContext (s : State) (t : TSet) : Bool :=
  let x := s.flink t.link
  decide (t.load = x.load) && (match x.temp with
    | some c => decide (tempGap c t.cur.tagTemp ≤ max 1 (s.get TUN.VAL_CFG.TEMP_TOL_C))
    | none => false)

/-- Load classes from the current one outwards, the heavier first on a tie. -/
def nearest (c : Nat) : List Nat := if c = 0 then [0, 1, 2] else if c = 1 then [1, 2, 0] else [2, 1, 0]

/-- The epoch a read runs under: its command's, or its own stamp (R24). -/
def State.readEpoch (s : State) (j : RdJob) : Nat :=
  if j.patrol then s.epochOf 1 j.id
  else ((s.hq.cmds.find? (fun c => c.qpid = j.qpid ∧ c.sub.cid = j.cid)).map HCmd.epoch).getD (s.get SYS.EPOCH_NUM.NUM)

/-- The set that a read of an epoch uses (R24, R280): used out of context it enters VALIDATING for the current one. -/
def State.chooseSet (s : State) (e link die plane ret : Nat) : Option TSet × State :=
  let c := (s.flink link).load
  match (nearest c).findSome? (fun l => (s.under e).tset link die plane ret l) with
  | none => (none, s)
  | some t =>
    if s.inContext t ∨ t.load = c ∧ t.cur.state ≠ .valid then (some t, s) else
    let v : TSet := { t with load := c, cur := { t.cur with state := .validating }, prev := if t.load = c then some t.cur else none }
    (some v, if e = s.get SYS.EPOCH_NUM.NUM then s.setTset v else s)

/-- A read under a REFSET of a die has not ended (R295). -/
def State.refBusy (s : State) (link die slot : Nat) : Bool :=
  s.dp.brs.any (fun c => c.link = link && c.op = 1 && c.args.getD 0 0 = die && c.args.getD 5 16 = slot)

/-- REFSET 15 of every die holds the microcode's single-bit offsets, for the dump zones; nothing tunes it (R272). -/
def State.dumpRefs (s : State) (link : Nat) : State :=
  match s.module link with
  | none => s
  | some m => (List.range m.ident.dies).foldl (fun (s : State) die =>
      s.sendBridge link 4 [die, 15] ((List.range 17).map (fun i => BitVec.ofInt 8 (Config.singleBitOffset m.ident.nandType i))) .other) s

/-- The REFSET of a die that holds offsets, loaded with SET_REFS ahead of the read where it does not; of 0 to 14 the least
recently used whose reads have ended makes room (R272, R295). -/
def State.refSet (s : State) (link : Nat) (t : TSet) (offs : List Int) : Nat × State :=
  let x := s.flink link
  let mine := x.slots.filter (fun r => r.die = t.die)
  let rest := x.slots.filter (fun r => r.die ≠ t.die)
  let same := fun (r : RefSlot) => r.plane = t.plane && r.ret = t.ret && r.load = t.load && decide (r.offs = offs)
  match mine.find? same with
  | some r => (r.slot, s.setFlink link { x with slots := r :: mine.filter (fun y => ¬ same y) ++ rest })
  | none =>
    let n := if mine.length < 15 then ((List.range 15).find? (fun i => ¬ mine.any (fun r => r.slot = i))).getD 0
      else ((((mine.filter (fun r => !s.refBusy link t.die r.slot)).getLast?).orElse (fun _ => mine.getLast?)).map RefSlot.slot).getD 0
    let r : RefSlot := { die := t.die, slot := n, plane := t.plane, ret := t.ret, load := t.load, offs := offs }
    let s := s.setFlink link { x with slots := r :: mine.filter (fun y => y.slot ≠ n) ++ rest }
    (n, s.sendBridge link 4 [t.die, n] (offs.map (fun o => BitVec.ofInt 8 o)) .other)

/-! ## Reading a frame (R241, R283, R313, R372) -/

/-- The zone offsets of a frame's 32-byte units (R367). -/
def frameOffsets (r : RSet) (v : SetVer) (level : Nat) (f : SFrame) : List Nat :=
  (List.range f.units).map (fun i => zoneOffset r v level f.pos (f.off + 32 * i))

/-- A member can be read: a module whose link is up for this head and that is not fenced; an HDA that is present and not
FAILED (Table "HDA Strings and the Central Read Channel" 14). -/
def State.memberReadable (s : State) (code : Nat) : Bool :=
  if memberIsModule code then s.linkUp (memberNo code) && !s.on (FLK.LINKk_STS.FENCED (memberNo code))
  else let st := s.get (HRC.HDAh_STS.STATE (memberNo code)); 3 ≤ st && st ≤ 5

/-- Where a strip of a position is read: member code, zone and byte offset there; none where it must be reconstructed, or
was copied nowhere yet (R372, R386). -/
def State.stripPlace (s : State) (r : RSet) (zone row pos : Nat) : Option (Nat × Nat × Nat) :=
  let st := r.pstate.getD pos 0
  let own := if s.memberReadable (r.member pos) then some (r.member pos, zone, row * r.strip) else none
  match s.nv.media.strips.find? (fun x => x.set = r.num ∧ x.zone = zone ∧ x.row = row ∧ x.pos = pos) with
  | some x =>
    if st = 0 then own
    else if s.memberReadable (r.member x.target) then some (r.member x.target, x.spareZone, x.index * r.strip) else none
  | none =>
    let uncopied := st = 4 && s.nv.media.rebuilds.any (fun x => x.set = r.num && x.pos = pos && x.copy && x.bands.contains zone)
    if st = 2 ∨ st = 3 ∨ uncopied then none else own

/-- The flash pages of zone offsets: page slot and codeword mask. -/
def pagesOf (offs : List Nat) : List (Nat × Nat) :=
  ((offs.map (· / 16384)).eraseDups).map (fun pg =>
    (pg, (((offs.filter (fun o => o / 16384 = pg)).map (fun o => 2 ^ (o % 16384 / 4096))).eraseDups).sum))

/-- The block of a band that a page slot lies in, as a key: position, die, plane. -/
def blockKey (pos die plane : Nat) : Nat := pos * 2 ^ 16 + die * 2 ^ 8 + plane

/-- Count a read of a block of a band; READ_K thousand of them mark it for refresh (R284). -/
def State.countRead (s : State) (set zone key : Nat) : State :=
  match s.band set zone with
  | none => s
  | some b =>
    let c := ((fldFind b.rcount key).getD 0) + 1
    s.setBand { b with rcount := fldSet b.rcount key c 0, marked := b.marked || decide (1000 * max 1 (s.get TUN.DIST_CFG.READ_K) ≤ c) }

/-- The columns a frame overlaps (R372). -/
def frameCols (r : RSet) (offs : List Nat) (set zone pos : Nat) : List Column :=
  ((offs.map (fun o => (o / max 1 r.strip, o % max 1 r.strip / 4096))).eraseDups).map
    (fun x => { set := set, zone := zone, row := x.1, col := x.2, pos := pos })

/-- A frame's columns in its own band. -/
def State.colsOf (s : State) (f : SFrame) : List Column :=
  match f.band with
  | none => []
  | some (set, zone) =>
    match s.rset set, s.band set zone with
    | some r, some b => match r.version b.ver with
      | some v => frameCols r (frameOffsets r v b.level f) set zone f.pos
      | none => []
    | _, _ => []

/-- Put a read job, and drop one. -/
def State.setRead (s : State) (j : RdJob) : State := s.setDp fun d => { d with
  reads := d.reads.map (fun x => if x.id = j.id then j else x) }
def State.rjob (s : State) (id : Nat) : Option RdJob := s.dp.reads.find? (fun j => j.id = id)

/-- The SOFT field and the shift of every offset of a read of R283. -/
def readStep : Nat → Nat × Int
  | 2 => (1, 0)
  | 3 => (2, 0)
  | 4 => (2, 4)
  | 5 => (2, -4)
  | 6 => (2, 8)
  | 7 => (2, -8)
  | _ => (0, 0)

/-- Send the bridge reads of page slots for a job, with a set of the group and the band's retention class (R280, R282,
R283); re-reads carry SUSP. Each read counts towards disturb (R284). -/
def State.readPages (s : State) (job : RdJob) (m : Module) (b : Band) (pages : List (Nat × Nat)) (step : Nat) : State :=
  pages.foldl (fun (s : State) pg =>
    let a := flashAddr m (pg.1 * 16384)
    let die := m.dieAt job.zone a.1
    let ret := s.retClass b
    let (t, s) := s.chooseSet (s.readEpoch job) m.link die a.2.1 ret
    match t, s.rjob job.id with
    | some t, some j =>
      let (soft, shift) := readStep step
      let (n, s) := s.refSet m.link t (t.cur.offs.map (· + shift))
      let soft := if t.cur.state = .suspect then max 1 soft else soft
      let s := s.countRead b.set b.zone (blockKey job.pos die a.2.1)
      let mine := (List.range 4).filter (bitAt pg.2)
      let cws := mine.map (fun i => ({ page := pg.1, idx := i, step := step, ret := ret, load := t.load, used := t.cur.state } : Cw))
      let s := s.setRead { j with cws := j.cws.filter (fun c => ¬ (c.page = pg.1 ∧ mine.contains c.idx)) ++ cws }
      s.sendBridge m.link 1 [die, a.2.1, m.blockAt die a.2.1 job.zone, a.2.2, pg.2, n, soft, b2n (job.serial ≠ 0 || 1 < step)] []
        (.read job.id pg.1)
    | _, _ => s) s

/-- Start a read job; one of no command carries a stamp of its own (R24). -/
def State.addRead (s : State) (j : RdJob) : RdJob × State :=
  let j := { j with id := s.dp.nextRead }
  let s := s.setDp fun d => { d with nextRead := d.nextRead + 1, reads := d.reads ++ [j] }
  (j, if j.patrol then s.stampJob 1 j.id else s)

/-- The runs that read sectors of an HDA zone: sectors with a reallocation entry are read from their spare sectors, those
in the hold are served from there (R321, R322). -/
def State.hdaParts (s : State) (hda zone : Nat) (secs : List Nat) : List (Nat × Nat × Nat) :=
  let m := s.hdaMedia hda
  let base := ((m.map (fun x => x.ident.userZones)).getD 0) * 262144
  let entry := fun (x : Nat) => ((m.map HdaMedia.realloc).getD []).find? (fun e => e.1 = zone * 262144 + x)
  let held := fun (x : Nat) => s.hdas.held.any (fun e => e.1 = hda && e.2.1 = zone * 262144 + x)
  let plain := secs.filter (fun x => (entry x).isNone && !held x)
  let first := plain.headD 0
  let run := (plain.getLast?).getD 0 + 1 - first = plain.length
  let own := if plain.isEmpty then [] else if run then [(zone, first, plain.length)] else plain.map (fun x => (zone, x, 1))
  own ++ (secs.filter (fun x => !held x)).filterMap (fun x =>
    (entry x).map (fun e => ((base + e.2.1) / 262144, (base + e.2.1) % 262144, 1)))

/-- Parts of a frame by where they are read: member code, zone and offsets there; and columns to reconstruct. -/
def State.framePlaces (s : State) (r : RSet) (zone pos : Nat) (offs : List Nat) : List (Nat × Nat × List Nat) × List Column :=
  let rows := (offs.map (· / max 1 r.strip)).eraseDups
  rows.foldl (fun (acc : List (Nat × Nat × List Nat) × List Column) row =>
    let mine := offs.filter (fun o => o / max 1 r.strip = row)
    match s.stripPlace r zone row pos with
    | none => (acc.1, acc.2 ++ frameCols r mine r.num zone pos)
    | some (code, z, base) =>
      let there := mine.map (fun o => base + o % max 1 r.strip)
      if acc.1.any (fun x => x.1 = code && x.2.1 = z) then
        (acc.1.map (fun x => if x.1 = code ∧ x.2.1 = z then (code, z, x.2.2 ++ there) else x), acc.2)
      else (acc.1 ++ [(code, z, there)], acc.2)) ([], [])

/-- Read offsets of a member's zone for a job; cls: the class of HDA runs (R313). A carrier that the partner drives is read
by the partner (R315). -/
def State.readPlace (s : State) (job : RdJob) (b : Band) (cls code zone : Nat) (offs : List Nat) : State :=
  if memberIsModule code then
    match s.module (memberNo code) with
    | none => s
    | some m =>
      let (j, s) := s.addRead { job with code := code, zone := zone }
      s.readPages j m b (pagesOf offs) 1
  else
    let hda := memberNo code
    let parts := s.hdaParts hda zone ((offs.map (· / 4096)).eraseDups)
    if parts.isEmpty then s else
    let (j, s) := s.addRead { job with code := code, zone := zone, open_ := parts.length }
    if s.on (STR.STRING_STS.OTHER_DRIVES (hda / 2)) ∧ s.synced then
      parts.foldl (fun (s : State) x => s.sendNrn 8 0 [j.id, hda, x.1, x.2.1, x.2.2, cls, 0] []) s
    else parts.foldl (fun (s : State) x => s.askRun hda cls x.1 x.2.1 x.2.2 false [] (.read j.id x.2.1)) s

/-- Read a frame from its media for a command, or through the joint decoder. -/
def State.readFrame (s : State) (qpid cid cls : Nat) (f : SFrame) : State :=
  match f.band with
  | none => s
  | some (set, zone) =>
    match (s.under (s.readEpoch { id := 0, qpid := qpid, cid := cid })).rset set, s.band set zone with
    | some r, some b =>
      match r.version b.ver with
      | none => s
      | some v =>
        let job : RdJob := { id := 0, qpid := qpid, cid := cid, serial := f.serial, pos := f.pos, band := (set, zone) }
        let (places, cols) := s.framePlaces r zone f.pos (frameOffsets r v b.level f)
        let s := if cols.isEmpty then s else (s.addRead { job with joint := cols, recovered := true }).2
        places.foldl (fun (s : State) x => s.readPlace job b cls x.1 x.2.1 x.2.2) s
    | _, _ => s

/-- The column at a byte of the zone that a job reads; a spare zone's strips are named by the rebuilt-strip table (R377). -/
def State.columnAt (s : State) (j : RdJob) (off : Nat) : Option Column :=
  match s.rset j.band.1 with
  | none => none
  | some r =>
    let row := off / max 1 r.strip
    let col := off % max 1 r.strip / 4096
    if j.zone = j.band.2 then some { set := j.band.1, zone := j.zone, row := row, col := col, pos := j.pos }
    else (s.nv.media.strips.find? (fun x => x.set = j.band.1 ∧ x.spareZone = j.zone ∧ x.index = row ∧ r.member x.target = j.code)).map
      (fun x => { set := x.set, zone := x.zone, row := x.row, col := col, pos := x.pos })

/-- A column of a read goes to the joint decoder: step 4 of R283, step 6 of R319. -/
def State.toJoint (s : State) (job off : Nat) : State :=
  match s.rjob job with
  | some j => match s.columnAt j off with
    | some c => s.setRead { j with joint := j.joint ++ [c], recovered := true }
    | none => s
  | none => s

/-- A read job is over once nothing of it is outstanding. -/
def State.endRead (s : State) (job : Nat) : State := s.setDp fun d => { d with
  reads := d.reads.filter (fun j => ¬ (j.id = job ∧ j.joint.isEmpty ∧ j.cws.isEmpty ∧ j.open_ = 0)) }

/-! ## Stages and retirement (R290 to R293) -/

/-- A module's stage rises (Table "Wear, Tuning and Patrol" 2). -/
def State.raiseStage (s : State) (link n : Nat) : State :=
  match s.module link with
  | some m => if n ≤ m.stage then s else (s.setModule { m with stage := n }).record 0x0D03 0 link n []
  | none => s

/-- Spare blocks left in a group. -/
def Module.spareLeft (m : Module) (die plane : Nat) : Nat :=
  m.ident.spareBlocks - (m.retired.filter (fun x => x.1 = die ∧ x.2.1 = plane)).length

/-- The zones in which a member's positions hold FULL or OPEN bands. -/
def State.zonesOf (s : State) (code : Nat) : List Nat :=
  ((s.positionsOf code).flatMap (fun x => (s.nv.media.bands.filter (fun b => b.set = x.1 && 1 ≤ b.state && b.state ≤ 4)).map Band.zone)).eraseDups

/-- A die is retired: its swap starts, or the module becomes READ_ONLY (R291, R293). -/
def State.retireDie (s : State) (link die : Nat) : State :=
  match s.module link with
  | none => s
  | some m =>
    let pos := m.dieMap.findIdx (· = die)
    if m.swap.isSome ∨ m.dieMap.length ≤ pos then s else
    let code := 0x4000 + link
    match (List.range m.ident.dies).find? (fun d => m.ident.dies - m.spareDies ≤ d + m.retiredDies.length ∧ ¬ m.dieMap.contains d ∧ ¬ m.retiredDies.contains d),
        decide (0 < m.spareDies) with
    | some d, true =>
      let s := s.setModule { m with swap := some (pos, d, die, s.zonesOf code) }
      ((s.setB TUN.STS.DIE_SWAP).record 0x0D02 0 link pos []).propose (.dieSwap link pos d)
    | _, _ =>
      let s := (s.setB TUN.STS.READ_ONLY).raiseStage link 4
      let open_ := s.nv.media.bands.filter (fun b => b.state = 1 && (s.positionsOf code).any (fun x => x.1 = b.set))
      (open_.foldl State.closeBand s).memberEvent code 1

/-- A block is retired and served by a spare block of its group; a group without one retires its die (R290). -/
def State.retireBlock (s : State) (link die plane block : Nat) (worn : Bool) : State :=
  match s.module link with
  | none => s
  | some m =>
    if m.spareLeft die plane = 0 then s.retireDie link die else
    let n := (m.retired.filter (fun x => x.1 = die ∧ x.2.1 = plane)).length
    -- A spare that fails is itself replaced (log entry 41).
    let m' := { m with retired := (die, plane, block, m.ident.blocks - m.ident.spareBlocks + n) ::
                  m.retired.filter (fun x => ¬ (x.1 = die ∧ x.2.1 = plane ∧ x.2.2.1 = block)) ++
                  (m.retired.filter (fun x => x.1 = die ∧ x.2.1 = plane ∧ x.2.2.1 = block)).map (fun x => (x.1, x.2.1, x.2.2.2, x.2.2.2)) }
    let s := (s.setModule m').setB TUN.STS.RETIRE
    if worn ∨ 2 * m'.spareLeft die plane < m.ident.spareBlocks then s.raiseStage link 2 else s

/-! ## Strips that do not get written, links that go DOWN (R234, R269, R387) -/

/-- The frames of a stripe lose their place and wait for another; what was programmed is garbage. -/
def State.failStripe (s : State) (set zone row t : Nat) : State :=
  match s.rset set, s.band set zone with
  | some r, some b =>
    match r.version b.ver with
    | none => s
    | some v =>
      let hit := fun (f : SFrame) => decide (f.band = some (set, zone)) && (frameStripes r v b.level f).contains (row, t)
      let s := s.setBand { b with
        void := (row, t) :: b.void, waiting := b.waiting.filter (fun x => ¬ (x.1 = row ∧ x.2.1 = t)) }
      s.setDp fun d => { d with writes := d.writes.map (fun w => { w with
        durable := w.durable && !w.frames.any hit
        frames := w.frames.map (fun f => if hit f then { f with band := none, pos := 0, off := 0 } else f) }) }
  | _, _ => s

/-- A copy of a die swap is given up; it begins again from its last completed band (R295). -/
def State.dropCopy (s : State) (link zone : Nat) : State :=
  s.setDp fun d => { d with copies := d.copies.filter (fun x => ¬ (x.link = link ∧ x.zone = zone)) }

/-- A strip did not reach its spare zone: the rebuild moves it again. -/
def State.dropMoving (s : State) (set zone row pos : Nat) : State := s.setDp fun d => { d with moving := d.moving.filter (fun x =>
  ¬ (x.strip.set = set ∧ x.strip.zone = zone ∧ x.strip.row = row ∧ x.strip.pos = pos)) }

/-- A write command of a strip's move has completed. -/
def State.spareWritten (s : State) (set zone row pos : Nat) : State := s.setDp fun d => { d with moving := d.moving.map (fun x =>
  if x.strip.set = set ∧ x.strip.zone = zone ∧ x.strip.row = row ∧ x.strip.pos = pos then { x with left := x.left - 1 } else x) }

/-- A bridge command has no result: its link or module is gone. -/
def State.dropBr (s : State) (c : BrCmd) : State :=
  match c.use_ with
  | .read j page => match s.rjob j with
    | none => s
    | some x =>
      let gone := x.cws.filter (fun c => c.page = page)
      gone.foldl (fun (s : State) c => s.toJoint j (page * 16384 + 4096 * c.idx))
        (s.setRead { x with cws := x.cws.filter (fun c => c.page ≠ page) })
  | .strip set zone row t _ => s.failStripe set zone row t
  | .erase set zone => s.freeBand set zone
  | .own set zone => s.freeBand set zone
  | .copy zone => s.dropCopy c.link zone
  | .raw p => s.answer p 0x0C01 c.link []
  | .fence _ _ => s.setPair fun p => { p with quorum := p.quorum.map (fun q => { q with waiting := q.waiting - 1 }) }
  | .ident => s
  | .other => s
  | .stage _ _ => s
  | .version p => s.answerLater p 0x180C (0x100 + c.link) []
  | .realloc _ _ _ => s
  | .capture _ _ => s
  | .seekTest _ _ _ => s
  | .sparePart _ => s
  | .spare set zone row pos => s.dropMoving set zone row pos
  | .partner _ _ => s

/-- A link is DOWN: its commands end without a result, and its module is unreachable for this head (R234). -/
def State.linkDown (s : State) (k : Nat) : State :=
  let gone := s.dp.brs.filter (fun c => c.link = k)
  let s := s.setDp fun d => { d with brs := d.brs.filter (fun c => c.link ≠ k) }
  let s := (s.flashTo k 0).setFlink k { s.flink k with
    kept := [], slots := [], training := false, swapSlot := none, switchReady := false }
  let s := s.setDp fun d => { d with copies := d.copies.filter (fun x => x.link ≠ k) }
  ((gone.foldl State.dropBr s).memberDown (0x4000 + k)).gatherAll

end Sys2Proof.Machine
end

