-- ==== Sys2Proof/Machine/HdaOps.lean ====
section
/-! DEFINITION. Strings, carriers and HDAs: geometry, tuning sets, runs, reallocation, servo and spindle moves, and HDAs that
fail (spec/10, spec/11). -/

namespace Sys2Proof

/-! ## Geometry (R304, R305) -/

/-- The layout entry that covers a zone. -/
def HdaIdent.entry (i : HdaIdent) (zone : Nat) : Layout :=
  ((i.layout.filter (fun e => e.firstZone ≤ zone)).getLast?).getD (i.layout.headD default)

/-- Sectors per track of a zone. -/
def HdaIdent.spt (i : HdaIdent) (zone : Nat) : Nat :=
  if i.dense then ((8333333 - 512 * 170) * (i.entry zone).rateMhz / 1000 - 40960) / 35360 else 512

/-- The cylinder of a sector of a zone. -/
def HdaIdent.cyl (i : HdaIdent) (zone sector : Nat) : Nat :=
  let e := i.entry zone
  e.firstCyl + (zone - e.firstZone) * e.tracks + sector / max 1 (i.spt zone)

/-- Cylinders of the stroke: beyond the last layout entry's tracks. -/
def HdaIdent.stroke (i : HdaIdent) : Nat :=
  (i.layout.map (fun e => e.firstCyl + e.tracks)).foldl max 1

/-- Delivery rate of a zone in bytes per second. -/
def HdaIdent.zoneRate (i : HdaIdent) (zone : Nat) : Nat := i.spt zone * 120 * 4096

/-- What R305 does not allow. -/
def HdaIdent.refused (i : HdaIdent) : Bool :=
  i.rpm ≠ 7200 || i.wedges ≠ 512 || 49152 < i.userZones + i.spareZones + i.sysZones ||
  i.layout.any (fun e => 3500 < e.rateMhz || e.rateMhz < (if i.dense then 1200 else 2240) ||
    i.spt e.firstZone * e.tracks < 262144)

/-- The zone and sector of a spare index: the spare zones follow the user zones. -/
def HdaIdent.spareAt (i : HdaIdent) (n : Nat) : Nat × Nat := (i.userZones + n / 262144, n % 262144)
def HdaIdent.spareSectors (i : HdaIdent) : Nat := i.spareZones * 262144

end Sys2Proof

namespace Sys2Proof.Machine

/-! ## Places -/

def State.setHdas (s : State) (f : Hdas → Hdas) : State := { s with hdas := f s.hdas }
def State.str (s : State) (k : Nat) : Str := s.hdas.strs.getD k {}
def State.setStr (s : State) (k : Nat) (x : Str) : State := s.setHdas fun d => { d with strs := d.strs.set k x }
def State.servo (s : State) (h : Nat) : Servo := s.hdas.servos.getD h {}
def State.setServo (s : State) (h : Nat) (x : Servo) : State := s.setHdas fun d => { d with servos := d.servos.set h x }
def State.spin (s : State) (h : Nat) : Spindle := s.hdas.spins.getD h {}
def State.setSpin (s : State) (h : Nat) (x : Spindle) : State := s.setHdas fun d => { d with spins := d.spins.set h x }
def State.hrun (s : State) (id : Nat) : Option HdaRun := s.dp.runs.find? (fun r => r.id = id)
def State.setRun (s : State) (r : HdaRun) : State := s.setDp fun d => { d with runs := d.runs.map (fun x => if x.id = r.id then r else x) }
def State.dropRun (s : State) (id : Nat) : State := s.setDp fun d => { d with runs := d.runs.filter (fun x => x.id ≠ id) }

/-- Member code of an HDA (Table "Declustered Redundancy and Rebuild" 2). -/
def hdaCode (h : Nat) : Nat := 0x8000 + h

/-- SYNC, LOCKED or FREE: heads may load (Table "Servo and Spindle Control" 8). -/
def State.spinning (s : State) (h : Nat) : Bool := 4 ≤ s.spnState h && s.spnState h ≤ 6

/-! ## Carrier commands (R301) -/

/-- Send a command to a carrier, with a tag of its own. -/
def State.sendCarrier (s : State) (k op : Nat) (args : List Nat) (use_ : StrUse) : State :=
  let x := s.str k
  let s := s.setStr k { x with nextTag := (x.nextTag + 1) % 2 ^ 16 }
  (s.setHdas fun d => { d with cmds := d.cmds ++ [{ str := k, tag := x.nextTag, op := op, use_ := use_ }] }).emit
    (.carrier k x.nextTag op args)

/-! ## Tuning sets (R325, R327) -/

/-- What a format gives every zone, in MID. -/
def neutralSet : HVals :=
  { eq := (List.range 16).map (Config.neutralTap 0), tgt := (List.range 4).map (Config.neutralTap 1)
    np := (List.range 24).map (Config.neutralTap 2) }

/-- A tuning set: the table's own, else a format's. -/
def State.hset (s : State) (h zone load : Nat) : Option HSet :=
  match s.act.hsets.find? (fun t => t.hda = h ∧ t.zone = zone ∧ t.load = load) with
  | some t => some t
  | none => if load = 1 then some { hda := h, zone := zone, load := 1, cur := neutralSet } else none

/-- Put a set into a list of them. -/
def putHset (ts : List HSet) (t : HSet) : List HSet :=
  t :: ts.filter (fun x => ¬ (x.hda = t.hda ∧ x.zone = t.zone ∧ x.load = t.load))

/-- Change a set in force at once, in both banks; it waits for the next flush to the system zones (R328). -/
def State.setHset (s : State) (t : HSet) : State :=
  ({ s with
    act := { s.act with hsets := putHset s.act.hsets t }
    shadow := { s.shadow with hsets := putHset s.shadow.hsets t } } : State).setHdas
    fun d => { d with changed := insertNat d.changed t.hda }

/-- The signed value of a byte. -/
def signed8 (n : Nat) : Int := (BitVec.ofNat 8 n).toInt

/-- Temperature of an HDA, while CSTAT comes (R324). -/
def State.hdaTemp (s : State) (h : Nat) : Option Int :=
  if ¬ (s.str (h / 2)).fresh then none else
  some (signed8 (s.get (if h % 2 = 0 then STR.STRING_STS.TEMP0_C (h / 2) else STR.STRING_STS.TEMP1_C (h / 2))))

/-- Load class of an HDA (R324): MID until the first update. -/
def State.hdaLoad (s : State) (h : Nat) : Nat := ((s.hdas.loads.find? (fun x => x.1 = h)).map Prod.snd).getD 1

/-- A set's tag is in context. -/
def State.hsetInContext (s : State) (t : HSet) : Bool :=
  decide (t.load = s.hdaLoad t.hda) && (match s.hdaTemp t.hda with
    | some c => decide (tempGap c t.cur.tagTemp ≤ max 1 (s.get TUN.HDA_VAL.TEMP_TOL_C))
    | none => false)

/-- The epoch a run runs under: its read's or its own stamp (R24). -/
def State.runEpoch (s : State) (r : HdaRun) : Nat :=
  match r.use_ with
  | .read job _ => ((s.rjob job).map s.readEpoch).getD (s.get SYS.EPOCH_NUM.NUM)
  | _ => s.epochOf 2 r.id

/-- The set that a run of an epoch uses (R24, R280, R327): used out of context it enters VALIDATING for the current one. -/
def State.chooseHset (s : State) (e h zone : Nat) : Option HSet × State :=
  let c := s.hdaLoad h
  match (nearest c).findSome? (fun l => (s.under e).hset h zone l) with
  | none => (none, s)
  | some t =>
    if s.hsetInContext t ∨ t.load = c ∧ t.cur.state ≠ .valid then (some t, s) else
    let v : HSet := { t with load := c, cur := { t.cur with state := .validating }, prev := if t.load = c then some t.cur else none }
    (some v, if e = s.get SYS.EPOCH_NUM.NUM then s.setHset v else s)

/-- What a sector's first decode does to the statistics of its set: the validation, and the window (R281, R326). -/
def HSet.decoded (t : HSet) (temp : Option Int) (used : TuneState) (it : Nat) (ok : Bool) : HSet :=
  let judged := used = .validating ∨ used = .candidate
  let t := if judged then { t with vCw := t.vCw + 1, vIt := t.vIt + 8 * it, vFail := t.vFail + b2n (!ok) } else t
  if ok ∧ used ≠ .validating then
    { t with winCw := t.winCw + 1, winIt := t.winIt + 8 * it, winTemp := if t.winCw = 0 then temp else t.winTemp }
  else t

/-- The candidates of HDA sets are committed, COMMIT_S seconds after the last ones, or at once where one replaces a SUSPECT
set (R279, R327). -/
def State.commitHsets (s : State) : State :=
  if s.hdas.cands.isEmpty ∨ s.on SYS.EPOCH_STS.PEND ∨ s.cmd.inReset ∨ s.on TUN.STS.FROZEN then s else
  let old := fun (s : State) (c : HSet) => s.hset c.hda c.zone c.load
  let urgent := s.hdas.cands.any (fun c => ((old s c).map (fun t => decide (t.cur.state = .suspect))).getD false)
  let s := if urgent then s else s.passTo (s.hdas.tunedAt + max 1 (s.get TUN.HDA_CAL.COMMIT_S) * Config.sec)
  let put := fun (s : State) (c : HSet) =>
    let t := (old s c).getD c
    let was := if t.vCw = 0 then t.cur.it0 else t.vIt / t.vCw
    let n : HSet := { c with prev := some t.cur, cur := { c.cur with it0 := was } }
    ({ s with shadow := { s.shadow with hsets := putHset s.shadow.hsets n } } : State).setHdas
      fun d => { d with changed := insertNat d.changed c.hda }
  let s := s.hdas.cands.foldl put s
  (s.setHdas fun d => { d with cands := [], tunedAt := s.aon }).requestCommit

/-- An HDA set under validation in the current context, and its measures (R281, R327). -/
def State.judgedH (s : State) (hda zone load : Nat) : Option HSet :=
  (s.act.hsets.find? (fun t => t.hda = hda ∧ t.zone = zone ∧ t.load = load)).filter
    (fun t => (t.cur.state = .validating || t.cur.state = .candidate) && decide (load = s.hdaLoad hda))
def State.valLenH (s : State) : Nat := 16 * max 1 (s.get TUN.HDA_VAL.VAL_SECT16)
def State.valOkH (s : State) (t : HSet) : Bool := t.vIt ≤ (t.cur.it0 + s.get TUN.HDA_VAL.VAL_MARGIN) * t.vCw

/-- An HDA set passes its validation. -/
def State.passHset (s : State) (hda zone load : Nat) : State :=
  match s.judgedH hda zone load with
  | none => s
  | some t =>
    if t.vCw < s.valLenH ∨ s.get TUN.HDA_VAL.VAL_FAIL < t.vFail ∨ ¬ s.valOkH t then s else
    let temp := if t.cur.state = .validating then (s.hdaTemp hda).getD t.cur.tagTemp else t.cur.tagTemp
    s.setHset { t with
      prev := none, vCw := 0, vIt := 0, vFail := 0
      cur := { t.cur with state := .valid, it0 := t.vIt / t.vCw, tagTemp := temp } }

/-- An HDA set fails it: a CANDIDATE gives way to its predecessor, a VALIDATING set becomes SUSPECT (R281, R282). -/
def State.failHset (s : State) (hda zone load : Nat) : State :=
  match s.judgedH hda zone load with
  | none => s
  | some t =>
    if ¬ (s.get TUN.HDA_VAL.VAL_FAIL < t.vFail ∨ s.valLenH ≤ t.vCw ∧ ¬ s.valOkH t) then s else
    let cur := match t.cur.state, t.prev with
      | .candidate, some p => p
      | _, _ => { t.cur with state := .suspect }
    let s := s.setHset { t with
      cur := cur, vCw := 0, vIt := 0, vFail := 0, winCw := 0, winIt := 0, winTemp := none, winBad := false
      prev := if cur.state = .suspect then t.prev else none }
    (s.setB TUN.HDA_STS.SUSPECT_EV).record 0x0E02 0 hda 0 []

/-! ## Traces (R350) -/

def State.trace (s : State) (q : Nat) : Trace := s.hdas.traces.getD q {}
def State.setTrace (s : State) (q : Nat) (t : Trace) : State := s.setHdas fun d => { d with traces := d.traces.set q t }

/-- Armed and not done. -/
def Trace.armed (t : Trace) : Bool := !t.nodes.isEmpty && !t.full

/-- ARMED and DONE of a quadrant's buffer. -/
def State.showTrace (s : State) (q : Nat) : State :=
  let t := s.trace q
  if q = 0 then (s.put SRV.TRACE_STS.Q0.ARMED (b2n t.armed)).put SRV.TRACE_STS.Q0.DONE (b2n t.full)
  else s.put (if q = 1 then SRV.TRACE_STS.Q1 else if q = 2 then SRV.TRACE_STS.Q2 else SRV.TRACE_STS.Q3)
    (128 * b2n t.armed + 64 * b2n t.full)

/-- A capture ends once nothing is left to come. -/
def State.traceEnd (s : State) (q : Nat) : State :=
  let t := s.trace q
  if t.armed ∧ t.left = some 0 then ((s.setTrace q { t with full := true }).showTrace q).setB SRV.STS.TRACE_DONE else s

/-- A trigger of an HDA's quadrant fires: so many samples are still to come. -/
def State.traceTrig (s : State) (h code : Nat) : State :=
  let q := h / 48
  let t := s.trace q
  if t.armed ∧ t.hda = h ∧ t.trig = code ∧ t.left.isNone then
    (s.setTrace q { t with left := some (65536 * (8 - t.pre) / 8) }).traceEnd q
  else s

/-- A wedge's samples of the chosen nodes, every DECIM wedges, in node order; the buffer holds the last 65,536. -/
def State.traceStep (s : State) (h : Nat) (node : Nat → Int) : State :=
  let q := h / 48
  let t := s.trace q
  if ¬ t.armed ∨ t.hda ≠ h then s
  else if t.tick + 1 < t.decim then s.setTrace q { t with tick := t.tick + 1 }
  else
    let new := t.nodes.map node
    let take := match t.left with
      | some n => new.take n
      | none => new
    (s.setTrace q { t with
      tick := 0, buf := (take.reverse ++ t.buf).take 65536, left := t.left.map (· - take.length) }).traceEnd q

/-! ## SOUT (R335, R343) -/

/-- SPMODE of a spindle state. -/
def spMode (st : Nat) : Nat := if st = 2 ∨ st = 3 then 2 else if 4 ≤ st ∧ st ≤ 6 then 1 else if st = 7 then 3 else 0

/-- Pole pairs of an HDA's motor: its own setting, else the default (R359). -/
def State.polePairs (s : State) (h : Nat) : Nat :=
  let own := match s.setting [0x0007, h] with
    | some [n] => n
    | _ => 0
  let dflt := s.get SPN.MOTOR_CFG.POLE_PAIRS
  if own ≠ 0 then own else if dflt = 0 then 4 else dflt

/-- The payload of an SOUT (Table "Servo and Spindle Control" 2). -/
def soutPayload (ctl wedge : Nat) (vcm : Int) (mode : Nat) (duty : List Nat) : List Byte :=
  let i16 := fun (x : Int) => leBytes 2 (BitVec.ofInt 16 x).toNat
  leBytes 1 ctl ++ leBytes 2 wedge ++ i16 vcm ++ leBytes 1 mode ++ (duty.take 3).flatMap (leBytes 2) ++
  i16 Config.holdOut ++ i16 Config.retractI ++ leBytes 1 (min 255 (max 1 Config.retractMs)) ++ List.replicate 103 0

/-- Send an SOUT of a slot: a real-time flit with the count of its direction (R299). -/
def State.emitSout (s : State) (h ctl wedge : Nat) (vcm : Int) (mode : Nat) (duty : List Nat) : State :=
  let k := h / 2
  let n := (s.str k).soutSeq
  (s.setStr k { s.str k with soutSeq := (n + 1) % 1024 }).emit (.sout k (flitBytes 8 1 n (Config.flitCred n % 64)
    (Config.soutAck n % 1024) (soutPayload (128 * (h % 2) + ctl) wedge vcm mode duty)))

/-- An SOUT of a slot that the engine has not taken up: the hold value with the spindle off (R78). -/
def State.soutOff (s : State) (h : Nat) : State := s.emitSout h 64 0xFFFF Config.holdOut 0 [0, 0, 0]

/-- Send an SOUT for an HDA: the wedge it answers, the VCM current and the CTL bits. -/
def State.sout (s : State) (h wedge : Nat) (vcm : Int) (inhibit range retract sleep : Bool) : State :=
  let p := s.spin h
  let mode := spMode (s.spnState h)
  let duty := if mode = 1 ∨ mode = 2 then [0, 1, 2].map (Config.duty p.phaseErr p.speed (s.polePairs h) p.halved) else [0, 0, 0]
  let ctl := 64 * b2n inhibit + 32 * b2n range + 16 * b2n retract + 8 * b2n sleep
  (s.put (SRV.HDAh_STS.INHIBIT h) (b2n inhibit)).emitSout h ctl wedge vcm mode duty

/-! ## Spindles (R351 to R356) -/

/-- SYNC, LOCKED or FREE. -/
def spinsAt (st : Nat) : Bool := 4 ≤ st && st ≤ 6

/-- A spindle's new state; one that leaves SYNC or LOCKED fires its trace trigger, and the time it spins is counted. -/
def State.spinTo (s : State) (h st : Nat) : State :=
  let old := s.spnState h
  let s := if (old = 4 ∨ old = 5) ∧ st ≠ 4 ∧ st ≠ 5 then s.traceTrig h 6 else s
  let p := s.spin h
  let s := if spinsAt st ∧ ¬ spinsAt old then s.setSpin h { p with spinAt := s.aon, lastRun := s.aon }
    else if spinsAt old ∧ ¬ spinsAt st then s.setSpin h { p with spinNs := p.spinNs + (s.aon - p.spinAt) }
    else s
  s.put (SPN.HDAh_STS.STATE h) st

/-- A spindle gives the carrier's switch back. -/
def State.freeSwitch (s : State) (h : Nat) : State :=
  (s.setSpin h { s.spin h with switch := false }).clrB (SPN.HDAh_STS.SW_WAIT h)

/-- The other slot of a carrier. -/
def otherSlot (h : Nat) : Nat := if h % 2 = 0 then h + 1 else h - 1

/-- A spin-up is asked for in a class (R354); during BRAKE or while coasting it is a recapture (R356). A gated quadrant
wakes (R32). -/
def State.askSpin (s : State) (h cls : Nat) : State :=
  let p := s.spin h
  let st := s.spnState h
  if st = 1 then s.setSpin h { p with cls := min cls p.cls }
  else if st = 0 ∨ st = 7 ∨ st = 8 then
    let s := s.causeWake (h / 48)
    let s := (s.setSpin h { p with cls := cls, askedAt := s.aon, recapture := st ≠ 0, retried := false }).spinTo h 1
    if (s.spin (otherSlot h)).switch then (s.put (SPN.HDAh_STS.SW_WAIT h) 1).setB SPN.STS.SW_WAIT else s
  else s

/-- A spindle brakes, and gives the switch back. -/
def State.brake (s : State) (h : Nat) : State :=
  let s := s.freeSwitch h
  if s.spnState h = 1 then s.spinTo h 0
  else if 2 ≤ s.spnState h ∧ s.spnState h ≤ 6 then s.spinTo h 7 else s

/-! ## Heads (R342 to R347) -/

/-- A servo loop's new state. -/
def State.servoTo (s : State) (h st : Nat) : State :=
  (s.put (SRV.HDAh_STS.STATE h) st).setServo h { s.servo h with since := s.aon, missed := 0, good := 0, settle := 0 }

/-- Heads load once the spindle runs (Table "Servo and Spindle Control" 6). -/
def State.load (s : State) (h : Nat) : State :=
  if s.srvState h = 0 ∧ s.spinning h ∧ s.drives h then
    (s.servoTo h 1).setServo h { (s.servoTo h 1).servo h with i := 0, d := 0, ePrev := 0, ff := 0, seek := none, reloadAt := none }
  else s

/-- The read runs of an HDA give up their pairs and wait as new runs (R329). -/
def State.stopRuns (s : State) (h : Nat) : State :=
  let mine := s.dp.runs.filter (fun r => r.hda = h && r.pairAt.isSome)
  let s := s.setDp fun d => { d with runs := d.runs.map (fun r =>
    if r.hda = h ∧ r.pairAt.isSome then { r with pairAt := none, askedAt := s.aon, samples := [], step := 1, revs := 0, overrun := false } else r) }
  if mine.isEmpty then s else s.sendCarrier (h / 2) 4 [h % 2] .other

/-- A seek test ends without reaching FOLLOW. -/
def State.dropSeek (s : State) (h : Nat) : State :=
  let s := match (s.servo h).seek with
    | some { test := some p, .. } => s.answerLater p 0x000F 3 []
    | _ => s
  s.setServo h { s.servo h with seek := none, ff := 0 }

/-- Stream the sectors of a run that lie on the current track to its pair, with the set's heater value and the variant of
step 4 (R307, R319, R345). A standard sector starts 40 ns after its wedge; a dense one's place and the number of samples
are free. -/
def State.startStream (s : State) (r : HdaRun) : State :=
  match s.hdaIdent r.hda with
  | none => s
  | some i =>
    let e := i.entry r.zone
    let v := if r.step = 4 then r.revs % 5 else 0
    -- A re-read uses the predecessor of the set, or the default one.
    let heat := match (s.under (s.runEpoch r)).hset r.hda r.zone r.load with
      | some t => if r.step = 4 then (t.prev.map HVals.heat).getD 0 else t.cur.heat
      | none => 0
    let dac := max 0 (min (Int.ofNat i.heatMax) (Int.ofNat e.heatDef + heat + (if v = 1 then 2 else if v = 2 then -2 else 0)))
    let s := s.setServo r.hda { s.servo r.hda with offset := if v = 3 then 20 else if v = 4 then -20 else 0 }
    let s := s.setRun { r with samples := [], base := 0 }
    let s := s.sendCarrier (r.hda / 2) 7 [r.hda % 2, e.head, dac.toNat] .other
    let (wedge, s) := if i.dense then (let (n, s) := s.draw; (n % 512, s)) else ((r.sector + r.done_) % 512, s)
    let (off, s) := if i.dense then s.draw else (40, s)
    let (n, s) := s.draw
    s.sendCarrier (r.hda / 2) 3 [r.hda % 2, e.head, e.rateMhz, wedge, off, n, r.id % 65536] (.stream r.id)

/-- Heads unload, and the spindle brakes after it where asked. -/
def State.unload (s : State) (h : Nat) (brake : Bool) : State :=
  if 1 ≤ s.srvState h ∧ s.srvState h ≤ 4 then
    let s := ((s.stopRuns h).dropSeek h).servoTo h 5
    s.setServo h { s.servo h with brake := brake, range := false }
  else if s.srvState h = 5 then s.setServo h { s.servo h with brake := (s.servo h).brake || brake }
  else if brake then s.brake h else s

/-- A seek of an HDA's heads (R344). -/
def State.seekTo (s : State) (h head cyl : Nat) (test : Option Packet) : State :=
  let x := s.servo h
  let s := s.servoTo h 3
  let s := s.setServo h { s.servo h with
    head := head, seek := some { fromY := x.r, toY := 256 * Int.ofNat cyl, startAt := s.aon, test := test }, range := true }
  s.traceTrig h 4

/-! ## Runs (R313, R316, R317) -/

/-- A run that holds a pair, or a write run at its carrier. -/
def State.runActive (s : State) (r : HdaRun) : Bool :=
  r.pairAt.isSome || s.hdas.cmds.any (fun c => c.use_ = .writeRun r.id)

/-- The head and cylinder of a run's next sector. -/
def State.runPlace (s : State) (r : HdaRun) : Option (Nat × Nat) :=
  (s.hdaIdent r.hda).map (fun i => ((i.entry r.zone).head, i.cyl r.zone (r.sector + r.done_)))

/-- Whether one waiting run comes before another: by class, then by age (R313). -/
def HdaRun.before (a b : HdaRun) : Bool := a.cls < b.cls || a.cls = b.cls && (a.askedAt < b.askedAt || a.askedAt = b.askedAt && a.id < b.id)

/-- The first of some runs. -/
def firstRun (rs : List HdaRun) : Option HdaRun :=
  rs.foldl (fun (o : Option HdaRun) r => match o with
    | some x => if r.before x then some r else o
    | none => some r) none

/-! ## Strips that become durable (R317, R369, R370) -/

/-- A strip of a stripe, or a slot of one on a module, is durable on its member; the last one completes the stripe. -/
def State.stripDone (s : State) (set zone row t pos : Nat) : State :=
  match s.band set zone with
  | none => s
  | some b =>
    if ¬ b.waiting.contains (row, t, pos) then s else
    let left := b.waiting.erase (row, t, pos)
    let all := !left.any (fun x => x.1 = row && x.2.1 = t)
    s.setBand { b with waiting := left, done_ := if all then b.done_ ++ [(row, t)] else b.done_ }

/-! ## Columns and strips -/

/-- The bytes of a strip of a stripe, data or parity (R366). -/
def State.stripData (s : State) (r : RSet) (v : SetVer) (b : Band) (row pos : Nat) : List Byte :=
  match slotOf r v row pos with
  | none => List.replicate r.strip 0
  | some (t, i) =>
    if i < r.width - b.level then s.stripBytes r v b row pos
    else parityStrip (i - (r.width - b.level)) r.strip
      (((stripeOf r v row t).take (r.width - b.level)).map (s.stripBytes r v b row))

/-! ## Copies of a die swap (Table "Wear, Tuning and Patrol" 1) -/

/-- The band that takes a module's zone, and the module's position in it. -/
def State.bandOn (s : State) (link zone : Nat) : Option (Band × Nat) :=
  (s.positionsOf (0x4000 + link)).findSome? (fun x => (s.band x.1 zone).map (fun b => (b, x.2)))

/-- The page slots of a die position in a band that hold strips of finished stripes, with the byte of the zone each begins at. -/
def State.dieSlots (s : State) (m : Module) (b : Band) (at_ die : Nat) : List Nat :=
  match s.rset b.set with
  | none => []
  | some r => match r.version b.ver with
    | none => []
    | some v =>
      let planes := max 1 m.ident.planes
      let dies := max 1 m.dieMap.length
      let all := (List.range (r.zoneSize / 16384)).filter (fun i => i / planes % dies = die)
      all.filter (fun i => let row := 16384 * i / max 1 r.strip
        match slotOf r v row at_ with
        | some (t, _) => b.done_.contains (row, t)
        | none => false)

/-- Event 3, reading: the pages of the old die, at the lowest priority. -/
def State.readCopy (s : State) (m : Module) (zone pos : Nat) : State :=
  match s.bandOn m.link zone with
  | none => s
  | some (b, at_) =>
    let (j, s) := s.addRead { id := 0, patrol := true, code := 0x4000 + m.link, zone := zone, band := (b.set, zone), pos := at_ }
    let s := s.readPages j m b ((s.dieSlots m b at_ pos).map (fun i => (i, 15))) 1
    (s.setDp fun d => { d with copies := d.copies ++ [{ link := m.link, zone := zone, job := j.id }] }).endRead j.id

/-- Event 3, writing: OWN and ERASE of the same block numbers on the spare die, then its pages. -/
def State.writeCopy (s : State) (m : Module) (c : DieCopy) (pos die : Nat) : State :=
  match s.bandOn m.link c.zone with
  | none => s.dropCopy m.link c.zone
  | some (b, at_) => match s.rset b.set, (s.rset b.set).bind (fun r => r.version b.ver) with
    | some r, some v =>
      let planes := max 1 m.ident.planes
      let slots := s.dieSlots m b at_ pos
      let blocks := ((List.range planes).map (fun p => m.blockAt die p c.zone)).eraseDups
      let mask := fun (n : Nat) => (((List.range planes).filter (fun p => m.blockAt die p c.zone = n)).map (2 ^ ·)).sum
      let force := b2n (s.get NRN.PAIR_STS.ROLE = roleSurvivor)
      let s := s.setDp fun d => { d with copies := d.copies.map (fun x => if x = c then { x with writing := true, left := 2 * blocks.length + slots.length } else x) }
      let s := blocks.foldl (fun (s : State) n =>
        (s.sendBridge m.link 5 [n, force] [] (.copy c.zone)).sendBridge m.link 3 [die, mask n, n] [] (.copy c.zone)) s
      slots.foldl (fun (s : State) i =>
        let a := flashAddr m (16384 * i)
        let row := 16384 * i / max 1 r.strip
        s.sendBridge m.link 2 [die, 2 ^ a.2.1, m.blockAt die a.2.1 c.zone, a.2.2, m.ident.bpc]
          (slice (s.stripData r v b row at_) (16384 * i % max 1 r.strip) 16384) (.copy c.zone)) s
    | _, _ => s.dropCopy m.link c.zone

/-- A die swap goes on: each FULL or RESERVED band in turn, its die-map entry moving once it is copied; a dump, a link that is
down or a fenced port pauses it (R291, R295). -/
def State.stepSwap (s : State) (m : Module) : State :=
  match m.swap with
  | none => s
  | some (pos, die, old, zones) =>
    if m.agreed ∨ m.dieMap.getD pos pos ≠ die ∨ s.halted ∨ ¬ s.memberReadable (0x4000 + m.link) then s else
    match s.dp.copies.find? (fun c => c.link = m.link) with
    | some c =>
      if ¬ c.writing then (if s.dp.reads.any (fun j => j.id = c.job) then s else s.writeCopy m c pos die)
      else if c.left ≠ 0 then s
      else (s.dropCopy m.link c.zone).setModule { m with
        swap := some (pos, die, old, zones.erase c.zone), oldDie := m.oldDie.filter (fun x => ¬ (x.1 = c.zone ∧ x.2.1 = pos)) }
    | none =>
      let here := zones.filter (fun z => (s.bandOn m.link z).isSome)
      let m' := { m with swap := some (pos, die, old, here), oldDie := m.oldDie.filter (fun x => x.2.1 ≠ pos || here.contains x.1) }
      let s := if here = zones then s else s.setModule m'
      match here.find? (fun z => (s.bandOn m.link z).any (fun x => x.1.state = 2 || x.1.state = 4)) with
      | some z => s.readCopy m' z pos
      | none => s

/-- Every die swap goes on. -/
def State.serveSwaps (s : State) : State := s.nv.media.modules.foldl State.stepSwap s

/-- The bytes of a column. -/
def State.columnBytes (s : State) (c : Column) : List Byte :=
  match s.rset c.set, s.band c.set c.zone with
  | some r, some b => match r.version b.ver with
    | some v => slice (s.stripData r v b c.row c.pos) (4096 * c.col) 4096
    | none => []
  | _, _ => []

/-- The sector of a zone that a run's sector stands for: a spare sector stands for the one it replaces. -/
def State.sectorOf (s : State) (h zone sector : Nat) : Nat × Nat :=
  match s.hdaMedia h with
  | none => (zone, sector)
  | some m =>
    let idx := (zone - m.ident.userZones) * 262144 + sector
    if zone < m.ident.userZones then (zone, sector) else
    match m.realloc.find? (fun e => e.2.1 = idx) with
    | some e => (e.1 / 262144, e.1 % 262144)
    | none => (zone, sector)

/-- The column a sector of an HDA's zone holds: of a band, or of a rebuilt strip. -/
def State.sectorColumn (s : State) (h zone sector : Nat) : Option Column :=
  let (z, x) := s.sectorOf h zone sector
  (s.positionsOf (hdaCode h)).findSome? (fun p =>
    match s.rset p.1 with
    | none => none
    | some r =>
      let row := 4096 * x / max 1 r.strip
      let col := 4096 * x % max 1 r.strip / 4096
      if (s.band p.1 z).isSome then some { set := p.1, zone := z, row := row, col := col, pos := p.2 }
      else (s.nv.media.strips.find? (fun e => e.set = p.1 ∧ e.spareZone = z ∧ e.index = row ∧ e.target = p.2)).map
        (fun e => { set := e.set, zone := e.zone, row := e.row, col := col, pos := e.pos }))

/-- The user bytes of a sector, zeros where no band holds it. -/
def State.sectorBytes (s : State) (h zone sector : Nat) : List Byte :=
  match s.sectorColumn h zone sector with
  | some c => slice (s.columnBytes c) 0 4096
  | none => List.replicate 4096 0

/-- The write gates of a sector, each with the wedge it follows, its start in ns after it and its bits: a standard sector has
one, 40 ns after its wedge (R305, R316). -/
def gatesOf (i : HdaIdent) (h zone sector : Nat) : List (Nat × Nat × Nat) :=
  if i.dense then Config.denseGates h zone sector else [(sector % 512, 40, 35360)]

/-- The channel bits of a sector (Table "HDA Strings and the Central Read Channel" 5, R308): preamble and sync marks round the
two halves of its codeword, which holds the user bytes, the tag and their CRC-32C. -/
def sectorBits (sector pass : Nat) (user : List Byte) : List Byte :=
  let body := slice user 0 4096 ++ leBytes 8 (sector * 2 ^ 30 + pass)
  let info := body ++ leBytes 4 (crc32c body)
  let cw := info ++ slice (Config.sectorParity info) 0 300
  List.replicate 8 0xCC ++ [0xE4, 0xD1] ++ cw.take 2204 ++ [0x1B, 0x2E] ++ cw.drop 2204

/-- Open a write run on the carrier (Table "HDA Strings and the Central Read Channel" 2), and send its gates and channel bits:
the gates of reallocated sectors stay closed (R316, R322). -/
def State.openWrite (s : State) (r : HdaRun) : State :=
  match s.hdaMedia r.hda with
  | none => s
  | some m =>
    let lo := r.zone * 262144
    let secs := ((List.range (r.count - r.done_)).map (r.sector + r.done_ + ·)).filter (fun x => !m.realloc.any (fun e => e.1 = lo + x))
    let g := (secs.map (fun x => (gatesOf m.ident r.hda r.zone x).length)).sum
    let e := m.ident.entry r.zone
    let s := s.sendCarrier (r.hda / 2) 5 [r.hda % 2, e.head, e.rateMhz, r.id, g] (.writeRun r.id)
    let pass := (((m.pass.find? (fun x => x.1 = r.zone)).map Prod.snd).getD 0 + m.formats) % 2 ^ 24
    secs.foldl (fun (s : State) x =>
      let o := s.sectorOf r.hda r.zone x
      s.emit (.wdata (r.hda / 2) r.id (gatesOf m.ident r.hda r.zone x)
        (sectorBits (o.1 * 262144 + o.2) pass (s.sectorBytes r.hda r.zone x)))) s

/-- What an HDA does for the runs that wait for it: a spin-up in their class, a load, a seek to the first of them, or its
write run (R316, R329, R354). -/
def State.serveHda (s : State) (h : Nat) : State :=
  match firstRun (s.dp.runs.filter (fun r => r.hda = h && !s.runActive r && decide (r.done_ < r.count ∨ r.count = 0))) with
  | none => s
  | some r =>
    if ¬ s.drives h ∨ s.halted ∨ s.hdaState h < 2 ∨ s.hdaState h = 6 then s else
    let st := s.spnState h
    if st = 0 ∨ st = 1 ∨ st = 7 ∨ st = 8 then s.askSpin h r.cls
    else if s.srvState h = 0 then (if (s.servo h).reloadAt.isSome then s else s.load h)
    else if s.srvState h ≠ 2 ∨ s.dp.runs.any (fun x => x.hda = h && s.runActive x) then s else
    match s.runPlace r with
    | none => s
    | some (head, cyl) =>
      match r.use_ with
      | .seekTest p head cyl => (s.dropRun r.id).seekTo h head cyl (some p)
      | _ =>
      if (s.servo h).head ≠ head ∨ (s.servo h).r ≠ 256 * Int.ofNat cyl then s.seekTo h head cyl none
      else if r.write then s.openWrite r else s

/-- Every HDA with waiting runs. -/
def State.serveHdas (s : State) : State :=
  ((s.dp.runs.map HdaRun.hda).eraseDups).foldl State.serveHda s

/-! ## HDAs that fail (R323, R355, R375) -/

/-- An HDA becomes FAILING. -/
def State.hdaFailing (s : State) (h : Nat) : State :=
  if s.hdaState h = 5 ∨ s.hdaState h = 6 then s else
  let s := match s.hdaMedia h with
    | some m => s.setHdaMedia { m with failing := true }
    | none => s
  (s.put (HRC.HDAh_STS.STATE h) 5).memberEvent (hdaCode h) 1

/-- A run ends without its HDA: what it has not read goes to joint decoding, its strip is written elsewhere. -/
def State.loseRun (s : State) (r : HdaRun) : State :=
  let s := s.dropRun r.id
  match r.use_ with
  | .read job _ =>
    let secs := (List.range (r.count - r.done_)).map (fun i => (s.sectorOf r.hda r.zone (r.sector + r.done_ + i)).2)
    let s := match s.rjob job with
      | some j => s.setRead { j with open_ := j.open_ - 1 }
      | none => s
    (secs.foldl (fun (s : State) x => s.toJoint job (4096 * x)) s).endRead job
  | .strip set zone row t _ => s.failStripe set zone row t
  | .erase set zone => s.freeBand set zone
  | .capture p _ => s.answerLater p 0x0E01 r.hda []
  | .seekTest p _ _ => s.answerLater p 0x0E01 r.hda []
  | .spare set zone row pos => s.dropMoving set zone row pos
  | .partner job _ =>
    let (z, x) := s.sectorOf r.hda r.zone (r.sector + r.done_)
    s.sendNrn 8 1 [job, 2, r.hda, z, x, r.count - r.done_] []
  | _ => s

/-- An HDA has FAILED: its runs end, and the capo handles its positions. -/
def State.hdaFailed (s : State) (h : Nat) : State :=
  let s := match s.hdaMedia h with
    | some m => s.setHdaMedia { m with failed := true }
    | none => s
  let s := (s.dp.runs.filter (fun r => r.hda = h)).foldl State.loseRun (s.put (HRC.HDAh_STS.STATE h) 6)
  (s.memberEvent (hdaCode h) 2).gatherAll

/-- A sector on a head reaches step 6; HEAD_FAIL_N of them within one hour fail the head (R323). -/
def State.noteStep6 (s : State) (h head : Nat) : State :=
  match s.hdaMedia h with
  | none => s
  | some m =>
    let ts := (head, s.aon) :: m.step6At.filter (fun x => s.aon < x.2 + Config.hour)
    let s := s.setHdaMedia { m with step6At := ts }
    if m.headsFailed.contains head ∨ (ts.filter (fun x => x.1 = head)).length < max 1 (s.get HRC.RCV_CFG.HEAD_FAIL_N) then s else
    let s := s.setHdaMedia { m with step6At := ts, headsFailed := m.headsFailed ++ [head] }
    ((s.setB HRC.STS.HEAD_FAIL).count (HRC.HDAh_STS.HEADS_FAILED h) 1).hdaFailing h

/-! ## Reallocation (R321 to R323) -/

/-- Free spare sectors of an HDA: those of entries and of the hold are taken. -/
def State.freeSpares (s : State) (m : HdaMedia) : Nat :=
  m.ident.spareSectors - m.realloc.length - (s.hdas.held.filter (fun e => e.1 = m.hda)).length

/-- SPARE_PCT (R323). -/
def State.sparePct (s : State) (m : HdaMedia) : Nat := 100 * s.freeSpares m / max 1 m.ident.spareSectors

/-- A sector that needed step 4 or later is written to the next free spare sector, and held until that is durable; with a
full hold it is queued, and a later read recovers it again. -/
def State.realloc (s : State) (h sector : Nat) (data : List Byte) : State :=
  match s.hdaMedia h with
  | none => s
  | some m =>
    if s.hdas.held.any (fun e => e.1 = h && e.2.1 = sector) then s
    else if 64 ≤ (s.hdas.held.filter (fun e => e.1 / 48 = h / 48)).length then
      s.setHdas fun d => { d with queued := if d.queued.contains (h, sector) then d.queued else d.queued ++ [(h, sector)] }
    else if s.freeSpares m = 0 then s.hdaFailing h
    else
      let before := s.sparePct m
      let n := m.ident.spareSectors - s.freeSpares m
      let at_ := m.ident.spareAt n
      let s := s.setHdas fun d => { d with held := d.held ++ [(h, sector, n)], queued := d.queued.filter (· ≠ (h, sector)) }
      let s := s.put (HRC.HDAh_STS.SPARE_PCT h) (s.sparePct m)
      let s := if s.sparePct m < 10 ∧ 10 ≤ before then s.setB HRC.STS.SPARE_LOW else s
      let s := s.askRun h 1 at_.1 at_.2 1 true data (.realloc h sector n)
      if s.freeSpares m = 0 then s.hdaFailing h else s

/-- A queued reallocation goes on once the hold has room: its sector is read, and recovered, again (R321). -/
def State.nextRealloc (s : State) (q : Nat) : State :=
  match s.hdas.queued.find? (fun e => e.1 / 48 = q) with
  | none => s
  | some (h, sector) =>
    let s := s.setHdas fun d => { d with queued := d.queued.filter (· ≠ (h, sector)) }
    let zone := sector / 262144
    let p := (s.positionsOf (hdaCode h)).headD (2 ^ 32, 0)
    let (j, s) := s.addRead
      { id := 0, patrol := true, code := hdaCode h, zone := zone, band := (p.1, zone), pos := p.2, open_ := 1 }
    s.askRun h 1 zone (sector % 262144) 1 false [] (.read j.id 0)

/-! ## Drive (R301, R328, R337, R357) -/

/-- A carrier on which this head asks the HDA's slots to be. -/
def slotsOf (k : Nat) : List Nat := [2 * k, 2 * k + 1]

/-- STR_DOWN0 to STR_DOWN2: the bit of a string (Table "HDA Strings and the Central Read Channel" 16). -/
def State.showDown (s : State) (k : Nat) : State :=
  s.putBit (if k < 32 then STR.DOWN0.DOWN else if k < 64 then STR.DOWN1.DOWN else STR.DOWN2.DOWN) (k % 32)
    (s.get (STR.STRING_STS.STATE k) ≠ 2)

/-- A string's new state. -/
def State.stringTo (s : State) (k st : Nat) : State := (s.put (STR.STRING_STS.STATE k) st).showDown k

/-- DRIVER of both slots of a carrier. -/
def State.showDriver (s : State) (k : Nat) : State :=
  let d := if s.on (STR.STRING_STS.DRIVER k) then 1 else if s.on (STR.STRING_STS.OTHER_DRIVES k) then 2 else 0
  (slotsOf k).foldl (fun (s : State) h => s.put (HRC.HDAh_STS.DRIVER h) d) s

/-- Changed sets of an HDA go to its system zones (R328). -/
def State.flushSets (s : State) (h : Nat) : State :=
  match s.hdaMedia h with
  | none => s
  | some m =>
    (s.setHdaMedia { m with sets := s.act.hsets.filter (fun t => t.hda = h) }).setHdas
      fun d => { d with changed := d.changed.filter (· ≠ h) }

/-- Claim drive of a carrier, unless its firmware keeps it undriven (R501). -/
def State.claim (s : State) (k : Nat) (force : Bool) (p : Option Packet) : State :=
  if ¬ (s.str k).joined then s else
  (s.setStr k { s.str k with claiming := p.isNone }).sendCarrier k 2 [1, b2n force, 0] (.drive true force false p)

/-- A planned release of drive is asked for; it waits for what R357 names. -/
def State.askRelease (s : State) (k : Nat) (p : Option Packet) : State :=
  s.setStr k { s.str k with leave := true, leaveFor := p, claiming := false }

/-- A slot holds up a release: a seek, a range switch or a write run. -/
def State.holdsDrive (s : State) (h : Nat) : Bool :=
  (s.servo h).seek.isSome || s.srvState h = 3 ||
  s.dp.runs.any (fun r => r.hda = h && r.write && s.hdas.cmds.any (fun c => c.use_ = .writeRun r.id))

/-- Event 1 of a planned handover (Table "Servo and Spindle Control" 9): the last SOUT of each slot, then the release; the
partner is told. -/
def State.releaseDrive (s : State) (k : Nat) : State :=
  let x := s.str k
  let s := (slotsOf k).foldl (fun (s : State) h =>
    let v := s.servo h
    (s.flushSets h).sout h v.expect v.u true v.range false false) s
  let s := s.setStr k { s.str k with leave := false, leaveFor := none, handed := true }
  (s.sendCarrier k 2 [0, 0, 1] (.drive false false true x.leaveFor)).sendNrn 5 6 [1, k] []

/-- Releases that may happen now. -/
def State.releaseDrives (s : State) : State :=
  (List.range 96).foldl (fun (s : State) k =>
    if (s.str k).leave ∧ s.on (STR.STRING_STS.DRIVER k) ∧ ¬ (slotsOf k).any s.holdsDrive then s.releaseDrive k else s) s

/-- SLEEP to every carrier the quadrant drives, before it is gated (R337). -/
def State.sleepCarriers (s : State) (q : Nat) : State :=
  (s.drivenIn q).foldl (fun (s : State) h =>
    if s.srvState h = 0 then (s.sout h 0xFFFF Config.holdOut true false false true).put (SRV.HDAh_STS.STATE h) 9 else s) s

/-! ## Carriers that are lost (R302, R329) -/

/-- A head that does not drive a carrier listens to it, or not (Table "Servo and Spindle Control" 6). -/
def State.listen (s : State) (k : Nat) : State :=
  if s.on (STR.STRING_STS.DRIVER k) then s else
  let st := if s.on (STR.STRING_STS.OTHER_DRIVES k) ∧ s.on SRV.CFG.LISTEN_EN then 8 else 15
  (slotsOf k).foldl (fun (s : State) h => if s.srvState h = st ∨ s.hdaState h < 2 then s else s.servoTo h st) s

/-- Drive of a carrier is gone: runs end and wait, heads and spindles are no longer this head's (R302, R329). -/
def State.driveLost (s : State) (k : Nat) : State :=
  if ¬ s.on (STR.STRING_STS.DRIVER k) then s else
  let x := s.str k
  let s := match x.leaveFor with
    | some p => s.answerLater p 0 0 []
    | none => s
  let s := (slotsOf k).foldl (fun (s : State) h =>
    let s := (((s.stopRuns h).dropSeek h).servoTo h 15).freeSwitch h
    let s := s.setServo h { s.servo h with reloadAt := none, brake := false, range := false, offset := 0 }
    let st := s.spnState h
    if 1 ≤ st ∧ st ≤ 7 then s.spinTo h (if 200 ≤ (s.spin h).speed then 8 else 0) else s) s
  let s := s.setHdas fun d => { d with cmds := d.cmds.filter (fun c => decide (c.str ≠ k) || (match c.use_ with
    | .writeRun _ | .stream _ => false
    | _ => true)) }
  let s := s.setStr k { s.str k with leave := false, leaveFor := none, handed := false }
  ((s.clrB (STR.STRING_STS.DRIVER k)).showDriver k).listen k

/-- A string is DOWN: its commands end without a result. -/
def State.stringDown (s : State) (k : Nat) : State :=
  let s := (s.driveLost k).stringTo k 0
  let gone := s.hdas.cmds.filter (fun c => c.str = k)
  let s := s.setHdas fun d => { d with cmds := d.cmds.filter (fun c => c.str ≠ k) }
  let s := gone.foldl (fun (s : State) c => match c.use_ with
    | .drive _ _ _ (some p) => s.answerLater p 0x1101 k []
    | .version p => s.answerLater p 0x180C (0x200 + k) []
    | _ => s) s
  let s := s.setStr k { s.str k with fresh := false, claiming := false, handed := false, leave := false, joined := false }
  (((s.clrB (STR.STRING_STS.OTHER_DRIVES k)).showDriver k).listen k)

end Sys2Proof.Machine
end

