-- ==== Sys2Proof/Machine/ReplOps.lean ====
section
/-! DEFINITION. Snapshots and replication as other blocks use them: creating a snapshot, links and landing slots, the
epoch's transfers, shipping, staging and the notes between the two ends (spec/13). -/

namespace Sys2Proof.Machine

/-! ## Snapshots (R397) -/

/-- Change the shadow entry of a volume. -/
def State.shadowVolume (s : State) (n : Nat) (f : Vol → Vol) : State :=
  { s with shadow := { s.shadow with vols := s.shadow.vols.map (fun v => if v.num = n then f v else v) } }

/-- The lowest free snapshot number of a volume, 1 to 16,384. -/
def State.freeSnap (s : State) (vol : Nat) : Option Nat :=
  let used := (s.snapsOf vol).map Snap.num
  ((List.range (min 16384 (used.length + 1))).map (· + 1)).find? (fun n => !used.contains n)

/-- A snapshot now would bring a generation not yet swept to 2^23 − 1 behind VGEN (R257). -/
def State.genSweep (s : State) (v : Vol) : Bool :=
  (s.liveGens v.num).any (fun g => 2 ^ 23 - 1 ≤ (v.vgen + 1 + 2 ^ 24 - g) % 2 ^ 24)

/-- DETAIL of FTL_GEN_SWEEP: units not yet swept. -/
def State.unswept (s : State) (vol : Nat) : Nat := min (2 ^ 32 - 1) (s.nv.media.units.filter (fun u => u.vol = vol)).length

/-- Event 1 of a snapshot's creation, with the request of the commit that carries VGEN + 1; v: the shadow entry. -/
def State.newSnap (s : State) (v : Vol) (num : Nat) (repl : Bool) (asked : Option Packet) : State :=
  let x : Snap := { vol := v.num, num := num, gen := v.vgen, state := 1, held := repl, repl := repl, asked := asked }
  ((s.media fun m => { m with snaps := m.snaps ++ [x] }).shadowVolume v.num
    fun w => { w with vgen := (w.vgen + 1) % 2 ^ 24 }).requestCommit

/-- Change a snapshot's entry. -/
def State.setSnap (s : State) (vol num : Nat) (f : Snap → Snap) : State :=
  s.media fun m => { m with snaps := m.snaps.map (fun x => if x.vol = vol ∧ x.num = num then f x else x) }

/-- A replication snapshot loses HELD and is deleted (R401, event 7). -/
def State.freeSnapshot (s : State) (vol : Nat) (num : Option Nat) : State :=
  match num with
  | some n => s.setSnap vol n fun x => { x with held := false, state := 3 }
  | none => s

/-- Bytes of a snapshot entry (Table "Volumes, Snapshots and Replication" 3). -/
def Snap.bytes (x : Snap) : List Byte :=
  leBytes 3 x.gen ++ leBytes 1 x.state ++ leBytes 1 (b2n x.held + 2 * b2n x.repl) ++ leBytes 3 0 ++ leBytes 8 x.created

/-- Every map reference of a volume and of its snapshots ends (R200, R394). -/
def State.dropVolume (s : State) (vol : Nat) : State :=
  let s := s.media fun m => { m with
    units := m.units.filter (fun u => u.vol ≠ vol), snaps := m.snaps.filter (fun x => x.vol ≠ vol)
    lost := m.lost.filter (fun l => l.vol ≠ vol), rekeys := m.rekeys.filter (fun k => k.vol ≠ vol)
    written := m.written.filter (fun w => w.1 ≠ vol), lostVols := m.lostVols.filter (· ≠ vol) }
  let s := s.setDp fun d => { d with
    pages := d.pages.filter (fun x => x.vol ≠ vol), sweeps := d.sweeps.filter (fun x => x.1 ≠ vol) }
  ((s.dropGarbage.reindex s).storePages s).freeReclaimed

/-! ## Links and bindings -/

def State.rlink (s : State) (n : Nat) : Option RLink := s.dp.rlinks.find? (fun l => l.num = n)
def State.setRlink (s : State) (l : RLink) : State := s.setDp fun d => { d with
  rlinks := d.rlinks.map (fun x => if x.num = l.num then l else x) }

/-- A volume's binding in force. -/
def State.repl (s : State) (vol : Nat) : Option Repl :=
  if ((s.vol vol).map Vol.link).getD 0xFFFF = 0xFFFF then none else s.nv.media.repl.find? (fun b => b.vol = vol)
def State.setRepl (s : State) (b : Repl) : State := s.media fun m => { m with
  repl := m.repl.map (fun x => if x.vol = b.vol then b else x) }

/-- A volume's binding goes to the partner, which resumes it after a takeover (R406). -/
def State.shipRepl (s : State) (vol : Nat) : State :=
  match s.repl vol with
  | some b => s.ship 9 ([vol, b.link, b2n b.target, b.epochS, b.epoch, b.applied] ++ b.base.toList ++ [0] ++ b.snap.toList) []
  | none => s

/-- The running complex serves cuts and resumes (R408). -/
def State.complexRuns (s : State) : Bool := s.on CMD.STS.MC_RUN && !s.cmd.inReset

/-- Offsets of a landing region (R400); those within the control area are the model's (log entry 80). -/
def ctlFreed : Nat := 0
def ctlNotes : Nat := 64
def ctlCount : Nat := 1024
def ctlSize : Nat := 65536

/-- Slots of a region, and the address of one. -/
def regionSlots (mib log2 : Nat) : Nat := (mib * 2 ^ 20 - ctlSize) / 2 ^ log2
def slotAddr (base log2 i : Nat) : Nat := base + ctlSize + i * 2 ^ log2
def RLink.slots (l : RLink) : Nat := regionSlots l.mib l.slotLog2

/-- Slots the source may still fill: the target raises a counter in the control area for every slot it returns (R405). -/
def State.freeSlots (s : State) (l : RLink) : Nat :=
  match l.peer with
  | none => 0
  | some p =>
    let out := (l.used + 2 ^ 32 - leNat (s.vrm.land.reads (l.base + ctlFreed) 4)) % 2 ^ 32
    p.slots - out

/-- Write bytes into the far end's region as one transfer, ending with a FENCE write, or with a FENCE TRIGGER on the far
end's tag (R401): the transfer's number. -/
def State.replWrite (s : State) (l : RLink) (p : RPeer) (addr : Nat) (bytes : List Byte) (trig : Bool) : Nat × State :=
  let (x, s) := s.newXfer l.conn
  let cuts := cutBytes (((s.connBind l.conn).map ConnBind.pmtu).getD 1024) bytes
  let n := cuts.length + b2n trig
  let data := cuts.mapIdx (fun i c =>
    let last := decide (i + 1 = n)
    ({ op := 1, flags := xferFlags i n + (if last then 12 else 0), dconn := 0, xfer := x, xcnt := if last then n else 0,
       len := c.2.length, addr := addr + c.1, key := p.key, payload := c.2 } : VrmPkt))
  let t : List VrmPkt := if trig then [{ op := 4, flags := 14, dconn := 0, xfer := x, xcnt := n, kind := 3, tag := p.tag }] else []
  (x, s.vrmSend l.conn (data ++ t))

/-- A note to the far end about a volume's epoch: 1 APPLIED, 2 APPLY_FAIL (R401, R405). -/
def State.replNote (s : State) (l : RLink) (vol kind epoch : Nat) : State :=
  match l.peer with
  | none => s
  | some p =>
    let at_ := p.addr + ctlNotes + 8 * (l.notes % ctlCount)
    let s := (s.replWrite l p at_ (leBytes 2 vol ++ leBytes 1 kind ++ [0] ++ leBytes 4 epoch) true).2
    match s.rlink l.num with
    | some l => s.setRlink { l with notes := l.notes + 1 }
    | none => s

/-! ## Records (R402) -/

/-- One record. -/
def replRec (typ flags vol epoch xseq arg arg2 : Nat) (payload : List Byte) : List Byte :=
  let h := leBytes 1 typ ++ leBytes 1 flags ++ leBytes 2 vol ++ leBytes 4 payload.length ++ leBytes 4 epoch ++ leBytes 4 xseq ++
    leBytes 8 arg ++ leBytes 4 arg2
  h ++ leBytes 4 (crc32c (h ++ payload)) ++ payload

/-- A record as read. -/
structure RRec where
  typ : Nat
  flags : Nat
  vol : Nat
  epoch : Nat
  xseq : Nat
  arg : Nat
  arg2 : Nat
  payload : List Byte
  deriving DecidableEq, Repr, Inhabited

/-- The record at the front of some bytes, where its CRC holds. -/
def readRec (bs : List Byte) : Option RRec :=
  let len := fieldAt bs 4 4
  let pay := (bs.drop 32).take len
  let typ := fieldAt bs 0 1
  if bs.length < 32 ∨ pay.length ≠ len ∨ typ = 0 ∨ 4 < typ ∨ crc32c (bs.take 28 ++ pay) ≠ fieldAt bs 28 4 then none else
  some { typ := typ, flags := fieldAt bs 1 1, vol := fieldAt bs 2 2, epoch := fieldAt bs 8 4, xseq := fieldAt bs 12 4,
         arg := fieldAt bs 16 8, arg2 := fieldAt bs 24 4, payload := pay }

/-- The records of a transfer, back to back; none where one is bad. -/
def readRecs : Nat → List Byte → Option (List RRec)
  | 0, bs => if bs.isEmpty then some [] else none
  | n + 1, bs =>
    if bs.isEmpty then some [] else
    match readRec bs with
    | none => none
    | some r => (readRecs n (bs.drop (32 + r.payload.length))).map (r :: ·)

/-! ## The epoch's transfers (R401 to R404) -/

/-- Transfers being packed: those full, newest first; the open one; frames shipped, newest first. -/
structure Pack where
  full : List (List Byte) := []
  cur : List Byte := []
  frames : List Nat := []

/-- Put a record, given its transfer's number, into the open transfer, or into a new one where it does not fit. -/
def Pack.put (p : Pack) (slot : Nat) (r : Nat → List Byte) : Pack :=
  let b := r p.full.length
  if p.cur.length + b.length ≤ slot ∨ p.cur.isEmpty then { p with cur := p.cur ++ b }
  else let full := p.cur :: p.full; { p with full := full, cur := r full.length }

/-- A FRAME record's payload: the stored header with KEY_EPOCH and SERIAL zero, the body in clear, the digest if any. -/
def SFrame.shipped (f : SFrame) : List Byte :=
  ({ f with epoch := 0, serial := 0 } : SFrame).header ++ f.body ++ (f.digest.getD [])

/-- The place of a frame among those shipped. -/
def Pack.index (p : Pack) (serial : Nat) : Nat := p.frames.length - 1 - p.frames.findIdx (· = serial)

/-- Pack one unit: the frames its changed blocks name and that the epoch has not shipped yet, then the UNIT record; or a
DISCARD record. -/
def State.packUnit (s : State) (remote epoch slot : Nat) (old new : Option Version) (unit : Nat) (p : Pack) : Pack :=
  let ref := fun (v : Option Version) (i : Nat) => v.bind (fun x => (x.blocks.find? (fun b => b.1 = i)).map Prod.snd)
  match new with
  | none => p.put slot fun x => replRec 3 0 remote epoch x unit 0 []
  | some v =>
    if v.kind = 3 then p.put slot fun x => replRec 3 0 remote epoch x unit 0 [] else
    let same := fun (i : Nat) => match old with
      | some o => decide (o.kind ≠ 3) && decide (ref old i = ref new i)
      | none => false
    let changed := (List.range 1024).filter (fun i => !same i)
    let need := ((changed.filterMap (fun i => match ref new i with
      | some (.frame n _) => some n
      | _ => none)).eraseDups).filter (fun n => !p.frames.contains n)
    let p := need.foldl (fun (p : Pack) n => match s.frame n with
      | some f =>
        let k := p.frames.length
        let q := p.put slot fun x => replRec 1 (b2n f.digest.isSome) remote epoch x k 0 f.shipped
        { q with frames := n :: q.frames }
      | none => p) p
    let entry := fun (i : Nat) => if !changed.contains i then 0xFFFFFFFF else match ref new i with
      | some (.frame n b) => b * 2 ^ 28 + p.index n
      | some .discarded => 0xFFFFFFFE
      | none => 0xFFFFFFFD
    p.put slot fun x => replRec 2 0 remote epoch x unit 0 ((List.range 1024).flatMap (fun i => leBytes 4 (entry i)))

/-- Insert a unit by number. -/
def insertUnit : List MapUnit → MapUnit → List MapUnit
  | [], u => [u]
  | a :: r, u => if a.unit < u.unit then a :: insertUnit r u else u :: a :: r

/-- The units an epoch ships, ascending (R401, event 2): base is none for epoch 1. -/
def State.changedUnits (s : State) (vol : Nat) (base : Option Nat) (g : Nat) : List MapUnit :=
  let picked := fun (u : MapUnit) => match base with
    | some b => u.versions.any (fun v => genNewer v.gen b && !genNewer v.gen g)
    | none => match u.versionAt g with
      | some v => decide (v.kind ≠ 3)
      | none => false
  ((s.nv.media.units.filter (fun u => u.vol = vol)).filter picked).foldl insertUnit []

/-- The transfers of an epoch and the frames they hold; none where a block of it reads DATA_LOST (R404, R405). -/
def State.transfers (s : State) (b : Repl) (remote log2 : Nat) : Option (List (List Byte) × Nat) :=
  let gen := fun (n : Option Nat) => n.bind (fun k => (s.snap b.vol k).map Snap.gen)
  match gen b.snap with
  | none => none
  | some g =>
    let base := gen b.base
    let us := s.changedUnits b.vol base g
    let old := fun (u : MapUnit) => base.bind u.versionAt
    let lost := us.any (fun u => match u.versionAt g with
      | some v => v.blocks.any (fun x => (match x.2 with
          | .frame n _ => s.lostBlock b.vol (1024 * u.unit + x.1) (some g) (some v) n
          | .discarded => false) && decide (((old u).bind (fun o => (o.blocks.find? (fun y => y.1 = x.1)).map Prod.snd)) ≠ some x.2))
      | none => false)
    if lost then none else
    let p := us.foldl (fun (p : Pack) u => s.packUnit remote b.epoch (2 ^ log2) (old u) (u.versionAt g) u.unit p) {}
    some ((if p.cur.isEmpty then p.full else p.cur :: p.full).reverse, p.frames.length)

/-! ## The source -/

/-- A volume is STALLED (R405). -/
def State.stall (s : State) (b : Repl) : State :=
  (s.setRepl { b with state := 2 }).setB SNP.STS.STALLED

/-- APPLIED (N) or APPLY_FAIL arrives at the source (R401 event 7, R405). -/
def State.replApplied (s : State) (vol kind epoch : Nat) : State :=
  match s.repl vol with
  | none => s
  | some b =>
    if b.target ∨ b.epoch ≠ epoch ∨ epoch = 0 ∨ b.state = 3 then s
    else if kind = 2 then
      ((s.stall b).setB SNP.STS.APPLY_FAIL).record 0x1301 0 vol epoch []
    else
      let s := s.freeSnapshot vol b.base
      s.setRepl { b with
        base := b.snap, snap := none, applied := epoch, epoch := 0, baseCut := b.cutAt, appliedAt := s.aon, lagTold := false
        total := none, next := 0, sent := [], commitSent := false, state := 0 } |>.shipRepl vol

/-- Cut an epoch (R401, event 1); a cut that R257 refuses is tried again after EPOCH_S (R408). -/
def State.cutEpoch (s : State) (b : Repl) : State :=
  match s.shadow.vols.find? (fun v => v.num = b.vol), s.freeSnap b.vol with
  | some v, some n =>
    if s.genSweep v then s.setRepl { b with asked := false, appliedAt := s.aon } else
    (s.setRepl { b with
      asked := false, epoch := b.applied + 1, snap := some n, cutAt := s.dev, total := none, next := 0, sent := [], commitSent := false
      state := 0 }).shipRepl b.vol |>.newSnap v n true none
  | _, _ => s.setRepl { b with asked := false, appliedAt := s.aon }

/-- Every packet of a transfer has been ACKed (R180). -/
def State.xferAcked (s : State) (conn x : Nat) : Bool :=
  match s.conn conn with
  | none => false
  | some c => !(c.unacked.map Unacked.pkt ++ c.sendq).any (fun p => p.xfer = x && (p.op = 1 || p.op = 4))

/-- Ship what fits: the next transfers while slots are free, at most 256 open at once (R184), then the COMMIT once every one
is ACKed. -/
def State.shipNext (s : State) (b : Repl) (remote : Nat) (xs : List (List Byte) × Nat) : Nat → State
  | 0 => s
  | n + 1 =>
    match s.repl b.vol, s.rlink b.link with
    | some b, some l =>
      match l.peer with
      | none => s
      | some p =>
        let b := { b with sent := b.sent.filter (fun x => !s.xferAcked l.conn x) }
        let s := s.setRepl b
        if s.freeSlots l = 0 ∨ b.commitSent ∨ 256 ≤ b.sent.length then s else
        let addr := slotAddr p.addr p.slotLog2 (l.used % max 1 p.slots)
        let taken := { l with used := (l.used + 1) % 2 ^ 32 }
        match xs.1[b.next]? with
        | some bytes =>
          let (x, s) := (s.setRlink taken).replWrite l p addr bytes false
          (s.setRepl { b with next := b.next + 1, sent := b.sent ++ [x] }).shipNext b remote xs n
        | none =>
          if b.sent.isEmpty then
            let r := replRec 4 0 remote b.epoch xs.1.length xs.1.length xs.2 []
            let (_, s) := (s.setRlink taken).replWrite l p addr r true
            s.setRepl { b with commitSent := true }
          else s
    | _, _ => s

/-- The DATA keys of the frames that an epoch ships, which the cluster of the link's connection deciphers (R403). -/
def State.shipKeys (s : State) (b : Repl) : List (Nat × Nat × Nat × Nat) :=
  let gen := fun (n : Option Nat) => n.bind (fun k => (s.snap b.vol k).map Snap.gen)
  match gen b.snap with
  | none => []
  | some g => ((s.changedUnits b.vol (gen b.base) g).flatMap (fun u => match u.versionAt g with
      | some v => v.blocks.filterMap (fun x => match x.2 with
        | .frame n _ => (s.frame n).map (fun f => (1, f.vol, f.epoch, 0))
        | .discarded => none)
      | none => [])).eraseDups

/-- One source binding goes on: a cut that is asked for, the scan once the snapshot is READY, shipping. -/
def State.shipVol (s : State) (b : Repl) : State :=
  match s.vol b.vol, s.rlink b.link with
  | some v, some l =>
    if b.target ∨ ¬ s.serves v ∨ s.halted ∨ b.state ≠ 0 then s
    else if b.asked ∧ b.epoch = 0 ∧ ¬ s.on SYS.EPOCH_STS.PEND ∧ s.complexRuns then s.cutEpoch b
    else
      let ready := ((b.snap.bind (s.snap b.vol)).map Snap.state).getD 0 = 2
      match l.peer with
      | none => s
      | some p =>
        if b.epoch = 0 ∨ b.commitSent ∨ ¬ ready ∨ l.state ≠ 3 then s else
        match s.transfers b v.remote p.slotLog2 with
        | none => s.stall b
        | some xs =>
          let cl := ((s.connBind l.conn).map ConnBind.cluster).getD 0
          let s := s.setRepl { b with total := some xs.1.length }
          s.withKeys cl (s.shipKeys b) fun s => s.shipNext b v.remote xs (xs.1.length + 1)
  | _, _ => s

/-! ## The target -/

/-- Return slot i (R405): the counter in the source's control area rises as far as slots are free in ring order. -/
def State.freeSlot (s : State) (num i : Nat) : State :=
  match s.rlink num with
  | none => s
  | some l =>
    let ahead := i :: l.ahead
    let n := ((List.range (ahead.length)).takeWhile (fun k => ahead.contains ((l.freed + k) % max 1 l.slots))).length
    let got := (List.range n).map (fun k => (l.freed + k) % max 1 l.slots)
    let s := s.setRlink { l with freed := l.freed + n, ahead := ahead.filter (fun x => !got.contains x) }
    match l.peer, n with
    | some p, _ + 1 => (s.replWrite l p (p.addr + ctlFreed) (leBytes 4 ((l.freed + n) % 2 ^ 32)) false).2
    | _, _ => s

/-- A transfer's records enter the write cache of the head that serves the volume; the partner's are handed on (R406). -/
def State.stage (s : State) (r : RRec) (bytes : List Byte) : State :=
  match s.vol r.vol with
  | none => s
  | some v =>
    if ¬ s.serves v then
      -- A message carries at most 65,536 bytes (R413).
      (cutBytes 61440 bytes).foldl (fun (s : State) x =>
        s.sendNrn 8 2 [r.vol, r.epoch, r.xseq, b2n (decide (bytes.length ≤ x.1 + 61440))] x.2) s
    else
    match s.repl r.vol with
    | none => s
    | some b =>
      if ¬ b.target ∨ r.epoch ≠ b.applied + 1 ∨ b.job.isSome then s else
      let t : Staged := { vol := r.vol, epoch := r.epoch, xseq := r.xseq, recs := bytes, at_ := s.aon }
      (s.setRepl { b with state := 0 }).media fun m => { m with
        staged := t :: m.staged.filter (fun x => ¬ (x.vol = r.vol ∧ (x.epoch ≠ r.epoch ∨ x.xseq = r.xseq))) }

/-- A transfer of data is complete in slot i: its records are staged once the write cache takes them (R405). -/
def State.takeLanding (s : State) (l : RLink) (i len : Nat) : State :=
  if ¬ s.admitsDirty then
    (match s.rlink l.num with
      | some l => if l.waits.contains (i, len) then s else s.setRlink { l with waits := l.waits ++ [(i, len)] }
      | none => s)
  else
    let bytes := s.vrm.land.reads (slotAddr l.base l.slotLog2 i) len
    let s := match readRec bytes with
      | some r => if r.typ = 4 then s else s.stage r bytes
      | none => s
    let s := match s.rlink l.num with
      | some l => s.setRlink { l with waits := l.waits.filter (fun w => w ≠ (i, len)) }
      | none => s
    s.freeSlot l.num i

/-- A FENCE write has been placed: in a landing slot it ends a transfer of data (R401, R405). -/
def State.slotPlaced (s : State) (conn addr len : Nat) : State :=
  match s.dp.rlinks.find? (fun l => l.target && l.conn = conn && decide (l.base + ctlSize ≤ addr) &&
      decide (addr + len ≤ slotAddr l.base l.slotLog2 l.slots)) with
  | none => s
  | some l =>
    let i := (addr - (l.base + ctlSize)) / 2 ^ l.slotLog2
    s.takeLanding l i (addr + len - slotAddr l.base l.slotLog2 i)

/-- A COMMIT for a volume: the apply job starts, here or at the partner that serves the volume (R401 event 5, R406). -/
def State.takeCommit (s : State) (vol epoch total frames : Nat) (handed : Bool) : State :=
  match s.vol vol with
  | none => s
  | some v =>
    if ¬ s.serves v then s.sendNrn 8 3 [vol, epoch, total, frames] [] else
    match s.repl vol with
    | none => s
    | some b => if ¬ b.target ∨ epoch ≠ b.applied + 1 then s
      else s.setRepl { b with commit := some (epoch, total, frames), handed := handed, state := 0 }

/-- A counted TRIGGER on a link's tag: at the target the COMMIT records that have landed, at the source the notes in its
control area (R401 events 5 and 7). -/
def State.linkTrigger (s : State) (tag : Nat) : State :=
  match s.dp.rlinks.find? (fun l => l.tag = tag) with
  | none => s
  | some l =>
    if l.target then
      (List.range l.slots).foldl (fun (s : State) i =>
        let a := slotAddr l.base l.slotLog2 i
        match readRec (s.vrm.land.reads a 32) with
        | some r =>
          if r.typ ≠ 4 then s else
          let s := { s with vrm := { s.vrm with land := s.vrm.land.writes a (List.replicate 32 0) } }
          (s.takeCommit r.vol r.epoch r.arg r.arg2 false).freeSlot l.num i
        | none => s) s
    else
      (List.range ctlCount).foldl (fun (s : State) i =>
        let a := l.base + ctlNotes + 8 * i
        let bs := s.vrm.land.reads a 8
        if fieldAt bs 2 1 = 0 then s else
        let s := { s with vrm := { s.vrm with land := s.vrm.land.writes a (List.replicate 8 0) } }
        s.replApplied (fieldAt bs 0 2) (fieldAt bs 2 1) (fieldAt bs 4 4)) s

/-- A FRAME record as a frame of the replica: under its own key epoch, with its own serial (R403). -/
def State.takeFrame (s : State) (v : Vol) (r : RRec) : SFrame × State :=
  let h := r.payload
  let nb := fieldAt h 4 1
  let pay := (h.drop (32 + 4 * nb)).take (fieldAt h 12 4 - 4 * nb)
  let raw := bitAt (fieldAt h 3 1) 0
  let (n, s) := s.nextSerial
  ({ serial := n, vol := v.num, epoch := v.keyEpoch, raw := raw, payLen := pay.length,
     data := if raw then pay else Config.uncoded pay nb,
     digest := if bitAt r.flags 0 then some (slice h (h.length - 32) 32) else none,
     created := s.dev }, s)

/-- Frames of an epoch as they come: index and serial, new frames, duplicates (R198, R403). -/
def State.takeFrames (s : State) (v : Vol) : List RRec → List (Nat × Nat) × List SFrame × List Nat × State
  | [] => ([], [], [], s)
  | r :: rest =>
    if r.typ ≠ 1 then s.takeFrames v rest else
    let (f, s) := s.takeFrame v r
    let dup := f.digest.bind (fun d => s.findDup v.num v.keyEpoch d)
    let (ix, fs, ds, s) := s.takeFrames v rest
    match dup with
    | some g => ((r.arg, g.serial) :: ix, fs, g.serial :: ds, s)
    | none => ((r.arg, f.serial) :: ix, f :: fs, ds, s)

/-- Block changes of a UNIT or DISCARD record; none where it names a frame that has not come. -/
def recBlocks (ix : List (Nat × Nat)) (r : RRec) : Option (List (Nat × BlkRef)) :=
  if r.typ = 3 then some ((List.range 1024).map (fun i => (1024 * r.arg + i, BlkRef.discarded)))
  else if r.typ ≠ 2 then some []
  else (List.range 1024).foldlM (fun (acc : List (Nat × BlkRef)) i =>
    let e := fieldAt r.payload (4 * i) 4
    if e = 0xFFFFFFFF ∨ e = 0xFFFFFFFD then some acc
    else if e = 0xFFFFFFFE then some (acc ++ [(1024 * r.arg + i, BlkRef.discarded)])
    else (fldFind ix (e % 2 ^ 28)).map (fun n => acc ++ [(1024 * r.arg + i, BlkRef.frame n (e / 2 ^ 28))])) []

/-- Start the apply job of a volume whose COMMIT has come and whose transfers are all staged (R401, R403, R404). -/
def State.startApply (s : State) (b : Repl) : State :=
  match s.vol b.vol, b.commit with
  | some v, some (e, total, frames) =>
    let parts := (List.range total).map (fun k => s.nv.media.staged.find? (fun x => x.vol = b.vol ∧ x.epoch = e ∧ x.xseq = k))
    if ¬ b.target ∨ b.job.isSome ∨ e ≠ b.applied + 1 ∨ s.halted ∨ ¬ s.serves v ∨ ¬ parts.all Option.isSome then s else
    let recs := parts.mapM (fun x => x.bind (fun t => readRecs t.recs.length t.recs))
    match recs with
    | none => s.setRepl { b with job := some (0, true) }
    | some rs =>
      let rs := rs.flatten
      let idx := rs.any (fun r => decide (r.typ = 1) && bitAt r.flags 0)
      let keys := (if rs.any (fun r => r.typ = 1) then [(1, v.num, v.keyEpoch, 0)] else []) ++ (if idx then [(2, v.num, v.keyEpoch, 0)] else [])
      s.withKeys (s.keyCluster v.num) keys fun s =>
      let (ix, fs, ds, s') := s.takeFrames v rs
      let blocks := rs.mapM (recBlocks ix)
      let bad := decide (ix.length ≠ frames) || rs.any (fun r => decide (r.typ = 2 ∨ r.typ = 3) && decide (v.size ≤ r.arg))
      match blocks with
      | some bs =>
        if bad then s.setRepl { b with job := some (0, true) } else
        let id := s'.dp.nextWrite
        (s'.addJob { id := 0, kind := .apply, qpid := 0, cid := 0, vol := v.num, epoch := s.get SYS.EPOCH_NUM.NUM, vgen := v.vgen,
                     gset := v.gset, frames := fs, dups := ds, blocks := bs.flatten, completed := true, through := true,
                     at_ := s.aon }).setRepl { b with job := some (id, false) }
      | none => s.setRepl { b with job := some (0, true) }
  | _, _ => s

/-! ## HELLO (R406) -/

/-- Transfers of a volume's next epoch that are staged without a gap from transfer 0 (R406). -/
def State.stagedRun (s : State) (b : Repl) : Nat :=
  let here := fun (k : Nat) => s.nv.media.staged.any (fun t => t.vol = b.vol && t.epoch = b.applied + 1 && t.xseq = k)
  ((List.range (s.nv.media.staged.length)).takeWhile here).length

/-- Send HELLO, or answer one (R406). -/
def State.sendReplHello (s : State) (l : RLink) (answer : Bool) : State :=
  let vols := (s.act.vols.filter (fun v => v.link = l.num)).filterMap (fun v =>
    (s.repl v.num).map (fun b => (v.remote, b.applied, if b.target then s.stagedRun b else 0)))
  s.emit (.replHello l.num l.target answer s.nv.serial (s.get SYS.ID.VARIANT) vols)

/-- A link starts anew over its connection: empty slots, counters at 0, and HELLO (R400, R406). -/
def State.startLink (s : State) (l : RLink) : State :=
  let l := { l with state := 2, used := 0, freed := 0, ahead := [], waits := [], notes := 0, heard := [] }
  let s := { s with vrm := { s.vrm with land := s.vrm.land.writes l.base (List.replicate (ctlNotes + 8 * ctlCount) 0) } }
  (s.setRlink l).sendReplHello l false

/-- What the source does with one volume of a HELLO: A and P, where the target reports it (R406). -/
def State.resumeVol (s : State) (b : Repl) (report : Option (Nat × Nat)) : State :=
  let n := if b.epoch = 0 then b.applied else b.epoch
  match report with
  | some (a, got) =>
    if a = n then (if b.epoch = 0 then s else s.replApplied b.vol 1 n)
    else if b.epoch ≠ 0 ∧ a + 1 = n then s.setRepl { b with next := got, sent := [], commitSent := false }
    else (s.setRepl { b with state := 3 }).setB SNP.STS.REFUSED
  | none => (s.setRepl { b with state := 3 }).setB SNP.STS.REFUSED

/-- A HELLO is served: the link comes UP, a HELLO that is no answer is answered; the source resumes, resends or refuses, and the
target refuses a volume that it no longer has (R407). -/
def State.takeReplHello (s : State) (l : RLink) (h : ReplHello) : State :=
  if h.target = l.target then (s.setRlink { l with state := 5, heard := [] }).setB SNP.STS.REFUSED
  else
    let s := s.setRlink { l with state := 3, heard := [] }
    let s := s.iff (!h.answer) (·.sendReplHello l true)
    let mine := s.nv.media.repl.filter (fun b => b.link = l.num && (s.repl b.vol).isSome)
    if l.target then
      s.iff (h.vols.any (fun x => !mine.any (fun b => b.vol = x.1 && b.target))) (·.setB SNP.STS.REFUSED)
    else mine.foldl (fun (s : State) b => if b.target ∨ b.state = 3 then s else
      s.resumeVol b ((h.vols.find? (fun x => x.1 = b.vol)).map Prod.snd)) s

/-- HELLOs that were heard are served while the firmware runs (R408). -/
def State.serveHellos (s : State) : State :=
  if ¬ s.complexRuns then s else
  s.dp.rlinks.foldl (fun (s : State) l => l.heard.foldl (fun (s : State) h => match s.rlink l.num with
    | some l => s.takeReplHello l h
    | none => s) s) s

/-- After a takeover or a move of volumes, links with bound volumes start over with HELLO, so that the new owning head resumes them
under R406. -/
def State.renewLinks (s : State) : State :=
  (s.dp.rlinks.filter (fun l => l.state = 3 && s.nv.media.repl.any (fun b => b.link = l.num))).foldl
    (fun (s : State) l => (s.setRlink { l with state := 2 }).sendReplHello l false) s

/-! ## Live status and progress -/

/-- A link goes DOWN: slots whose records have not entered the write cache are discarded (R406). -/
def State.replLinkDown (s : State) (l : RLink) : State :=
  let s := s.setRlink { l with state := 1, waits := [], ahead := [] }
  (s.media fun m => { m with repl := m.repl.map (fun b => if b.link = l.num then { b with sent := [], commitSent := false } else b) }).setB
    SNP.STS.LINK_DOWN

/-- Links whose connection is not OPEN any more go DOWN (R406). -/
def State.checkLinks (s : State) : State :=
  s.dp.rlinks.foldl (fun (s : State) l =>
    if l.state ≠ 1 ∧ ((s.conn l.conn).map Conn.state).getD 0 ≠ 2 then s.replLinkDown l else s) s

/-- Show a link (Table "Volumes, Snapshots and Replication" 11). -/
def State.showLink (s : State) (l : RLink) : State :=
  let bound := (s.act.vols.filter (fun v => v.link = l.num)).length
  let stalled := s.nv.media.repl.any (fun b => b.link = l.num && b.state = 2)
  let s := s.put (SNP.LINKl_STS.STATE l.num) (if l.state = 3 ∧ stalled then 4 else l.state)
  let s := (s.put (SNP.LINKl_STS.ROLE l.num) (b2n l.target)).put (SNP.LINKl_STS.VOLUMES l.num) (min 255 bound)
  s.put (SNP.LINKl_STS.SLOTS_FREE l.num) (min 65535 (if l.target then l.slots - l.waits.length else s.freeSlots l))

/-- A rekey sweep goes on (R216, R226): while the complex runs, every frame of the volume under an older key is enciphered again,
and every index page under the new META key; it is found again in the map after any reset. A lost frame has nothing to
encipher. -/
def State.sweepRekey (s : State) (k : Rekey) : State :=
  match s.vol k.vol with
  | none => s
  | some v =>
    if k.ended ∨ s.halted ∨ ¬ s.complexRuns ∨ ¬ s.serves v then s else
    let fs := s.nv.media.frames.filter (fun f => f.vol = k.vol && decide (f.epoch < k.epoch) && !s.frameLost f &&
      !s.dp.writes.any (fun w => w.kind = .reloc f.serial))
    let ps := s.nv.media.ipages.filter (fun p => p.vol = k.vol && decide (p.epoch < k.epoch))
    if fs.isEmpty && ps.isEmpty then s else
    let keys := fs.map (fun f => (1, k.vol, f.epoch, 0)) ++ (if fs.isEmpty then [] else [(1, k.vol, v.keyEpoch, 0)]) ++
      ps.map (fun p => (2, k.vol, p.epoch, 0)) ++ (if ps.isEmpty then [] else [(2, k.vol, v.keyEpoch, 0)])
    let cl := s.keyCluster k.vol
    s.withKeys cl keys fun s =>
      let s := fs.foldl (fun (s : State) f => (s.relocate f true false).masked cl f.body.length) s
      (ps.foldl (fun (s : State) p => (s.rewritePage p.num).masked cl 4096) s).storePages s

/-- Rekey sweeps of every volume go on. -/
def State.serveRekeys (s : State) : State := s.nv.media.rekeys.foldl State.sweepRekey s

/-- Replication goes on as far as it can. -/
def State.serveRepl (s : State) : State :=
  let s := s.checkLinks.serveHellos
  let s := s.dp.rlinks.foldl (fun (s : State) l => l.waits.foldl (fun (s : State) w => s.takeLanding l w.1 w.2) s) s
  let s := s.nv.media.repl.foldl (fun (s : State) b =>
    match s.repl b.vol with
    | some b => (s.shipVol b).startApply b
    | none => s) s
  s.dp.rlinks.foldl State.showLink s

/-! ## Clearing a zone (R378, R386) -/

/-- The blocks of a zone on a module's in-service dies: die, plane mask and block number. -/
def Module.zoneBlocks (m : Module) (zone : Nat) : List (Nat × Nat × Nat) :=
  (List.range m.dieMap.length).flatMap (fun d =>
    let die := m.dieAt zone d
    let bs := (List.range m.ident.planes).map (fun p => (p, m.blockAt die p zone))
    ((bs.map Prod.snd).eraseDups).map (fun n => (die, ((bs.filter (fun x => x.2 = n)).map (fun x => 2 ^ x.1)).sum, n)))

/-- Erase a zone of a member, whose blocks this head's port takes first (R240), or reset it (R378, R386). -/
def State.clearZone (s : State) (code zone : Nat) : State :=
  if memberIsModule code then
    match s.module (memberNo code) with
    | some m =>
      let force := b2n (s.get NRN.PAIR_STS.ROLE = roleSurvivor)
      let s := (((m.zoneBlocks zone).map (fun x => x.2.2)).eraseDups).foldl (fun (s : State) n =>
        s.sendBridge (memberNo code) 5 [n, force] [] .other) s
      (m.zoneBlocks zone).foldl (fun (s : State) x =>
        s.sendBridge (memberNo code) 3 [x.1, x.2.1, x.2.2] [] .other) s
    | none => s
  else match s.hdaMedia (memberNo code) with
    | some m => s.setHdaMedia { m with
        wptr := fldSet m.wptr zone 0 0, pass := fldSet m.pass zone (((fldFind m.pass zone).getD 0 + 1) % 2 ^ 24) 0 }
    | none => s

end Sys2Proof.Machine
end

