-- ==== Sys2Proof/Machine/MemOps.lean ====
section
/-! DEFINITION. DRAM, on-chip banks and the metadata cache: quadrants that go out of service, banks and their repair, and the
slices (spec/15). -/

namespace Sys2Proof.Machine

def State.setMem (s : State) (f : Mem → Mem) : State := { s with mem := f s.mem }
def State.chan (s : State) (c : Nat) : Chan := s.mem.chans.getD c {}
def State.setChan (s : State) (c : Nat) (x : Chan) : State := s.setMem fun m => { m with chans := m.chans.set c x }
def State.bank (s : State) (i : Nat) : Bank := s.mem.banks.getD i {}
def State.setBank (s : State) (i : Nat) (x : Bank) : State := s.setMem fun m => { m with banks := m.banks.set i x }

/-! ## A quadrant out of service (R440, R449) -/

/-- The quadrant's DRAM or a bank has failed: its ports, flash links and strings go idle. -/
def State.quadDown (s : State) (q cause : Nat) : State :=
  if s.bit SYS.START_STS.Q_DOWN q then s else
  let s := (s.putBit SYS.START_STS.Q_DOWN q true).record 0x1503 0 q cause (leBytes 4 (s.word (0x130020 + 4 * q)))
  let s := [2 * q, 2 * q + 1].foldl (fun (s : State) p => s.put (VRM.PORTp_STS.UP p) 0) s
  let s := ((List.range 12).map (12 * q + ·)).foldl State.linkDown s
  ((List.range 24).map (24 * q + ·)).foldl State.stringDown s

/-! ## DRAM (R437 to R440) -/

/-- TYPE and the highest rate of a supported population (Table "DRAM, On-Chip Banks and the Metadata Cache" 1). -/
def dimmType (d : Dimm) : Option (Nat × Nat) :=
  if ¬ d.x4 ∨ ¬ d.ecc ∨ ¬ [16, 24, 32].contains d.density then none
  else if d.kind = 2 ∧ d.dimms = 1 then some (3, 8800)
  else if d.kind = 1 ∧ d.dimms = 1 then some (1, 6400)
  else if d.kind = 1 ∧ d.dimms = 2 then some (2, 5200)
  else none

/-- Two channels are populated alike. -/
def dimmAlike (a b : Dimm) : Bool := a.kind = b.kind && a.dimms = b.dimms && a.gib = b.gib && a.ranks = b.ranks

/-- Every channel has been trained, or has failed, since the reset. -/
def State.ddrTrained (s : State) : Bool := s.mem.chans.all Chan.tried

/-! ## Banks (R448 to R452) -/

/-- Columns of a bank that fuses have replaced. -/
def State.colsUsed (s : State) (i : Nat) : Nat := (fldFind s.nv.bankFuses i).getD 0

/-- Spares left of 8: columns entered for repair count as used (R452). -/
def State.sparesLeft (s : State) (i : Nat) : Nat :=
  if (s.bank i).bgt then 8 - (s.bank i).spared.length
  else 8 - (s.colsUsed i + (s.nv.bankPend.filter (fun x => x.1 = i)).length)

/-- MEM_REPAIR_Qn shows the modes in force. -/
def State.showBanks (s : State) : State :=
  [0, 1, 2, 3].foldl (fun (s : State) q =>
    let w := ((List.range 48).map (fun b => if (s.bank (48 * q + b)).bgt then 2 ^ b else 0)).sum
    (s.put (MEM.REPAIR_Qn_LO.BGT q) (w % 2 ^ 32)).put (MEM.REPAIR_Qn_HI.BGT q) (w / 2 ^ 32)) s

/-- The selection of a bank for the next cold reset: the settings block's, else the default (R448). -/
def State.bankMode (s : State) (i : Nat) : Bool :=
  match s.setting [0x0004, 0] with
  | some ws => bitAt (ws.getD (i / 48) 0) (i % 48)
  | none => i % 48 ≠ 47

/-- The tests of a cold reset (R449): columns found failing and columns entered for repair are replaced from the spares; a
bank that lacks them is out of service. The banks of the spine come back as true where one of them is. -/
def State.testBanks (s : State) (bad : List (Nat × Nat × Nat)) : State × Bool :=
  let s := s.setMem fun m => { m with tested := true, banks := (List.range 192).map (fun i => { bgt := s.bankMode i }) }
  let s := s.showBanks
  let due := fun (i : Nat) => ((bad.filter (fun x => 48 * x.1 + x.2.1 = i)).map (fun x => x.2.2)).sum +
    (s.nv.bankPend.filter (fun x => x.1 = i)).length
  let run := (List.range 192).filter (fun i => (!(s.bank i).bgt || s.nv.bistOnce.contains i) && decide (0 < due i))
  let excess := run.filter (fun i => 8 < s.colsUsed i + due i)
  let fuses := run.foldl (fun (l : List (Nat × Nat)) i => fldSet l i (min 8 (s.colsUsed i + due i)) 0) s.nv.bankFuses
  let s := { s with nv := { s.nv with bankFuses := fuses, bistOnce := []
                                      bankPend := s.nv.bankPend.filter (fun x => ! run.contains x.1) } }
  let s := ((excess.filter (fun i => i % 48 < 45)).map (· / 48)).foldl (fun (s : State) q => s.quadDown q 2) s
  (s, excess.any (fun i => decide (45 ≤ i % 48)))

/-! ## The metadata cache (R453 to R458) -/

def State.mcc (s : State) (q : Nat) : Slice := s.mem.slices.getD q {}
def State.setMcc (s : State) (q : Nat) (x : Slice) : State := s.setMem fun m => { m with slices := m.slices.set q x }

/-- The set of a line address, which is its tag (R454). -/
def mccSet (line : Nat) : Nat := (line % 4096) ^^^ (line / 4096 % 4096) ^^^ (line / 2 ^ 24 % 256)

/-- The way that holds a line. -/
def Slice.find (x : Slice) (line : Nat) : Option MccLine := x.lines.find? (fun l => l.addr = line)

/-- The tree of a set. -/
def Slice.tree (x : Slice) (set : Nat) : Nat := (fldFind x.trees set).getD 0

/-- The victim way of a set (R455). -/
def Slice.victim (x : Slice) (set : Nat) : Nat :=
  let used := (x.lines.filter (fun l => l.set = set)).map MccLine.way
  match (List.range 16).find? (fun w => ¬ used.contains w) with
  | some w => w
  | none =>
    let t := x.tree set
    let k := [0, 1, 2, 3].foldl (fun k _ => if bitAt t k then 2 * k + 2 else 2 * k + 1) 0
    k - 15

/-- Point the tree away from a way, from the root down. -/
def touchTree (t w : Nat) : Nat :=
  ([3, 2, 1, 0].foldl (fun (a : Nat × Nat) level =>
    let side := w / 2 ^ level % 2
    let cleared := a.1 - (a.1 &&& 2 ^ a.2)
    (if side = 0 then cleared + 2 ^ a.2 else cleared, 2 * a.2 + 1 + side)) (t, 0)).1

/-- Every hit and every fill touches the tree. -/
def Slice.touch (x : Slice) (set w : Nat) : Slice := { x with trees := fldSet x.trees set (touchTree (x.tree set) w) 0 }

/-- A slice's state. -/
def State.mccDraining (s : State) (q : Nat) : Bool := s.bit MCC.STS.DRAINING q
def State.mccDisabled (s : State) (q : Nat) : Bool := s.bit MCC.STS.DISABLED q

/-- A line address lies in usable memory, in a cached granule. -/
def State.mccCached (s : State) (q line : Nat) : Bool :=
  decide (line / 2 ^ 23 < s.get (MEM.Qn_STS.USABLE_GIB q)) && Config.granuleCached q (line / 2 ^ 23)

/-- A victim leaves its way: a dirty one is written to DRAM, a prefetched one never used is wasted. -/
def State.mccEvict (s : State) (q set way : Nat) : State :=
  let x := s.mcc q
  match x.lines.find? (fun l => l.set = set ∧ l.way = way) with
  | none => s
  | some l =>
    let s := if l.dirty then s.count (MCC.Qn_WB.COUNT q) 1 else s
    let s := if l.pf then s.count (MCC.Qn_PF.WASTE q) 1 else s
    s.setMcc q { x with lines := x.lines.filter (· ≠ l) }

/-- A fill of the victim way. -/
def State.mccFill (s : State) (q line : Nat) (dirty pf : Bool) : State :=
  let set := mccSet line
  let w := (s.mcc q).victim set
  let s := s.mccEvict q set w
  let x := s.mcc q
  s.setMcc q ({ x with lines := { set := set, way := w, addr := line, dirty := dirty, pf := pf } :: x.lines }.touch set w)

/-- A prefetch, unless R457 drops it. -/
def State.mccPrefetch (s : State) (q line : Nat) : State :=
  let x := s.mcc q
  let set := mccSet line
  let w := x.victim set
  let dirty := x.lines.any (fun l => l.set = set && l.way = w && l.dirty)
  if (x.find line).isSome ∨ ¬ s.mccCached q line ∨ dirty then s else s.mccFill q line false true

/-- A stream's tracker after an access, and the lines it prefetches (R457). -/
def Tracker.next (t : Tracker) (line depth : Nat) : Tracker × List Int :=
  let a := Int.ofNat line
  let d := a - t.last
  let t := if d ≠ 0 ∧ d = t.stride ∧ d.natAbs ≤ 2 ^ 16 then { t with conf := min 3 (t.conf + 1) } else { t with stride := d, conf := 0 }
  let t := { t with last := a }
  (t, if 2 ≤ t.conf then (List.range depth).map (fun k => a + (Int.ofNat k + 1) * t.stride) else [])

/-- A demand access of a stream to a line of a cached granule (R456 to R458): every write allocates, with or without a fetch first. -/
def State.mccAccess (s : State) (q stream line : Nat) (write : Bool) : State :=
  if s.mccDisabled q ∨ ¬ s.mccCached q line then s else
  let drain := s.mccDraining q
  let x := s.mcc q
  let s := match x.find line with
    | some l =>
      let s := s.count (MCC.Qn_HIT.COUNT q) 1
      let s := if l.pf then s.count (MCC.Qn_PF.USED q) 1 else s
      let l' := { l with pf := false, dirty := if write then !drain else l.dirty }
      s.setMcc q ({ x with lines := x.lines.map (fun y => if y = l then l' else y) }.touch l.set l.way)
    | none =>
      let s := s.count (MCC.Qn_MISS.COUNT q) 1
      if drain then s else s.mccFill q line write false
  let x := s.mcc q
  let (t, ahead) := (x.trackers.getD stream {}).next line (max 1 (s.get MCC.CTL.PF_DEPTH))
  let s := s.setMcc q { x with trackers := x.trackers.set stream t }
  if drain ∨ ¬ s.bit MCC.CTL.PF_EN q then s else
  ahead.foldl (fun (s : State) a => if 0 ≤ a ∧ a < 2 ^ 32 then s.mccPrefetch q a.toNat else s) s

/-- A map walker of a cluster reads or changes a map page: the addresses it touches are free. -/
def State.walk (s : State) (cluster : Nat) (write : Bool) : State :=
  let (a, s) := s.draw
  s.mccAccess (cluster / 8 % 4) (cluster % 32) (a % 2 ^ 32) write

end Sys2Proof.Machine
end

