-- ==== Sys2Proof/Machine/UpdOps.lean ====
section
/-! DEFINITION. Firmware update that other commands reach: versions of components, FW_STAGE, an activation's events and how
one ends (spec/18). -/

namespace Sys2Proof.Machine

/-- Bytes of an image's body: the newest run that covers each offset; one never placed is a free value. -/
def Image.bytes (im : Image) (off n : Nat) : List Byte :=
  (List.range n).map (fun i => match im.body.find? (fun r => r.1 ≤ off + i && off + i < r.1 + r.2.length) with
    | some r => r.2.getD (off + i - r.1) 0
    | none => BitVec.ofNat 8 (Config.freeValue (off + i)))

/-- The digest in the vendor image-key slot that a header names, where it is set and not revoked (R491). -/
def State.imageSlot (s : State) (h : List Byte) : Option (List Byte) :=
  match s.nv.imageKeys[fieldAt h 5 1]? with
  | some (some dig, false) => some dig
  | _ => none

/-- A header's signature verifies under a key. -/
def signed (h key : List Byte) : Bool := Config.ecdsaP384 key (slice h 0 3968) (slice h 3968 96)

/-- The signing key at the start of the body, x‖y, has the digest of the header's slot, and the signature verifies under it
(R491, R525). -/
def State.bodyKeyGood (s : State) (im : Image) : Bool :=
  let key := im.bytes 0 96
  match s.imageSlot im.header with
  | some dig => decide (Config.sha 384 key = dig) && signed im.header key
  | none => false

/-- Major of a packed version (R491). -/
def majorOf (v : Nat) : Nat := v / 2 ^ 24

def State.setUpd (s : State) (f : Upd → Upd) : State := { s with upd := f s.upd }

/-- UPD_STS.STATE. -/
def State.updState (s : State) : Nat := s.get UPD.STS.STATE

/-- Change STATE. -/
def State.updTo (s : State) (st : Nat) : State := (s.put UPD.STS.STATE st).setUpd fun u => { u with since := s.aon }

/-- UPD_FLOOR: the highest version fused, 0 on E and P (R495). -/
def State.updFloor (s : State) : Nat := if s.nv.variant = 3 then s.nv.fuses.foldl max 0 else 0

/-- Versions and fuses into the UPD registers. -/
def State.showFuses (s : State) : State :=
  ((s.put UPD.RUN_VER.VER s.nv.image.version).put UPD.FLOOR.VER s.updFloor).put UPD.STS.FUSE_FULL (b2n (decide (255 ≤ s.nv.fuses.length)))

/-- The version is one the floor accepts (R493, R495). -/
def State.floorAccepts (s : State) (v : Nat) : Bool :=
  s.nv.variant ≠ 3 || (if 255 ≤ s.nv.fuses.length then decide (v = s.updFloor) else decide (s.updFloor ≤ v))

/-! ## Components outside the head (R496 to R501) -/

/-- KIND of a component's firmware: 3 for a bridge, 4 for a carrier. -/
def compKind (c : Nat) : Nat := if c < 0x200 then 3 else 4

/-- The entry of an image's manifest for a component. -/
def Image.entry (im : Image) (c : Nat) : Option Comp := im.comps.find? (fun x => x.kind = compKind c)

/-- The component is present on this head's port: a module known by a record, or a carrier that has been read. -/
def State.compPresent (s : State) (c : Nat) : Bool :=
  if c < 0x200 then (s.module (c - 0x100)).isSome else (s.str (c - 0x200)).ident.isSome

/-- Its link or string is UP. -/
def State.compUp (s : State) (c : Nat) : Bool :=
  if c < 0x200 then s.linkUp (c - 0x100) else decide (s.get (STR.STRING_STS.STATE (c - 0x200)) = 2)

/-- UP on this head's port and unfenced (R498). -/
def State.compReady (s : State) (c : Nat) : Bool :=
  s.compUp c && (0x200 ≤ c || !s.on (FLK.LINKk_STS.FENCED (c - 0x100)))

/-- Every present component: modules in link order, then carriers in string order. -/
def State.allComps (s : State) : List Nat :=
  ((List.range 48).map (0x100 + ·) ++ (List.range 96).map (0x200 + ·)).filter s.compPresent

/-- Running version of a component, as it last told. -/
def State.compVer (s : State) (c : Nat) : Option Nat := (s.upd.vers.find? (fun x => x.1 = c)).map Prod.snd

def State.setCompVer (s : State) (c v : Nat) : State :=
  s.setUpd fun u => { u with vers := (c, v) :: u.vers.filter (fun x => x.1 ≠ c) }

/-- Send FW_STAGE to a component: subcommand, fields and data. -/
def State.sendStage (s : State) (c sub off : Nat) (args : List Nat) (data : List Byte) : State :=
  if c < 0x200 then s.sendBridge (c - 0x100) 9 (sub :: args) data (.stage sub off)
  else s.sendCarrier (c - 0x200) 8 (sub :: args ++ data.map (fun b => b.toNat)) (.stage sub off)

def State.job? (s : State) (c : Nat) : Option Staging := s.upd.jobs.find? (fun j => j.comp = c)

def State.setStage (s : State) (c : Nat) (ph : StagePhase) : State :=
  s.setUpd fun u => { u with jobs := u.jobs.map (fun j => if j.comp = c then { j with phase := ph } else j) }

def State.dropJob (s : State) (c : Nat) : State := s.setUpd fun u => { u with jobs := u.jobs.filter (fun j => j.comp ≠ c) }

/-- The image whose component is staged: the loaded one, or for a component that trains the running one. -/
def State.stageImage (s : State) (join : Bool) : Image := if join then s.nv.image else s.upd.image.getD s.nv.image

/-- BEGIN: version, length, SHA-256. -/
def State.stageBegin (s : State) (c : Nat) (join : Bool) : State :=
  match (s.stageImage join).entry c with
  | none => s
  | some e => (s.setStage c .begin).sendStage c 1 0 [e.version, e.length] e.digest

/-- DATA from an offset, up to 16 KiB; VERIFY once all has been sent. -/
def State.stageData (s : State) (c : Nat) (join : Bool) (off : Nat) : State :=
  let im := s.stageImage join
  match im.entry c with
  | none => s
  | some e =>
    if e.length ≤ off then (s.setStage c .verify).sendStage c 3 0 [] []
    else (s.setStage c (.data off)).sendStage c 2 off [off] (im.bytes (e.offset + off) (min 16384 (e.length - off)))

/-! ## An activation (R499, R500) -/

/-- The capo is told, or as capo grants the partner's request that waits (R498). -/
def State.leaveGrant (s : State) : State :=
  let mine := s.upd.granted
  let s := s.setUpd fun u => { u with granted := false }
  if s.isCapo then
    if s.upd.wanted ∧ ¬ s.upd.given then (s.setUpd fun u => { u with wanted := false, given := true }).sendNrn 5 4 [1] [] else s
  else if mine ∧ s.synced then s.sendNrn 5 3 [4] [] else s

/-- Components that trained meanwhile are staged now (R505). -/
def State.startWaiting (s : State) : State :=
  (s.upd.jobs.filter (fun j => j.phase = .wait)).foldl (fun (s : State) j => s.stageBegin j.comp true) s

/-- An activation has failed: FAIL, the record, and STATE LOADED; the data names components whose REVERT failed (R500). -/
def State.endFailed (s : State) (status comp : Nat) : State :=
  let stuck := s.upd.stuck
  let s := ((s.setB UPD.STS.FAIL).record 0x1802 0 status comp (stuck.flatMap (leBytes 2))).updTo 2
  (s.setUpd fun u => { u with jobs := u.jobs.filter Staging.join, order := [], stuck := [], failing := none, hold := false }).leaveGrant.startWaiting

/-- A failure before event 4: opened components are aborted, switched ones reverted first, in reverse order (R500, R505). -/
def State.failActivation (s : State) (status comp : Nat) : State :=
  let opened := s.upd.jobs.filter (fun j => !j.join && (match j.phase with
    | .switched | .wait => false
    | _ => true))
  let s := opened.foldl (fun (s : State) j => (s.sendStage j.comp 7 0 [] []).dropJob j.comp) s
  let back := (s.upd.jobs.filter (fun j => !j.join && j.phase = .switched)).map Staging.comp
  if back.isEmpty then s.endFailed status comp else
  let s := (s.upd.order.reverse.filter back.contains).foldl (fun (s : State) c =>
    ((s.setStage c .revert).sendStage c 5 0 [] []).sendStage c 7 0 [] []) s
  (s.setB UPD.STS.REVERTED).setUpd fun u => { u with failing := some (status, comp), switchAt := s.aon }

/-- A revert has ended; with the last one the activation is over. -/
def State.revertEnds (s : State) (c : Nat) (ok : Bool) : State :=
  let s := s.dropJob c
  let s := if ok then s else s.setUpd fun u => { u with stuck := u.stuck ++ [c] }
  match s.upd.failing with
  | some (st, comp) => if s.upd.jobs.any (fun j => !j.join) then s else s.endFailed st comp
  | none => s

/-- Event 3: SWITCH to the next component; event 4 once all have reported: COMMIT, and the loader erases the image region
(R499). -/
def State.switchNext (s : State) : State :=
  match s.upd.order.find? (fun c => (s.job? c).any (fun j => j.phase = .verified)) with
  | some c => ((s.setStage c .switch).setUpd fun u => { u with switchAt := s.aon }).sendStage c 4 0 [] []
  | none =>
    let s := s.upd.order.foldl (fun (s : State) c => s.sendStage c 6 0 [] []) s
    let s := s.setUpd fun u => { u with jobs := u.jobs.filter Staging.join, order := [] }
    let s := { s with nv := { s.nv with region := s.upd.image.map (fun (im : Image) => ({ im with good := false } : Image)) } }
    s.updTo 5

/-- Event 1 of an activation, and BEGIN to every component whose running version differs (R499). -/
def State.startActivation (s : State) : State :=
  match s.upd.image with
  | none => s
  | some im =>
    let s := ((s.updTo 3).record 0x1801 0 im.version 0 []).setUpd fun u => { u with hold := false, stuck := [], failing := none }
    let todo := s.allComps.filter (fun c => match im.entry c with
      | some e => decide (s.compVer c ≠ some e.version)
      | none => false)
    let s := s.setUpd fun u => { u with
      order := todo
      jobs := u.jobs.filter (fun j => !todo.contains j.comp) ++ todo.map (fun c => { comp := c, join := false, phase := .begin }) }
    todo.foldl (fun (s : State) c => s.stageBegin c false) s

/-- The partner's image as R502 limits it: a step image exactly one major above the partner's, or the image's major. -/
def State.majorFits (s : State) (im : Image) : Bool :=
  match s.pair.hello with
  | none => false
  | some h => decide (majorOf im.version = majorOf h.fw) || im.pairStep && decide (majorOf im.version = majorOf h.fw + 1)

/-- The first condition of R498 that fails but the grant: those before it, then the components. -/
def State.activateBlocked (s : State) (solo : Bool) : Option (Nat × Nat) :=
  match s.upd.image with
  | none => some (0x1807, s.updState)
  | some im =>
    if s.updState ≠ 2 then some (0x1807, s.updState)
    else if solo then none
    else if ¬ s.synced then some (0x180A, s.get NRN.PAIR_STS.PARTNER)
    else if ¬ s.majorFits im then some (0x180B, (s.pair.hello.map Hello.fw).getD 0)
    else none

def State.compsBlocked (s : State) : Option (Nat × Nat) :=
  (s.allComps.find? (fun c => !s.compReady c)).map (fun c => (0x180C, c))

/-- The capo's grant has come: the conditions are tested again (R498). -/
def State.grantCame (s : State) : State :=
  match s.upd.asked with
  | none => s.setUpd (fun u => { u with granted := true }) |>.leaveGrant
  | some p =>
    let s := s.setUpd fun u => { u with asked := none, granted := true }
    match (s.activateBlocked false).orElse (fun _ => s.compsBlocked) with
    | some (st, d) => s.leaveGrant.answerLater p st d []
    | none => s.startActivation.answerLater p 0 0 []

/-- The partner asks for the grant (R498): one activation at a time. -/
def State.partnerActivates (s : State) : State :=
  if s.upd.given ∨ (3 ≤ s.updState ∧ s.updState ≤ 6) then s.setUpd fun u => { u with wanted := true }
  else (s.setUpd fun u => { u with given := true }).sendNrn 5 4 [1] []

/-- The partner's activation has ended. -/
def State.partnerEnds (s : State) : State := s.setUpd fun u => { u with given := false, wanted := false }

/-- The partner falls SILENT (R505). -/
def State.updSilent (s : State) : State :=
  let s := match s.upd.asked with
    | some p => (s.setUpd fun u => { u with asked := none }).answerLater p 0x180A (s.get NRN.PAIR_STS.PARTNER) []
    | none => s
  let s := s.partnerEnds
  if (s.updState = 3 ∨ s.updState = 4) ∧ s.upd.failing.isNone then s.failActivation 0x180A 0
  else if s.updState = 5 then s.setUpd fun u => { u with hold := true } else s

/-- A management complex restart before event 3 ends the activation (R505). -/
def State.updRestart (s : State) : State :=
  let s := s.setUpd fun u => { u with asked := none }
  if s.updState = 3 then s.failActivation 0x180D 0 else s

/-- The boot code takes the image region's image and tests it again (R493, R71): checks 1 and 2, type and step, unit, floor. -/
def State.takeRegion (s : State) : State :=
  match s.nv.region with
  | none => s.showFuses
  | some im => ({ s with nv := { s.nv with image := im, region := none } } : State).showFuses

/-- Checks 3 and 4 of Table "Firmware and Configuration Update" 4: TYPE_MASK, MIN_STEP; SERIAL. -/
def State.typeFits (s : State) (im : Image) : Bool :=
  bitAt im.types (s.nv.variant - 1) && decide (im.minStep ≤ bitsAt (s.word 0) 8 8)
def State.unitFits (s : State) (im : Image) : Bool := im.bound.isNone || im.bound = some (s.nv.serial.take 16)

/-- The running image's region passes the boot code's checks (R493). -/
def State.imageValid (s : State) : Bool :=
  let im := s.nv.image
  im.good && (im.header.isEmpty || s.bodyKeyGood im) && s.typeFits im && s.unitFits im && s.floorAccepts im.version

/-- An activated image first reaches S2 (R495, R499): its version is fused, and a record is written. -/
def State.imageArrives (s : State) : State :=
  if ¬ s.nv.arriving then s else
  let v := s.nv.image.version
  let s := { s with nv := { s.nv with arriving := false } }
  let s := if s.nv.variant = 3 ∧ s.updFloor < v ∧ s.nv.fuses.length < 255 then
      ({ s with nv := { s.nv with fuses := v :: s.nv.fuses } } : State).record 0x1807 0 v 0 []
    else s
  (s.showFuses.updTo 0).record 0x1803 0 v 0 []

/-- Settings that other chapters read from registers of their own (Table "Firmware and Configuration Update" 8). -/
def State.loadSettings (s : State) : State :=
  let s := match s.setting [0x000A] with
    | some b => s.put HRC.LIC.LICENSED (b.getD 20 0 + 256 * b.getD 21 0)
    | none => s.put HRC.LIC.LICENSED 0
  match s.setting [0x0009] with
  | some [ids] => { s with pci := { s.pci with subIds := ids } }
  | _ => s

/-- UPD_COMP_OUT, UPD_STS.PCT, and a staging that loses its component (R500). PCT reads 0 in IDLE, its reset value, and is
open in the other states (log entry 2). -/
def State.settleUpd (s : State) : State :=
  let gone := s.upd.jobs.filter (fun j => !s.compUp j.comp)
  let s := gone.foldl (fun (s : State) j =>
    if j.join then s.dropJob j.comp
    else match j.phase with
      | .revert => s.revertEnds j.comp false
      | _ => if s.updState = 3 then s.failActivation 0x180D j.comp else s) s
  let s := if s.updState = 3 ∧ s.upd.failing.isNone ∧ (s.upd.jobs.filter (fun j => !j.join)).all (fun j => j.phase = .verified) then
      (s.updTo 4).switchNext
    else s
  let out := s.allComps.filter (fun c => match s.compVer c, s.nv.image.entry c with
    | some v, some e => decide (v ≠ e.version)
    | _, _ => false)
  let s := s.put UPD.COMP_OUT.COUNT out.length
  s.put UPD.STS.PCT (if s.updState = 0 then 0 else min 100 (Config.updPct s.updState s.upd.placed (s.aon - s.upd.since)))

end Sys2Proof.Machine
end

