-- ==== Sys2Proof/Machine/Status.lean ====
section
/-! DEFINITION. What the status registers of the media, redundancy, pair, queue and servo blocks show live, each computed from
the state. -/

namespace Sys2Proof.Machine

/-- A field that counts, cut at its largest value. -/
def State.show (s : State) (f : Fld) (v : Nat) : State := s.put f (min (2 ^ f.width - 1) v)

/-- Take the fields of a range of registers back to reset before they are shown again. -/
def State.unshow (s : State) (lo hi : Nat) : State :=
  { s with flds := s.flds.filter (fun f => f.1 < 8 * lo || 8 * hi ≤ f.1) }

/-- Percentage of a whole, rounded down; of nothing, 100. -/
def pctOf (part whole : Nat) : Nat := if whole = 0 then 100 else 100 * part / whole

/-- A cluster or quadrant counts as gated from the end of its entry (R54). -/
def Gate.isGated : Gate → Bool
  | .gated => true
  | _ => false

/-- S2: every quadrant whose trained modules are members of a set with a band that is not FREE runs too (R72). -/
def State.s2Quads (s : State) : List Nat :=
  [0, 1, 2, 3].filter (fun q => s.act.sets.any (fun r =>
    s.nv.media.bands.any (fun b => b.set = r.num) &&
    r.members.any (fun c => memberIsModule c && decide (memberNo c / 12 = q) && s.linkUp (memberNo c))))

/-! ## Sets (spec/12) -/

/-- A strip in a spare zone, or one on its way there. -/
def State.spareLive (s : State) (set pos zone : Nat) : Bool :=
  s.nv.media.strips.any (fun x => x.set = set && x.target = pos && x.spareZone = zone) ||
  s.dp.moving.any (fun x => x.strip.set = set && x.strip.target = pos && x.strip.spareZone = zone)

/-- Key of a spare zone of a position, and the strips written into it (R377); a zone with a number in the table has been cleared. -/
def spareKey (set pos zone : Nat) : Nat := (set * 64 + pos) * 2 ^ 26 + zone
def State.spareFillOf (s : State) (set pos zone : Nat) : Nat :=
  if s.spareLive set pos zone then (fldFind s.nv.media.spareFill (spareKey set pos zone)).getD 0 - 1 else 0

/-- Free spare strips of a position (R378): a spare zone that no live entry names is free. -/
def State.spareStrips (s : State) (r : RSet) (pos : Nat) : Nat :=
  ((List.range r.spareZones).map (fun i => r.rows - s.spareFillOf r.num pos (r.firstSpare + i))).sum

/-- Free spare strips of a set in %, over all its positions (R378). -/
def State.declPct (s : State) (r : RSet) : Nat :=
  pctOf ((List.range r.members.length).map (s.spareStrips r)).sum (r.members.length * r.spareZones * r.rows)

/-- RDN_SETs_STS.STATE. -/
def State.setState (s : State) (r : RSet) : Nat :=
  let rb := s.nv.media.rebuilds.filter (fun x => x.set = r.num)
  if s.noAlloc r then 5
  else if rb.any Rebuild.copy then 4
  else if !rb.isEmpty then 3
  else if r.pstate.any (· ≠ 0) then 2
  else 1

/-- Progress of the first rebuild or copy-back of a set. -/
def State.setProgress (s : State) (r : RSet) : Nat :=
  match s.nv.media.rebuilds.find? (fun x => x.set = r.num) with
  | some x => if x.total = 0 then 0 else 100 * (x.total - x.left) / x.total
  | none => 0

/-- RDN registers. -/
def State.settleSets (s : State) : State :=
  let s := s.act.sets.foldl (fun (t : State) r =>
    let n := r.num
    ((((t.put (RDN.SETs_STS.STATE n) (s.setState r)).put (RDN.SETs_STS.REBUILD_PCT n) (s.setProgress r)).put
      (RDN.SETs_STS.DECL_PCT n) (s.declPct r)).show (RDN.SETs_STS.FAILED n) (r.pstate.filter (· ≠ 0)).length).show
      (RDN.SETs_STS.VERSIONS n) (s.liveVers r).length) (s.unshow 0x100100 0x100500)
  let s := s.put RDN.STS.DEGRADED (b2n (s.act.sets.any (fun r => r.pstate.any (· ≠ 0))))
  let s := s.put RDN.STS.REBUILD (b2n (!s.nv.media.rebuilds.isEmpty))
  let s := s.put RDN.STS.RESYNC (b2n s.dp.resync)
  let s := s.show RDN.LOST_STS.PINNED (s.nv.media.bands.filter Band.pinned).length
  s.show RDN.LOST_STS.USED s.nv.media.lost.length

/-! ## Flash (spec/08, spec/09) -/

/-- Mean of a module's zone erase counts. -/
def Module.eraseMean (m : Module) : Nat := (m.erases.map Prod.snd).sum / max 1 (m.ident.blocks - m.ident.spareBlocks - 4)

/-- Dies of a module that neither serve nor are retired, at most its SPARE_DIES. -/
def Module.diesLeft (m : Module) : Nat :=
  min m.spareDies ((List.range m.ident.dies).filter (fun d => !m.dieMap.contains d && !m.retiredDies.contains d)).length

/-- Spare blocks left of the worst block group in service, in % (R294). -/
def Module.blockPct (m : Module) : Nat :=
  ((m.retired.filter (fun x => m.dieMap.contains x.1)).map (fun x => pctOf (m.spareLeft x.1 x.2.1) m.ident.spareBlocks)).foldl min 100

/-- TUN registers of a module. -/
def State.settleModule (s : State) (m : Module) : State :=
  let k := m.link
  let sets := s.act.tuning.filter (fun t => t.link = k)
  let it := (sets.map (fun t => if t.cur.state = .valid then t.cur.itMean / 256 else 0)).foldl max 0
  let s := (s.put (TUN.MODk_STS.STAGE k) m.stage).show (TUN.MODk_STS.DIES_SPARE k) m.diesLeft
  let s := (s.show (TUN.MODk_STS.IT_MEAN k) it).put (TUN.MODk_STS.BLOCK_PCT k) m.blockPct
  let s := s.show (TUN.MODk_STS.SUSPECT k) (sets.filter (fun t => t.cur.state = .suspect)).length
  (s.show (TUN.MODk_WEAR.ERASE_MEAN k) m.eraseMean).show (TUN.MODk_WEAR.RETIRED k) m.retired.length

/-- A pool of a quadrant's at or below a percentage. -/
def State.poolAtMost (s : State) (q tier pct : Nat) : Bool :=
  let p := s.poolBands q tier
  p.2 ≠ 0 && decide (100 * p.1 ≤ pct * p.2)

/-- Dirty bytes of a quadrant (R23). -/
def State.dirtyQuad (s : State) (q : Nat) : Nat :=
  ((s.dp.writes.filter WJob.dirty).map (fun w => ((w.frames.filter (fun f => s.frameQuad w f = some q)).map SFrame.size).sum)).sum

/-- Writes to a quadrant's media are held (R23, R259). -/
def State.heldQuad (s : State) (q : Nat) : Bool :=
  s.poolAtMost q 0 s.writeRsv || s.poolAtMost q 1 s.writeRsv ||
  (decide (s.dirtyCap ≤ s.dirtyQuad q) && (s.dp.writes.any (fun w => w.frames.any (fun f => f.band.isNone && s.frameQuad w f = some q)) ||
    s.pair.asked.any (fun x => match s.rset x.1 with
      | some r => r.quad = q
      | none => false)))

/-- FTL, FLK and TUN registers. -/
def State.settleFlash (s : State) : State :=
  let s := s.nv.media.modules.foldl State.settleModule s
  let s := (List.range 48).foldl (fun (s : State) k => s.put (FLK.LINKk_STS.DUMP_READY k) (b2n (s.dumpReady k))) s
  let s := (s.put FTL.DUMP_STS.CAP_16M (s.dirtyCap / 2 ^ 24)).put FTL.DIRTY.BYTES_64K (s.dirtyBytes / 2 ^ 16)
  let s := s.put FTL.STS.WRITE_HELD (([0, 1, 2, 3].map (fun q => if s.heldQuad q then 2 ^ q else 0)).sum)
  let s := s.put FTL.STS.SWEEP (b2n (s.dp.sweeps.any (fun x => !x.2.2.2)))
  s.put XF.DEDUP_STS.FILL_PCT (if s.summaryGib = 0 then 0 else 100 * s.dp.summary.length / (8 * summaryBuckets s.summaryGib))

/-! ## The read channel and spindles (spec/10, spec/11) -/

/-- Pairs of a quadrant's pool, and those granted now. -/
def State.poolPairs (s : State) (q : Nat) : Nat := 16 - 2 * s.nv.retired.getD q 0
def State.poolBusy (s : State) (q : Nat) : Nat := (s.dp.runs.filter (fun r => r.hda / 48 = q && r.pairAt.isSome)).length

/-- A read run needs a pair. -/
def HdaRun.wants (r : HdaRun) : Bool :=
  !r.write && r.pairAt.isNone && (match r.use_ with
    | .seekTest _ _ _ => false
    | _ => true)

/-- A pool that shrinks takes its pairs back after their runs' current sectors, lowest class and newest run first (R313, R329). -/
def State.shrinkPool (s : State) (q : Nat) : State :=
  let runs := s.dp.runs.filter (fun r => r.hda / 48 = q && r.pairAt.isSome)
  let excess := runs.filter (fun r => s.poolPairs q ≤ (runs.filter (fun x => x.before r)).length && !r.yield_)
  excess.foldl (fun (s : State) r => s.setRun { r with yield_ := true }) s

/-- Spindles whose STATE lies in a range. -/
def State.spindles (s : State) (lo hi : Nat) : Nat :=
  (s.flds.filter (fun f => 8 * 0xE0100 ≤ f.1 && f.1 < 8 * 0xE0400 && f.1 % 32 = 28 && lo ≤ f.2 && f.2 ≤ hi)).length

/-- HRC, SPN and TUN_HDA registers. -/
def State.settleHdas (s : State) : State :=
  let s := [0, 1, 2, 3].foldl (fun (s : State) q =>
    let s := s.shrinkPool q
    ((s.put (HRC.POOLn_STS.PAIRS q) (s.poolPairs q)).put (HRC.POOLn_STS.BUSY q) (s.poolBusy q)).show (HRC.POOLn_STS.WAITING q)
      (s.dp.runs.filter (fun r => r.hda / 48 = q && r.wants)).length) s
  let s := s.show TUN.HDA_STS.SUSPECT (s.act.hsets.filter (fun t => t.cur.state = .suspect)).length
  ((s.put SPN.ACTIVE.SPINNING (s.spindles 4 6)).put SPN.ACTIVE.ACCEL (s.spindles 2 3)).put SPN.ACTIVE.WAITING (s.spindles 1 1)

/-! ## The pair (spec/14) -/

/-- Bytes the mirror region holds, and what is free of its 16 GiB. -/
def MirWrite.bytes (m : MirWrite) : Nat := (m.frames.map SFrame.size).sum
def State.mirrorHeld (s : State) : Nat := (s.pair.mirror.map MirWrite.bytes).sum
def State.mirrorFreeBytes (s : State) : Nat := 2 ^ 34 - s.mirrorHeld

/-- A mirrored frame and block entry as this head keeps them. -/
def mirFrame (f : MirFrame) : SFrame :=
  { serial := f.serial, vol := f.vol, epoch := f.epoch, raw := f.raw, payLen := f.payLen, data := f.data, digest := f.digest }
def mirBlock (b : Nat × Option (Nat × Nat)) : Nat × BlkRef :=
  (b.1, match b.2 with
    | some x => .frame x.1 x.2
    | none => .discarded)

/-- A part of the partner's write enters the mirror region, and the last one is acknowledged; without space for it it waits, with
those after it (R417). -/
def State.placePart (s : State) (m : MirPart) : State :=
  let fs := m.frames.map mirFrame
  if ¬ s.pair.parts.isEmpty ∨ s.mirrorFreeBytes < (fs.map SFrame.size).sum then s.setPair fun p => { p with parts := p.parts ++ [m] } else
  let old := (s.pair.mirror.find? (fun x => x.id = m.id)).getD
    { id := m.id, whole := false, vol := m.vol, slba := m.slba, nblk := m.nblk, frames := [], blocks := [], at_ := s.aon }
  let new := { old with whole := m.last, frames := old.frames ++ fs, blocks := old.blocks ++ m.blocks.map mirBlock }
  let s := s.setPair fun p => { p with mirror := p.mirror.filter (fun x => x.id ≠ m.id) ++ [new] }
  if m.last then s.sendNrn 3 0 [m.id] [] else s

/-- Parts that wait enter the mirror region as space comes free. -/
def State.placeParts (s : State) : State :=
  let ps := s.pair.parts
  if ps.isEmpty then s else ps.foldl State.placePart (s.setPair fun p => { p with parts := [] })

/-- One REQUEST of the partner, which only the capo decides (R421, R422). -/
def State.serveRequest (s : State) (r : PairReq) : State :=
  if ¬ s.isCapo ∨ ¬ s.synced then s else
  match r with
  | .change (.position set pos st) => s.failPosition set pos st
  | .change c => s.propose c
  | .bands set level => s.grantBands set level
  | .down member =>
    let s := s.setPair fun p => { p with downThere := insertNat p.downThere member }
    if s.memberReadable member then s else s.memberEvent member 2
  | .activation => s.partnerActivates
  | .activationEnded => s.partnerEnds

/-- Requests that waited for the firmware are served (R435). -/
def State.serveRequests (s : State) : State :=
  let rs := s.pair.reqs
  if s.cmd.inReset ∨ rs.isEmpty then s else rs.foldl State.serveRequest (s.setPair fun p => { p with reqs := [] })

/-- Progress of step 3 of R432 on the serving head: its dirty writes that the partner has acknowledged. -/
def State.resyncPct (s : State) : Nat :=
  if s.get NRN.PAIR_STS.PARTNER ≠ 3 ∨ s.pair.returning then 0 else
  let ws := s.dp.writes.filter WJob.dirty
  pctOf (ws.filter WJob.mirrored).length ws.length

/-- NRN registers. -/
def State.settlePair (s : State) : State :=
  let s := (s.put NRN.STS.SYNCED (b2n (s.get NRN.PAIR_STS.PARTNER = 4))).put NRN.PAIR_STS.RESYNC_PCT s.resyncPct
  let s := (s.put NRN.LANE_STS.SPARES s.pair.spares.length).put NRN.LANE_STS.ACTIVE s.pair.slots.length
  (s.show NRN.MIRROR.HELD_64M (s.mirrorHeld / 2 ^ 26)).show NRN.MIRROR.UNACKED_64K (s.unackedBytes / 2 ^ 16)

/-! ## Queues, connections, entropy (spec/05, spec/06, spec/07) -/

/-- HQ, VRM, XF and epoch registers. -/
def State.settleQueues (s : State) : State :=
  let s := s.show HQ.LOCK_STS.WAITING (s.hq.locks.filter (fun l => !l.granted)).length
  let s := s.put HQ.LOCK_STS.PEAK_USED
    ((s.hq.locks.map (fun l => shardUsed s.hq.locks (shardOf l.volume))).foldl max (s.get HQ.LOCK_STS.PEAK_USED))
  let s := s.show HQ.CTX_STS.CACHED (s.hq.qps.filter Qp.cached).length
  let s := s.show VRM.CTX_STS.CACHED (s.vrm.conns.filter Conn.cached).length
  let s := [0, 1, 2, 3].foldl (fun (s : State) q =>
    let low := (s.pwr.quads.getD q .gated).isGated
    let lpi := fun (s : State) p => s.put (VRM.PORTp_STS.LPI p) (if low then s.get (VRM.PORTp_STS.UP p) else 0)
    (lpi (lpi s (2 * q)) (2 * q + 1)).show (XF.ENT_STS.FAILS q) (s.entFails q).length) s
  s.put SYS.EPOCH_RET.COUNT s.retCount

/-! ## Idle times (R31, R53) -/

/-- A media job waits for or runs on a quadrant's links or strings (R32). -/
def State.mediaWork (s : State) (q : Nat) : Bool :=
  s.dp.runs.any (fun r => r.hda / 48 = q) || s.dp.brs.any (fun c => c.link / 12 = q)

/-- A packet in a port's ingress buffer is for a connection of a cluster (R32). -/
def State.packetFor (s : State) (cl : Nat) : Bool :=
  s.vrm.ports.any (fun x => x.ingress.any (fun g => match s.connBind g.pkt.dconn with
    | some b => b.cluster = cl && (s.conn b.id).isSome
    | none => false))

/-- A cluster has a command in flight, keyed work (R226), a packet, or a doorbell it has not acted on (R31, R32). -/
def State.clusterHasWork (s : State) (cl : Nat) : Bool :=
  s.packetFor cl || s.hq.locks.any (fun l => s.shardHome (shardOf l.volume) = cl) ||
  s.hq.cmds.any (fun c => c.cluster = cl) || !(s.cipher cl).wanted.isEmpty ||
  s.act.qps.any (fun b => b.cluster = cl && s.hq.qps.any (fun q =>
    q.qpid = b.qpid && q.state = 2 && q.sqHead ≠ q.sqTail))

/-- A quadrant's write cache holds dirty data. -/
def State.dirtyIn (s : State) (q : Nat) : Bool := s.dp.writes.any (fun w => w.dirty && w.frames.any (fun f => s.frameQuad w f = some q))

/-- An HDA on the strings of a quadrant, whichever head drives it, is not spun down and parked (R53): its spindle turns, its
servo drives the heads, or this head hears wedges under them (LISTEN). -/
def State.hdaMoves (s : State) (h : Nat) : Bool :=
  decide (s.spnState h ≠ 0) && decide (s.spnState h < 9) || decide (1 ≤ s.srvState h) && decide (s.srvState h ≤ 7) ||
  decide (s.srvState h = 8) && decide (0 < (s.servo h).good)

/-- A quadrant is not idle: a cluster that is not gated, dirty data, an HDA on its strings that is not spun down and parked
(R31, R53), or work at its media. -/
def State.quadHasWork (s : State) (q : Nat) : Bool :=
  !(List.range 8).all (fun k => (s.pwr.clusters.getD (8 * q + k) .gated).isGated) || s.dirtyIn q ||
  (List.range 48).any (fun i => s.hdaMoves (48 * q + i)) || s.mediaWork q

/-- Idle times restart whenever work is or was there (R53). -/
def State.settleIdle (s : State) : State :=
  let busy := (List.range 32).map s.clusterHasWork
  let qbusy := (List.range 4).map s.quadHasWork
  { s with pwr := { s.pwr with
    clusterIdle := (List.range 32).map (fun i =>
      if busy.getD i false || s.pwr.clusterBusy.getD i false then s.aon else s.pwr.clusterIdle.getD i 0)
    clusterBusy := busy
    quadIdle := (List.range 4).map (fun q =>
      if qbusy.getD q false || s.pwr.quadBusy.getD q false then s.aon else s.pwr.quadIdle.getD q 0)
    quadBusy := qbusy } }

/-- Spare zones that no strip is in any longer are erased or reset. -/
def State.sweepSpares (s : State) : State :=
  s.act.sets.foldl (fun (s : State) r => (List.range r.members.length).foldl (fun (s : State) pos =>
    (List.range r.spareZones).foldl (fun (s : State) i =>
      let z := r.firstSpare + i
      let k := spareKey r.num pos z
      if (fldFind s.nv.media.spareFill k).getD 0 ≤ 1 ∨ s.spareLive r.num pos z then s else
      (s.clearZone (r.member pos) z).media fun m => { m with spareFill := fldSet m.spareFill k 1 0 }) s) s) s

end Sys2Proof.Machine
end

