-- ==== Sys2Proof/Machine/Flags.lean ====
section
/-! DEFINITION. The status fields that a register shows live: each is a function of the state, and settle brings
them all up to date at the end of every command, so that they hold of every state a step answers. -/

namespace Sys2Proof.Machine

/-- PWR_GATE_STS: bit 8q + k, every cluster of a gated quadrant reading as gated. -/
def gateWord (cl qs : List Gate) : Nat :=
  ((List.range 32).map (fun i => if (cl.getD i .gated).isGated || (qs.getD (i / 8) .gated).isGated then 2 ^ i else 0)).sum

/-- The effective clock step of a quadrant (R60); at S2 at least the S2 step in the quadrants that run (R72). -/
def State.effStep (s : State) (q : Nat) : Nat :=
  max (max (s.get (CLK.Qn_CTL.STEP_FLOOR q)) (if s.start.reached = 3 ∧ (s.s2Serving = some q ∨ s.s2Quads.contains q) then s.forced SYS.START_CFG.S2_STEP else 0))
    (max (s.pwr.thermStep.getD q 0) s.pwr.powerStep)

/-- Power, clock and thermal status. -/
def State.settlePower (s : State) : State :=
  let s := s.put PWR.GATE_STS.GATED (gateWord s.pwr.clusters s.pwr.quads)
  let s := [0, 1, 2, 3].foldl (fun (s : State) q =>
    (s.put (CLK.Qn_STS.STEP q) (s.effStep q)).put (CLK.Qn_STS.GATED q) (b2n (s.pwr.quads.getD q .gated).isGated)) s
  let s := s.put PWR.THERM_STS.Q_THROTTLE
    (([0, 1, 2, 3].map (fun q => if 0 < s.pwr.thermStep.getD q 0 then 2 ^ q else 0)).sum)
  let s := s.put PWR.SPRINT_STS.BUDGET_DS (s.pwr.budgetMs / 100)
  s.put PWR.FEED_STS.HOLDUP_OK (b2n s.pwr.holdup)

/-- Session, log and commit status. -/
def State.settleControl (s : State) : State :=
  let s := s.put CMD.STS.SESSIONS s.cmd.sessions.length
  let s := s.put CMD.STS.EXPERT (s.cmd.sessions.filter Session.expert).length
  let s := s.put EVR.STS.COUNT s.evr.log.length
  let s := s.put EVR.STS.WALL (b2n s.evr.wallAt.isSome)
  let s := s.put EVR.STS.ERASING (b2n (s.nv.mirror.eraseLeft ≠ 0))
  s.put EVR.STS.MIRROR_LAG (b2n (s.evr.log.length > s.get EVR.MIRROR.MIRRORED + 1024))

/-- At S2 the serving quadrant and every quadrant of `s2Quads` run (R72). -/
def State.wakeServing (s : State) : State :=
  if s.start.reached ≠ 3 then s else
  ([0, 1, 2, 3].filter (fun q => decide (s.s2Serving = some q) || s.s2Quads.contains q)).foldl State.causeWake s

/-- Work that has reached a gated cluster or quadrant wakes it, or is remembered until its entry completes (R32, R54, R158). -/
def State.wakeWorking (s : State) : State :=
  let s := (List.range 32).foldl (fun (s : State) cl => if s.clusterHasWork cl && !s.clusterAwake cl then s.wakeCluster cl else s) s
  [0, 1, 2, 3].foldl (fun (s : State) q => if s.mediaWork q then s.causeWake q else s) s

/-- Queue pairs with new entries whose cluster works go on fetching: after a wake, a swap, a hold or a full ring (R17, R23,
R54, R139). -/
def State.fetchDue (s : State) : State :=
  (s.act.qps.filter (fun b => (s.qp b.qpid).state = 2 && (s.qp b.qpid).sqHead ≠ (s.qp b.qpid).sqTail)).foldl
    (fun (s : State) b => s.startFetch b.qpid) s

/-- Stamps of jobs that have ended go (R24). -/
def State.dropStamps (s : State) : State := { s with jobs := s.jobs.filter s.jobLives }

/-- Bring every live status field up to date. -/
def State.settle (s : State) : State :=
  s.issueReads.placeParts.serveRequests.answerProposal.nextProposal.closeStale.releaseVols.serveSwaps.sweepSpares.serveRekeys.serveRepl.serveHdas.releaseDrives.settleUpd.kickAll.wakeServing.wakeWorking.fetchDue.dropStamps.settleHdas.settleIdle.settlePower.settleControl.settleSets.settleFlash.settlePair.settleQueues

/-- The outcome of a command that goes on. -/
def done (t : State) : Host.Outcome State Fault Refusal := .next t.settle

/-- Go on when the operands are well formed, else stop with the fault that says so. -/
def okIf (c : Bool) (t : State) : Host.Outcome State Fault Refusal := if c then done t else .fault .illFormed

end Sys2Proof.Machine
end

