-- ==== Sys2Proof/Machine/Packets.lean ====
section
/-! DEFINITION. The command-packet checks, the intake and the frame every command packet's meaning runs in
(R95 to R115). -/

namespace Sys2Proof.Machine

/-! ## The opcode table -/

/-- What an opcode asks of its packet: shortest and longest PLEN, permitted identities, whether LOC names a target,
and whether it writes shadow banks (R95, R97). -/
structure OpSpec where
  opcode : Nat
  minLen : Nat
  maxLen : Nat
  ids : List Nat
  loc : Bool := false
  shadow : Bool := false
  deriving DecidableEq, Repr

/-- All command identities (Table "Command Packets, Mailboxes and Doorbells" 6). -/
def allIds : List Nat := [2, 3, 4, 5, 6]
def hostBmc : List Nat := [2, 4]

/-- Identities of a table without an identity column: every command identity but the partner (log entry 11). -/
def plainIds : List Nat := [2, 3, 4, 6]

/-- The opcodes of spec/01 to spec/05 (Table 4 of spec/04, Table 1 of spec/05), of spec/16 and spec/17. -/
def opTableA : List OpSpec := [
  { opcode := 0x0100, minLen := 0, maxLen := 0, ids := allIds },
  { opcode := 0x0101, minLen := 0, maxLen := 0, ids := allIds },
  { opcode := 0x0102, minLen := 0, maxLen := 0, ids := allIds },
  { opcode := 0x0103, minLen := 0, maxLen := 0, ids := allIds },
  { opcode := 0x0104, minLen := 0, maxLen := 0, ids := allIds },
  { opcode := 0x0110, minLen := 4, maxLen := 4, ids := [2, 4, 5] },
  { opcode := 0x0111, minLen := 4, maxLen := 4, ids := hostBmc },
  { opcode := 0x0601, minLen := 0, maxLen := 0, ids := allIds },
  { opcode := 0x0602, minLen := 0, maxLen := 0, ids := allIds },
  { opcode := 0x0603, minLen := 68, maxLen := 68, ids := allIds },
  { opcode := 0x8120, minLen := 0, maxLen := 0, ids := hostBmc, loc := true },
  { opcode := 0x0701, minLen := 50, maxLen := 50, ids := plainIds, shadow := true },
  { opcode := 0x0702, minLen := 4, maxLen := 4, ids := plainIds },
  { opcode := 0x0703, minLen := 4, maxLen := 4, ids := plainIds },
  { opcode := 0x0704, minLen := 4, maxLen := 4, ids := plainIds },
  { opcode := 0x0705, minLen := 12, maxLen := 12, ids := plainIds },
  { opcode := 0x0706, minLen := 4, maxLen := 4, ids := plainIds },
  { opcode := 0x8710, minLen := 4, maxLen := 4, ids := plainIds }]

/-- The opcodes of spec/06 to spec/08. -/
def opTableB : List OpSpec := [
  { opcode := 0x0801, minLen := 0, maxLen := 4096, ids := plainIds, shadow := true },
  { opcode := 0x0802, minLen := 4, maxLen := 4, ids := plainIds },
  { opcode := 0x0803, minLen := 4, maxLen := 4, ids := plainIds },
  { opcode := 0x0804, minLen := 8, maxLen := 4096, ids := plainIds, shadow := true },
  { opcode := 0x0805, minLen := 20, maxLen := 20, ids := plainIds },
  { opcode := 0x0806, minLen := 24, maxLen := 24, ids := plainIds },
  { opcode := 0x0810, minLen := 8, maxLen := 8, ids := plainIds },
  { opcode := 0x0811, minLen := 0, maxLen := 4096, ids := plainIds },
  { opcode := 0x0812, minLen := 4, maxLen := 4, ids := plainIds },
  { opcode := 0x0813, minLen := 4, maxLen := 4, ids := plainIds },
  { opcode := 0x0820, minLen := 4, maxLen := 4, ids := plainIds },
  { opcode := 0x8830, minLen := 4, maxLen := 4, ids := plainIds },
  { opcode := 0x0901, minLen := 16, maxLen := 16, ids := [2, 4, 5], shadow := true },
  { opcode := 0x0902, minLen := 4, maxLen := 4, ids := allIds },
  { opcode := 0x0903, minLen := 0, maxLen := 0, ids := allIds, loc := true },
  { opcode := 0x0A01, minLen := 4, maxLen := 4, ids := [2], shadow := true },
  { opcode := 0x0A02, minLen := 4, maxLen := 4, ids := allIds },
  { opcode := 0x0A03, minLen := 4, maxLen := 4, ids := [2] },
  { opcode := 0x0A04, minLen := 0, maxLen := 0, ids := allIds },
  { opcode := 0x8A10, minLen := 40, maxLen := 40, ids := hostBmc },
  { opcode := 0x0B01, minLen := 0, maxLen := 0, ids := plainIds, loc := true },
  { opcode := 0x0B02, minLen := 8, maxLen := 8, ids := plainIds, shadow := true },
  { opcode := 0x0B03, minLen := 12, maxLen := 12, ids := plainIds },
  { opcode := 0x0B04, minLen := 0, maxLen := 0, ids := plainIds },
  { opcode := 0x0B05, minLen := 0, maxLen := 0, ids := plainIds },
  { opcode := 0x8B10, minLen := 8, maxLen := 8, ids := plainIds },
  { opcode := 0x0C01, minLen := 4, maxLen := 4, ids := plainIds },
  { opcode := 0x0C02, minLen := 4, maxLen := 4, ids := plainIds },
  { opcode := 0x8C10, minLen := 4, maxLen := 4, ids := plainIds },
  { opcode := 0x8C11, minLen := 124, maxLen := 124, ids := plainIds }]

/-- The opcodes of spec/09 to spec/11. -/
def opTableC : List OpSpec := [
  { opcode := 0x0D01, minLen := 0, maxLen := 0, ids := plainIds },
  { opcode := 0x0D02, minLen := 4, maxLen := 4, ids := plainIds },
  { opcode := 0x0D03, minLen := 4, maxLen := 4, ids := plainIds },
  { opcode := 0x0D04, minLen := 0, maxLen := 0, ids := plainIds },
  { opcode := 0x8D10, minLen := 4, maxLen := 4, ids := plainIds },
  { opcode := 0x8D11, minLen := 4, maxLen := 4, ids := plainIds },
  { opcode := 0x8D12, minLen := 28, maxLen := 28, ids := plainIds, shadow := true },
  { opcode := 0x0E01, minLen := 4, maxLen := 4, ids := plainIds },
  { opcode := 0x0E02, minLen := 4, maxLen := 4, ids := plainIds },
  { opcode := 0x0E03, minLen := 8, maxLen := 8, ids := plainIds },
  { opcode := 0x0E04, minLen := 8, maxLen := 8, ids := plainIds },
  { opcode := 0x0E05, minLen := 8, maxLen := 8, ids := plainIds },
  { opcode := 0x8E10, minLen := 16, maxLen := 16, ids := plainIds },
  { opcode := 0x1101, minLen := 4, maxLen := 4, ids := plainIds },
  { opcode := 0x1102, minLen := 4, maxLen := 4, ids := plainIds },
  { opcode := 0x9110, minLen := 4, maxLen := 4, ids := plainIds },
  { opcode := 0x0F01, minLen := 4, maxLen := 4, ids := plainIds },
  { opcode := 0x0F02, minLen := 4, maxLen := 4, ids := plainIds, shadow := true },
  { opcode := 0x0F03, minLen := 4, maxLen := 4, ids := plainIds },
  { opcode := 0x0F04, minLen := 12, maxLen := 12, ids := plainIds, loc := true },
  { opcode := 0x0F05, minLen := 4, maxLen := 4, ids := plainIds, loc := true },
  { opcode := 0x8F10, minLen := 68, maxLen := 68, ids := plainIds, shadow := true },
  { opcode := 0x8F11, minLen := 8, maxLen := 8, ids := plainIds },
  { opcode := 0x1001, minLen := 4, maxLen := 4, ids := plainIds },
  { opcode := 0x1002, minLen := 4, maxLen := 4, ids := plainIds },
  { opcode := 0x1003, minLen := 4, maxLen := 4, ids := plainIds },
  { opcode := 0x1004, minLen := 4, maxLen := 4, ids := plainIds, shadow := true },
  { opcode := 0x9010, minLen := 4, maxLen := 4, ids := plainIds }]

/-- The opcodes of spec/12 to spec/14. -/
def opTableD : List OpSpec := [
  { opcode := 0x1201, minLen := 16, maxLen := 4096, ids := plainIds, shadow := true },
  { opcode := 0x1202, minLen := 4, maxLen := 4, ids := plainIds },
  { opcode := 0x1203, minLen := 4, maxLen := 4, ids := plainIds },
  { opcode := 0x1204, minLen := 4, maxLen := 4, ids := plainIds, shadow := true },
  { opcode := 0x1205, minLen := 4, maxLen := 4, ids := plainIds },
  { opcode := 0x1206, minLen := 4, maxLen := 4, ids := plainIds },
  { opcode := 0x9210, minLen := 4, maxLen := 4, ids := plainIds },
  { opcode := 0x9211, minLen := 4, maxLen := 4, ids := plainIds },
  { opcode := 0x1301, minLen := 28, maxLen := 28, ids := plainIds, shadow := true },
  { opcode := 0x1302, minLen := 4, maxLen := 4, ids := plainIds, shadow := true },
  { opcode := 0x1303, minLen := 28, maxLen := 28, ids := plainIds, shadow := true },
  { opcode := 0x1304, minLen := 4, maxLen := 4, ids := plainIds },
  { opcode := 0x1305, minLen := 4, maxLen := 4, ids := plainIds },
  { opcode := 0x1306, minLen := 4, maxLen := 4, ids := plainIds },
  { opcode := 0x1307, minLen := 4, maxLen := 4, ids := plainIds },
  { opcode := 0x1310, minLen := 12, maxLen := 12, ids := plainIds },
  { opcode := 0x1311, minLen := 36, maxLen := 36, ids := plainIds },
  { opcode := 0x1312, minLen := 8, maxLen := 8, ids := plainIds },
  { opcode := 0x1313, minLen := 4, maxLen := 4, ids := plainIds },
  { opcode := 0x1314, minLen := 12, maxLen := 12, ids := plainIds, shadow := true },
  { opcode := 0x1315, minLen := 4, maxLen := 4, ids := plainIds, shadow := true },
  { opcode := 0x1316, minLen := 4, maxLen := 4, ids := plainIds },
  { opcode := 0x1317, minLen := 4, maxLen := 4, ids := plainIds },
  { opcode := 0x9320, minLen := 4, maxLen := 4, ids := plainIds, shadow := true },
  { opcode := 0x9321, minLen := 4, maxLen := 4, ids := plainIds },
  { opcode := 0x1401, minLen := 0, maxLen := 0, ids := allIds },
  { opcode := 0x1402, minLen := 0, maxLen := 0, ids := hostBmc },
  { opcode := 0x1403, minLen := 4, maxLen := 4, ids := [2, 4, 5] },
  { opcode := 0x9410, minLen := 4, maxLen := 4, ids := hostBmc },
  { opcode := 0x9411, minLen := 4, maxLen := 4, ids := hostBmc }]

/-- The opcodes of spec/15 to spec/18. EVR_READ's identities are those of READ_IDS, checked in its meaning (R486). -/
def opTableE : List OpSpec := [
  { opcode := 0x1501, minLen := 0, maxLen := 0, ids := plainIds, loc := true },
  { opcode := 0x1502, minLen := 0, maxLen := 0, ids := plainIds, loc := true },
  { opcode := 0x9510, minLen := 4, maxLen := 4, ids := plainIds, loc := true },
  { opcode := 0x1601, minLen := 0, maxLen := 0, ids := plainIds, loc := true },
  { opcode := 0x1701, minLen := 0, maxLen := 0, ids := allIds },
  { opcode := 0x0401, minLen := 0, maxLen := 0, ids := allIds },
  { opcode := 0x0402, minLen := 8, maxLen := 8, ids := allIds },
  { opcode := 0x0403, minLen := 4, maxLen := 4, ids := hostBmc },
  { opcode := 0x0404, minLen := 8, maxLen := 72, ids := hostBmc },
  { opcode := 0x0405, minLen := 8, maxLen := 8, ids := hostBmc },
  { opcode := 0x0406, minLen := 0, maxLen := 0, ids := hostBmc },
  { opcode := 0x0407, minLen := 68, maxLen := 68, ids := hostBmc },
  { opcode := 0x1801, minLen := 0, maxLen := 0, ids := allIds },
  { opcode := 0x1802, minLen := 4096, maxLen := 4096, ids := hostBmc },
  { opcode := 0x1803, minLen := 9, maxLen := 4096, ids := hostBmc },
  { opcode := 0x1804, minLen := 0, maxLen := 0, ids := hostBmc },
  { opcode := 0x1805, minLen := 0, maxLen := 0, ids := hostBmc },
  { opcode := 0x1806, minLen := 0, maxLen := 0, ids := hostBmc },
  { opcode := 0x1807, minLen := 88, maxLen := 88, ids := hostBmc },
  { opcode := 0x1808, minLen := 4, maxLen := 4, ids := allIds },
  { opcode := 0x9810, minLen := 4, maxLen := 4, ids := hostBmc }]

/-- Every opcode the chapters define (R101). -/
def opTable : List OpSpec := opTableA ++ opTableB ++ opTableC ++ opTableD ++ opTableE

/-- The row of an opcode. -/
def opSpec (opcode : Nat) : Option OpSpec := opTable.find? (fun o => o.opcode = opcode)

/-! ## The checks of R97 -/

/-- Check 2: HVER and the reserved fields, with the offset of the first bad byte. -/
def headerBad (p : Packet) : Option Nat :=
  if p.flags / 32 ≠ 0 then some 2
  else if p.hver ≠ 1 then some 10
  else if p.rsvd11 ≠ 0 then some 11
  else if ¬ p.isInband ∧ p.pbuf ≠ 0 then some 16
  else if ¬ p.isInband ∧ p.rbuf ≠ 0 then some 24
  else match (p.rsvd32.findIdx? (· ≠ 0)) with
    | some i => some (32 + i)
    | none => none

/-- The session a packet names, if it is valid for its sender (R105, R107). -/
def State.session (s : State) (p : Packet) : Option Session :=
  s.cmd.sessions.find? (fun x => x.handle = p.session ∧ x.owner = p.ident)

/-- The subsystem of an opcode is in service: the data plane's from S2, the rest once the firmware runs
(R111, log entry 11). -/
def State.inService (s : State) (opcode : Nat) : Bool :=
  let ss := opcode / 256 % 128
  if ss = 0x01 ∨ ss = 0x04 ∨ ss = 0x06 ∨ ss = 0x0A ∨ ss = 0x17 ∨ ss = 0x18 then true else decide (3 ≤ s.start.reached)

/-- The commands R112 accepts while CFG_NEWER is 1. -/
def cfgNewerAllows (opcode : Nat) : Bool :=
  (0x0100 ≤ opcode && opcode ≤ 0x0104) || opcode = 0x0110 || opcode = 0x0111 || (0x1800 ≤ opcode && opcode ≤ 0x18FF)

/-- The first check of R97, R98, R111 and R112 that a packet fails, as status and DETAIL. -/
def State.checkPacket (s : State) (p : Packet) : Option (Nat × Nat) :=
  if s.on SYS.START_STS.DEAD then some (0x0003, s.get SYS.START_STS.DEAD_CAUSE)
  else if ¬ s.on CMD.STS.MC_RUN ∧ ¬ s.cmd.inReset then some (0x0002, s.get SYS.START_STS.STAGE)
  else if ¬ p.isInband ∧ p.msgLen < 64 then some (0x0007, 0)
  else if p.hcrc ≠ crc32c p.headBytes then some (0x0008, 0)
  else match headerBad p with
  | some off => some (0x0009, off)
  | none =>
    if p.plen > 4096 then some (0x0007, 4096)
    else if ¬ p.isInband ∧ p.msgLen < 64 + p.plen then some (0x0007, p.msgLen - 64)
    else if p.pcrc ≠ (if p.plen = 0 then 0 else crc32c p.body) then some (0x0008, 1)
    else match opSpec p.opcode with
    | none => some (0x0006, 0)
    | some o =>
      if p.expert ∧ p.isInband then some (0x000C, 0)
      else if p.session ≠ 0 ∧ (s.session p).isNone then some (0x000D, 0)
      else if p.expert ∧ ¬ ((s.session p).map Session.expert).getD false then some (0x000B, 0)
      else if ¬ o.ids.contains p.ident then some (0x000C, 3 - ((s.session p).map Session.fails).getD 3)
      else if ¬ locOk p.loc then some (0x0005, 0)
      else if ¬ o.loc ∧ p.loc ≠ 0 then some (0x0005, 0)
      else if s.on SYS.START_STS.CFG_NEWER ∧ ¬ cfgNewerAllows p.opcode then some (0x000F, 1)
      else if ¬ s.inService p.opcode then some (0x0002, s.get SYS.START_STS.STAGE)
      else if p.plen < o.minLen ∨ o.maxLen < p.plen then some (0x0007, o.maxLen)
      else if s.cmd.taken.any (fun t => t.pkt.ident = p.ident ∧ t.pkt.tag = p.tag) then some (0x000E, 0)
      else none

/-! ## Classes and backpressure (R113 to R115) -/

/-- Depth of a class queue per transport. -/
def classDepth (cls : Nat) : Nat := if cls = 0 then 8 else if cls = 1 then 16 else 64

/-- Commands of a class and transport that are taken and without a reply (log entry 159). -/
def State.queued (s : State) (ident cls : Nat) : Nat :=
  (s.cmd.taken.filter (fun t => transportOf t.pkt.ident = transportOf ident ∧ t.cls = cls)).length

/-- The BUSY threshold of a class (spec/04, CMD_LOAD_CFG). -/
def State.busyLimit (s : State) (cls : Nat) : Nat :=
  let b2 := min 100 (s.get CMD.LOAD_CFG.BUSY2_PCT)
  if cls = 2 then b2 else min b2 (s.get CMD.LOAD_CFG.BUSY3_PCT)

/-- A class queue is full. -/
def State.classFull (s : State) (p : Packet) : Bool := decide (classDepth p.cls ≤ s.queued p.ident p.cls)

/-- BUSY for a class-2 or class-3 packet: queue full, or load above its threshold. -/
def State.isBusy (s : State) (p : Packet) : Bool :=
  2 ≤ p.cls && (s.classFull p || s.busyLimit p.cls < s.get CMD.LOAD.LOAD_PCT)

/-- DETAIL of BUSY (R115): the mean interval between completions of the class over the last 1 s, 1 ms where there are
not two of them (log entry 11). -/
def State.busyDetail (s : State) (p : Packet) : Nat :=
  let occ := s.queued p.ident p.cls
  let ts := (s.cmd.done.filter (fun d => d.1 = p.cls ∧ s.aon < d.2 + Config.sec)).map Prod.snd
  let span := if ts.length < 2 then Config.ms else ts.headD 0 - ts.getLastD 0
  let n := if ts.length < 2 then 1 else ts.length - 1
  min 10000 (max 1 ((occ * span + n * Config.ms - 1) / (n * Config.ms)))

/-- Touch the session a packet names (R105). -/
def State.touchSession (s : State) (p : Packet) : State :=
  { s with cmd := { s.cmd with sessions := s.cmd.sessions.map (fun x =>
    if x.handle = p.session ∧ x.owner = p.ident then { x with lastUse := s.aon } else x) } }

/-- Take a packet: answer the first failed check or BUSY, else queue it (R97, R113 to R115). -/
def State.admitPkt (s : State) (p : Packet) : State :=
  match s.checkPacket p with
  | some (st, d) => s.replyTo p st d []
  | none =>
    if s.isBusy p then
      (s.count (if p.cls = 2 then CMD.BUSY_CNT.CLASS2 else CMD.BUSY_CNT.CLASS3) 1).replyTo p 0x0001 (s.busyDetail p) []
    else
      let s := s.touchSession p
      { s with cmd := { s.cmd with taken := s.cmd.taken ++ [{ pkt := p, cls := p.cls, at_ := s.aon }] } }

/-- A packet of class 0 or 1 that no check refuses stays where it is while its class queue is full (R114). -/
def State.holdsBack (s : State) (p : Packet) : Bool := (s.checkPacket p).isNone && p.cls < 2 && s.classFull p

/-- A packet is taken and without a reply. -/
def State.isTaken (s : State) (p : Packet) : Bool := s.cmd.taken.any (fun t => t.pkt = p)

/-! ## The frame of a command's execution -/

/-- What a command's body answers: the state with its effect, status, DETAIL and reply data, and what follows the
reply of a command that succeeded. -/
structure Res where
  st : State
  status : Nat := 0
  detail : Nat := 0
  data : List Byte := []
  after : State → State := id
  /-- The reply comes with a later event. -/
  later : Bool := false

/-- A refusal: no effect. -/
def State.refuseWith (s : State) (status detail : Nat) : Res := { st := s, status := status, detail := detail }

/-- A command on a flash link: NOT_PRESENT where the variant fuses the link off (R3, R103). -/
def State.onLink (s : State) (k : Nat) (f : State → Res) : Res :=
  if ¬ s.linkEnabled k then s.refuseWith 0x0004 k else f s

/-- Success with data. -/
def State.reply (s : State) (data : List Byte) : Res := { st := s, data := data }

/-- SERIAL holds a command behind every earlier one of its transport (R95). -/
def State.heldBySerial (s : State) (p : Packet) : Bool :=
  p.serial && (s.cmd.taken.takeWhile (fun t => t.pkt ≠ p)).any
    (fun t => transportOf t.pkt.ident = transportOf p.ident)

/-- Nothing of its own transport holds a taken command back: no earlier one of its class that has not started (R110), and no
earlier one at all where it is SERIAL (R95; log entry 43). -/
def State.inTurn (s : State) (t : Taken) : Bool :=
  t.started || (t.owed.isNone && !s.heldBySerial t.pkt &&
    (s.cmd.taken.takeWhile (fun x => x.pkt ≠ t.pkt)).all
      (fun x => x.started || decide (transportOf x.pkt.ident ≠ transportOf t.pkt.ident) || decide (x.cls ≠ t.cls)))

/-- The order in which shared cores take commands: class 1, promoted class 3, class 2, class 3; class 0 has its own core
(R113, R115). -/
def Taken.rank (t : Taken) : Nat :=
  if t.cls = 3 then (if t.promoted then 2 else 4) else if t.cls = 2 then 3 else t.cls

/-- A taken command may start: it is in turn, no command that the shared cores take before it is in turn and not started, and
its channel has room for its reply (R110, R115, R125). -/
def State.mayBegin (s : State) (t : Taken) : Bool :=
  t.started || (s.inTurn t && s.roomFor t.pkt &&
    s.cmd.taken.all (fun x => x.started || x.cls = 0 || t.rank ≤ x.rank || !s.inTurn x))

/-- The same of a packet. -/
def State.mayRun (s : State) (p : Packet) : Bool :=
  match s.cmd.taken.find? (fun t => t.pkt = p) with
  | some t => t.owed.isNone && s.mayBegin t
  | none => false

/-- A core begins a command. -/
def State.markStarted (s : State) (p : Packet) : State :=
  { s with cmd := { s.cmd with taken := s.cmd.taken.map (fun t => if t.pkt = p then { t with started := true } else t) } }

/-- Already written and waiting for its commit's event 3 (R95). -/
def State.isWaiting (s : State) (p : Packet) : Bool := s.cmd.waits.any (fun w => w.pkt = p) || s.cmd.later.contains p

/-- Execute a taken command (R95, R96, R99). DRYRUN applies nothing; a command that fails answers at once (R97). With COMMIT on
an opcode that writes shadow banks, a command that is ready to write waits while PEND is 1, and answers at event 3 of the commit
it requests. -/
def State.execute (s : State) (o : OpSpec) (p : Packet) (body : State → Res) : State :=
  if s.isWaiting p ∨ ¬ s.mayRun p then s else
  let s := s.markStarted p
  let r := body s
  if p.dryRun then s.answer p r.status r.detail []
  else if r.status ≠ 0 then r.st.answer p r.status r.detail r.data
  else if o.shadow ∧ (p.commit ∨ r.later) ∧ s.on SYS.EPOCH_STS.PEND then s
  else if o.shadow ∧ s.on SYS.EPOCH_STS.PEND then
    -- R27: a shadow write without COMMIT while PEND is 1 is ignored and sets LATE.
    (s.setB SYS.EPOCH_STS.LATE).answer p 0 r.detail r.data
  else if r.later then
    let t : State := { r.st with cmd := { r.st.cmd with later := p :: r.st.cmd.later } }
    if o.shadow ∧ p.commit then t.requestCommit else t
  else if o.shadow ∧ p.commit then
    let t := r.st
    let at_ := ((s.cmd.taken.find? (fun x => x.pkt = p)).map Taken.at_).getD s.aon
    { t with cmd := { t.cmd with waits :=
      { pkt := p, cls := p.cls, at_ := at_, wrote := true, detail := r.detail, data := r.data } :: t.cmd.waits } }.requestCommit
  else r.after (r.st.answer p 0 r.detail r.data)

/-- The intake engine has paused: the complex is held in reset, and the head is not dead (R93, R116). -/
def State.intakePaused (s : State) : Bool := s.cmd.inReset && !s.on SYS.START_STS.DEAD

/-- A packet that is not taken yet comes: it stays where it is while its class or its channel has no room (R114, R125). -/
def State.arrive (s : State) (p : Packet) : State :=
  if s.intakePaused ∨ s.holdsBack p ∨ ¬ s.roomFor p then s else s.admitPkt p

/-- The state once the intake engine has dealt with a packet: taken now if it was not yet and can be. -/
def State.intake (s : State) (p : Packet) : State := if s.isTaken p then s else s.arrive p

/-- A command packet of a row of the table: taken now if it was not yet, then executed. -/
def runCmd (opcode : Nat) (p : Packet) (s : State) (body : State → Res) : Host.Outcome State Fault Refusal :=
  match opSpec opcode with
  | none => .fault .illFormed
  | some o =>
    if p.opcode ≠ opcode then .fault .illFormed
    else
      let s := s.intake p
      if s.isTaken p ∧ ¬ s.cmd.inReset then done (s.execute o p body) else done s

end Sys2Proof.Machine
end

