-- ==== Sys2Proof/Machine/Links.lean ====
section
/-! DEFINITION. What power, reset and start do to media links, carriers, the partner and the write cache, and the power-loss
dump (spec/02, spec/03, spec/08). -/

namespace Sys2Proof.Machine

/-! ## The power-loss dump (R265, R266, R533) -/

/-- Block number of this head's current dump zone on a module: the four numbers below the spares, two for each port. -/
def State.dumpBlock (s : State) (m : Module) : Nat :=
  m.ident.blocks - m.ident.spareBlocks - 4 + 2 * s.headNo + (fldFind s.nv.media.dumpZone m.link).getD 0

/-- The dies of a module that a dump zone lies on: every physical die that is not retired (R265). -/
def Module.dumpDies (m : Module) : List Nat := (List.range m.ident.dies).filter (fun d => !m.retiredDies.contains d)

/-- Program bytes into the dump zone of a module, behind what the dump has written there: a single-bit PROGRAM for each 16 KiB
slot, laid out by R241 over the zone's dies (R239, R265). -/
def State.dumpProgram (s : State) (link : Nat) (data : List Byte) : State :=
  match s.module link with
  | some m =>
    let at_ := (fldFind s.dp.dumpPos link).getD 0
    let dies := m.dumpDies
    let planes := max 1 m.ident.planes
    let s := (List.range (slotCount data)).foldl (fun (s : State) i =>
      let k := at_ + i
      s.sendBridge link 2 [dies.getD (k / planes % max 1 dies.length) 0, 2 ^ (k % planes), s.dumpBlock m,
        k / (planes * max 1 dies.length), 1] (slotData data i) .other) s
    s.setDp fun d => { d with dumpPos := fldSet d.dumpPos link (at_ + slotCount data) 0 }
  | none => s

/-- This head's port takes the blocks of a module's dump zone (R240). -/
def State.ownDump (s : State) (link : Nat) : State :=
  match s.module link with
  | some m => s.sendBridge link 5 [s.dumpBlock m, 0] [] .other
  | none => s

/-- A start record (Table "Flash Modules and the Translation Layer" 10, event 2): the order of its fields is the model's. -/
def dumpStartBytes (seq n : Nat) : List Byte :=
  let b := leBytes 4 seq ++ leBytes 4 n
  b ++ leBytes 4 (crc32c b)

/-- At a dump's trigger, INHIBIT is set on every HDA and write runs end (R358). -/
def State.inhibitHdas (s : State) : State :=
  let s := ((List.range 192).filter s.drives).foldl (fun (s : State) h =>
    let v := s.servo h
    if s.srvState h ≤ 5 then s.sout h (if s.srvState h = 0 then 0xFFFF else v.expect) v.u true v.range false false else s) s
  (s.dp.runs.filter (fun r => r.write)).foldl (fun (s : State) r =>
    let s := if s.runActive r then s.sendCarrier (r.hda / 2) 4 [r.hda % 2] .other else s
    s.dropRun r.id) s

/-- Event 1 of a dump, with event 2's start records. -/
def State.startDump (s : State) : State :=
  if s.on FTL.DUMP_STS.RUN then s else
  let ready := (List.range 48).filter s.dumpReady
  let s := ((s.setB FTL.DUMP_STS.RUN).clrB FTL.DUMP_STS.DONE).setDp fun d => { d with dumpAt := s.aon, dumpPhase := 1, dumpPos := [] }
  let s := s.inhibitHdas
  if ready.isEmpty then s else
  let seq := s.nv.media.dumpSeq + 1
  let s := s.media fun m => { m with
    dumpSeq := seq, dumpStart := some (seq, ready), dumpUsed := (m.dumpUsed ++ ready).eraseDups, dumpRecs := [], dumped := [] }
  ready.foldl (fun (s : State) k => (s.ownDump k).dumpProgram k (dumpStartBytes seq ready.length)) s

/-! ## Warm reset (R85, R431) -/

/-- Steps 2 and 3 of a warm reset: DEPART; carriers go to the partner, or heads park and spindles brake. -/
def State.warmHandover (s : State) : State :=
  let mine := (List.range 96).filter (fun k => s.on (STR.STRING_STS.DRIVER k))
  if s.synced then mine.foldl (fun (s : State) k => s.askRelease k none) (s.sendNrn 5 7 [] [])
  else (mine.flatMap slotsOf).foldl (fun (s : State) h => s.unload h true) s

/-- After the dump of a warm reset, this head's own port is fenced on every module (R431). -/
def State.fenceSelf (s : State) : State :=
  ((List.range 48).filter s.linkUp).foldl (fun (s : State) k => s.sendBridge k 7 [0, 1] [] (.fence false true)) s

/-! ## Start -/

/-- The media's own tables come back at a start: volumes, policies and fret map from the map store; what was gathering or
half written is not (R24, R371, R242). -/
def State.loadMedia (s : State) : State :=
  let m := s.nv.media
  let t : Tables := { s.act with vols := m.vols, policies := m.policies, sets := m.sets }
  let keep := m.bands.filter (fun b => b.owning = 0 && b.erasing = 0 && b.use_ ≠ 3)
  let band := fun (b : Band) => ({ b with
    state := if b.state = 1 ∨ b.state = 3 then 2 else b.state
    void := b.issued.filter (fun x => !b.done_.contains x && !b.void.contains x) ++ b.void
    waiting := [] } : Band)
  let s := ({ s with act := t, shadow := t } : State).media fun m => { m with bands := keep.map band }
  -- A stop is unclean until the records of a whole dump say otherwise (R371).
  s.setDp fun d => { d with resync := keep.any (fun b => !b.dirty.isEmpty) }

/-- S1: the links of the variant train (R67, R78, Table "Power-Up, Reset and Staged Start" 1). -/
def State.startStrings (s : State) : State :=
  let s := (List.range 48).foldl (fun (s : State) k => if s.linkEnabled k then s.flashTo k 1 else s) s
  let s := (List.range 96).foldl (fun (s : State) k => if s.stringEnabled k then s.stringTo k 1 else s) s
  (s.put NRN.PAIR_STS.PARTNER 1).setPair fun p => { p with s1At := s.aon }

/-- Partner synchronisation is complete, or the partner has been declared absent: this head won the quorum alone (R75,
R430). -/
def State.partnerSettled (s : State) : Bool := s.synced
def State.partnerAbsent (s : State) : Bool := s.get NRN.PAIR_STS.ROLE = roleSurvivor && !s.synced

/-- S3: a head whose partner is SYNCED serves its home volumes, unless it returns as STANDBY (Table "Dual Heads and the
Nerryn Link" 3); restored data destages from here (R267). -/
def State.enterS3 (s : State) : State :=
  let s := if s.get NRN.PAIR_STS.ROLE = 0 ∧ s.synced then s.put NRN.PAIR_STS.ROLE roleServing else s
  -- Members that are absent at the start (R375).
  let gone := ((s.act.sets.flatMap RSet.members).eraseDups).filter (fun c =>
    if memberIsModule c then !s.linkUp (memberNo c) else decide (s.hdaState (memberNo c) ≤ 1))
  let s := gone.foldl State.memberDown s
  s.gatherAll

/-- The map is warm (R254). -/
def State.mapWarm (s : State) : Bool := s.on FTL.STS.MAP_WARM

/-- The partner reports a feed swap in its heartbeats (R47). -/
def State.partnerSwapping (s : State) : Bool := s.synced && s.pair.beat.feedSwap

/-! ## Gating, keys and the dead head -/

/-- A quadrant may be gated: its HDAs are parked and spun down, so every carrier can take SLEEP (R31, R337, R358). -/
def State.quadCanGate (s : State) (q : Nat) : Bool :=
  (s.drivenIn q).all (fun h => s.srvState h = 0 || s.srvState h = 9) &&
  !s.dp.runs.any (fun r => r.hda / 48 = q) && !s.mccDraining q

/-- The key slots of a cluster are zeroised when it is gated (R213). -/
def State.zeroiseKeys (s : State) (cluster : Nat) : State := s.zeroise cluster

/-- A map page whose host copy could not be read comes from the map store (R469, R252). -/
def State.refetchPage (s : State) (vol page : Nat) : State := s.setDp fun d => { d with
  pages := d.pages.map (fun p => if p.vol = vol ∧ p.page = page then { p with host := none } else p) }

/-- The outputs of Table "Power-Up, Reset and Staged Start" 3, and how each is held. -/
inductive Ball where
  | feedEn (b : Bool)
  | feedLo (b : Bool)
  | thermtripN | spiRstN | spiCsN | spiCs2N | spiClk | uartTx | i3c | pmbus
  | gpio (n : Nat)
  | tdo
  | ddr (ch : Nat)
  | pcie
  | ethernet (p : Nat)
  | flash (k : Nat)
  | nerryn
  | string (k : Nat)
  deriving DecidableEq, Repr

inductive Level where
  | low | high
  /-- Released: high impedance. -/
  | released
  /-- Transmitters in electrical idle. -/
  | idle
  /-- DDR5 reset asserted, clocks stopped. -/
  | held
  /-- In use by firmware or hardware. -/
  | driven
  deriving DecidableEq, Repr

/-- How the block holds an output (R77, R79, R531): as Table 3 until its first write, and again on a dead head but for the feed
signals, THERMTRIP_N, SPI, I3C, PMBus and UART. No command of the model configures a GPIO or shifts the test port. -/
def State.level (s : State) (b : Ball) : Level :=
  let alive := !s.on SYS.START_STS.DEAD
  let at_ := fun (st : Nat) => decide (st ≤ s.start.reached)
  let hl := fun (x : Bool) => if x then Level.high else Level.low
  let tx := fun (x : Bool) => if x && alive then Level.driven else Level.idle
  match b with
  | .feedEn b => hl (if b then s.pwr.feedB.en else s.pwr.feedA.en)
  | .feedLo b => hl (if b then s.pwr.feedB.lo else s.pwr.feedA.lo)
  | .thermtripN => if s.pwr.tripped then .low else .released
  | .spiRstN => hl (at_ 1)
  | .spiCsN => if at_ 1 then .driven else .high
  | .spiCs2N => if at_ 1 then .driven else .high
  | .spiClk => if at_ 1 then .driven else .low
  | .uartTx => if at_ 1 then .driven else .high
  | .i3c => if at_ 1 then .driven else .released
  | .pmbus => if at_ 1 then .driven else .released
  | .gpio _ => .released
  | .tdo => .released
  | .ddr ch => if (s.chan ch).tried && alive then .driven else .held
  | .pcie => tx s.pci.ready
  | .ethernet p => tx (s.portEnabled p && (at_ 4 || s.bit SYS.START_STS.SERVE_Q (p / 2) && at_ 3))
  | .flash k => tx (decide (s.get (FLK.LINKk_STS.STATE k) ≠ 0))
  | .nerryn => tx (at_ 2 && decide (s.get NRN.PAIR_STS.PARTNER ≠ 0))
  | .string k => tx (decide (s.get (STR.STRING_STS.STATE k) ≠ 0))

/-- A dead head's outputs are those before their first write (R93, R531): no link, no endpoint. -/
def State.silence (s : State) : State :=
  let s := (List.range 48).foldl (fun (s : State) k => s.flashTo k 0) s
  let s := (List.range 96).foldl (fun (s : State) k => ((s.stringTo k 0).clrB (STR.STRING_STS.DRIVER k)).showDriver k) s
  let s := (List.range 8).foldl (fun (s : State) p => s.put (VRM.PORTp_STS.UP p) 0) s
  let s := (s.clrB NRN.STS.UP).releaseLocks 5
  { s with pci := { s.pci with ready := false, linkUp := false } }

end Sys2Proof.Machine
end

