-- ==== Sys2Proof/Machine/Clusters.lean ====
section
/-! DEFINITION. Commands of spec/01: parity errors, spare swaps and retirements, the weekly test, and the epoch
control register. -/

namespace Sys2Proof.Machine

/-- A write to SYS_EPOCH_CTL (R25 to R28): COMMIT acts before ABANDON in one write (log entry 13). -/
def State.epochCtl (s : State) (ident : Nat) (data : Word) : State :=
  s.ctlWrite ident 0x30 data [0, 2, 7] fun s =>
    let s := s.iff (bitAt data.toNat 0) State.requestCommit
    s.iff (bitAt data.toNat 1 && !s.on SYS.EPOCH_STS.PEND) State.abandonShadow

/-- COMMIT (R25, R26). -/
def execEpochCommit (ident : Nat) (data : Word) (s : State) : Host.Outcome State Fault Refusal :=
  done (s.epochCtl ident data)

/-- ABANDON (R28). -/
def execEpochAbandon (ident : Nat) (data : Word) (s : State) : Host.Outcome State Fault Refusal :=
  done (s.epochCtl ident data)

/-- SYS_EPOCH_RET reaches zero: the retiring banks are freed and a waited commit starts (R25, R26). -/
def execRetiringBanksFreed (s : State) : Host.Outcome State Fault Refusal :=
  done (if s.retCount = 0 then s.freeRetiring else s)

/-- A cluster reports a parity error; the 16th within 24 h triggers a swap (R16, R17). -/
def State.parityError (s : State) (q k : Nat) : State :=
  let x := s.spares.getD q {}
  let times := (k, s.aon) :: x.parity.filter (fun e => s.aon < e.2 + Config.day)
  let hit := decide (16 ≤ (times.filter (fun e => e.1 = k)).length) && s.get (SYS.CLMAP.C q k) ≠ 0xF
  let s := s.setSpare q { x with parity := if hit then times.filter (fun e => e.1 ≠ k) else times }
  s.iff hit (·.swapTrigger q k true)

/-- PARITY_ERROR. -/
def execParityError (q k : Nat) (s : State) : Host.Outcome State Fault Refusal :=
  okIf (q < 4 && k < 8) (s.parityError q k)

/-- Event 3 ends: the spare is powered, contexts cached in the cluster are written back (R17); a retirement goes on to
its remap (R18). -/
def execSwapDrainDone (q : Nat) (s : State) : Host.Outcome State Fault Refusal :=
  let x := s.spares.getD q {}
  let writeBack := fun (s : State) (cl : Nat) => ({ s with
    hq := { s.hq with qps := s.hq.qps.map (fun (p : Qp) =>
      if p.cached ∧ s.act.qps.any (fun b => b.qpid = p.qpid ∧ b.cluster = cl) then { p with cached := false, sram := true } else p) }
    vrm := { s.vrm with conns := s.vrm.conns.map (fun (c : Conn) =>
      if c.cached ∧ s.act.conns.any (fun b => b.id = c.id ∧ b.cluster = cl) then { c with cached := false, sram := true } else c) } } : State)
  okIf (q < 4) (match x.phase with
    | .draining k retire _ =>
      if s.hq.cmds.any (fun c => c.cluster = 8 * q + k) then s
      else (writeBack s (8 * q + k)).setSpare q { x with phase := if retire then .remap k true else .selfTest k }
    | _ => s)

/-- Event 5: the spare's self-test ends (R17); a failure leaves no usable spare and makes the swap a retirement (R18). -/
def execSpareSelfTestDone (q : Nat) (pass : Bool) (s : State) : Host.Outcome State Fault Refusal :=
  let x := s.spares.getD q {}
  okIf (q < 4) (match x.phase with
    | .selfTest k =>
      if pass then s.setSpare q { x with phase := .remap k false }
      else ((s.setSpare q { x with phase := .remap k true }).setB (SYS.SPARE_STS.SPARE_USED q)).healthWrite q
    | _ => s)

/-- Event 6 and 7: the remap commits once SYS_EPOCH_RET is zero; while a commit is pending it joins that one (R29). -/
def execSwapRemap (q : Nat) (s : State) : Host.Outcome State Fault Refusal :=
  okIf (q < 4) (if s.remapDue q && s.retCount = 0 && !s.on SYS.EPOCH_STS.PEND then s.commitRemap q else s)

/-- The weekly self-test of the spare (R16). -/
def execSpareWeeklyTest (q : Nat) (pass : Bool) (s : State) : Host.Outcome State Fault Refusal :=
  let x := s.spares.getD q {}
  let s := s.passTo (x.testedAt + 7 * Config.day)
  let s := s.setSpare q { x with testedAt := s.aon }
  okIf (q < 4) (if pass || s.on (SYS.SPARE_STS.SPARE_USED q) then s
    else (s.setB (SYS.SPARE_STS.SPARE_USED q)).healthWrite q)

/-- Expert command CLUSTER_SWAP (R532): DETAIL 1 while another swap runs in the quadrant. -/
def execClusterSwap (p : Packet) (s : State) : Host.Outcome State Fault Refusal :=
  runCmd 0x8120 p s fun s =>
    let q := bitsAt p.loc 4 2; let k := bitsAt p.loc 0 3
    if bitsAt p.loc 6 2 ≠ 2 then s.refuseWith 0x0005 0
    else if s.get (SYS.CLMAP.C q k) = 0xF then s.refuseWith 0x000F 3
    else { st := s.swapTrigger q k false, detail := s.get (SYS.SPARE_STS.SWAP_BUSY q) }

end Sys2Proof.Machine
end

