-- ==== Sys2Proof/Machine/Power.lean ====
section
/-! DEFINITION. Commands of spec/02: feeds, hold-up, sprint and power cap, thermal control, gating and wake. -/

namespace Sys2Proof

/-- The operands that VSNS codes may take. -/
def codeOk (c : Nat) : Bool := c < 1024
def VRange.ok (v : VRange) : Bool := v.lo ≤ v.hi && v.hi < 1024

/-- Feed A is 0 and feed B is 1 in registers and records. -/
def FeedId.num : FeedId → Nat
  | .a => 0
  | .b => 1

def FeedId.other : FeedId → FeedId
  | .a => .b
  | .b => .a

end Sys2Proof

namespace Sys2Proof.Machine

/-! ## Feeds -/

/-- A VSNS code lies in the window (R527), computed exactly. -/
def State.inWindow (s : State) (code : Nat) : Bool :=
  s.get PWR.FEED_CFG.UV_MV * 1024 ≤ code * 1500 && code * 1500 ≤ s.get PWR.FEED_CFG.OV_MV * 1024

/-- VSNS stayed in the window over an interval. -/
def State.stayed (s : State) (v : VRange) : Bool := s.inWindow v.lo && s.inWindow v.hi

/-- The state field of a feed. -/
def feedFld : FeedId → Fld
  | .a => PWR.FEED_STS.A_STATE
  | .b => PWR.FEED_STS.B_STATE

def State.feed (s : State) : FeedId → Feed
  | .a => s.pwr.feedA
  | .b => s.pwr.feedB

def State.setFeed (s : State) (f : FeedId) (x : Feed) : State :=
  match f with
  | .a => { s with pwr := { s.pwr with feedA := x } }
  | .b => { s with pwr := { s.pwr with feedB := x } }

/-- The feed states of Table "Package, Supplies, Feeds and Clocks" 4. -/
def fsAbsent : Nat := 0
def fsActive : Nat := 1
def fsStandby : Nat := 2
def fsVerifying : Nat := 3
def fsFailed : Nat := 4
def fsFenced : Nat := 5

def State.feedState (s : State) (f : FeedId) : Nat := s.get (feedFld f)
def State.putFeedState (s : State) (f : FeedId) (v : Nat) : State := s.put (feedFld f) v

/-- PWR_FEED_STS as a word. -/
def State.feedSts (s : State) : Nat :=
  s.get PWR.FEED_STS.A_STATE + 16 * s.get PWR.FEED_STS.B_STATE + 2 ^ 8 * s.get PWR.FEED_STS.ACTIVE +
  2 ^ 9 * s.get PWR.FEED_STS.SWAP_BUSY + 2 ^ 10 * s.get PWR.FEED_STS.SWAP_ABORT +
  2 ^ 11 * s.get PWR.FEED_STS.SWAP_REFUSED + 2 ^ 16 * s.get PWR.FEED_STS.HOLDUP_OK

/-- The FEED_FAILED record (R42): feed, cause, and PWR_FEED_STS after the change in DATA bytes 32 to 35. -/
def State.feedFailedRecord (s : State) (f : FeedId) (cause : Nat) : State :=
  s.record 0x0201 0 f.num cause (leBytes 4 s.feedSts)

/-- Both EN outputs may rise: POR_N is 1, the hold after a cold reset is over, no thermal trip (R41, R79). -/
def State.mayEnable (s : State) : Bool := s.pwr.porN && s.pwr.holdUntil ≤ s.aon && !s.pwr.tripped

/-- Enable a feed as active (R41, R528); the stage times count from the tick at which it became good. -/
def State.enableActive (s : State) (f : FeedId) (goodAt : Nat) : State :=
  let s := s.setFeed f { s.feed f with en := true, lo := false, enAt := s.aon, seen := false, proving := true, goodAt := goodAt }
  let s := (s.putFeedState f fsActive).put PWR.FEED_STS.ACTIVE f.num
  if s.start.reached = 0 then { s with start := { s.start with base := some goodAt } } else s

/-- Enable a feed for verification (R44). -/
def State.enableVerify (s : State) (f : FeedId) : State :=
  (s.setFeed f { s.feed f with en := true, lo := true, enAt := s.aon, seen := false, proving := false }).putFeedState f fsVerifying

/-- Disable a feed and give it a state. -/
def State.disable (s : State) (f : FeedId) (st : Nat) : State :=
  (s.setFeed f { s.feed f with en := false, lo := true, seen := false, proving := false, waitSince := s.aon }).putFeedState f st

/-- At a tick of the 1 ms grid (R41): the first good feed becomes active, A before B; another absent feed that is good
goes to verification. -/
def State.feedTick (s : State) (aGood bGood : Bool) : State :=
  if ¬ s.mayEnable then s else
  let absent := fun (s : State) f => decide (s.feedState f = fsAbsent)
  let carrier := s.feedState .a = fsActive ∨ s.feedState .b = fsActive
  let s := if carrier then s
    else if aGood && absent s .a then s.enableActive .a s.aon
    else if bGood && absent s .b then s.enableActive .b s.aon
    else s
  let second := fun (s : State) f good =>
    if good && absent s f && decide (s.feedState f.other = fsActive) then
      (s.setFeed f { s.feed f with goodAt := s.aon }).enableVerify f else s
  second (second s .a aGood) .b bGood

/-- FEED_TICK (R41). -/
def execFeedTick (a b : VRange) (s : State) : Host.Outcome State Fault Refusal :=
  let s := s.passTo (s.nextTick Config.ms)
  okIf (a.ok && b.ok) (s.feedTick (s.stayed a) (s.stayed b))

/-- A verification, or a start as active, has failed (R44, R528): FAILED, FENCED at the third in a row. -/
def State.failVerify (s : State) (f : FeedId) (cause : Nat) : State :=
  let n := (s.feed f).fails + 1
  let s := s.setFeed f { s.feed f with fails := n }
  (s.disable f (if 3 ≤ n then fsFenced else fsFailed)).feedFailedRecord f cause

/-- A STANDBY feed takes the load when the active one fails (R42); in any other state it does not. -/
def State.handOver (s : State) (f : FeedId) : State :=
  let o := f.other
  if s.feedState o = fsStandby then
    ((s.setFeed o { s.feed o with lo := false }).putFeedState o fsActive).put PWR.FEED_STS.ACTIVE o.num
  else s

/-- A feed enabled as active has not raised its PGOOD (R528): the other feed, if it is good, is enabled as active, and the
stage times count from the tick at which it became good; a stage reached on the failed feed is reached again. -/
def State.startOther (s : State) (f : FeedId) : State :=
  let o := f.other
  let good := s.feedState o = fsStandby ∨ s.feedState o = fsVerifying
  let proving := decide (s.feedState o = fsVerifying)
  let s := if good then
      ((s.setFeed o { s.feed o with lo := false, proving := proving }).putFeedState o fsActive).put PWR.FEED_STS.ACTIVE o.num
    else s
  if s.pwr.rails then s else
  { s with
    start := { s.start with reached := 0, base := if good then some (s.feed o).goodAt else none }
    pwr := { s.pwr with rails := decide good && !proving } }

/-- A running swap aborts because a feed failed (R49). -/
def State.abortSwap (s : State) : State :=
  let s := (s.setB PWR.FEED_STS.SWAP_ABORT).clrB PWR.FEED_STS.SWAP_BUSY
  let due := if s.get PWR.SWAP_CFG.PERIOD_H = 0 then none else some (s.aon + s.get PWR.SWAP_CFG.PERIOD_H * Config.hour)
  let s := { s with pwr := { s.pwr with swapStart := none, swapDueAt := due } }
  s.record 0x0202 0 (s.get PWR.FEED_STS.ACTIVE) 1 []

/-- Neither feed is ACTIVE or STANDBY: the power-loss dump starts (R50), except before S3 (R76). -/
def State.lossOfBoth (s : State) : State :=
  let gone := fun f => s.feedState f ≠ fsActive ∧ s.feedState f ≠ fsStandby
  if gone .a ∧ gone .b ∧ s.start.reached = 4 then
    { s with pwr := { s.pwr with drawLimited := true } }.startDump
  else s

/-- An ACTIVE or STANDBY feed has failed (R42, R43, R49, R50). -/
def State.feedLost (s : State) (f : FeedId) (cause : Nat) : State :=
  let wasActive := decide (s.feedState f = fsActive)
  let inSwap := s.on PWR.FEED_STS.SWAP_BUSY
  let s := s.disable f fsFailed
  let s := if inSwap ∧ s.feedState f.other = fsStandby ∨ inSwap ∧ s.feedState f.other = fsActive then
      let o := f.other
      ((s.setFeed o { s.feed o with lo := false }).putFeedState o fsActive).put PWR.FEED_STS.ACTIVE o.num
    else s.iff wasActive (·.handOver f)
  let s := s.feedFailedRecord f cause
  let s := s.iff inSwap State.abortSwap
  s.lossOfBoth

/-- FEED_FAILED (R42): four samples outside the window, or PGOOD fallen after it had been 1. -/
def execFeedFailed (feed : FeedId) (loss : FeedLoss) (s : State) : Host.Outcome State Fault Refusal :=
  let st := s.feedState feed
  let held := st = fsActive ∨ st = fsStandby
  match loss with
  | .vsns c1 c2 c3 c4 =>
    let out := !s.inWindow c1 && !s.inWindow c2 && !s.inWindow c3 && !s.inWindow c4
    okIf (codeOk c1 && codeOk c2 && codeOk c3 && codeOk c4)
      (if ¬ out then s else if held then s.feedLost feed 1 else if st = fsVerifying then s.failVerify feed 4 else s)
  | .pgoodLow => done (if held ∧ (s.feed feed).seen then s.feedLost feed 2 else s)

/-- FEED_RESYNC (R44). -/
def execFeedResync (feed : FeedId) (v : VRange) (s : State) : Host.Outcome State Fault Refusal :=
  okIf v.ok (if s.feedState feed = fsFailed ∧ s.stayed v ∧ s.mayEnable then
      (s.passTo ((s.feed feed).waitSince + max 1 (s.get PWR.FEED_CFG.RESYNC_S) * Config.sec)).enableVerify feed
    else s)

/-- PGOOD_RISE (R44): within 50 ms and with VSNS in the window. -/
def execPgoodRise (feed : FeedId) (v : VRange) (s : State) : Host.Outcome State Fault Refusal :=
  okIf v.ok (if s.feedState feed = fsVerifying ∧ s.stayed v ∧ s.aon ≤ (s.feed feed).enAt + 50 * Config.ms then
      (s.setFeed feed { s.feed feed with seen := true, fails := 0 }).putFeedState feed fsStandby
    else s)

/-- VERIFY_TIMEOUT (R44, R528): PGOOD has not risen within 50 ms. -/
def execVerifyTimeout (feed : FeedId) (s : State) : Host.Outcome State Fault Refusal :=
  let due := (s.feed feed).enAt + 50 * Config.ms
  done (if s.feedState feed = fsVerifying then (s.passTo due).failVerify feed 3
    else if s.feedState feed = fsActive ∧ (s.feed feed).proving then ((s.passTo due).failVerify feed 3).startOther feed
    else s)

/-- ACTIVE_PGOOD_RISE (R528, R42). -/
def execActivePgoodRise (feed : FeedId) (s : State) : Host.Outcome State Fault Refusal :=
  done (if s.feedState feed = fsActive ∧ (s.feed feed).proving ∧ s.aon ≤ (s.feed feed).enAt + 50 * Config.ms then
      let s := s.setFeed feed { s.feed feed with seen := true, proving := false, fails := 0 }
      { s with pwr := { s.pwr with rails := true } }
    else s)

/-- One feed's REARM bit (R44). -/
def State.rearm (s : State) (f : FeedId) : State :=
  if s.feedState f = fsFenced then
    (s.setFeed f { s.feed f with fails := 0, waitSince := s.aon }).putFeedState f fsFailed
  else s

/-- The conditions of R47. -/
def State.swapAllowed (s : State) : Bool :=
  let act : FeedId := if s.on PWR.FEED_STS.ACTIVE then .b else .a
  s.feedState act = fsActive && s.feedState act.other = fsStandby && s.pwr.holdup && !s.on FTL.DUMP_STS.RUN &&
  !s.partnerSwapping && !s.on NRN.PAIR_STS.SWAP_BUSY && !s.on PWR.FEED_STS.SWAP_BUSY

/-- Event 1 of a swap (R48). -/
def State.beginSwap (s : State) : State :=
  let act : FeedId := if s.on PWR.FEED_STS.ACTIVE then .b else .a
  let s := (s.setFeed act.other { s.feed act.other with lo := false }).setB PWR.FEED_STS.SWAP_BUSY
  { s with pwr := { s.pwr with swapStart := some (s.aon, act), swapWaitSince := none, swapDueAt := none } }

/-- A write to PWR_FEED_CTL (R44, R47). -/
def State.feedCtl (s : State) (ident : Nat) (data : Word) : State :=
  let d := data.toNat
  s.ctlWrite ident 0x10004 data [0, 2, 4, 7] fun s =>
    let s := s.iff (bitAt d 0) (·.rearm .a)
    let s := s.iff (bitAt d 1) (·.rearm .b)
    s.iff (bitAt d 2) (fun s => if s.swapAllowed then s.beginSwap else s.setB PWR.FEED_STS.SWAP_REFUSED)

/-- REARM (R44). -/
def execRearm (ident : Nat) (data : Word) (s : State) : Host.Outcome State Fault Refusal := done (s.feedCtl ident data)

/-- SWAP_NOW (R47). -/
def execSwapNow (ident : Nat) (data : Word) (s : State) : Host.Outcome State Fault Refusal := done (s.feedCtl ident data)

/-- SWAP_DUE (R46, R47): a due swap starts, or waits. -/
def execSwapDue (s : State) : Host.Outcome State Fault Refusal :=
  done (if s.get PWR.SWAP_CFG.PERIOD_H = 0 then s else match s.pwr.swapWaitSince, s.pwr.swapDueAt with
    | some _, _ => if s.swapAllowed then s.beginSwap else s
    | none, some t =>
      let s := s.passTo t
      if s.swapAllowed then s.beginSwap
      else { s with pwr := { s.pwr with swapWaitSince := some s.aon, swapDueAt := none } }
    | none, none => s)

/-- When the next scheduled swap falls due (R46). -/
def State.nextSwapDue (s : State) : Option Nat :=
  if s.get PWR.SWAP_CFG.PERIOD_H = 0 then none else some (s.aon + s.get PWR.SWAP_CFG.PERIOD_H * Config.hour)

/-- SWAP_SKIPPED (R47). -/
def execSwapSkipped (s : State) : Host.Outcome State Fault Refusal :=
  done (match s.pwr.swapWaitSince with
    | none => s
    | some t =>
      if s.get PWR.SWAP_CFG.PERIOD_H = 0 then s else
      let s := s.passTo (t + s.get PWR.SWAP_CFG.DEFER_MAX_MIN * 60 * Config.sec)
      if s.swapAllowed then s.beginSwap
      else { s with pwr := { s.pwr with swapWaitSince := none, swapDueAt := s.nextSwapDue } }.record 0x0203 0 0 0 [])

/-- SWAP_CHECK (R48, R49): event 2, then event 3 or the abort. -/
def execSwapCheck (aPgood bPgood : Bool) (aCode bCode : Nat) (s : State) : Host.Outcome State Fault Refusal :=
  okIf (codeOk aCode && codeOk bCode) (match s.pwr.swapStart with
    | none => s
    | some (t, act) =>
      if ¬ s.on PWR.FEED_STS.SWAP_BUSY then s else
      let s := s.passTo (t + 5 * Config.ms)
      let o := act.other
      let pg := match o with
        | .a => aPgood
        | .b => bPgood
      if pg && s.inWindow aCode && s.inWindow bCode then
        let s := (s.setFeed act { s.feed act with lo := true }).putFeedState act fsStandby
        let s := ((s.putFeedState o fsActive).put PWR.FEED_STS.ACTIVE o.num).clrB PWR.FEED_STS.SWAP_BUSY
        let s := { s with pwr := { s.pwr with swapStart := none, swapDueAt := s.nextSwapDue } }
        s.record 0x0202 0 o.num 0 []
      else (s.setFeed o { s.feed o with lo := true }).abortSwap)

/-- HOLDUP_OK changes (R52): once it is 1, writes that both write caches hold complete (R20). -/
def execHoldupOk (level : Bool) (s : State) : Host.Outcome State Fault Refusal :=
  let s : State := { s with pwr := { s.pwr with holdup := level } }
  done (if level ∧ s.synced then
      (s.dp.writes.filter (fun w => w.hosts && w.mirrored && !w.fua)).foldl State.completeWrite s
    else s)

/-! ## Sprint and the power cap -/

/-- The counted caps and budget (spec/02, Tables 15 and 16). -/
def State.sprintW (s : State) : Nat :=
  let v := s.get PWR.CAP.SPRINT_W; if 150 ≤ v ∧ v ≤ 360 then v else 360
def State.sustW (s : State) : Nat :=
  let v := s.get PWR.CAP.SUST_W; if 150 ≤ v ∧ v ≤ 300 then v else 300
def State.budgetMax (s : State) : Nat := min 90 (s.get PWR.SPRINT_CFG.BUDGET_S) * 1000

/-- The target cap in mW (R57). -/
def State.capTarget (s : State) : Nat :=
  (if s.on PWR.SPRINT_CFG.EN ∧ ¬ s.on PWR.SPRINT_STS.EXHAUSTED then s.sprintW else s.sustW) * 1000

/-- The cap in force in mW: a linear ramp over 2 s (R57). -/
def State.capNow (s : State) : Nat :=
  let el := s.aon - s.pwr.capSince
  if 2 * Config.sec ≤ el then s.pwr.capTo
  else (s.pwr.capFrom * (2 * Config.sec - el) + s.pwr.capTo * el) / (2 * Config.sec)

/-- Start a new ramp when the target has changed, and show the cap (R57). -/
def State.retarget (s : State) : State :=
  let t := s.capTarget
  let s := if t = s.pwr.capTo then s
    else { s with pwr := { s.pwr with capFrom := s.capNow, capTo := t, capSince := s.aon } }
  s.put PWR.SPRINT_STS.CAP_W (s.capNow / 1000)

/-- SPRINT_BUDGET_UPDATE (R56, R57). -/
def execSprintBudgetUpdate (avgW : Nat) (s : State) : Host.Outcome State Fault Refusal :=
  let s := s.passTo (s.nextTick (10 * Config.ms))
  let b := if s.sustW < avgW then s.pwr.budgetMs - 10
    else if avgW + 20 < s.sustW then min s.budgetMax (s.pwr.budgetMs + 5)
    else s.pwr.budgetMs
  let s := { s with pwr := { s.pwr with budgetMs := b } }
  let s := if b = 0 then s.setB PWR.SPRINT_STS.EXHAUSTED
    else if s.get PWR.SPRINT_CFG.REARM_S * 1000 ≤ b then s.clrB PWR.SPRINT_STS.EXHAUSTED else s
  done s.retarget

/-- POWER_STEP_UPDATE (R58). -/
def execPowerStepUpdate (nowW avg1sW : Nat) (s : State) : Host.Outcome State Fault Refusal :=
  let s := s.passTo (s.nextTick (100 * Config.us))
  let s := ((s.put PWR.MEAS.NOW_W nowW).put PWR.MEAS.AVG1S_W avg1sW).put PWR.SPRINT_STS.ACTIVE (b2n (s.sustW < nowW))
  let s := s.retarget
  let p := s.pwr
  let p := if s.capNow < nowW * 1000 then { p with powerStep := min 15 (p.powerStep + 1), lowSince := none }
    else if nowW * 1000 + 5000 ≤ s.capNow then
      let since := p.lowSince.getD s.aon
      if since + Config.ms ≤ s.aon then { p with powerStep := p.powerStep - 1, lowSince := some s.aon }
      else { p with lowSince := some since }
    else { p with lowSince := none }
  okIf (nowW < 512 && avg1sW < 512) { s with pwr := p }

/-! ## Thermal -/

/-- Sensors of a quadrant and of the spine (R59). -/
def quadTemps (temps : List Nat) (q : Nat) : List Nat := (temps.drop (4 * q)).take 4 ++ temps.drop 16

/-- THERMTRIP_N latches (R61, R79): data-plane clocks stop, both feed enables stay at 0 until POR_N. -/
def State.trip (s : State) : State :=
  let s := s.setFeed .a { s.pwr.feedA with en := false, lo := true }
  let s := s.setFeed .b { s.pwr.feedB with en := false, lo := true }
  let s := [0, 1, 2, 3].foldl (fun (s : State) q => s.clrB (CLK.Qn_STS.LOCK q)) s
  { s with pwr := { s.pwr with tripped := true } }

/-- THERMAL_STEP_UPDATE (R59); a reading of 112 °C or more trips (R61). -/
def execThermalStepUpdate (temps : List Nat) (s : State) : Host.Outcome State Fault Refusal :=
  let s := s.passTo (s.nextTick Config.ms)
  let thr := min 104 (s.get PWR.THERM_CFG.THROTTLE_C)
  let warn := s.get PWR.THERM_CFG.WARN_C
  let s := [0, 1, 2, 3].foldl (fun (s : State) q =>
    let ts := quadTemps temps q
    let st := s.pwr.thermStep.getD q 0
    if ts.any (fun t => thr ≤ t) then { s with pwr := { s.pwr with thermStep := s.pwr.thermStep.set q (min 15 (st + 1)) } }
    else if ts.all (fun t => t + 3 ≤ thr) ∧ 0 < st ∧ ((s.pwr.thermFell.getD q none).map (fun t => decide (t + 10 * Config.ms ≤ s.aon))).getD true then
      { s with pwr := { s.pwr with thermStep := s.pwr.thermStep.set q (st - 1), thermFell := s.pwr.thermFell.set q (some s.aon) } }
    else s) s
  let hot := (List.range 20).filter (fun i => warn ≤ temps.getD i 0)
  let fresh := hot.filter (fun i => ¬ s.pwr.warned.contains i)
  let s := fresh.foldl (fun (s : State) i => (s.setB PWR.THERM_STS.WARN).record 0x0204 0 i (temps.getD i 0) []) s
  let s := { s with pwr := { s.pwr with warned := hot } }
  let s := s.put PWR.THERM_STS.TJ_MAX_C (temps.foldl max 0)
  okIf (temps.length = 20 && temps.all (fun t => t < 256))
    ((s.put PWR.THERM_STS.SPINE_HOT (b2n ((temps.drop 16).any (fun t => thr ≤ t)))).iff (temps.any (fun t => 112 ≤ t)) State.trip)

/-- THERMAL_TRIP (R61, R79): a sensor reads 112 °C or more. -/
def execThermalTrip (sensor tempC : Nat) (s : State) : Host.Outcome State Fault Refusal :=
  okIf (sensor < 20 && tempC < 256) (if tempC < 112 then s else s.trip)

/-! ## Gating and wake -/

/-- CLUSTER_GATE (R31, R53): entry starts once the cluster has been idle for CLUSTER_US; its key slots are zeroised. -/
def execClusterGate (q k : Nat) (s : State) : Host.Outcome State Fault Refusal :=
  let cl := 8 * q + k
  let us := s.get PWR.IDLE.CLUSTER_US
  okIf (q < 4 && k < 8) (if us = 0 ∨ s.clusterHasWork cl ∨ s.pwr.clusters.getD cl .gated ≠ .awake then s else
    let s := s.passTo (s.pwr.clusterIdle.getD cl 0 + us * Config.us)
    (s.setCluster cl (.entering false)).zeroiseKeys cl)

/-- QUADRANT_GATE (R31, R53, R54): after every carrier of the quadrant has received SLEEP. -/
def execQuadrantGate (q : Nat) (s : State) : Host.Outcome State Fault Refusal :=
  let ms := s.get PWR.IDLE.QUAD_MS
  okIf (q < 4) (if ms = 0 ∨ s.on (CLK.Qn_CTL.FORCE_ON q) ∨ s.quadHasWork q ∨ ¬ s.quadCanGate q ∨ s.pwr.quads.getD q .gated ≠ .awake then s
    else
      let s := s.passTo (s.pwr.quadIdle.getD q 0 + ms * Config.ms)
      (s.sleepCarriers q).setQuad q (.entering false))

/-- GATE_ENTRY_DONE (R32, R54). -/
def execGateEntryDone (q : Nat) (cluster : Option Nat) (s : State) : Host.Outcome State Fault Refusal :=
  match cluster with
  | some k =>
    let cl := 8 * q + k
    okIf (q < 4 && k < 8) (match s.pwr.clusters.getD cl .gated with
      | .entering w => (s.setCluster cl .gated).iff w (·.wakeCluster cl)
      | _ => s)
  | none =>
    okIf (q < 4) (match s.pwr.quads.getD q .gated with
      | .entering w =>
        let s := s.gateQuad q
        if w then s.wakeQuad q else s
      | _ => s)

/-- CLUSTER_WAKE (R32, R54): a wake cause reaches a cluster. -/
def execClusterWake (q k : Nat) (s : State) : Host.Outcome State Fault Refusal :=
  okIf (q < 4 && k < 8) (s.wakeCluster (8 * q + k))

/-- QUADRANT_WAKE (R32, R54). -/
def execQuadrantWake (q : Nat) (s : State) : Host.Outcome State Fault Refusal :=
  okIf (q < 4) (s.causeWake q)

end Sys2Proof.Machine
end

