-- ==== Sys2Proof/Machine/Settings.lean ====
section
/-! DEFINITION. The two settings slots of the SPI NOR: which is current, how a change is stored, and how the records
are loaded at a start (R89, R503, R522). -/

namespace Sys2Proof.Machine

/-- Show the current slot (spec/18, UPD_SET_STS). -/
def State.showSlot (s : State) : State :=
  (s.put UPD.SET_STS.SLOT s.curSlot).put UPD.SET_STS.FORMAT (s.slot s.curSlot).format

/-- Write a whole slot's contents to the other slot with SEQ + 1; current once it has read back intact (R503; log entry 165). -/
def State.writeSlot (s : State) (format : Nat) (recs : List (List Nat × List Nat)) (readBackOk : Bool) : State :=
  let c := s.curSlot
  let new : Slot := { valid := readBackOk, format := format, seq := ((s.slot c).seq + 1) % 2 ^ 32, recs := recs }
  ({ s with nv := { s.nv with slots := s.nv.slots.set (1 - c) new } } : State).showSlot

/-- The records of the current slot with some replaced. -/
def State.withRecs (s : State) (new : List (List Nat × List Nat)) : List (List Nat × List Nat) :=
  new ++ (s.slot s.curSlot).recs.filter (fun r => ¬ new.any (fun n => n.1 = r.1))

/-- Store records in the other slot (R503). -/
def State.storeSettings (s : State) (new : List (List Nat × List Nat)) (readBackOk : Bool) : State :=
  s.writeSlot (s.slot s.curSlot).format (s.withRecs new) readBackOk

/-- The fields of R522 and the settings records that hold them (Table "Firmware and Configuration Update" 8). -/
def storedFlds : List (List Nat × List Fld) :=
  [([0x0001], [SYS.START_CFG.S2_STEP, SYS.START_CFG.S2_QUAD, SYS.START_CFG.S2_EN]),
   ([0x0005, 0], [XF.DEDUP_CFG.SUMMARY_GIB]), ([0x0005, 1], [FTL.MAP_CFG.DRAM_GIB]),
   ([0x000B, 0], [MEM.CFG.RATE_CAP]), ([0x000B, 1], [FTL.OP_CFG.FLASH_OP_PCT, FTL.OP_CFG.HDA_OP_PCT]),
   ([0x000B, 2], [TUN.WEAR_CFG.SPARE_DIES])]

/-- A field of R522 as a format reads it: from the settings block. -/
def State.stored (s : State) (f : Fld) : Nat :=
  match storedFlds.find? (fun e => e.2.contains f) with
  | none => f.reset
  | some (key, fs) =>
    match s.setting key with
    | none => f.reset
    | some vs => ((fs.zip vs).find? (fun x => x.1 = f)).map Prod.snd |>.getD f.reset

/-- Load the fields of R522 from the settings, into their registers and in force (R522). -/
def State.loadStored (s : State) : State :=
  (storedFlds.flatMap Prod.snd).foldl (fun (s : State) f =>
    let v := s.stored f
    { s.put f v with start := { s.start with inForce := fldSet s.start.inForce f.bit v f.reset } }) s

/-- Put the RW fields of a register from a word. -/
def State.loadWord (s : State) (addr w : Nat) : State :=
  match regAt addr with
  | none => s
  | some fs => fs.foldl (fun s f =>
      if f.acc = .rw ∨ f.acc = .rwl then s.put (f.at_ addr) (bitsAt w f.lsb f.width) else s) s

/-- A binding names no reserved identity, and no shared channel the complex (R108, R119; log entry 30). -/
def bindOk (w : Nat) : Bool :=
  decide (bitsAt w 0 4 < 9) && decide (bitsAt w 4 4 < 9) &&
  !(bitAt w 8 && bitAt w 9 && (bitsAt w 0 4 = 0 || bitsAt w 4 4 = 0))

/-- Restore the mailbox bindings from the settings, else the defaults, and lock them (R116, R120); a binding that may not be is
not taken over. -/
def State.restoreBindings (s : State) : State :=
  let s := match s.setting [0x0002] with
    | some ws => (List.range 64).foldl (fun (s : State) n =>
        if bindOk (ws.getD n 0) then s.loadWord (0x200100 + 0x40 * n) (ws.getD n 0) else s) s
    | none => s
  s.setB MBX.BIND_LOCK.LOCK

/-- Load the event rates and triggers the settings hold (R480, R481). Keys: [6, 0, code] and [6, 1, number]. -/
def State.loadEvents (s : State) : State :=
  (s.slot s.curSlot).recs.foldl (fun (s : State) r =>
    match r.1, r.2 with
    | [6, 0, code], [rate, burst] =>
      let b := s.bucket code
      { s with evr := { s.evr with
        buckets := { b with own := some (rate, burst), tokens := max 1 burst * Config.sec, at_ := s.aon } ::
          s.evr.buckets.filter (fun x => x.code ≠ code) } }
    | [6, 1, num], code :: mask :: offs =>
      { s with evr := { s.evr with
        trigs := s.evr.trigs.filter (fun t => t.num < num) ++ [{ num := num, code := code, mask := mask, offs := offs }] ++
          s.evr.trigs.filter (fun t => num < t.num) } }
    | _, _ => s) s

end Sys2Proof.Machine
end

