-- ==== Sys2Proof/Machine/Start.lean ====
section
/-! DEFINITION. Commands of spec/03: resets, the stages of a start, settings migration, entropy warm-up and the dead
head. -/

namespace Sys2Proof.Machine

/-! ## Non-volatile state into registers -/

/-- Map, spare used, retired count and the spare's physical number of a quadrant: as the health area has them, else by the fuse
map: the good clusters in rising order serve, and a ninth one is the spare (R530). -/
def Nv.clustersOf (n : Nv) (q : Nat) : List Nat × Bool × Nat × Nat :=
  if n.healthWritten.getD q false then
    (n.clmap.getD q [], n.spareUsed.getD q false, n.retired.getD q 0, n.sparePhys.getD q 8)
  else
    let good := (List.range 9).filter (fun k => bitAt (n.goodClusters.getD q 0x1FF) k)
    (good.take 8, decide (good.length ≤ 8), 0, good.getD 8 8)

/-- Read the fuse map, the health area and the straps into the registers that show them (R84, spec/01, spec/04). -/
def State.loadNv (s : State) : State :=
  let s := ((s.put SYS.ID.VARIANT s.nv.variant).put SYS.ID.STEP_MAJOR s.nv.stepMajor).put SYS.ID.STEP_MINOR s.nv.stepMinor
  let s := s.put SYS.HEAD.HEAD_B (b2n s.nv.headB)
  let s := [0, 1, 2, 3].foldl (fun (s : State) q =>
    let h := s.nv.clustersOf q
    let s := (List.range 8).foldl (fun (s : State) k => s.put (SYS.CLMAP.C q k) (h.1.getD k k)) s
    let s := (s.put (SYS.SPARE_STS.RETIRED q) h.2.2.1).put (SYS.SPARE_STS.SPARE_USED q) (b2n h.2.1)
    s.setSpare q { phys := h.2.2.2 }) s
  let s := (s.put CMD.CORE_STS.ENABLED s.nv.coresEnabled).put CMD.CORE_STS.FAILED s.nv.coresFailed
  let s := s.put CMD.CORE_STS.HEALTH_CORE s.nv.healthCore
  let usedUp := ((List.range 10).filter (fun i => bitAt s.nv.coresFailed i)).length
  (s.put CMD.CORE_STS.SPARES (2 - usedUp)).showRoots.showFuses.loadMedia

/-! ## Cold reset -/

/-- The whole device returns to its reset values, the AON domain included; SYS_RST_CAUSE keeps its causes (R83, R84). -/
def State.coldBase (s : State) : State :=
  ({ State.reset with
    pending := s.pending, aon := s.aon, free := s.free, out := s.out, nv := s.nv
    flds := s.flds.filter (fun f => 8 * 0x4C ≤ f.1 ∧ f.1 < 8 * 0x4C + 24)
    pwr := { porN := s.pwr.porN, holdup := s.pwr.holdup }
    pci := { perstN := s.pci.perstN } } : State).loadNv

/-- A cold reset by POR_N or SYS_RST_CTL.COLD (R41, R84): THERMTRIP when it follows a thermal trip; POR_N ends the trip,
and both EN outputs stay 0 for 20 ms after the later of the reset's start and POR_N's release. -/
def State.coldReset (s : State) (cause : Fld) (endsTrip : Bool) : State :=
  let tripped := s.pwr.tripped
  let t := (s.coldBase.setB cause).iff tripped (·.setB SYS.RST_CAUSE.THERMTRIP)
  { t with pwr := { t.pwr with tripped := tripped && !endsTrip, holdUntil := t.aon + 20 * Config.ms } }

/-- VDD_AON_RISING (R83): only it clears SYS_RST_CAUSE; HEAD_SEL is read (spec/01, SYS_HEAD). -/
def execVddAonRising (headB : Bool) (s : State) : Host.Outcome State Fault Refusal :=
  let s := { s with flds := [], nv := { s.nv with headB := headB } }
  done s.coldBase

/-- POR_N (R41, R83, R88): low for at least 10 µs. -/
def execPorN (s : State) : Host.Outcome State Fault Refusal :=
  let s := s.coldReset SYS.RST_CAUSE.POR_PIN true
  done { s with pwr := { s.pwr with porN := false } }

/-- POR_N_RELEASE (R41). -/
def execPorNRelease (s : State) : Host.Outcome State Fault Refusal :=
  done (if s.pwr.porN then s
    else { s with pwr := { s.pwr with porN := true, holdUntil := max s.pwr.holdUntil (s.aon + 20 * Config.ms) } })

/-! ## Warm reset -/

/-- SYS_RST_CTL with the warm reset of R85: events 1 to 4 begin. -/
def State.beginWarm (s : State) : State :=
  let s := (s.setB SYS.RST_CAUSE.WARM_CMD).record 0x0107 0 0 0 []
  { s.warmHandover.startDump with start := { s.start with warm := .dumping } }

/-- Fields a warm reset keeps (R84): PWR, CLK, EVR, SYS_START_CFG, SYS_RST_CAUSE, identity and spare state, the AON
fields of CMD (spec/04), the slot flags and pending doorbells (spec/04, Tables 22 and 24), DONE and LAST_10US of FTL_DUMP_STS (R533). -/
def warmKeeps (b : Nat) : Bool :=
  let off := b / 8
  -- MEM_REPAIR and the laps since the cold reset (spec/15).
  (0x130040 ≤ off && off < 0x130080) || (8 * 0x130014 ≤ b && b < 8 * 0x130014 + 16) ||
  b = 8 * 0x90020 + 30 || b = 8 * 0x90020 || (0x10000 ≤ off && off < 0x40000) || (0x44 ≤ off && off < 0x50) || off < 0x24 || (0x40014 ≤ off && off < 0x4001C) ||
  (0x200100 ≤ off && off < 0x201100 && (b - 8 * 0x200100) % 512 / 32 = 1 && (b - 8 * 0x200100) % 32 ≤ 1) ||
  (0x200100 ≤ off && off < 0x201100 && (b - 8 * 0x200100) % 512 / 32 = 6)

/-- What a warm reset leaves (R84): a swap or retirement before its event 6 is abandoned (R88). -/
def State.warmBase (s : State) : State :=
  let t : State := { State.reset with
    pending := s.pending, aon := s.aon, dev := s.dev, free := s.free, out := s.out, nv := s.nv, evr := s.evr
    flds := s.flds.filter (fun f => warmKeeps f.1)
    -- Every quadrant is gated until the start brings it up again (R72).
    pwr := { s.pwr with clusters := List.replicate 32 .gated, quads := List.replicate 4 .gated, wakeDue := [] }
    spares := s.spares.map (fun x => { x with phase := .idle, waiting := [] })
    cmd := { mem := s.cmd.mem, msgs := s.cmd.msgs, restarts := s.cmd.restarts, barred := s.cmd.barred }
    pci := { perstN := s.pci.perstN }
    -- Banks keep their modes and repairs; the slices are lost (R449, R459).
    mem := { banks := s.mem.banks, tested := s.mem.tested, scrubAt := s.mem.scrubAt, lapAt := s.mem.lapAt, lapDone := s.mem.lapDone }
    -- Spin-ups and failures count since the cold reset (spec/11, SPIN_STATUS).
    hdas := { spins := s.hdas.spins.map (fun x => { spinUps := x.spinUps, fails := x.fails, spinNs := x.spinNs }) }
    start := { base := some s.aon, entSince := List.replicate 4 s.aon, bootMode := s.start.bootMode, bootRead := s.start.bootRead } }
  ([0, 1, 2, 3].foldl (fun (t : State) q => (t.clrB (SYS.SPARE_STS.SWAP_BUSY q)).clrB (CLK.Qn_STS.LOCK q)) t).showRoots.showFuses.loadMedia

/-- WARM_RESET_RELEASE (R85, R67): the stage times count from here. -/
def execWarmResetRelease (s : State) : Host.Outcome State Fault Refusal :=
  done (if s.start.warm = .dumping ∧ ¬ s.on FTL.DUMP_STS.RUN then s.warmBase else s)

/-- All volatile state outside the power controller is lost with the rails: the log in SRAM too, which the next start
loads from its mirror again (R39, R50, R485; log entry 17). -/
def State.dropVolatile (s : State) : State :=
  let t := s.warmBase
  { t with
    flds := t.flds.filter (fun f => ¬ (8 * 0x30000 ≤ f.1 ∧ f.1 < 8 * 0x40000) ∧ ¬ (8 * 0x90020 ≤ f.1 ∧ f.1 < 8 * 0x90024) ∧ ¬ 8 * 0x200000 ≤ f.1)
    evr := {}, cmd := { restarts := s.cmd.restarts, barred := s.cmd.barred }, start := {}, hdas := {}, mem := {} }

/-- RAILS_FALL (R39, R50, R76): the rails are gone and with them all volatile state outside the AON domain; the next
good feed starts a cold start. -/
def execRailsFall (s : State) : Host.Outcome State Fault Refusal :=
  let gone := fun f => s.feedState f ≠ fsActive ∧ s.feedState f ≠ fsStandby
  done (if gone .a ∧ gone .b ∧ s.pwr.rails then
      let s := s.dropVolatile
      let idle := fun (s : State) f => if s.feedState f = fsFailed ∨ s.feedState f = fsVerifying then s.disable f fsAbsent else s
      let s := idle (idle s .a) .b
      { s with pwr := { s.pwr with rails := false, drawLimited := false } }
    else s)

/-- TRST_N (R83): only the test access port is reset. -/
def execTrstN (s : State) : Host.Outcome State Fault Refusal := done s

/-! ## Complex restart -/

/-- Fields of CMD and MBX that a complex restart reinitialises (R84). -/
def mcClears (b : Nat) : Bool :=
  let off := b / 8
  (0x40000 ≤ off && off < 0x50000 && !(0x40014 ≤ off && off < 0x4001C)) || (0x200000 ≤ off && off < 0x200008) ||
  (0x200100 ≤ off && off < 0x201100 &&
    ((b - 8 * 0x200100) % 512 / 32 = 0 || (b - 8 * 0x200100) % 512 / 32 = 1 && ((b - 8 * 0x200100) % 32 = 2 || (b - 8 * 0x200100) % 32 = 3)))

/-- Event 2 of a restart (R84, R86, R105, R116): the complex is held in reset; MC_RESTARTS counts; a record is written;
the shadow banks take the active contents unless a commit is pending. -/
def State.holdComplex (s : State) : State :=
  let s := s.updRestart
  let s := s.count SYS.RST_CAUSE.MC_RESTARTS 1
  let s := s.record 0x0601 0 (s.word 0x40014) 0 []
  let s := { s with flds := s.flds.filter (fun f => ¬ mcClears f.1) }
  let s := { s with cmd := { s.cmd with inReset := true, sessions := [], done := [] } }
  s.iff (!s.on SYS.EPOCH_STS.PEND) State.abandonShadow

/-- A commanded restart (R116), ignored while a warm reset runs (R88): its events from event 2 on. -/
def State.mcRestart (s : State) : State :=
  if s.start.warm = .none then
    let s := s.holdComplex
    { s with cmd := { s.cmd with testDue := true } }
  else s

/-- A write to SYS_RST_CTL (R83, R88): ignored without the KEY; the widest reset runs. -/
def State.rstCtl (s : State) (ident : Nat) (data : Word) : State :=
  let d := data.toNat
  s.ctlWrite ident 0x48 data [0, 2, 4, 7] fun s =>
    if d / 2 ^ 16 ≠ 0xA5C3 then s
    else if bitAt d 0 then s.coldReset SYS.RST_CAUSE.SELF_COLD false
    else if bitAt d 1 then (if s.start.warm = .none then s.beginWarm else s)
    else if bitAt d 2 then s.mcRestart
    else s

/-- COLD (R83). -/
def execCold (ident : Nat) (data : Word) (s : State) : Host.Outcome State Fault Refusal := done (s.rstCtl ident data)

/-- WARM (R85). -/
def execWarm (ident : Nat) (data : Word) (s : State) : Host.Outcome State Fault Refusal := done (s.rstCtl ident data)

/-- MC_RESTART (R86, R116). -/
def execMcRestart (ident : Nat) (data : Word) (s : State) : Host.Outcome State Fault Refusal := done (s.rstCtl ident data)

/-! ## Dead head -/

/-- The head declares itself dead (R92, R93, R531): every command without a reply is answered with HEAD_DEAD. -/
def State.die (s : State) (cause : Nat) : State :=
  if s.on SYS.START_STS.DEAD then s else
  let s := ((s.setB SYS.START_STS.DEAD).put SYS.START_STS.DEAD_CAUSE cause).clrB CMD.STS.MC_RUN
  let s := s.record 0x0105 0 cause 0 []
  (({ s with start := { s.start with deadLineAt := s.aon } } : State).oweAll (fun _ => (0x0003, cause))).silence

/-- DEAD_HEAD (R92): S2 not reached within 10 s of S0, unless held by CFG_NEWER or BOOT_MODE. -/
def execDeadHead (s : State) : Host.Outcome State Fault Refusal :=
  done (if (s.start.reached = 1 ∨ s.start.reached = 2) ∧ s.start.bootMode = 0 ∧ ¬ s.on SYS.START_STS.CFG_NEWER ∧
      ¬ s.on SYS.START_STS.DEAD then (s.passTo (s.start.s0At + 10 * Config.sec)).die 2
    else s)

/-- A UART line with its CR LF (R529). -/
def uartLine (t : String) : Out := .uart ((t.toList.map Char.toNat) ++ [13, 10])

/-- Decimal digits. -/
def decimal (n : Nat) : String := String.ofList (Nat.toDigits 10 n)

/-- DEAD_LINE_REPEAT (R93). -/
def execDeadLineRepeat (s : State) : Host.Outcome State Fault Refusal :=
  done (if s.on SYS.START_STS.DEAD then
      let s := s.passTo (s.start.deadLineAt + 10 * Config.sec)
      ({ s with start := { s.start with deadLineAt := s.aon } } : State).emit
        (uartLine ("HX880 DEAD cause=" ++ decimal (s.get SYS.START_STS.DEAD_CAUSE)))
    else s)

/-! ## Stages -/

/-- The start line of R529. -/
def State.startLine (s : State) : String :=
  let step := (if s.get SYS.ID.STEP_MAJOR = 0 then "A" else "B") ++ decimal (s.get SYS.ID.STEP_MINOR)
  let var := if s.get SYS.ID.VARIANT = 1 then "E" else if s.get SYS.ID.VARIANT = 2 then "P" else "X"
  let v := s.nv.image.version
  let ver := if s.imageValid then decimal (bitsAt v 24 8) ++ "." ++ decimal (bitsAt v 12 12) ++ "." ++ decimal (bitsAt v 0 12)
    else "none"
  "HX880 " ++ step ++ " " ++ var ++ " head " ++ (if s.on SYS.HEAD.HEAD_B then "B" else "A") ++ " boot " ++ ver

/-- A feed carries the load, and no thermal trip has stopped the data plane (R61, R71, R528). -/
def State.powered (s : State) : Bool :=
  (decide (s.feedState .a = fsActive) || decide (s.feedState .b = fsActive)) && !s.pwr.tripped

/-- STAGE_S0 (R67, R71, R92, R94, R529): codes 2 and 3 of BOOT_MODE act as 1; after a warm reset the code read at the last cold
reset stands. -/
def execStageS0 (bootMode : Nat) (s : State) : Host.Outcome State Fault Refusal :=
  okIf (bootMode < 4) (match s.start.base with
    | none => s
    | some _ =>
      if s.start.reached ≠ 0 ∨ ¬ s.powered then s else
      let s := s.takeRegion
      let mode := if s.start.bootRead then s.start.bootMode else min 1 bootMode
      let s := { s with start := { s.start with reached := 1, s0At := s.aon, bootMode := mode, bootRead := true } }
      let s := (s.setB CLK.REF_STS.REF100_OK).emit (uartLine s.startLine)
      if s.imageValid then s else s.die 1)

/-- STAGE_S1 (R67, R71, R78, R80, R449): after a cold reset the banks have been tested first (bad: quadrant, bank, columns found
failing); the endpoint is ready once PCIE_PERST_N is high. -/
def execStageS1 (bad : List (Nat × Nat × Nat)) (s : State) : Host.Outcome State Fault Refusal :=
  okIf (bad.all (fun x => x.1 < 4 && x.2.1 < 48)) (if s.start.reached = 1 ∧ s.start.bootMode = 0 ∧ ¬ s.on SYS.START_STS.DEAD ∧
      s.powered ∧ s.pwr.rails then
      let (s, spine) := if s.mem.tested then (s, false) else s.testBanks bad
      if spine then s.die 5 else
      let s := { s with start := { s.start with reached := 2 }, pci := { s.pci with ready := s.pci.perstN } }
      (s.put SYS.START_STS.STAGE 1).startStrings
    else s)

/-- The firmware runs (R111, R116, R120): the bindings are locked and every core has kicked. -/
def State.firmwareRuns (s : State) : State :=
  let s := (s.setB CMD.STS.MC_RUN).restoreBindings
  { s with cmd := { s.cmd with inReset := false, testDue := false, kicks := List.replicate 10 s.aon } }

/-- SETTINGS_MIGRATION (R89 to R91): a newer format holds the head at S1; an older one is migrated to the other slot
and applied only after an intact read-back. -/
def execSettingsMigration (readBackOk : Bool) (s : State) : Host.Outcome State Fault Refusal :=
  done (if s.start.reached = 2 ∧ ¬ s.start.settingsApplied ∧ ¬ s.on SYS.START_STS.DEAD ∧ ¬ s.cmd.inReset ∧
      ¬ s.on SYS.START_STS.CFG_NEWER then
      let sl := s.slot s.curSlot
      if sl.valid ∧ s.nv.image.format < sl.format then (s.setB SYS.START_STS.CFG_NEWER).firmwareRuns.showSlot
      else
        let old := sl.valid && decide (sl.format < s.nv.image.format)
        let s := if old then s.writeSlot s.nv.image.format sl.recs readBackOk else s
        let s := s.firmwareRuns.showSlot
        if old && !readBackOk then s
        else
          let s := s.loadStored.loadEvents
          let s := ({ s with start := { s.start with settingsApplied := true } } : State).loadSettings
          if old then s.record 0x1806 0 s.nv.image.format 0 [] else s
    else s)

/-- The serving quadrant (R72): the preferred one, else the lowest-numbered whose DDR5 channels trained. -/
def State.servingQuad (s : State) : Option Nat :=
  let pref := s.forced SYS.START_CFG.S2_QUAD
  (pref :: [0, 1, 2, 3]).find? (fun q => !s.bit SYS.START_STS.Q_DOWN q)

/-- Milliseconds from the start, as SYS_STAGE_T shows them. -/
def State.startMs (s : State) : Nat := min 0xFFFE ((s.aon - s.start.base.getD 0) / Config.ms)

/-- STAGE_S2 (R67, R72, R73): the S2 epoch commit. -/
def execStageS2 (s : State) : Host.Outcome State Fault Refusal :=
  done (if s.start.reached = 2 ∧ s.start.settingsApplied ∧ s.on CMD.STS.MC_RUN ∧ ¬ s.on SYS.START_STS.DEAD ∧
      ¬ s.on EVR.STS.LOADING ∧ s.powered ∧ s.ddrTrained ∧ (s.dp.dumpRead ∨ s.nv.media.dumpStart.isNone) then
      match s.servingQuad with
      | none => s
      | some q =>
        let s := { s with start := { s.start with reached := 3 } }
        let s := ((s.put SYS.START_STS.STAGE 2).put SYS.START_STS.SERVE_Q (2 ^ q)).put SYS.STAGE_T.S2_MS s.startMs
        let s := s.imageArrives
        (s.wakeServing).requestCommit
    else s)

/-- STAGE_S3 (R75, R46, R73): the S3 epoch commit restores the configured bindings. -/
def execStageS3 (s : State) : Host.Outcome State Fault Refusal :=
  done (if s.start.reached = 3 ∧ ¬ s.on SYS.START_STS.DEAD ∧ s.powered ∧ s.mapWarm ∧ (s.partnerSettled ∨ s.partnerAbsent) then
      let s := { s with start := { s.start with reached := 4 }, pwr := { s.pwr with swapDueAt := s.nextSwapDue } }
      let s := ((s.put SYS.START_STS.STAGE 3).put SYS.STAGE_T.S3_MS s.startMs).put SYS.START_STS.PARTNER_ABSENT (b2n s.partnerAbsent)
      let s := [0, 1, 2, 3].foldl (fun (s : State) q =>
        if s.bit SYS.START_STS.Q_DOWN q ∨ s.pwr.quads.getD q .gated = .awake then s else s.wakeQuad q) s
      s.enterS3.requestCommit
    else s)

/-- START_DEADLINE (R75). -/
def execStartDeadline (s : State) : Host.Outcome State Fault Refusal :=
  done (match s.start.base with
    | some t =>
      if s.start.reached = 4 ∨ s.start.deadlineTold then s else
      let s := { s.passTo (t + 45 * Config.sec) with start := { s.start with deadlineTold := true } }
      s.record 0x0104 0 (s.get SYS.START_STS.STAGE) 0 []
    | none => s)

/-- X32K_OK (R70): device time starts to advance. -/
def execX32kOk (s : State) : Host.Outcome State Fault Refusal := done (s.setB CLK.REF_STS.X32K_OK)

end Sys2Proof.Machine
end

