-- ==== Sys2Proof/Machine/Mailboxes.lean ====
section
/-! DEFINITION. Mailbox commands of spec/04: slots, SEND, RECV, WDRAW, the channel lock and doorbells (R119 to R127). -/

namespace Sys2Proof.Machine

/-- A channel is bound. -/
def State.bound (s : State) (ch : Nat) : Bool := s.on (MBX.CHn_BIND.EN ch)

/-- The slot an identity writes, if the binding lets it write one: true for slot B (R119). -/
def State.writesSlot (s : State) (ident ch : Nat) : Option Bool :=
  let e0 := s.get (MBX.CHn_BIND.END0 ch); let e1 := s.get (MBX.CHn_BIND.END1 ch)
  if ¬ s.bound ch then none
  else if s.shared ch then
    (if ident = 0 then some true
     else if (ident = e0 ∨ ident = e1) ∧ s.get (MBX.CHn_STS.OWNER ch) = ident then some false else none)
  else if ident = e0 then some false
  else if ident = e1 then some true
  else none

/-- The slot an identity reads: the one the other side writes (R119). -/
def State.readsSlot (s : State) (ident ch : Nat) : Option Bool := (s.writesSlot ident ch).map (!·)

/-- The window of an identity: the secondary one for identity 3 (R108). -/
def mbxBase (ident : Nat) : Nat := if ident = 3 then 0x300000 else 0x200000

/-- Channel, slot and offset within the slot of an offset in the window, where it falls in a slot. -/
def slotAt (off : Nat) : Option (Nat × Bool × Nat) :=
  if off < 0x10000 then none else
  let r := off - 0x10000
  let ch := r / 0x2100; let x := r % 0x2100
  if 64 ≤ ch then none
  else if x < 0x1040 then some (ch, false, x)
  else if 0x1080 ≤ x ∧ x < 0x1080 + 0x1040 then some (ch, true, x - 0x1080)
  else none

/-- Bytes written at an offset of the window that falls in a slot (R121, R122): ignored where the identity may not write the
slot, or where it is full. -/
def State.slotWrite (s : State) (ident off : Nat) (bytes : List Byte) : State :=
  match slotAt off with
  | none => s
  | some (ch, b, x) =>
    if ¬ s.reaches ident (mbxBase ident + off) then s
    else if s.writesSlot ident ch ≠ some b then s.mbxRefuse 1 ident ch true
    else if s.on (fullFld ch b) then (s.setB (MBX.CHn_STS.OVF ch)).mbxRefuse 2 ident ch false
    else { s with cmd := { s.cmd with mem := s.cmd.mem.writes (slotBase ch b + x) (bytes.take (0x1040 - x)) } }

/-- SLOT_WRITE. -/
def execSlotWrite (ident off : Nat) (bytes : List Byte) (s : State) : Host.Outcome State Fault Refusal :=
  okIf (1 ≤ bytes.length && bytes.length ≤ 512 && off < 0x100000) (s.slotWrite ident off bytes)

/-- The offset of a channel's register. -/
def chReg (ident ch reg : Nat) : Nat := mbxBase ident + 0x100 + 0x40 * ch + reg

/-- A write to MBX_CHn_SEND (R121, R122): a length of 0 or beyond 4,160 is ignored and sets OVF. -/
def State.sendMsg (s : State) (ident n data : Nat) : State :=
  let len := data % 2 ^ 13
  if ¬ s.reaches ident (chReg ident n 0x8) then s else
  match s.writesSlot ident n with
  | none => s.mbxRefuse 1 ident n true
  | some b =>
    if s.on (fullFld n b) then (s.setB (MBX.CHn_STS.OVF n)).mbxRefuse 3 ident n false
    else if len = 0 ∨ 4160 < len then s.setB (MBX.CHn_STS.OVF n)
    else s.fillSlot n b len ident

/-- SEND. -/
def execSend (ident n : Nat) (data : Word) (s : State) : Host.Outcome State Fault Refusal :=
  okIf (n < 64) (s.sendMsg ident n data.toNat)

/-- Take the message out of a slot: FULL clears (R122, R124); a held reply may follow (R125). -/
def State.emptySlot (s : State) (ch : Nat) (b : Bool) : State :=
  let s := { s with cmd := { s.cmd with msgs := s.cmd.msgs.filter (fun m => ¬ (m.ch = ch ∧ m.slotB = b)) } }
  let s := s.clrB (fullFld ch b)
  if b then (s.pump ch).sendOwed else s

/-- A read of MBX_CHn_RECV (R122): VALID and the length of the message taken, zero where there is none to take. -/
def State.recvMsg (s : State) (ident n : Nat) : Nat × State :=
  if ¬ s.reaches ident (chReg ident n 0xC) then (0, s) else
  match s.readsSlot ident n with
  | none => (0, s)
  | some b => if s.on (fullFld n b) then (2 ^ 31 + s.slotLen n b, s.emptySlot n b) else (0, s)

/-- What a read returned goes to its identity. -/
def State.emitRead (ident addr : Nat) (r : Nat × State) : State := r.2.emit (.readData ident addr r.1)

/-- RECV. -/
def execRecv (ident n : Nat) (s : State) : Host.Outcome State Fault Refusal :=
  okIf (n < 64) (State.emitRead ident (chReg ident n 0xC) (s.recvMsg ident n))

/-- A read of MBX_CHn_WDRAW (R124): the sender's read withdraws its message while FULL is 1. -/
def State.withdraw (s : State) (ident n : Nat) : Nat × State :=
  if ¬ s.reaches ident (chReg ident n 0x20) then (0, s) else
  match s.writesSlot ident n with
  | none => (0, s)
  | some b => if s.on (fullFld n b) then (1, s.emptySlot n b) else (0, s)

/-- WDRAW. -/
def execWdraw (ident n : Nat) (s : State) : Host.Outcome State Fault Refusal :=
  okIf (n < 64) (State.emitRead ident (chReg ident n 0x20) (s.withdraw ident n))

/-- A read of MBX_CHn_LOCK (R126). -/
def State.lockRead (s : State) (ident n : Nat) : Nat × State :=
  let o := s.get (MBX.CHn_STS.OWNER n)
  if ¬ s.reaches ident (chReg ident n 0x10) ∨ ¬ s.shared n then (0, s)
  else if o = 0 ∧ (ident = s.get (MBX.CHn_BIND.END0 n) ∨ ident = s.get (MBX.CHn_BIND.END1 n)) then
    (0, s.put (MBX.CHn_STS.OWNER n) ident)
  else if o = ident then (0, s)
  else (o, s)

/-- LOCK_READ. -/
def execLockRead (ident n : Nat) (s : State) : Host.Outcome State Fault Refusal :=
  okIf (n < 64) (State.emitRead ident (chReg ident n 0x10) (s.lockRead ident n))

/-- A write of any value to MBX_CHn_LOCK (R121, R126). -/
def State.lockWrite (s : State) (ident n : Nat) : State :=
  if ¬ s.reaches ident (chReg ident n 0x10) then s
  else if ¬ s.bound n then s.mbxRefuse 1 ident n true
  else if ¬ s.shared n then s
  else if s.get (MBX.CHn_STS.OWNER n) = ident ∧ ident ≠ 0 then s.put (MBX.CHn_STS.OWNER n) 0
  else s.mbxRefuse 4 ident n true

/-- LOCK_RELEASE. -/
def execLockRelease (ident n : Nat) (_data : Word) (s : State) : Host.Outcome State Fault Refusal :=
  okIf (n < 64) (s.lockWrite ident n)

/-- The doorbell bits an identity may set: the other side's (R127). -/
def State.ringMask (s : State) (ident ch : Nat) : Option Nat :=
  (s.writesSlot ident ch).map (fun b => if b then 0xFFFF0000 else 0xFFFF)

/-- A write to MBX_CHn_DB_SET (R121, R127). -/
def State.dbSet (s : State) (ident n data : Nat) : State :=
  if ¬ s.reaches ident (chReg ident n 0x14) then s else
  match s.ringMask ident n with
  | none => s.mbxRefuse 1 ident n true
  | some m => s.ring n (data &&& m)

/-- DB_SET. -/
def execDbSet (ident n : Nat) (data : Word) (s : State) : Host.Outcome State Fault Refusal :=
  okIf (n < 64) (s.dbSet ident n data.toNat)

/-- The doorbell bits whose receiver an identity is (R127). -/
def State.ownBits (s : State) (ident ch : Nat) : Nat :=
  (if s.lowSide ch = ident then 0xFFFF else 0) +
  (if s.highSide ch = ident ∧ ¬ (s.shared ch ∧ s.get (MBX.CHn_STS.OWNER ch) = 0) then 0xFFFF0000 else 0)

/-- A write to MBX_CHn_DB_PEND: the receiver clears its own bits (R127). -/
def State.dbClear (s : State) (ident n data : Nat) : State :=
  let own := s.ownBits ident n
  if ¬ s.bound n ∨ own = 0 then s.mbxRefuse 1 ident n true
  else s.put (MBX.CHn_DB_PEND.PEND n) (s.get (MBX.CHn_DB_PEND.PEND n) &&& (0xFFFFFFFF - (data &&& own)))

/-- A write to MBX_CHn_DB_MASK: each side writes its own bits, and a pending bit that is unmasked notifies (R127). -/
def State.dbMask (s : State) (ident n data : Nat) : State :=
  let own := s.ownBits ident n
  if ¬ s.bound n ∨ own = 0 then s.mbxRefuse 1 ident n true
  else
    let old := s.get (MBX.CHn_DB_MASK.MASK n)
    let s := s.put (MBX.CHn_DB_MASK.MASK n) ((old &&& (0xFFFFFFFF - own)) ||| (data &&& own))
    s.notifyBits n (s.get (MBX.CHn_DB_PEND.PEND n) &&& old &&& own)

/-- I3C_TARGET_RESET (R126). -/
def execI3cTargetReset (s : State) : Host.Outcome State Fault Refusal := done (s.releaseLocks 4)

end Sys2Proof.Machine
end

