-- ==== Sys2Proof/Machine/Management.lean ====
section
/-! DEFINITION. Command packets of spec/04: the health and session opcodes, the intake engine, the watchdog and the
restart of the management complex (R102 to R118). -/

namespace Sys2Proof.Machine

/-! ## Health opcodes -/

/-- PING (R102). -/
def execPing (p : Packet) (s : State) : Host.Outcome State Fault Refusal := runCmd 0x0100 p s fun s => s.reply []

/-- A reply of registers read in order, their RC fields cleared (R519). -/
def State.replyRegs (s : State) (addrs : List Nat) : Res :=
  let (bs, t) := s.readRegs addrs
  { st := t, data := bs }

/-- GET_STATUS (R102, Table "Command Packets, Mailboxes and Doorbells" 4). -/
def execGetStatus (p : Packet) (s : State) : Host.Outcome State Fault Refusal :=
  runCmd 0x0101 p s fun s => s.replyRegs [0x40, 0x4C, 0x50, 0x40000]

/-- GET_HEALTH (R102). -/
def execGetHealth (p : Packet) (s : State) : Host.Outcome State Fault Refusal :=
  runCmd 0x0102 p s fun s => s.replyRegs [0x24, 0x28, 0x20, 0x40018]

/-- GET_IDENT (R102). -/
def execGetIdent (p : Packet) (s : State) : Host.Outcome State Fault Refusal :=
  runCmd 0x0103 p s fun s =>
    s.reply (leBytes 4 (s.word 0x0) ++ leBytes 4 (s.word 0x4) ++ slice s.nv.serial 0 16 ++ leBytes 4 s.nv.image.version)

/-- Queue occupancy, one byte for each transport and class, transports in the order of R110 (log entry 15). -/
def State.occupancy (s : State) : List Byte :=
  [2, 4, 5, 6].flatMap (fun ident => (List.range 4).map (fun c => BitVec.ofNat 8 (s.queued ident c)))

/-- GET_LOAD (R102). -/
def execGetLoad (p : Packet) (s : State) : Host.Outcome State Fault Refusal :=
  runCmd 0x0104 p s fun s =>
    let r := s.replyRegs [0x40004, 0x4001C]
    { r with data := r.data ++ s.occupancy }

/-- RESET (R85, R116): the reply goes first. -/
def execReset (p : Packet) (s : State) : Host.Outcome State Fault Refusal :=
  runCmd 0x0110 p s fun s =>
    if p.u32 0 = 1 then { st := s, after := fun s => if s.start.warm = .none then s.beginWarm else s }
    else if p.u32 0 = 2 then { st := s, after := State.mcRestart }
    else s.refuseWith 0x000A 0

/-- SETTINGS_RESET (R102): factory settings under a new sequence number (log entry 157). -/
def execSettingsReset (p : Packet) (s : State) : Host.Outcome State Fault Refusal :=
  runCmd 0x0111 p s fun s =>
    if p.u32 0 ≠ leNat (s.nv.serial.take 4) then s.refuseWith 0x000A 0
    else { st := s.writeSlot s.nv.image.format [] true }

/-! ## Sessions -/

/-- The session limit and the idle expiry as counted (spec/04, CMD_SESS_CFG). -/
def State.maxSess (s : State) : Nat := max 1 (min 64 (s.get CMD.SESS_CFG.MAX_SESS))
def State.idleNs (s : State) : Nat := max 1 (s.get CMD.SESS_CFG.IDLE_S) * Config.sec

/-- OPEN_SESSION (R105, R106): the handle is a free value, fresh and not zero. -/
def execOpenSession (p : Packet) (s : State) : Host.Outcome State Fault Refusal :=
  runCmd 0x0601 p s fun s =>
    if s.cmd.barred.any (fun b => b.1 = p.ident ∧ s.aon < b.2) then s.refuseWith 0x000C 0
    else if s.maxSess ≤ s.cmd.sessions.length then
      let first := (s.cmd.sessions.map (fun x => x.lastUse + s.idleNs)).foldl min (s.aon + s.idleNs)
      s.refuseWith 0x0001 ((first - s.aon + Config.ms - 1) / Config.ms)
    else
      let (f, s) := s.draw
      let (nonce, s) := s.drbg 16
      let h := freshNat (f % 2 ^ 32) (s.cmd.sessions.map Session.handle)
      { st := { s with cmd := { s.cmd with sessions :=
          s.cmd.sessions ++ [{ handle := h, owner := p.ident, nonce := nonce, lastUse := s.aon }] } }
        data := leBytes 4 h ++ nonce }

/-- End a session. -/
def State.endSession (s : State) (h : Nat) : State :=
  { s with cmd := { s.cmd with sessions := s.cmd.sessions.filter (fun x => x.handle ≠ h) } }

/-- CLOSE_SESSION (R105). -/
def execCloseSession (p : Packet) (s : State) : Host.Outcome State Fault Refusal :=
  runCmd 0x0602 p s fun s =>
    match s.session p with
    | none => s.refuseWith 0x000D 0
    | some x => { st := s.endSession x.handle }

/-- Replace a session. -/
def State.putSession (s : State) (x : Session) : State :=
  { s with cmd := { s.cmd with sessions := s.cmd.sessions.map (fun y => if y.handle = x.handle then x else y) } }

/-- A rejected proof (R106): the third in a session ends it and bars the identity for 60 s (log entry 16). -/
def State.rejectProof (s : State) (x : Session) : Res :=
  let n := x.fails + 1
  if 3 ≤ n then
    let s := s.endSession x.handle
    { st := { s with cmd := { s.cmd with barred := (x.owner, s.aon + 60 * Config.sec) :: s.cmd.barred } }, status := 0x000C }
  else { st := s.putSession { x with fails := n }, status := 0x000C, detail := 3 - n }

/-- EXPERT_UNLOCK (R106): the nonce is used up by the success (log entry 16). -/
def execExpertUnlock (p : Packet) (s : State) : Host.Outcome State Fault Refusal :=
  runCmd 0x0603 p s fun s =>
    match s.session p with
    | none => s.refuseWith 0x000D 0
    | some x =>
      let key := (s.nv.image.expertKeys[p.u8 0]?).filter (fun k => k.any (· ≠ 0))
      let msg := x.nonce ++ slice s.nv.serial 0 16 ++ leBytes 4 x.handle ++ leBytes 1 p.ident
      if 7 < p.u8 0 then s.refuseWith 0x000A 0
      else match (List.range 3).find? (fun i => p.u8 (1 + i) ≠ 0) with
      | some i => s.refuseWith 0x000A (1 + i)
      | none =>
        if (key.map (fun k => Config.ecdsaP256 k msg (slice p.params 4 64))).getD false ∧ ¬ x.nonceUsed then
          { st := s.putSession { x with expert := true, nonceUsed := true } }
        else s.rejectProof x

/-- SESSION_EXPIRE (R105). -/
def execSessionExpire (handle : Nat) (s : State) : Host.Outcome State Fault Refusal :=
  done (match s.cmd.sessions.find? (fun x => x.handle = handle) with
    | none => s
    | some x => (s.passTo (x.lastUse + s.idleNs)).endSession handle)

/-! ## The intake engine -/

/-- The complex reads slot F of a channel: the identity of the sender, while a message is there. -/
def State.slotSender (s : State) (ch : Nat) : Option SlotMsg :=
  if s.bound ch ∧ (s.shared ch ∨ s.get (MBX.CHn_BIND.END1 ch) = 0) ∧ s.on (MBX.CHn_STS.FULL_F ch) then
    s.cmd.msgs.find? (fun m => m.ch = ch ∧ ¬ m.slotB)
  else none

/-- Take the packet of a mailbox channel (R114, R125). -/
def State.takeSlot (s : State) (ch : Nat) : State :=
  match s.slotSender ch with
  | none => s
  | some m =>
    let bs := s.cmd.mem.reads (slotBase ch false) m.len
    let p := Packet.ofBytes (.mailbox ch) m.sender m.len (slice bs 0 64) (bs.drop 64)
    if ¬ s.roomFor p ∨ s.holdsBack p then s
    else (s.emptySlot ch false).admitPkt p

/-- Parameters of an in-band command that have come from PBUF. -/
def State.inbandParams (s : State) (b : QpBind) (slot : Nat) : Option (List Byte) :=
  if b.isHost then (s.pci.reads.find? (fun r => r.kind = 7 ∧ r.id = b.qpid ∧ r.ref = slot ∧ r.arrived)).map URead.data
  else ((s.conn b.conn).bind (fun c => c.pulls.find? (fun p => p.kind = 7 ∧ p.id = b.qpid ∧ p.ref = slot ∧ p.len ≤ p.placed))).map
    (fun p => p.data.reads 0 p.len)

/-- PBUF is being read. -/
def State.inbandComing (s : State) (b : QpBind) (slot : Nat) : Bool :=
  s.pci.reads.any (fun r => r.kind = 7 && r.id = b.qpid && r.ref = slot) ||
  ((s.conn b.conn).map (fun c => c.pulls.any (fun p => p.kind = 7 && p.id = b.qpid && p.ref = slot))).getD false

/-- Take a submission of a management queue pair (R109, R139): its header from the ring, its parameters from PBUF, which
are read first. -/
def State.takeInband (s : State) (qpid slot : Nat) : State :=
  let q := s.qp qpid
  match s.qpBind qpid with
  | none => s
  | some b =>
    match s.ringData b with
    | none => s
    | some ring =>
      let p := Packet.ofBytes (.inband qpid slot) 6 64 (slice ring 0 64) ((s.inbandParams b slot).getD [])
      let needs := decide (0 < p.plen ∧ p.plen ≤ 4096) && decide (p.hcrc = crc32c p.headBytes) && (headerBad p).isNone
      if b.typ ≠ 1 ∨ q.state ≠ 2 ∨ slot ≠ q.sqHead ∨ s.fetchLimit b ≤ s.inbandCount qpid ∨ s.holdsBack p then s
      else if needs ∧ ¬ s.inbandComing b slot then
        (if b.isHost then s.upRead 7 qpid slot p.pbuf p.plen else s.startPull b.conn 7 qpid slot p.pbuf b.sqKey p.plen 0)
      else if needs ∧ (s.inbandParams b slot).isNone then s
      else
        let s := s.passInband b slot
        (s.setQp { s.qp qpid with commands := (s.qp qpid).commands + 1 }).admitPkt p

/-- PACKET_TAKE (R114): the load of the shared cores is the operand. -/
def execPacketTake (src : PacketSource) (load : Nat) (s : State) : Host.Outcome State Fault Refusal :=
  let s' := (s.put CMD.LOAD.LOAD_PCT load).put CMD.LOAD.PEAK_PCT (max load (s.get CMD.LOAD.PEAK_PCT))
  match src with
  | .slotF ch => okIf (ch < 64 && load ≤ 100) (if s.intakePaused then s else s'.takeSlot ch)
  | .inband qpid slot => okIf (qpid < 2 ^ 20 && load ≤ 100) (if s.intakePaused then s else s'.takeInband qpid slot)

/-- CLASS3_PROMOTE (R115). -/
def execClass3Promote (ident tag : Nat) (s : State) : Host.Outcome State Fault Refusal :=
  let hit := fun (t : Taken) => t.pkt.ident = ident ∧ t.pkt.tag = tag ∧ t.cls = 3 ∧ t.started = false
  done (match s.cmd.taken.find? (fun t => decide (hit t)) with
    | none => s
    | some t =>
      let s := s.passTo (t.at_ + 10 * Config.sec)
      { s with cmd := { s.cmd with taken := s.cmd.taken.map (fun x => if hit x then { x with promoted := true } else x) } })

/-- COMMIT_WAIT_TIMEOUT (R95): 4 s after the command was taken. -/
def execCommitWaitTimeout (ident tag : Nat) (s : State) : Host.Outcome State Fault Refusal :=
  done (match s.cmd.taken.find? (fun t => t.pkt.ident = ident ∧ t.pkt.tag = tag) with
    | none => s
    | some t =>
      let due := t.at_ + 4 * Config.sec
      match s.cmd.waits.find? (fun w => w.pkt = t.pkt) with
      | some w =>
        let s := s.passTo due
        ({ s with cmd := { s.cmd with waits := s.cmd.waits.filter (fun x => x.pkt ≠ t.pkt) } } : State).answer
          w.pkt 0 (w.detail % 2 ^ 31 + 2 ^ 31) w.data
      | none =>
        if t.started ∧ t.pkt.commit ∧ ((opSpec t.pkt.opcode).map OpSpec.shadow).getD false ∧ s.on SYS.EPOCH_STS.PEND then
          (s.passTo due).answer t.pkt 0x000F 2 []
        else s)

/-! ## Watchdog and cores -/

/-- Mark a core failed and put a spare in its place (R117); which spare serves is a free choice. The lowest-numbered
remaining enabled core takes over as health core. -/
def State.failCore (s : State) (k : Nat) : State :=
  let en := s.get CMD.CORE_STS.ENABLED
  if ¬ bitAt en k then s else
  let rest := (List.range 10).filter (fun i => bitAt en i ∧ i ≠ k)
  let s := (s.putBit CMD.CORE_STS.ENABLED k false).putBit CMD.CORE_STS.FAILED k true
  let s := if s.get CMD.CORE_STS.HEALTH_CORE = k then s.put CMD.CORE_STS.HEALTH_CORE (rest.headD k) else s
  let spares := (List.range 10).filter (fun i => ¬ s.bit CMD.CORE_STS.ENABLED i ∧ ¬ s.bit CMD.CORE_STS.FAILED i)
  let s := if s.get CMD.CORE_STS.SPARES = 0 ∨ spares.isEmpty then s else
    let (f, s) := s.draw
    (s.putBit CMD.CORE_STS.ENABLED (spares.getD (f % spares.length) 0) true).put CMD.CORE_STS.SPARES
      (s.get CMD.CORE_STS.SPARES - 1)
  { s with nv := { s.nv with
    coresEnabled := s.get CMD.CORE_STS.ENABLED, coresFailed := s.get CMD.CORE_STS.FAILED
    healthCore := s.get CMD.CORE_STS.HEALTH_CORE } }

/-- The core late most often in the given restarts, the lowest-numbered on a tie (R118). -/
def mostLate (rs : List (Nat × Nat)) : Nat :=
  let n := fun i => (rs.filter (fun r => bitAt r.2 i)).length
  (List.range 10).foldl (fun best i => if n best < n i then i else best) 0

/-- The kick period as counted (spec/04, CMD_WDOG_CFG). -/
def State.periodNs (s : State) : Nat := max 100 (s.get CMD.WDOG_CFG.PERIOD_MS) * Config.ms

/-- Cores of a mask that fail their restart self-test (R86, R116, event 3). -/
def State.selfTestCores (s : State) (failed : Nat) : State :=
  ((List.range 10).filter (fun i => bitAt failed i)).foldl State.failCore s

/-- R118: at the third watchdog restart within 60 s the most-late core counts as failed; the head dies where no spare
remained at that point or fewer than two enabled cores remain. -/
def State.thirdRestart (s : State) : State :=
  if s.cmd.restarts.length < 3 then s else
  let t := s.failCore (mostLate (s.cmd.restarts.take 3))
  let enabled := ((List.range 10).filter (fun i => s.bit CMD.CORE_STS.ENABLED i)).length
  if s.get CMD.CORE_STS.SPARES = 0 ∨ enabled - 1 < 2 then t.die 4 else t

/-- WATCHDOG_RESTART (R116, events 1 to 3): late and failed are bit masks of cores; every enabled core whose kick is overdue at
event 1 is late. -/
def execWatchdogRestart (late failed : Nat) (s : State) : Host.Outcome State Fault Refusal :=
  let cores := (List.range 10).filter (fun i => bitAt late i)
  let ok := s.on CMD.WDOG_CFG.EN && s.on CMD.STS.MC_RUN && !cores.isEmpty && s.start.warm = .none &&
    cores.all (fun i => s.bit CMD.CORE_STS.ENABLED i)
  okIf (late < 1024 && failed < 1024) (if ¬ ok then s else
    let due := (cores.map (fun i => s.cmd.kicks.getD i 0 + s.periodNs)).foldl max 0
    let s := s.passTo due
    let all := (List.range 10).filter (fun i => s.bit CMD.CORE_STS.ENABLED i && decide (s.cmd.kicks.getD i 0 + s.periodNs ≤ s.aon))
    let late := (all.map (2 ^ ·)).sum
    let rs := (s.aon, late) :: s.cmd.restarts.filter (fun r => s.aon < r.1 + 60 * Config.sec)
    let s := { s with cmd := { s.cmd with restarts := rs } }
    let s := (s.put CMD.WDOG_STS.LATE_CORES late).put CMD.WDOG_STS.WINDOW_CNT (min 3 rs.length)
    let s := (s.setB SYS.RST_CAUSE.MC_WDOG).holdComplex
    (s.selfTestCores failed).thirdRestart)

/-- FIRMWARE_RUN (R116, event 4): RESTARTED to every command taken before event 2 and without a reply, with DETAIL 1 where it
has had its effect. In a commanded restart the cores' self-test comes first; which of them fail is a free choice
(log entry 14). A dead head's complex does not come back. -/
def execFirmwareRun (s : State) : Host.Outcome State Fault Refusal :=
  done (if ¬ s.cmd.inReset then s else
    let s := s.iff s.cmd.testDue fun s => (let (n, s) := s.draw; s.selfTestCores (n % 1024))
    if s.on SYS.START_STS.DEAD then { s with cmd := { s.cmd with inReset := false, testDue := false } } else
    let s := s.firmwareRuns
    s.oweAll (fun t => (0x0010, b2n (s.isWaiting t.pkt))))

/-- WDOG_KICK (R116): only a write by a management core kicks that core. -/
def execWdogKick (ident core : Nat) (_data : Word) (s : State) : Host.Outcome State Fault Refusal :=
  okIf (core < 10) (if ident = 0 ∧ s.on CMD.STS.MC_RUN then { s with cmd := { s.cmd with kicks := s.cmd.kicks.set core s.aon } } else s)

/-- SETTINGS_STORE (R522): the records of fields written since the last store go to the other slot. -/
def execSettingsStore (readBackOk : Bool) (s : State) : Host.Outcome State Fault Refusal :=
  done (if s.start.storeDue.isEmpty ∨ ¬ s.on CMD.STS.MC_RUN then s else
    let recs := storedFlds.filterMap (fun e =>
      if s.start.storeDue.contains e.1 then some (e.1, e.2.map (fun f => s.get f)) else none)
    let s := s.storeSettings recs readBackOk
    if readBackOk then { s with start := { s.start with storeDue := [] } } else s)

end Sys2Proof.Machine
end

