-- ==== Sys2Proof/Machine/Recorder.lean ====
section
/-! DEFINITION. Commands of spec/17: intake, snapshots, the log, its mirror, reading and clearing. -/

namespace Sys2Proof.Machine

/-! ## Intake and log -/

/-- RECORD_INTAKE (R30, R480 to R483): a block posts a record. -/
def execRecordIntake (code loc res value : Nat) (data : List Byte) (s : State) : Host.Outcome State Fault Refusal :=
  okIf (code < 65536 && loc < 256 && res < 2 ^ 32 && value < 2 ^ 32 && data.length ≤ 28) (s.record code loc res value data)

/-- SNAPSHOT_READ (R481): the registers of the group at the head are read, without side effect. -/
def execSnapshotRead (s : State) : Host.Outcome State Fault Refusal :=
  done (match s.evr.intake with
    | g :: rest =>
      if g.offs.isEmpty ∨ g.vals.isSome then s
      else { s with evr := { s.evr with intake := { g with vals := some (g.offs.map s.word) } :: rest } }
    | [] => s)

/-- Append one record to the log: its log number and index. -/
def State.append (s : State) (r : Rec) : State :=
  { s with evr := { s.evr with log := { r with log := s.get EVR.LOG.LOG, index := s.evr.log.length } :: s.evr.log } }

/-- The snapshot records of a group (Table "Event Recorder" 2): up to 8 values in each. -/
def Group.snaps (g : Group) : List Rec :=
  let vals := g.vals.getD []
  (List.range ((vals.length + 7) / 8)).map fun part =>
    let vs := (vals.drop (8 * part)).take 8
    { g.head with
      code := 0x0405, flags := b2n (bitAt g.head.flags 0) + 4, suppressed := 0, res := 0, value := 0
      data := slice (vs.flatMap (leBytes 4)) 0 32 ++ leBytes 1 g.trig ++ leBytes 1 part ++ leBytes 1 vs.length ++ [0] }

/-- The recorder writes LOG_FULL into slot 65,535 and stops recording (R483). -/
def State.closeLog (s : State) : State :=
  if s.evr.log.length ≠ 65535 then s else
  let r : Rec :=
    { time := s.dev, wall := s.wallMs, code := 0x0401, loc := 0, flags := b2n s.evr.wallAt.isSome, res := 0, value := 0 }
  (s.append r).setB EVR.STS.FULL

/-- RECORD_COMMIT (R483, R526): the group at the head of the queue enters the log, or is dropped and counted; it waits until the
mirror header is loaded (R485). -/
def execRecordCommit (s : State) : Host.Outcome State Fault Refusal :=
  done (match s.evr.intake with
    | [] => s
    | g :: rest =>
      if ¬ g.offs.isEmpty ∧ g.vals.isNone ∨ s.on EVR.STS.LOADING ∧ s.evr.log.isEmpty then s else
      let s := { s with evr := { s.evr with intake := rest } }
      if s.on EVR.STS.FULL ∨ 65535 < s.evr.log.length + g.size then s.count EVR.DROPPED.COUNT g.size
      else ((g.head :: g.snaps).foldl State.append s).closeLog)

/-- WALL_EPOCH (R479): WALL_MS wraps. -/
def execWallEpoch (s : State) : Host.Outcome State Fault Refusal :=
  done (if s.evr.wallAt.isNone ∨ ¬ s.on CLK.REF_STS.X32K_OK then s
    else (s.pass ((2 ^ 32 - s.wallMs) * Config.ms)).wallEpoch)

/-! ## The mirror -/

/-- A slot of the mirror may be programmed: its sector of 1,024 records is not waiting for the erase (R487). -/
def State.mirrorFree (s : State) (slot : Nat) : Bool :=
  let m := s.nv.mirror
  m.eraseLeft = 0 || m.eraseAll ≤ slot / 1024 || slot / 1024 < m.eraseAll - m.eraseLeft

/-- MIRROR_PROGRAM (R484): the next records, oldest first. -/
def execMirrorProgram (count : Nat) (s : State) : Host.Outcome State Fault Refusal :=
  let m := s.get EVR.MIRROR.MIRRORED
  let n := min count (s.evr.log.length - m)
  let n := (((List.range n).takeWhile (fun i => s.mirrorFree (m + i)))).length
  let recs := ((s.evr.log.reverse).drop m).take n
  done (if s.on EVR.STS.LOADING then s else
    ({ s with nv := { s.nv with mirror := { s.nv.mirror with recs := recs.reverse ++ s.nv.mirror.recs } } } : State).put
      EVR.MIRROR.MIRRORED (m + n))

/-- Write the mirror header (R484). -/
def State.writeHeader (s : State) : State :=
  { s with
    nv := { s.nv with mirror := { s.nv.mirror with
      log := s.get EVR.LOG.LOG, count := s.get EVR.MIRROR.MIRRORED, full := s.on EVR.STS.FULL
      dropped := s.get EVR.DROPPED.COUNT, wallHi := s.evr.wallHi } }
    evr := { s.evr with headerAt := s.aon } }

/-- MIRROR_HEADER_WRITE (R484): at least once a second. -/
def execMirrorHeaderWrite (s : State) : Host.Outcome State Fault Refusal :=
  done (if s.on EVR.STS.LOADING then s else (s.passTo (s.evr.headerAt + Config.sec)).writeHeader)

/-- MIRROR_HEADER_LOAD (R485): before S0; then POWER_UP is appended unless FULL is 1. -/
def execMirrorHeaderLoad (s : State) : Host.Outcome State Fault Refusal :=
  let m := s.nv.mirror
  done (if s.start.reached ≠ 0 ∨ ¬ s.on EVR.STS.LOADING ∨ s.evr.toLoad ≠ 0 ∨ ¬ s.evr.log.isEmpty then s else
    let s := ((s.put EVR.LOG.LOG m.log).put EVR.STS.FULL (b2n m.full)).put EVR.DROPPED.COUNT m.dropped
    let s := s.put EVR.MIRROR.MIRRORED m.count
    let s := { s with evr := { s.evr with
      log := m.recs.drop (m.recs.length - m.count), wallHi := m.wallHi, loaded := 0, toLoad := m.count } }
    if m.full then s else
    let r : Rec := { time := s.dev, wall := 0, code := 0x0106, loc := 0, flags := 0, res := 0, value := s.word 0x4C }
    (s.append r).closeLog)

/-- MIRROR_LOAD_DONE (R485): slots loaded so far; LOADING clears with the last. -/
def execMirrorLoadDone (slots : Nat) (s : State) : Host.Outcome State Fault Refusal :=
  done (if ¬ s.on EVR.STS.LOADING then s else
    let n := min s.evr.toLoad (max slots s.evr.loaded)
    let s := { s with evr := { s.evr with loaded := n } }
    if n = s.evr.toLoad then s.clrB EVR.STS.LOADING else s)

/-- MIRROR_ERASE_DONE (R487): sectors erased since the last report; ERASING clears with the last. -/
def execMirrorEraseDone (sectors : Nat) (s : State) : Host.Outcome State Fault Refusal :=
  done { s with nv := { s.nv with mirror := { s.nv.mirror with eraseLeft := s.nv.mirror.eraseLeft - sectors } } }

/-! ## Opcodes -/

/-- EVR_STATUS (R489). -/
def execEvrStatus (p : Packet) (s : State) : Host.Outcome State Fault Refusal :=
  runCmd 0x0401 p s fun s =>
    let r := s.replyRegs [0x30000, 0x30004, 0x30008, 0x3000C, 0x30018]
    { r with data := r.data ++ leBytes 8 s.wallFull }

/-- The bytes of a log slot as a reader sees them: zero at or above COUNT, and while it is not yet loaded (R485, R486). -/
def State.slotBytes (s : State) (i : Nat) : List Byte :=
  let n := s.evr.log.length
  if n ≤ i ∨ s.on EVR.STS.LOADING ∧ s.evr.loaded ≤ i ∧ i < s.evr.toLoad then List.replicate 64 0
  else ((s.evr.log[n - 1 - i]?).map Rec.bytes).getD (List.replicate 64 0)

/-- EVR_READ (R486). -/
def execEvrRead (p : Packet) (s : State) : Host.Outcome State Fault Refusal :=
  runCmd 0x0402 p s fun s =>
    let first := p.u32 0; let count := p.u16 4
    if ¬ s.bit EVR.CFG.READ_IDS p.ident then s.refuseWith 0x000C 3
    else if count = 0 ∨ 63 < count then s.refuseWith 0x000A 4
    else if p.u16 6 ≠ 0 then s.refuseWith 0x000A 6
    else
      let n := min (first + count) s.evr.log.length - first
      s.reply (leBytes 4 n ++ (List.range n).flatMap (fun i => s.slotBytes (first + i)))

/-- EVR_RATE_SET (R480, R488): held in the settings block; the suppressed count carries over. -/
def execEvrRateSet (p : Packet) (s : State) : Host.Outcome State Fault Refusal :=
  runCmd 0x0403 p s fun s =>
    let b := s.bucket (p.u16 0)
    let b' := { b with own := some (p.u8 2, p.u8 3) }
    let s := { s with evr := { s.evr with buckets := b' :: s.evr.buckets.filter (fun x => x.code ≠ b.code) } }
    { st := s.storeSettings [([6, 0, b.code], [p.u8 2, p.u8 3])] true }

/-- EVR_TRIG_SET (R481): n = 0 frees the trigger; held in the settings block. -/
def execEvrTrigSet (p : Packet) (s : State) : Host.Outcome State Fault Refusal :=
  runCmd 0x0404 p s fun s =>
    let num := p.u8 0; let n := p.u8 1
    if 31 < num then s.refuseWith 0x000A 0
    else if 16 < n then s.refuseWith 0x000A 1
    else if p.u16 6 ≠ 0 then s.refuseWith 0x000A 6
    else if p.plen ≠ 8 + 4 * n then s.refuseWith 0x0007 (8 + 4 * n)
    else
      let t : Trig := { num := num, code := p.u16 2, mask := p.u16 4, offs := (List.range n).map (fun i => p.u32 (8 + 4 * i)) }
      let before := s.evr.trigs.filter (fun x => x.num < num); let after := s.evr.trigs.filter (fun x => num < x.num)
      let s := { s with evr := { s.evr with trigs := before ++ (if n = 0 then [] else [t]) ++ after } }
      { st := s.storeSettings [([6, 1, num], if n = 0 then [] else t.code :: t.mask :: t.offs)] true }

/-- EVR_WALL_SET (R479). -/
def execEvrWallSet (p : Packet) (s : State) : Host.Outcome State Fault Refusal :=
  runCmd 0x0405 p s fun s =>
    let ms := p.u64 0
    let s := { s with evr := { s.evr with wallAt := some (ms, s.dev), wallHi := ms / 2 ^ 32 } }
    { st := s.postRecord 0x0404 0 0 0 (leBytes 8 ms) }

/-- EVR_CLEAR_NONCE (R487). -/
def execEvrClearNonce (p : Packet) (s : State) : Host.Outcome State Fault Refusal :=
  runCmd 0x0406 p s fun s =>
    let (n, s) := s.drbg 16
    { st := { s with evr := { s.evr with nonce := some n } }, data := n }

/-- The steps of R487 once the signature verifies. -/
def State.clearLog (s : State) (ident key : Nat) : State :=
  let oldLog := s.get EVR.LOG.LOG; let oldCount := s.evr.log.length; let oldDropped := s.get EVR.DROPPED.COUNT
  let sectors := (s.get EVR.MIRROR.MIRRORED + 1023) / 1024
  let s := { s with evr := { s.evr with log := [], loaded := 0, toLoad := 0 } }
  let s := (((s.put EVR.LOG.LOG (oldLog + 1)).put EVR.DROPPED.COUNT 0).clrB EVR.STS.FULL).put EVR.MIRROR.MIRRORED 0
  let s := s.append
    { time := s.dev, wall := s.wallMs, code := 0x0402, loc := 0, flags := b2n s.evr.wallAt.isSome, res := 0, value := oldLog,
      data := leBytes 4 oldCount ++ leBytes 4 oldDropped ++ leBytes 1 ident ++ leBytes 1 key ++ List.replicate 18 0 }
  ({ s with nv := { s.nv with mirror := { s.nv.mirror with recs := [], eraseLeft := sectors, eraseAll := sectors } } } : State).writeHeader

/-- EVR_CLEAR (R487): each nonce is good for one attempt. -/
def execEvrClear (p : Packet) (s : State) : Host.Outcome State Fault Refusal :=
  runCmd 0x0407 p s fun s =>
    let key := (s.nv.image.expertKeys[p.u8 0]?).filter (fun k => k.any (· ≠ 0))
    if s.nv.mirror.eraseLeft ≠ 0 then s.refuseWith 0x0401 s.nv.mirror.eraseLeft
    else if 7 < p.u8 0 then s.refuseWith 0x000A 0
    else match (List.range 3).find? (fun i => p.u8 (1 + i) ≠ 0) with
    | some i => s.refuseWith 0x000A (1 + i)
    | none =>
      let s' := { s with evr := { s.evr with nonce := none } }
      let msg := fun (n : List Byte) => ascii "EVRC" ++ n ++ slice s.nv.serial 0 16 ++ leBytes 2 (s.get EVR.LOG.LOG)
      match s.evr.nonce with
      | some n =>
        if (key.map (fun k => Config.ecdsaP256 k (msg n) (slice p.params 4 64))).getD false then { st := s'.clearLog p.ident (p.u8 0) }
        else { st := s', status := 0x000C }
      | none => { st := s', status := 0x000C }

end Sys2Proof.Machine
end

