-- ==== Sys2Proof/Machine/Pcie.lean ====
section
/-! DEFINITION. Commands of spec/16: configuration writes, MSI-X, upstream reads, errors, endpoint reset and link. -/

namespace Sys2Proof

/-- A failed completion's code in PCI_ERR.CAUSE (Table "PCIe Endpoint" 10). -/
def CplStatus.cause : CplStatus → Nat
  | .ok => 0
  | .unsupported => 2
  | .aborted => 3
  | .poisoned => 4

/-- The bit of an uncorrectable error in the AER status, mask and severity registers (log entry 7). -/
def AerError.uncorrBit : AerError → Option Nat
  | .dllProtocol => some 4
  | .poisonedTlp => some 12
  | .poisonedWrite => some 12
  | .flowControl => some 13
  | .completionTimeout => some 14
  | .completerAbort => some 15
  | .unexpectedCompletion => some 16
  | .receiverOverflow => some 17
  | .malformedTlp => some 18
  | .unsupportedRequest => some 20
  | .uncorrectableInternal => some 22
  | _ => none

/-- The bit of a correctable error in the AER correctable status register (log entry 7). -/
def AerError.corrBit : AerError → Nat
  | .receiverError => 0
  | .badTlp => 6
  | .badDllp => 7
  | .replayRollover => 8
  | .replayTimer => 12
  | .advisoryNonFatal => 13
  | .correctedInternal => 14
  | .headerLogOverflow => 15
  | _ => 0

/-- The errors whose default class is fatal (Table "PCIe Endpoint" 6). -/
def AerError.fatalRow : AerError → Bool
  | .dllProtocol | .flowControl | .malformedTlp | .receiverOverflow | .uncorrectableInternal => true
  | _ => false

end Sys2Proof

namespace Sys2Proof.Machine

/-! ## Configuration space -/

/-- Put a configuration dword. -/
def State.cfgPut (s : State) (off v : Nat) : State :=
  { s with pci := { s.pci with cfg := fldSet s.pci.cfg off v (s.cfgReset off) } }

/-- Bits of a configuration dword that a write changes, and bits that a write of 1 clears (R461 to R464, log entry 7). -/
def cfgMask (off : Nat) : Nat × Nat :=
  if off = 0x04 then (0x0000_0546, 0xF900_0000)
  else if off = 0x0C then (0xFF, 0)
  else if off = 0x10 then (0xFC00_0000, 0)
  else if off = 0x18 then (0xFF00_0000, 0)
  else if off = 0x20 then (0xFFFF_0000, 0)
  else if off = 0x14 ∨ off = 0x1C ∨ off = 0x24 then (0xFFFF_FFFF, 0)
  else if off = 0x3C then (0xFF, 0)
  else if off = 0x44 then (3, 0)
  else if off = 0x50 then (0xC000_0000, 0)
  else if off = 0x78 then (0x0000_7FFF, 0x000F_0000)
  else if off = 0x80 then (0xFFFF, 0)
  else if off = 0x98 then (0xFFFF, 0)
  else if off = 0xA0 then (0xFFFF, 0)
  else if off = 0x104 then (0, 0xFFFF_FFFF)
  else if off = 0x108 ∨ off = 0x10C ∨ off = 0x114 then (0xFFFF_FFFF, 0)
  else if off = 0x110 then (0, 0xFFFF_FFFF)
  else if off = 0x118 then (0x140, 0)
  else (0, 0)

/-- The bits that four byte enables cover. -/
def beMask (be : Nat) : Nat := ((List.range 4).map (fun i => if bitAt be i then 0xFF * 2 ^ (8 * i) else 0)).sum

/-- Once requests may flow again, waiting reads are issued and pending vectors sent (R466, R467). -/
def State.resume (s : State) : State := s.issueReads.flushVectors

/-! ## Failed reads -/

/-- The consequence of a failed read (Table "PCIe Endpoint" 5). -/
def State.readConsequence (s : State) (r : URead) : State :=
  if r.kind = 1 then (if (s.qp r.id).state = 2 then s.qpFault r.id 1 3 else s)
  else if r.kind = 2 then s.endPull r.id r.ref
  else if r.kind = 3 then (if (s.qp r.id).state = 2 ∨ (s.qp r.id).state = 1 then s.qpFault r.id 6 3 else s)
  else if r.kind = 4 then s.loseConn r.id
  else if r.kind = 5 then s.refetchPage r.id r.ref
  else if r.kind = 6 then s.count PCI.ERR_CNT.COUNT 1
  else if r.kind = 7 then s.failInband r.id r.ref
  else s

/-- A read fails (R469). -/
def State.failRead (s : State) (r : URead) (cause : Nat) : State :=
  ((s.dropRead r.tag).readFailed r.kind cause r.id).readConsequence r

/-- A fatal error stops upstream requests (R472). -/
def State.fatalError (s : State) (bit : Nat) : State := (s.setB PCI.STS.FATAL).record 0x1701 0 0 bit []

/-- Log an uncorrectable error; fatal by its severity bit (R471). -/
def State.uncorrectable (s : State) (bit : Nat) : State :=
  let s := s.cfgPut 0x104 (s.cfgRead 0x104 ||| 2 ^ bit)
  if bitAt (s.cfgRead 0x10C) bit then s.fatalError bit else s

/-- The completion timeout in force in ns, none when it is disabled (R468). -/
def State.cto (s : State) : Option Nat :=
  let c := s.cfgRead 0x98
  let e := c % 16
  if bitAt c 4 then none
  else some (if e = 1 then 80 * Config.us else if e = 2 then 8 * Config.ms else if e = 5 then 40 * Config.ms
    else if e = 6 then 160 * Config.ms else if e = 9 then 600 * Config.ms else if e = 10 then 2500 * Config.ms
    else if e = 13 then 10 * Config.sec else if e = 14 then 48 * Config.sec else 16 * Config.ms)

/-- COMPLETION_RECEIVE (R469, R470, R476): one that answers no outstanding read is unexpected and dropped. -/
def execCompletionReceive (tag : Nat) (status : CplStatus) (data : CplData) (s : State) : Host.Outcome State Fault Refusal :=
  done (match s.pci.reads.find? (fun r => r.tag = tag ∧ r.issued ∧ ¬ r.arrived) with
    | none => s.uncorrectable 16
    | some r =>
      match status with
      | .ok =>
        if (r.kind = 3 ∨ r.kind = 4) ∧ ¬ data.ctxCrcOk then s.failRead r 5
        else if r.kind = 6 then s.txArrived r (slice data.bytes 0 r.len)
        else { s with pci := { s.pci with reads := s.pci.reads.map (fun x => if x.tag = tag then { x with arrived := true, data := slice data.bytes 0 r.len } else x) } }
      | .unsupported => s.failRead r 2
      | .aborted => s.failRead r 3
      | .poisoned => (s.failRead r 4).uncorrectable 12)

/-- COMPLETION_TIMEOUT (R468, R469, R471). -/
def execCompletionTimeout (tag : Nat) (s : State) : Host.Outcome State Fault Refusal :=
  done (match s.pci.reads.find? (fun r => r.tag = tag ∧ r.issued ∧ ¬ r.arrived), s.cto with
    | some r, some t => (((s.passTo (r.at_ + t)).failRead r 1)).uncorrectable 14
    | _, _ => s)

/-- PCIE_ERROR (R471, R472). -/
def execPcieError (err : AerError) (s : State) : Host.Outcome State Fault Refusal :=
  done (match err.uncorrBit with
    | none => (s.cfgPut 0x110 (s.cfgRead 0x110 ||| 2 ^ err.corrBit)).count PCI.CORR_CNT.COUNT 1
    | some bit => (s.uncorrectable bit).iff (err = .poisonedWrite) (·.setB PCI.STS.POISON_WR))

/-! ## Endpoint reset and link -/

/-- The endpoint's own state after a reset (R84, R475): pending bits are kept, PCI registers reinitialised; the link
status stays while the link stays trained. -/
def State.endpointReset (s : State) (keepsLink : Bool) : State :=
  let linkSts := fun (b : Nat) => keepsLink && 8 * 0x150008 ≤ b && b < 8 * 0x15000C
  let s := { s with flds := s.flds.filter (fun f => ¬ (8 * 0x150000 ≤ f.1 ∧ f.1 < 8 * 0x160000) ∨ linkSts f.1) }
  let out := s.pci.reads.filter (fun r => r.issued && !r.arrived)
  let again := fun (r : URead) => r.kind = 1 ∨ r.kind = 3 ∨ r.kind = 5
  let s := { s with pci := { s.pci with
    cfg := [], table := []
    reads := s.pci.reads.map (fun r => if r.issued && !r.arrived && decide (again r) then { r with issued := false } else r) } }
  let s := (out.filter (fun r => ¬ again r)).foldl (fun (s : State) r => s.failRead r 6) s
  (s.releaseLocks 2).releaseLocks 3

/-- ENDPOINT_RESET (R475, R83). -/
def execEndpointReset (kind : EndpointResetKind) (s : State) : Host.Outcome State Fault Refusal :=
  done (match kind with
    | .functionLevel => s.endpointReset true
    | .hot =>
      let s := s.endpointReset false
      { s with pci := { s.pci with linkUp := false } }
    | .perst =>
      let s := s.endpointReset false
      { s with pci := { s.pci with linkUp := false, perstN := false, ready := false } })

/-- CONFIG_WRITE (R463 to R466): a function-level reset is started by Device Control bit 15; before the endpoint is ready
the request is only retried (R476). -/
def execConfigWrite (addr be : Nat) (data : Word) (s : State) : Host.Outcome State Fault Refusal :=
  let (rw, w1c) := cfgMask addr
  let en := beMask be
  let old := s.cfgRead addr
  let d := data.toNat &&& en
  let kept := old - (old &&& (rw &&& en))
  let v := (kept ||| (d &&& rw))
  let v := v - (v &&& (d &&& w1c))
  -- Power states other than D0 and D3hot are not supported: such a write leaves the state (R461).
  let v := if addr = 0x44 ∧ (v % 4 = 1 ∨ v % 4 = 2) then old else v
  okIf (addr % 4 = 0 && addr < 4096 && be < 16) (if ¬ s.pci.ready ∨ ¬ s.pci.linkUp then s
    else if addr = 0x78 ∧ bitAt d 15 then s.endpointReset true
    else (s.cfgPut addr v).resume)

/-- The MSI-X table entry of a vector. -/
def State.msixEntry (s : State) (v : Nat) : MsixEntry := (s.pci.table.find? (fun e => e.vec = v)).getD { vec := v }

/-- Replace an entry, vectors rising. -/
def putEntry : List MsixEntry → MsixEntry → List MsixEntry
  | [], e => [e]
  | a :: r, e => if a.vec < e.vec then a :: putEntry r e else if a.vec = e.vec then e :: r else e :: a :: r

/-- MSIX_TABLE_WRITE (R465, R467): a write to the PBA has no effect. -/
def execMsixTableWrite (addr : Nat) (data : Word) (s : State) : Host.Outcome State Fault Refusal :=
  let e := s.msixEntry (addr / 16)
  let d := data.toNat
  let e := if addr % 16 = 0 then { e with lo := d - d % 4 }
    else if addr % 16 = 4 then { e with hi := d }
    else if addr % 16 = 8 then { e with data := d }
    else { e with mask := bitAt d 0 }
  okIf (addr % 4 = 0 && addr < 0x10000) (if ¬ s.hostReaches ∨ 0x8000 ≤ addr then s
    else ({ s with pci := { s.pci with table := putEntry s.pci.table e } } : State).flushVectors)

/-- PERST_RELEASE (R80). -/
def execPerstRelease (s : State) : Host.Outcome State Fault Refusal :=
  let s := s.setB CLK.REF_STS.PCIE_REF_OK
  done { s with pci := { s.pci with perstN := true, ready := s.pci.ready || 2 ≤ s.start.reached } }

/-- PCIE_LINK_UP (R461, R466): a dead head's transmitter stays idle (R531). -/
def execPcieLinkUp (speed width : Nat) (flit : Bool) (s : State) : Host.Outcome State Fault Refusal :=
  okIf (1 ≤ speed && speed ≤ 6 && 1 ≤ width && width ≤ 5 && (speed ≠ 6 || flit))
    (if ¬ s.pci.perstN ∨ s.start.reached < 2 ∨ s.on SYS.START_STS.DEAD then s else
      let s := ((s.put PCI.LINK_STS.SPEED speed).put PCI.LINK_STS.WIDTH width).put PCI.LINK_STS.FLIT (b2n flit)
      ({ s with pci := { s.pci with linkUp := true } } : State).resume)

/-- PCIE_LINK_DOWN (R466). -/
def execPcieLinkDown (s : State) : Host.Outcome State Fault Refusal :=
  let s := ((s.put PCI.LINK_STS.SPEED 0).put PCI.LINK_STS.WIDTH 0).put PCI.LINK_STS.FLIT 0
  done { s with pci := { s.pci with linkUp := false } }

/-- PCI_STATUS (R477). -/
def execPciStatus (p : Packet) (s : State) : Host.Outcome State Fault Refusal :=
  runCmd 0x1701 p s fun s => s.replyRegs [0x150000, 0x150008, 0x15000C, 0x150010, 0x150014, 0x150018]

end Sys2Proof.Machine
end

