-- ==== Sys2Proof/Machine/Vrm.lean ====
section
/-! DEFINITION. Commands of spec/06: connections, paths, ports, packets, acknowledgement, loss, and triggered requests. -/

namespace Sys2Proof.Machine

/-! ## Connections -/

/-- Read a path entry (Table "Remote Memory Access over Ethernet" 4). -/
def pathAt (p : Packet) (off : Nat) : PathEntry where
  port := p.u8 off % 8
  sub := p.u8 off / 8 % 4
  laddr := p.u8 (off + 1)
  sport := p.u16 (off + 2)
  vlan := p.u16 (off + 4)
  dscp := p.u8 (off + 6)
  mac := fieldAt p.params (off + 8) 6
  ip := fieldAt p.params (off + 16) 16

/-- Sub-ports of a mode (Table "Remote Memory Access over Ethernet" 1). -/
def subPorts (mode : Nat) : Nat := if mode = 0 then 1 else if mode = 1 then 2 else if mode = 2 then 4 else 0

/-- The first bad byte of a path entry. -/
def pathBad (p : Packet) (off : Nat) (ipv6 : Bool) : Option Nat :=
  if p.u8 off / 32 ≠ 0 then some off
  else if 7 < p.u8 (off + 1) then some (off + 1)
  else if 63 < p.u8 (off + 6) then some (off + 6)
  else if p.u8 (off + 7) ≠ 0 then some (off + 7)
  else if p.u16 (off + 14) ≠ 0 then some (off + 14)
  else if ¬ ipv6 ∧ fieldAt p.params (off + 20) 12 ≠ 0 then some (off + 20)
  else none

/-- What refuses a path set (R173): a bad field, a fused-off port, a second quadrant; status and DETAIL. -/
def State.pathsBad (s : State) (p : Packet) (off n : Nat) (ipv6 : Bool) (quad : Option Nat) : Option (Nat × Nat) :=
  let es := (List.range n).map (fun i => pathAt p (off + 32 * i))
  let q := quad.getD ((es.headD default).port / 2)
  match (List.range n).findSome? (fun i => pathBad p (off + 32 * i) ipv6) with
  | some o => some (0x000A, o)
  | none =>
    match es.find? (fun e => ¬ s.portEnabled e.port) with
    | some e => some (0x0004, e.port)
    | none =>
      match es.findIdx? (fun e => e.port / 2 ≠ q) with
      | some i => some (0x0803, i)
      | none => none

/-- With DRYRUN, the warning of a path whose sub-port is not up (Table "Remote Memory Access over Ethernet" 11). -/
def State.dryPort (s : State) (p : Packet) (es : List PathEntry) : Option Nat :=
  if p.dryRun then (es.find? (fun e => ¬ s.bit (VRM.PORTp_STS.UP e.port) e.sub)).map (fun e => 4 * e.port + e.sub) else none

/-- Connections bound to a cluster, counted in the shadow bank. -/
def State.connCount (s : State) (cl : Nat) : Nat := (s.shadow.conns.filter (fun b => b.cluster = cl)).length

/-- A logical cluster named by its location code, not retired. -/
def State.clusterAt (s : State) (loc : Nat) : Option Nat :=
  if locOk loc ∧ bitsAt loc 6 2 = 2 then
    let cl := 8 * bitsAt loc 4 2 + bitsAt loc 0 3
    if s.get (SYS.CLMAP.C (cl / 8) (cl % 8)) = 0xF then none else some cl
  else none

/-- The cluster with the smallest count among candidates, the lowest number on a tie. -/
def leastOf (n : Nat → Nat) : List Nat → Option Nat
  | [] => none
  | c :: cs => match leastOf n cs with
    | some d => if n d < n c then some d else some c
    | none => some c

/-- CONN_CREATE (R170, R172, R173). -/
def execConnCreate (p : Packet) (s : State) : Host.Outcome State Fault Refusal :=
  runCmd 0x0801 p s fun s =>
    let id := p.u32 0; let n := p.u8 9; let flags := p.u8 11
    let es := (List.range n).map (fun i => pathAt p (64 + 32 * i))
    let named := s.clusterAt (p.u8 8)
    let quad := if p.u8 8 = 0 then none else named.map (· / 8)
    let room := fun cl => s.on VRM.SPILL_LO.EN || s.connCount cl < 2048
    let chosen := if p.u8 8 = 0 then
        leastOf s.connCount ((s.liveClusters ((es.headD default).port / 2)).filter (fun c => room c))
      else named
    if p.plen < 64 then s.refuseWith 0x0007 (64 + 32 * 16)
    else if 2 ^ 20 ≤ id then s.refuseWith 0x000A 0
    else if 2 ^ 20 ≤ p.u32 4 then s.refuseWith 0x000A 4
    else if p.u8 8 ≠ 0 ∧ ¬ locOk (p.u8 8) then s.refuseWith 0x0005 0
    else if p.u8 8 ≠ 0 ∧ named.isNone then s.refuseWith 0x000A 8
    else if n = 0 ∨ 16 < n then s.refuseWith 0x000A 9
    else if p.plen ≠ 64 + 32 * n then s.refuseWith 0x0007 (64 + 32 * n)
    else if p.u8 10 < 10 ∨ 13 < p.u8 10 then s.refuseWith 0x000A 10
    else if 8 ≤ flags then s.refuseWith 0x000A 11
    else if p.u16 20 < 64 ∨ 4096 < p.u16 20 then s.refuseWith 0x000A 20
    else if p.u16 22 ≠ 0 then s.refuseWith 0x000A 22
    else if bitAt flags 0 ∧ s.frk.isNone then s.refuseWith 0x000A 11
    else if ¬ bitAt flags 0 ∧ p.u32 24 ≠ 0 then s.refuseWith 0x000A 24
    else if bitAt flags 0 ∧ s.shadow.conns.any (fun b => bitAt b.flags 0 && b.label = p.u32 24) then s.refuseWith 0x000A 24
    else match (List.range 36).find? (fun i => p.u8 (28 + i) ≠ 0) with
    | some i => s.refuseWith 0x000A (28 + i)
    | none =>
      match s.pathsBad p 64 n (bitAt flags 1) quad with
      | some (st, d) => s.refuseWith st d
      | none =>
        match s.conn id with
        | some c => s.refuseWith 0x0801 c.state
        | none =>
          if ¬ s.on VRM.SPILL_LO.EN ∧ 65536 ≤ s.shadow.conns.length then s.refuseWith 0x0802 0 else
          match chosen with
          | none => s.refuseWith 0x0802 0
          | some cl =>
            if ¬ room cl then s.refuseWith 0x0802 0 else
            match s.dryPort p es with
            | some d => s.refuseWith 0x0806 d
            | none =>
              let b : ConnBind :=
                { id := id, peer := p.u32 4, cluster := cl, pmtu := 2 ^ p.u8 10, flags := flags, txPsn := p.u32 12,
                  rxPsn := p.u32 16, win := p.u16 20, label := p.u32 24, paths := es }
              let s := { s with shadow := { s.shadow with conns := s.shadow.conns ++ [b] } }
              { st := s.setConn { newConn b s.aon with cached := decide (((s.vrm.conns.filter Conn.cached).filter (fun c =>
                  s.shadow.conns.any (fun x => x.id = c.id ∧ x.cluster = cl))).length < 2048) } }

/-- CONN_DESTROY (R174): refused while a queue pair or a triggered entry names the connection. -/
def execConnDestroy (p : Packet) (s : State) : Host.Outcome State Fault Refusal :=
  runCmd 0x0802 p s fun s =>
    let id := p.u32 0
    match s.conn id with
    | none => s.refuseWith 0x000A 0
    | some c =>
      let used := (s.act.qps ++ s.shadow.qps).any (fun b => b.location ≠ 0 && b.conn = id) ||
        s.vrm.tags.any (fun t => t.entries.any (fun e => e.conn = id))
      if used then s.refuseWith 0x000F 3
      else { st := s.setConn { c with state := if c.state = 3 then 3 else 4, destroyAt := some s.aon, sendq := [] } }

/-- CONN_STATUS (R173). -/
def execConnStatus (p : Packet) (s : State) : Host.Outcome State Fault Refusal :=
  runCmd 0x0803 p s fun s =>
    match s.conn (p.u32 0) with
    | none => if 2 ^ 20 ≤ p.u32 0 then s.refuseWith 0x000A 0 else s.reply (List.replicate 20 0)
    | some c =>
      let up := ((c.paths.filter (fun x => x.sets.contains c.pathSet && x.up)).map (fun x => 2 ^ x.wire)).sum
      s.reply (leBytes 1 c.state ++ leBytes 2 up ++ [0] ++ leBytes 4 c.txPsn ++ leBytes 4 c.rxCum ++ leBytes 4 c.retrans ++
        leBytes 4 c.unacked.length)

/-- PATH_SET (R170, R173): the shadow bank's path set. -/
def execPathSet (p : Packet) (s : State) : Host.Outcome State Fault Refusal :=
  runCmd 0x0804 p s fun s =>
    let id := p.u32 0; let n := p.u8 4
    match s.shadow.conns.find? (fun b => b.id = id) with
    | none => s.refuseWith 0x000A 0
    | some b =>
      if n = 0 ∨ 16 < n then s.refuseWith 0x000A 4
      else if fieldAt p.params 5 3 ≠ 0 then s.refuseWith 0x000A 5
      else if p.plen ≠ 8 + 32 * n then s.refuseWith 0x0007 (8 + 32 * n)
      else match s.pathsBad p 8 n (bitAt b.flags 1) (some (b.cluster / 8)) with
      | some (st, d) => s.refuseWith st d
      | none =>
        let es := (List.range n).map (fun i => pathAt p (8 + 32 * i))
        match s.dryPort p es with
        | some d => s.refuseWith 0x0806 d
        | none => { st := { s with shadow := { s.shadow with conns := s.shadow.conns.map (fun x =>
            if x.id = id then { x with paths := es } else x) } } }

/-- PORT_ADDR (R166). -/
def execPortAddr (p : Packet) (s : State) : Host.Outcome State Fault Refusal :=
  runCmd 0x0805 p s fun s =>
    let port := p.u8 0; let i := p.u8 1; let f := p.u8 2
    if 7 < port then s.refuseWith 0x000A 0
    else if ¬ s.portEnabled port then s.refuseWith 0x0004 port
    else if 7 < i then s.refuseWith 0x000A 1
    else if 4 ≤ f then s.refuseWith 0x000A 2
    else if p.u8 3 ≠ 0 then s.refuseWith 0x000A 3
    else
      let x := s.port port
      let rest := x.addrs.filter (fun a => a.1 ≠ i)
      let a := (i, bitAt f 1, if bitAt f 1 then fieldAt p.params 4 16 else fieldAt p.params 4 4)
      { st := s.setPort port { x with addrs := if bitAt f 0 then a :: rest else rest } }

/-- EXC_RING (R167, R473). -/
def execExcRing (p : Packet) (s : State) : Host.Outcome State Fault Refusal :=
  runCmd 0x0806 p s fun s =>
    let port := p.u8 0
    if 7 < port then s.refuseWith 0x000A 0
    else if ¬ s.portEnabled port then s.refuseWith 0x0004 port
    else if fieldAt p.params 1 3 ≠ 0 then s.refuseWith 0x000A 1
    else if p.u64 4 % 4096 ≠ 0 then s.refuseWith 0x000A 4
    else if p.u64 12 % 4096 ≠ 0 then s.refuseWith 0x000A 12
    else if p.u8 20 < 4 ∨ 10 < p.u8 20 then s.refuseWith 0x000A 20
    else if fieldAt p.params 21 3 ≠ 0 then s.refuseWith 0x000A 21
    else { st := s.setPort port { s.port port with exc := some (p.u64 4, p.u64 12, p.u8 20), rxIdx := 0, txIdx := 0 } }

/-- PORT_STATUS (Table "Remote Memory Access over Ethernet" 2). -/
def execPortStatus (p : Packet) (s : State) : Host.Outcome State Fault Refusal :=
  runCmd 0x0820 p s fun s =>
    let port := p.u8 0; let x := s.port port
    if 7 < port then s.refuseWith 0x000A 0
    else if ¬ s.portEnabled port then s.refuseWith 0x0004 port
    else if fieldAt p.params 1 3 ≠ 0 then s.refuseWith 0x000A 1
    else s.reply (leBytes 4 (s.word (0x60044 + 8 * port)) ++ leBytes 8 x.framesIn ++ leBytes 8 x.framesOut ++
      leBytes 8 x.fecCorr ++ leBytes 8 x.fecUncorr)

/-- CONN_CTX_READ: the raw context, whose layout the spec does not give (log entry 2). -/
def execConnCtxRead (p : Packet) (s : State) : Host.Outcome State Fault Refusal :=
  runCmd 0x8830 p s fun s =>
    match s.conn (p.u32 0) with
    | none => s.refuseWith 0x000A 0
    | some _ =>
      let (bs, s) := s.freeBytes 256
      { st := s, data := bs }

/-! ## Triggered requests -/

def State.tagOf (s : State) (t : Nat) : Option Tag := s.vrm.tags.find? (fun x => x.tag = t)
def State.setTag (s : State) (t : Tag) : State :=
  { s with vrm := { s.vrm with tags := s.vrm.tags.map (fun x => if x.tag = t.tag then t else x) } }

/-- Carry out the action of a triggered entry (R187, Table "Remote Memory Access over Ethernet" 7). -/
def State.fire (s : State) (e : TrigEntry) : State :=
  let base := ((s.vrm.keys.find? (fun k => k.handle = e.localH)).map IssuedKey.base).getD 0
  match s.connBind e.conn with
  | none => s
  | some b =>
    let fence := if bitAt e.aflags 1 then 12 else 0
    if e.action = 1 then
      let (x, s) := s.newXfer e.conn
      let cuts := cutBytes b.pmtu (s.vrm.land.reads base e.len)
      let pkts := cuts.mapIdx (fun i c =>
        ({ op := 1, flags := xferFlags i cuts.length + (if i + 1 = cuts.length then fence else 0), dconn := 0, xfer := x,
           xcnt := if i + 1 = cuts.length ∧ fence ≠ 0 then cuts.length else 0, len := c.2.length, addr := e.remote + c.1,
           key := e.rkey, payload := c.2 } : VrmPkt))
      s.vrmSend e.conn pkts
    else if e.action = 2 then s.startPull e.conn 8 e.handle 0 e.remote e.rkey e.len base
    else
      let (x, s) := s.newXfer e.conn
      s.vrmSend e.conn [{ op := 4, flags := 3 + fence, dconn := 0, xfer := x, xcnt := if fence ≠ 0 then 1 else 0, kind := 3, tag := e.rtag }]

/-- Firings due of an entry at a counter value: one per threshold reached (R188). -/
def TrigEntry.due (e : TrigEntry) (counter : Nat) : Nat :=
  let d := (counter + 2 ^ 32 - e.thresh) % 2 ^ 32
  if e.spent ∨ 2 ^ 31 ≤ d then 0 else if ¬ bitAt e.aflags 0 ∨ e.step = 0 then 1 else d / e.step + 1

/-- Fire an entry as often as it is due; it stays armed only with REARM (R188). -/
def State.fireDue (s : State) (t : Nat) (e : TrigEntry) : State :=
  match s.tagOf t with
  | none => s
  | some tg =>
    let n := e.due tg.counter
    if n = 0 then s else
    let e' := { e with thresh := (e.thresh + n * e.step) % 2 ^ 32, spent := decide (e.step = 0) }
    let es := tg.entries.flatMap (fun x => if x.handle = e.handle then (if bitAt e.aflags 0 then [e'] else []) else [x])
    let s := s.setTag { tg with entries := es, fired := tg.fired + n }
    (List.range n).foldl (fun (s : State) _ => s.fire e) s

/-- A counted TRIGGER (R188); a replication link's tag has its built-in entry besides (R401). -/
def State.countTrigger (s : State) (t : Nat) : State :=
  match s.tagOf t with
  | none => s
  | some tg =>
    let s := s.setTag { tg with counter := (tg.counter + 1) % 2 ^ 32 }
    (tg.entries.foldl (fun (s : State) e => s.fireDue t e) s).linkTrigger t

/-- TRIG_ALLOC (R187). -/
def execTrigAlloc (p : Packet) (s : State) : Host.Outcome State Fault Refusal :=
  runCmd 0x0810 p s fun s =>
    match s.clusterAt (p.u8 4) with
    | none => if locOk (p.u8 4) then s.refuseWith 0x000A 4 else s.refuseWith 0x0005 0
    | some cl =>
      if fieldAt p.params 5 3 ≠ 0 then s.refuseWith 0x000A 5
      else if (s.tagOf (p.u32 0)).isSome then s.refuseWith 0x000A 0
      else if 65536 ≤ s.vrm.tags.length then s.refuseWith 0x0804 0
      else { st := { s with vrm := { s.vrm with tags := s.vrm.tags ++ [{ tag := p.u32 0, cluster := cl }] } } }

/-- TRIG_POST (R187, R188). -/
def execTrigPost (p : Packet) (s : State) : Host.Outcome State Fault Refusal :=
  runCmd 0x0811 p s fun s =>
    let total := (s.vrm.tags.map (fun t => t.entries.length)).sum
    if p.plen ≠ 48 then s.refuseWith 0x0007 48 else
    match s.tagOf (p.u32 0) with
    | none => s.refuseWith 0x0805 0
    | some t =>
      let own := ((s.vrm.tags.filter (fun x => x.cluster = t.cluster)).map (fun x => x.entries.length)).sum
      if (s.conn (p.u32 8)).isNone then s.refuseWith 0x000A 8
      else if p.u8 12 < 1 ∨ 3 < p.u8 12 then s.refuseWith 0x000A 12
      else if 4 ≤ p.u8 13 then s.refuseWith 0x000A 13
      else if p.u16 14 ≠ 0 then s.refuseWith 0x000A 14
      else if p.u8 12 ≠ 3 ∧ ¬ s.vrm.keys.any (fun k => k.handle = p.u64 16) then s.refuseWith 0x000A 16
      else if p.u8 12 = 3 ∧ p.u32 36 ≠ 0 then s.refuseWith 0x000A 36
      else if 131072 ≤ total ∨ 4096 ≤ own then s.refuseWith 0x0804 0
      else
        let (f, s) := s.draw
        let h := freshNat (f % 2 ^ 32) (s.vrm.tags.flatMap (fun t => t.entries.map TrigEntry.handle))
        let e : TrigEntry :=
          { handle := h, thresh := p.u32 4, conn := p.u32 8, action := p.u8 12, aflags := p.u8 13, localH := p.u64 16,
            remote := p.u64 24, rkey := p.u32 32, len := p.u32 36, rtag := p.u32 40, step := p.u32 44 }
        { st := (s.setTag { t with entries := t.entries ++ [e] }).fireDue t.tag e, data := leBytes 4 h }

/-- TRIG_FREE (R188). -/
def execTrigFree (p : Packet) (s : State) : Host.Outcome State Fault Refusal :=
  runCmd 0x0812 p s fun s =>
    if (s.tagOf (p.u32 0)).isNone then s.refuseWith 0x0805 0
    else { st := { s with vrm := { s.vrm with tags := s.vrm.tags.filter (fun t => t.tag ≠ p.u32 0) } } }

/-- TRIG_STATUS (R187). -/
def execTrigStatus (p : Packet) (s : State) : Host.Outcome State Fault Refusal :=
  runCmd 0x0813 p s fun s =>
    match s.tagOf (p.u32 0) with
    | none => s.refuseWith 0x0805 0
    | some t => s.reply (leBytes 4 t.counter ++ leBytes 2 t.entries.length ++ leBytes 2 t.fired)

/-! ## Frames -/

/-- Bytes in a port's ingress buffer. -/
def Port.fill (x : Port) : Nat := (x.ingress.map Ingress.size).sum

/-- XOFF in bytes, as counted. -/
def State.xoff (s : State) (p : Nat) : Nat := min 0x78 (s.get (VRM.PORTp_CFG.XOFF p)) * 65536

/-- The largest frame of a port, as counted. -/
def State.mtu (s : State) (p : Nat) : Nat :=
  let m := s.get (VRM.PORTp_CFG.MTU p); if 1518 ≤ m ∧ m ≤ 9216 then m else 9216

/-- Hand a frame to the exception ring, at most 100,000 in any second (R167): the frame, then its ring entry; where the frame
is put, and the entry's flags, the spec leaves open (log entries 2 and 148). -/
def State.toException (s : State) (port sub : Nat) (f : Frame) : State :=
  let x := s.port port
  let times := x.excTimes.filter (fun t => s.aon < t + Config.sec)
  match x.exc with
  | none => s.setPort port { x with excDropped := x.excDropped + 1 }
  | some (rx, _, log2) =>
    if 100000 ≤ times.length ∨ ¬ s.mayIssue then s.setPort port { x with excDropped := x.excDropped + 1 } else
    let s := s.setPort port { x with excTimes := s.aon :: times, rxIdx := (x.rxIdx + 1) % 2 ^ log2 }
    let (at_, s) := s.draw
    let (flags, s) := s.freeBytes 1
    let entry := leBytes 8 at_ ++ leBytes 2 f.bytes.length ++ leBytes 1 sub ++ flags ++ leBytes 4 0
    (s.emit (.hostData (at_ % 2 ^ 64) f.bytes)).emit (.hostData (rx + 16 * x.rxIdx) entry)

/-- What R166 makes of a frame that is no VRM frame of the port. -/
def State.frameIsVrm (s : State) (port : Nat) (f : Frame) : Bool :=
  f.isIp && (s.port port).addrs.any (fun a => a.2.1 = f.ipv6 && a.2.2 = f.dstIp) && decide (f.udpPort = s.get VRM.CFG.UDP_PORT) &&
  frameCsumOk f && decide (fieldAt (f.bytes.drop f.udpAt) 0 1 / 16 = 1)

/-- FRAME_RECEIVE (R165 to R168, R176): packets of a reserved type, or whose length their type does not have, are dropped. -/
def execFrameReceive (port sub : Nat) (f : Frame) (s : State) : Host.Outcome State Fault Refusal :=
  let raw := f.bytes.drop f.udpAt
  okIf (port < 8 && sub < 4) (
    if ¬ s.bit (VRM.PORTp_STS.UP port) sub ∨ s.intakeStopped then s else
    let x := s.port port
    let s := s.setPort port { x with
      framesIn := x.framesIn + 1, fecCorr := x.fecCorr + f.fecCorr, fecUncorr := x.fecUncorr + f.fecUncorr }
    let x := s.port port
    if f.macControl ∨ f.dropped ∨ s.mtu port < f.len ∨ ¬ f.toMe then s
    else if ¬ s.frameIsVrm port f then s.toException port sub f
    else if ¬ vcrcGood raw then s.count VRM.DROP2.MISROUTE 1
    else if (VrmPkt.ofBytes raw).op = 0 ∨ 8 ≤ (VrmPkt.ofBytes raw).op ∨ ¬ (VrmPkt.ofBytes raw).lenFits then s
    else if 8 * 2 ^ 20 < x.fill + f.len then s.count VRM.DROP.NOBUF 1
    else
      let g : Ingress :=
        { raw := raw, sub := sub, srcMac := f.srcMac, vlan := f.vlan, ipv6 := f.ipv6, srcIp := f.srcIp, dstIp := f.dstIp
          sport := f.sport, size := f.len, ce := f.ce }
      let x := { x with ingress := x.ingress ++ [g] }
      let pause := s.on (VRM.PORTp_CFG.PFC_EN port) && decide (s.xoff port < x.fill) && !x.pfcSent
      (s.setPort port { x with pfcSent := x.pfcSent || pause }).iff pause (·.emit (.pfc port true)))

/-- PFC_RELEASE (R168). -/
def execPfcRelease (port : Nat) (s : State) : Host.Outcome State Fault Refusal :=
  let x := s.port port
  okIf (port < 8) (if x.pfcSent ∧ x.fill + 2 ^ 20 < s.xoff port then
    (s.setPort port { x with pfcSent := false }).emit (.pfc port false) else s)

/-- PFC_PAUSE_RECEIVE (R168): a received PFC frame for PFC_PRIO, or its release, after which what waited goes out. -/
def execPfcPauseReceive (port sub : Nat) (pause : Bool) (s : State) : Host.Outcome State Fault Refusal :=
  okIf (port < 8 && sub < 4) (if s.on (VRM.PORTp_CFG.PFC_EN port) ∧ s.bit (VRM.PORTp_STS.UP port) sub then
      let s := s.putBit (VRM.PORTp_STS.PAUSED port) sub pause
      if pause then s else (s.unstall port sub).kickAll
    else s)

/-- SUB_PORT_UP (R73, R164): a serving quadrant's port from S2, any from S3. -/
def execSubPortUp (port sub : Nat) (s : State) : Host.Outcome State Fault Refusal :=
  let ok := s.portEnabled port && s.on (VRM.PORTp_CFG.EN port) && sub < subPorts (s.get (VRM.PORTp_CFG.MODE port)) &&
    3 ≤ s.start.reached && s.quadServes (port / 2) && !s.bit SYS.START_STS.Q_DOWN (port / 2) && !s.on SYS.START_STS.DEAD
  okIf (port < 8 && sub < 4) (if ok then
      (s.putBit (VRM.PORTp_STS.UP port) sub true).kickAll
    else s)

/-- SUB_PORT_DOWN (R169): what waited behind a pause is lost with the link. -/
def execSubPortDown (port sub : Nat) (s : State) : Host.Outcome State Fault Refusal :=
  let x := s.port port
  okIf (port < 8 && sub < 4) (((s.setPort port { x with stalled := x.stalled.filter (fun y => y.1 ≠ sub) }).putBit
    (VRM.PORTp_STS.UP port) sub false).putBit (VRM.PORTp_STS.PAUSED port) sub false)

/-- TRANSMIT_RING_POST (R167, R469): the entries that the host has posted are read, then their frames, which go out as they
arrive (`State.txArrived`). -/
def execTransmitRingPost (port count : Nat) (s : State) : Host.Outcome State Fault Refusal :=
  okIf (port < 8 && count ≤ 1024) (match (s.port port).exc with
    | none => s
    | some (_, tx, log2) =>
      (List.range count).foldl (fun (s : State) _ =>
        let x := s.port port
        (s.setPort port { x with txIdx := (x.txIdx + 1) % 2 ^ log2 }).upRead 6 port 0 (tx + 16 * x.txIdx) 16) s)

/-- A read of VRM_STAMP (R189): the low bits are returned, the high bits latched. -/
def State.stampRead (s : State) : Nat × State := (s.stamp % 2 ^ 32, s.put VRM.STAMP_HI.HI (s.stamp / 2 ^ 32))

/-- VRM_STAMP_READ. -/
def execVrmStampRead (ident : Nat) (s : State) : Host.Outcome State Fault Refusal :=
  done (State.emitRead ident 0x60020 (if s.reaches ident 0x60020 then s.stampRead else (0, s)))

/-! ## Inbound packets -/

/-- Take packet idx out of a port's ingress buffer. -/
def State.dropIngress (s : State) (port idx : Nat) : State :=
  s.setPort port { s.port port with ingress := (s.port port).ingress.eraseIdx idx }

/-- NAK CONN_UNKNOWN, at most once per millisecond per peer address (R190), back the way the packet came; a closed
connection's peer ID is not known (log entries 2 and 146). -/
def State.nakUnknown (s : State) (port : Nat) (g : Ingress) : State :=
  if s.vrm.naks.any (fun n => n.1 = g.srcIp ∧ s.aon < n.2 + Config.ms) then s else
  let s := { s with vrm := { s.vrm with naks := (g.srcIp, s.aon) :: s.vrm.naks.filter (fun n => n.1 ≠ g.srcIp) } }
  let (f, s) := s.draw
  let peer := ((s.connBindNew g.pkt.dconn).map ConnBind.peer).getD (f % 2 ^ 20)
  let p : VrmPkt := { op := 6, dconn := peer, path := g.pkt.path, psn := g.pkt.psn, stamp := s.stamp, kind := 5 }
  let bs := vrmFramed p.head [] []
  let udp := s.get VRM.CFG.UDP_PORT
  s.ethSend port g.sub (prioOf g.vlan) (.vrm
    { mac := g.srcMac, vlan := g.vlan, ipv6 := g.ipv6, src := g.dstIp, dst := g.srcIp, dscp := 0, df := !g.ipv6, ecn := 2
      sport := udp, dport := udp, csum := if g.ipv6 then udpSum g.dstIp g.srcIp udp udp bs else 0, bytes := bs })

/-- The stale rule of R189: LATEST after the packet, or none where the packet is dropped. -/
def State.staleCheck (s : State) (c : Conn) (stamp : Nat) : Option Nat :=
  match c.latest with
  | none => some stamp
  | some l =>
    let d := (stamp + 2 ^ 40 - l) % 2 ^ 40
    if d < 2 ^ 39 then some stamp
    else if 2 ^ 40 - d ≤ max 1 (s.get VRM.TMO.STALE_MS) * 1000 then some l
    else none

/-- What the seal of a packet makes of it (R178): waits for its cluster's key or entropy, dropped, or the packet in clear; ACK, NAK
and PROBE are never sealed, and a sealed packet on an unsealed connection is dropped too (log entry 149). -/
inductive SealCheck where
  | waits (s : State)
  | dropped
  | clear (p : VrmPkt)
  deriving DecidableEq, Repr

/-- The seal of a received packet (R55, R178, R213, R221). -/
def State.checkSeal (s : State) (c : Conn) (b : ConnBind) (g : Ingress) : SealCheck :=
  let p := g.pkt
  if p.op = 5 ∨ p.op = 6 ∨ p.op = 7 then .clear p
  else if bitAt b.flags 0 ≠ bitAt p.flags 4 then .dropped
  else if ¬ bitAt b.flags 0 then .clear p
  else
    let gen := c.genOf p.psn
    if ¬ s.sealReady b gen then .waits (if s.entReady (b.cluster / 8) then s.wantSeal b.cluster b.label gen else s)
    else match s.unseal b gen p.psn g.raw with
    | none => .dropped
    | some text => .clear { p with payload := text }

/-- Look at packet idx of a port, of type op: refuse, drop or keep it waiting (R170, R171, R176, R178, R189, R190), else take it
and go on with f. -/
def State.rx (s : State) (port idx op : Nat) (f : State → Conn → ConnBind → VrmPkt → State) : State :=
  match (s.port port).ingress[idx]? with
  | none => s
  | some g =>
    if g.pkt.op ≠ op then s else
    let out := s.dropIngress port idx
    match s.conn g.pkt.dconn, s.connBind g.pkt.dconn with
    | some c, some b =>
      if c.state = 3 then out
      else if c.state ≠ 2 ∧ c.state ≠ 4 then out.nakUnknown port g
      else if b.cluster / 8 ≠ port / 2 then out.count VRM.DROP2.MISROUTE 1
      else if b.pmtu < g.pkt.payload.length then out
      else if ¬ c.cached then
        (if c.sram then (if s.clusterWorks b.cluster then s.cacheConn c b.cluster else s)
         else if s.pci.reads.any (fun r => r.kind = 4 && r.id = c.id) then s
         else (s.count VRM.CTX_MISS.COUNT 1).upRead 4 c.id 0 (s.connSlot c.id) 256)
      else if ¬ s.clusterWorks b.cluster then s
      else match s.checkSeal c b g with
      | .waits t => t
      | .dropped => out.count VRM.DROP2.SEAL 1
      | .clear p =>
      match s.staleCheck c p.stamp with
      | none => out.count VRM.DROP.STALE 1
      | some l =>
        let c := { c with
          latest := some l, lastRx := s.aon, usedAt := s.aon, ce := c.ce || g.ce,
          paths := c.paths.mapIdx (fun i x => if i = c.pathNamed p.path then { x with newest := p.stamp, lastUse := s.aon } else x) }
        f (out.setConn c) c b p
    | _, _ => out.nakUnknown port g

/-- Advance the cumulative PSN over packets received beyond it. -/
def advance : Nat → Nat → List Nat → Nat × List Nat
  | 0, cum, ooo => (cum, ooo)
  | n + 1, cum, ooo => if ooo.contains cum then advance n ((cum + 1) % 2 ^ 32) (ooo.erase cum) else (cum, ooo)

/-- Mark a packet received, and acknowledge where R180 asks for it; what was counted of transfers that have ended without a
FENCE is forgotten (R184). -/
def State.markRx (s : State) (id : Nat) (p : VrmPkt) (now : Bool) : State :=
  match s.conn id with
  | none => s
  | some c =>
    let gap := decide (p.psn ≠ c.rxCum)
    let ooo := p.psn :: c.ooo
    let (cum, ooo) := advance ooo.length c.rxCum ooo
    let n := c.ackCount + 1
    let ended := if p.op = 1 ∧ bitAt p.flags 1 ∧ ¬ bitAt p.flags 2 then (p.xfer, p.psn) :: c.ended else c.ended
    let past := ended.filter (fun e => psnLater cum e.2)
    let s := s.setConn { c with
      rxCum := cum, rxGen := if cum < c.rxCum then c.rxGen + 1 else c.rxGen, ooo := ooo, ackCount := n
      ackSince := some (c.ackSince.getD s.aon), ended := ended.filter (fun e => ¬ psnLater cum e.2)
      placed := c.placed.filter (fun x => ¬ past.any (fun e => e.1 = x.1 && !psnLater x.2 e.2)) }
    if now ∨ gap ∨ bitAt p.flags 3 ∨ 2 * max 1 (s.get VRM.CFG.ACK_COUNT) ≤ n then s.sendAck id p.path else s

/-- A sequenced packet (R179): one already received is acknowledged again, one beyond the window is dropped. -/
def State.rxSeq (s : State) (port idx op : Nat) (f : State → Conn → ConnBind → VrmPkt → State) : State :=
  s.rx port idx op fun s c b p =>
    let d := (p.psn + 2 ^ 32 - c.rxCum) % 2 ^ 32
    if 2 ^ 31 ≤ d ∨ c.ooo.contains p.psn then s.sendAck c.id p.path
    else if b.win ≤ d then s
    else f s c b p

/-- Refuse a packet: its NAK, and its PSN counts as received (R177). -/
def State.nakSeq (s : State) (id : Nat) (p : VrmPkt) (code : Nat) : State := (s.markRx id p false).sendNak id p.path p.psn code

/-- What refuses an access under an issued key (R177, Table "Remote Memory Access over Ethernet" 9; log entry 164). -/
def State.keyBad (s : State) (key addr len : Nat) : Option Nat :=
  match s.vrm.keys.find? (fun k => k.key = key) with
  | none => some 1
  | some k => if addr < k.base ∨ k.base + k.len < addr + len then some 2 else none

/-- Insert a placed packet, PSNs rising in serial order. -/
def insertPlaced : List (Nat × Nat) → Nat × Nat → List (Nat × Nat)
  | [], e => [e]
  | a :: r, e => if psnLater a.2 e.2 then e :: a :: r else a :: insertPlaced r e

/-- Count a packet placed in its transfer (R184). -/
def State.countPlaced (s : State) (id xfer psn : Nat) : State :=
  match s.conn id with
  | none => s
  | some c => s.setConn { c with placed := insertPlaced c.placed (xfer, psn) }

/-- The first n packets placed of a transfer go. -/
def dropPlaced (xfer : Nat) : Nat → List (Nat × Nat) → List (Nat × Nat)
  | 0, l => l
  | _, [] => []
  | n + 1, e :: l => if e.1 = xfer then dropPlaced xfer n l else e :: dropPlaced xfer (n + 1) l

/-- Place a WRITE's payload. -/
def State.place (s : State) (p : VrmPkt) : State :=
  { s with vrm := { s.vrm with land := s.vrm.land.writes p.addr (p.payload.take p.len) } }

/-- Hold a FENCE packet until its transfer's other packets are placed (R184). -/
def State.holdFence (s : State) (id : Nat) (p : VrmPkt) : State :=
  match s.conn id with
  | none => s
  | some c => if 256 ≤ c.fences.length ∨ c.fences.any (fun x => x.psn = p.psn) then s else s.setConn { c with fences := c.fences ++ [p] }

/-- WRITE_PACKET (R177, R184). -/
def execWritePacket (port idx : Nat) (s : State) : Host.Outcome State Fault Refusal :=
  okIf (port < 8) (s.rxSeq port idx 1 fun s c _ p =>
    match s.keyBad p.key p.addr p.len with
    | some code => s.nakSeq c.id p code
    | none => if bitAt p.flags 2 then s.holdFence c.id p else ((s.place p).countPlaced c.id p.xfer p.psn).markRx c.id p false)

/-- FENCE_PLACE (R184, R188): once XCNT − 1 other packets of the transfer are placed. -/
def execFencePlace (conn xfer : Nat) (s : State) : Host.Outcome State Fault Refusal :=
  done (match s.conn conn with
    | none => s
    | some c =>
      match c.fences.find? (fun p => p.xfer = xfer) with
      | none => s
      | some p =>
        if (c.placed.filter (fun x => x.1 = xfer)).length + 1 < p.xcnt then s else
        let s := s.setConn { c with fences := c.fences.filter (fun x => x.psn ≠ p.psn), placed := dropPlaced xfer (p.xcnt - 1) c.placed }
        if p.op = 1 then ((s.place p).markRx conn p true).slotPlaced conn p.addr p.len
        else if (s.tagOf p.tag).isSome then (s.markRx conn p true).countTrigger p.tag
        else (s.setB VRM.STS.TRIG_MISS).nakSeq conn p 4)

/-- READ_REQ (R177): the data go out as READ_RESP packets of the same transfer. -/
def execReadReq (port idx : Nat) (s : State) : Host.Outcome State Fault Refusal :=
  okIf (port < 8) (s.rxSeq port idx 2 fun s c b p =>
    if p.len = 0 ∨ 2 ^ 24 < p.len then s.nakSeq c.id p 2 else
    match s.keyBad p.key p.addr p.len with
    | some code => s.nakSeq c.id p code
    | none =>
      let cuts := cutBytes b.pmtu (s.vrm.land.reads p.addr p.len)
      (s.markRx c.id p false).vrmSend c.id (cuts.mapIdx (fun i x =>
        ({ op := 3, flags := xferFlags i cuts.length, dconn := 0, xfer := p.xfer, len := x.2.length, addr := x.1, payload := x.2 } : VrmPkt))))

/-- READ_RESP (R184): placed at its offset; the read is done once LEN bytes are placed. -/
def execReadResp (port idx : Nat) (s : State) : Host.Outcome State Fault Refusal :=
  okIf (port < 8) (s.rxSeq port idx 3 fun s c _ p =>
    match c.pulls.find? (fun x => x.xfer = p.xfer ∧ x.placed < x.len) with
    | none => s.nakSeq c.id p 3
    | some pl =>
      if pl.len < p.addr + p.len then s.nakSeq c.id p 2 else
      let pl' := { pl with placed := pl.placed + p.len }
      let done := decide (pl.len ≤ pl'.placed) && (pl.kind = 8 || pl.kind = 9)
      let pl' := { pl' with data := if pl.kind = 8 ∨ pl.kind = 9 then [] else pl.data.writes p.addr (p.payload.take p.len) }
      let pulls := c.pulls.flatMap (fun x => if x.xfer = pl.xfer then (if done then [] else [pl']) else [x])
      let s := s.setConn { c with pulls := pulls }
      let s := if pl.dest = 0 then s
        else { s with vrm := { s.vrm with land := s.vrm.land.writes (pl.dest + p.addr) (p.payload.take p.len) } }
      s.markRx c.id p false)

/-- DOORBELL (R177, R186): any SEND but a TRIGGER; only a DOORBELL of a client queue pair on this connection is accepted. -/
def execDoorbell (port idx : Nat) (s : State) : Host.Outcome State Fault Refusal :=
  okIf (port < 8) (
    if (((s.port port).ingress[idx]?).map (fun g => g.pkt.kind)).getD 0 = 3 then s else
    s.rxSeq port idx 4 fun s c _ p =>
      match s.qpBindNew p.tag with
      | some b =>
        if p.kind = 1 ∧ b.location ≠ 0 ∧ b.conn = c.id then
          let s := s.markRx c.id p false
          -- In a state that takes no doorbells it is ignored and counted (R136, R137).
          if (s.qp b.qpid).takesDoorbell then (s.ringCq b.qpid (p.arg / 2 ^ 16)).ringSq b.qpid (p.arg % 2 ^ 16)
          else s.setQp { s.qp b.qpid with ignored := (s.qp b.qpid).ignored + 1 }
        else s.nakSeq c.id p 3
      | none => s.nakSeq c.id p 3)

/-- TRIGGER (R177, R184, R188). -/
def execTrigger (port idx : Nat) (s : State) : Host.Outcome State Fault Refusal :=
  okIf (port < 8) (
    if (((s.port port).ingress[idx]?).map (fun g => g.pkt.kind)).getD 0 ≠ 3 then s else
    s.rxSeq port idx 4 fun s c _ p =>
      if bitAt p.flags 2 then s.holdFence c.id p
      else if (s.tagOf p.tag).isNone then (s.setB VRM.STS.TRIG_MISS).nakSeq c.id p 4
      else (s.markRx c.id p false).countTrigger p.tag)

/-- PROBE (R182): answered by an ACK on the same path. -/
def execProbe (port idx : Nat) (s : State) : Host.Outcome State Fault Refusal :=
  okIf (port < 8) (s.rx port idx 7 fun s c _ p => s.sendAck c.id p.path)

/-! ## Acknowledgement, windows and loss -/

/-- R183 on an acknowledgement of n bytes on a path. -/
def Path.onAck (x : Path) (pmtu now n : Nat) (ece : Bool) : Path :=
  let x := { x with timeouts := 0 }
  if ece ∧ x.lastCut + x.srtt * 1000 ≤ now then { x with cwnd := max pmtu (x.cwnd / 2), lastCut := now }
  else if ¬ ece then { x with cwnd := min (4 * 2 ^ 20) (x.cwnd + pmtu * n / max 1 x.cwnd) }
  else x

/-- A round-trip sample, discarded from 2^39 up (R189); the smoothing is not given (Config.rttSmooth). -/
def Path.onSample (x : Path) (sample : Nat) : Path :=
  if 2 ^ 39 ≤ sample then x else
  let r := Config.rttSmooth x.srtt x.rttvar sample
  { x with srtt := r.1, rttvar := r.2 }

/-- ACK (R180 to R183): acknowledged packets are freed; a path whose PROBE it answers is up again. -/
def execAck (port idx : Nat) (s : State) : Host.Outcome State Fault Refusal :=
  okIf (port < 8) (s.rx port idx 5 fun s c b p =>
    let ece := bitAt p.flags 5
    let isAcked := fun (u : Unacked) => decide (u.pkt.psn ≠ p.psn) && !psnLater u.pkt.psn p.psn || sackMarks p.psn p.payload u.pkt.psn
    let acked := c.unacked.filter isAcked
    let bytesOn : Nat → Nat := fun i => ((acked.filter (fun u => u.path = i)).map (fun u => max 1 u.pkt.payload.length)).sum
    let newestOn : Nat → Nat := fun i => ((acked.filter (fun u => u.path = i)).map (fun u => u.order + 1)).foldl max 0
    let paths := c.paths.mapIdx (fun i x =>
      let x := if bytesOn i = 0 then x else x.onAck b.pmtu s.aon (bytesOn i) ece
      if i ≠ c.pathNamed p.path then x else
      let x := x.onSample ((s.stamp + 2 ^ 40 - p.addr % 2 ^ 40) % 2 ^ 40)
      if x.probeOut then { x with probeOut := false, unanswered := 0, timeouts := 0, up := true } else { x with unanswered := 0 })
    let unacked := (c.unacked.filter (fun u => ¬ isAcked u)).map (fun u =>
      if u.laterAcked.isNone && decide (u.order + 1 < newestOn u.path) then { u with laterAcked := some s.aon } else u)
    let cq := c.cqWrites.filter (fun w => ¬ acked.any (fun u => u.pkt.psn = w.2))
    ((s.setConn ({ c with paths := paths, unacked := unacked, cqWrites := cq } : Conn).prune).kick c.id).sendNotices c.id)

/-- A WRITE packet of a command's transfer was refused: the completion goes out again as TRANSFER_ERROR (R148, R190), or
the queue pair faults when the refused packet is the completion itself; a transfer of no command just ends. -/
def State.nakWrite (s : State) (c : Conn) (u : Unacked) : State :=
  let mine := fun (p : VrmPkt) => p.op = 1 && p.xfer = u.pkt.xfer
  let fence := ((c.unacked.map Unacked.pkt) ++ c.sendq).find? (fun p => mine p && bitAt p.flags 2)
  let s := s.setConn { c with unacked := c.unacked.filter (fun x => ¬ mine x.pkt), sendq := c.sendq.filter (fun x => ¬ mine x) }
  let qpOf := fun (p : VrmPkt) => s.act.qps.find? (fun b => b.location ≠ 0 && b.conn = c.id && b.cqKey = p.key && b.cqBase ≤ p.addr
    && p.addr < b.cqBase + 16 * 2 ^ b.cqLog2)
  if bitAt u.pkt.flags 2 then
    match qpOf u.pkt with
    | some b => s.qpFault b.qpid 2 4
    | none => s
  else match fence with
  | none => s
  | some f =>
    if (qpOf f).isNone then s else
    let (x, s) := s.newXfer c.id
    let pay := leBytes 4 0 ++ slice f.payload 4 8 ++ leBytes 2 0x070C ++ [0] ++ slice f.payload 15 1
    -- The notice that covers the completion waits for the one sent now (R185).
    let s := match s.conn c.id with
      | some k =>
        let psn := fun (n : Nat) => if n = f.psn then k.txPsn else n
        s.setConn { k with
          cqWrites := k.cqWrites.map (fun (w : Nat × Nat) => (w.1, psn w.2))
          notices := k.notices.map (fun (n : Nat × Nat × List Nat) => (n.1, n.2.1, n.2.2.map psn)) }
      | none => s
    s.vrmSend c.id [{ op := 1, flags := 15, xfer := x, xcnt := 1, dconn := 0, len := 16, addr := f.addr, key := f.key, payload := pay }]

/-- NAK (R177, R190): the transfer ends with an error; CONN_UNKNOWN loses the connection. -/
def execNak (port idx : Nat) (s : State) : Host.Outcome State Fault Refusal :=
  okIf (port < 8) (s.rx port idx 6 fun s c _ p =>
    if p.kind = 5 then s.loseConn c.id else
    match c.unacked.find? (fun u => u.pkt.psn = p.psn) with
    | none => s
    | some u =>
      let c := { c with unacked := c.unacked.filter (fun x => x.pkt.psn ≠ u.pkt.psn) }
      let s := s.setConn c
      if u.pkt.op = 1 then s.nakWrite c u
      else if u.pkt.op = 2 then
        match c.pulls.find? (fun x => x.xfer = u.pkt.xfer) with
        | none => s
        | some pl =>
          let s := s.setConn { c with pulls := c.pulls.filter (fun x => x.xfer ≠ pl.xfer) }
          if pl.kind = 1 then (if (s.qp pl.id).state = 2 then s.qpFault pl.id 1 3 else s)
          else if pl.kind = 2 then s.endPull pl.id pl.ref
          else if pl.kind = 7 then s.failInband pl.id pl.ref
          else s
      else s)

/-- ACK_TIMER (R180). -/
def execAckTimer (conn : Nat) (s : State) : Host.Outcome State Fault Refusal :=
  done (match s.conn conn with
    | some c =>
      match c.ackSince with
      | some t => (s.passTo (t + max 1 (s.get VRM.CFG.ACK_US) * Config.us)).sendAck conn
          ((c.paths.findIdx? (fun p => p.lastUse = c.lastRx)).getD 0)
      | none => s
    | none => s)

/-- Declare a packet lost: it goes out again, with its PSN (R181). -/
def State.retransmit (s : State) (id psn : Nat) : State :=
  match s.conn id with
  | none => s
  | some c =>
    (s.setConn { c with unacked := c.unacked.map (fun u => if u.pkt.psn = psn then { u with lost := true } else u) }).resend id psn

/-- REORDER_TIMEOUT (R181). -/
def execReorderTimeout (conn psn : Nat) (s : State) : Host.Outcome State Fault Refusal :=
  done (match s.conn conn with
    | none => s
    | some c =>
      match (c.unacked.find? (fun u => u.pkt.psn = psn)).bind Unacked.laterAcked with
      | none => s
      | some t => (s.passTo (t + max 1 (s.get VRM.CFG.REORDER_US) * Config.us)).retransmit conn psn)

/-- Mark an up path down (R182). -/
def State.pathDown (s : State) (id i : Nat) : State :=
  match s.conn id with
  | none => s
  | some c =>
    if ((c.paths[i]?).map Path.up).getD false then
      (s.setConn { c with paths := c.paths.mapIdx (fun j x =>
        if j = i then { x with up := false, probeOut := false, probeAt := s.aon } else x) }).setB VRM.STS.PATH_DOWN
    else s

/-- The retransmission timer of a path (R181). -/
def Path.rto (x : Path) : Nat := min (10 * Config.ms) (max Config.rtoMin ((x.srtt + 4 * x.rttvar) * 1000))

/-- RETRANSMIT_TIMEOUT (R181 to R183). -/
def execRetransmitTimeout (conn path : Nat) (s : State) : Host.Outcome State Fault Refusal :=
  done (match s.conn conn, s.connBind conn with
    | some c, some b =>
      match c.unacked.find? (fun u => u.path = path && !u.lost), c.paths[path]? with
      | some u, some x =>
        let s := s.passTo (u.sentAt + x.rto)
        let n := x.timeouts + 1
        let c := { c with paths := c.paths.mapIdx (fun j y => if j = path then { y with cwnd := b.pmtu, timeouts := n } else y) }
        let s := (s.setConn c).iff (3 ≤ n) (·.pathDown conn path)
        s.retransmit conn u.pkt.psn
      | _, _ => s
    | _, _ => s)

/-- Send a PROBE on a path (R182). -/
def State.sendProbe (s : State) (id i : Nat) : State :=
  match s.conn id, s.connBind id with
  | some c, some b =>
    let c' := { c with paths := c.paths.mapIdx (fun j x =>
      if j = i then { x with probeOut := true, probeAt := s.aon, lastUse := s.aon } else x) }
    (s.setConn c').putOnPath c' i { op := 7, dconn := b.peer, path := ((c.paths[i]?).map Path.wire).getD i, stamp := s.stamp }
  | _, _ => s

/-- KEEPALIVE (R182): an up path idle for KEEPALIVE_MS is probed; three PROBEs unanswered mark it down. -/
def execKeepalive (conn path : Nat) (s : State) : Host.Outcome State Fault Refusal :=
  done (match s.conn conn with
    | none => s
    | some c =>
      match c.paths[path]? with
      | none => s
      | some x =>
        if ¬ x.up ∨ (c.state ≠ 2 ∧ c.state ≠ 4) then s else
        let s := s.passTo (x.lastUse + s.keepaliveNs)
        let n := if x.probeOut then x.unanswered + 1 else 0
        let s := s.setConn { c with paths := c.paths.mapIdx (fun j y => if j = path then { y with unanswered := n } else y) }
        if 3 ≤ n then s.pathDown conn path else s.sendProbe conn path)

/-- DOWN_PATH_PROBE (R182): every 100 ms. -/
def execDownPathProbe (conn path : Nat) (s : State) : Host.Outcome State Fault Refusal :=
  done (match s.conn conn with
    | none => s
    | some c =>
      match c.paths[path]? with
      | none => s
      | some x =>
        if x.up ∨ (c.state ≠ 2 ∧ c.state ≠ 4) then s
        else (s.passTo (x.probeAt + 100 * Config.ms)).sendProbe conn path)

/-- CONNECTION_LOST (R175, R182). -/
def execConnectionLost (conn : Nat) (s : State) : Host.Outcome State Fault Refusal :=
  done (match s.conn conn with
    | none => s
    | some c =>
      if c.state ≠ 2 ∨ c.paths.any Path.up then s
      else (s.passTo (c.lastRx + s.lossNs)).loseConn conn)

/-- DRAINING_TIMEOUT (Table "Remote Memory Access over Ethernet" 5). -/
def execDrainingTimeout (conn : Nat) (s : State) : Host.Outcome State Fault Refusal :=
  done (match s.conn conn with
    | none => s
    | some c =>
      match c.destroyAt with
      | some t => if c.state = 4 then (s.passTo (t + s.lossNs)).setConn { c with closeDue := true } else s
      | none => s)

/-- CONN_CONTEXT_FETCH (R171): evicts the least recently used context of the cluster. -/
def execConnContextFetch (conn : Nat) (s : State) : Host.Outcome State Fault Refusal :=
  done (match s.conn conn, s.connBind conn, s.pci.reads.find? (fun r => r.kind = 4 ∧ r.id = conn ∧ r.arrived) with
    | some c, some b, some r => (s.dropRead r.tag).cacheConn c b.cluster
    | _, _, _ => s)

end Sys2Proof.Machine
end

