-- ==== Sys2Proof/Machine/HostQueue.lean ====
section
/-! DEFINITION. Commands of spec/05: queue pairs, doorbells and fetching, the I/O commands from fetch to completion,
range locks, ABORT and coalescing. -/

namespace Sys2Proof.Machine

/-! ## Queue pairs -/

/-- Queue pairs bound to a cluster in the shadow table. -/
def State.qpCount (s : State) (cl : Nat) : Nat := (s.shadow.qps.filter (fun b => b.cluster = cl)).length

/-- The cluster a new queue pair is bound to (R131, R141). -/
def State.qpCluster (s : State) (p : Packet) : Option Nat :=
  if p.u8 6 ≠ 0 then s.clusterAt (p.u8 6) else
  let all := if p.u8 5 = 0 then [0, 1, 2, 3].flatMap s.liveClusters
    else match s.connBindNew (p.u32 12) with
      | some b => s.liveClusters ((b.paths.headD default).port / 2)
      | none => []
  leastOf s.qpCount (all.filter (fun c => s.on HQ.SPILL_LO.EN || decide (s.qpCount c < 2048)))

/-- The first bad parameter of CREATE_QP (Table "Host Queues and Command Ordering" 2), as an offset. -/
def State.qpParamBad (s : State) (p : Packet) : Option Nat :=
  let host := p.u8 5 = 0
  let log := fun (n : Nat) => 4 ≤ n ∧ n ≤ 16
  if 2 ^ 20 ≤ p.u32 0 ∨ (s.qp (p.u32 0)).state ≠ 0 then some 0
  else if 2 ≤ p.u8 4 then some 4
  else if 2 ≤ p.u8 5 then some 5
  else if p.u8 6 ≠ 0 ∧ (s.clusterAt (p.u8 6)).isNone then some 6
  else if 32 < p.u8 7 then some 7
  else if ¬ log (p.u16 8) then some 8
  else if ¬ log (p.u16 10) then some 10
  else if host ∧ p.u32 12 ≠ 0 ∨ ¬ host ∧ (s.conn (p.u32 12)).isNone then some 12
  else if p.u64 16 % (if host then 4096 else 64) ≠ 0 then some 16
  else if p.u64 24 % (if host then 4096 else 64) ≠ 0 then some 24
  else if host ∧ p.u32 32 ≠ 0 then some 32
  else if host ∧ p.u32 36 ≠ 0 then some 36
  else if host ∧ 2048 ≤ p.u16 40 then some 40
  else if p.u8 43 ≠ 0 then some 43
  else if 4 ≤ p.u8 46 then some 46
  else if p.u8 47 ≠ 0 then some 47
  else none

/-- CREATE_QP (R131, R141, R130; log entry 160). -/
def execCreateQp (p : Packet) (s : State) : Host.Outcome State Fault Refusal :=
  runCmd 0x0701 p s fun s =>
    match s.qpParamBad p with
    | some off => if off = 6 ∧ ¬ locOk (p.u8 6) then s.refuseWith 0x0005 0 else s.refuseWith 0x000A off
    | none =>
      if p.u8 4 = 1 ∧ 64 ≤ (s.shadow.qps.filter (fun b => b.typ = 1)).length then s.refuseWith 0x000F 3 else
      match s.qpCluster p with
      | none => s.refuseWith 0x000F 3
      | some cl =>
        if ¬ s.on HQ.SPILL_LO.EN ∧ 2048 ≤ s.qpCount cl then s.refuseWith 0x000F 3 else
        let b : QpBind :=
          { qpid := p.u32 0, typ := p.u8 4, location := p.u8 5, cluster := cl, home := cl, weight := p.u8 7,
            sqLog2 := p.u16 8, cqLog2 := p.u16 10, conn := p.u32 12, sqBase := p.u64 16, cqBase := p.u64 24,
            sqKey := p.u32 32, cqKey := p.u32 36, vector := p.u16 40, accessGroup := p.u16 48 }
        let q : Qp :=
          { qpid := p.u32 0, state := 1, aggCount := p.u8 42, aggTime := max 1 (p.u16 44), cqFlags := p.u8 46,
            vector := p.u16 40, usedAt := s.aon }
        ((({ s with shadow := { s.shadow with qps := insertBind s.shadow.qps b } } : State).setQp q).cacheQp b.qpid cl).reply []

/-- Fetching of a queue pair stops (R134, R135). -/
def State.stopFetch (s : State) (qpid : Nat) : State :=
  match s.qpBindNew qpid with
  | some b => s.dropFetch b
  | none => s

/-- DELETE_QP (R134; log entry 161). -/
def execDeleteQp (p : Packet) (s : State) : Host.Outcome State Fault Refusal :=
  runCmd 0x0702 p s fun s =>
    let q := s.qp (p.u32 0)
    if 2 ^ 20 ≤ p.u32 0 then s.refuseWith 0x000A 0
    else if q.state = 0 ∨ q.state = 6 then s.refuseWith 0x000F 3
    else ((s.setQp { q with state := 6, drainFaulted := q.state = 4 }).stopFetch q.qpid).reply []

/-- RESET_QP (R135). -/
def execResetQp (p : Packet) (s : State) : Host.Outcome State Fault Refusal :=
  runCmd 0x0703 p s fun s =>
    let q := s.qp (p.u32 0)
    if 2 ^ 20 ≤ p.u32 0 then s.refuseWith 0x000A 0
    else if q.state < 2 ∨ 5 < q.state ∨ s.inflight q.qpid ≠ 0 then s.refuseWith 0x000F 3
    else (s.setQp { q with state := 2, sqHead := 0, sqTail := 0, cqTail := 0, cqHead := 0, phase := 1, lost := 0, cause := 0 }).stopFetch q.qpid |>.reply []

/-- QP_STATUS (Table "Host Queues and Command Ordering" 1; log entry 163). -/
def execQpStatus (p : Packet) (s : State) : Host.Outcome State Fault Refusal :=
  runCmd 0x0704 p s fun s =>
    if 2 ^ 20 ≤ p.u32 0 then s.refuseWith 0x000A 0 else
    let q := s.qp (p.u32 0)
    let cl := ((s.qpBind q.qpid).map QpBind.cluster).map (fun c => locCluster (c / 8) (c % 8))
    s.reply (leBytes 1 q.state ++ leBytes 1 (cl.getD 0) ++ leBytes 2 0 ++ leBytes 2 q.sqHead ++ leBytes 2 q.sqTail ++
      leBytes 2 q.cqTail ++ leBytes 2 q.cqHead ++ leBytes 4 (s.inflight q.qpid) ++ leBytes 4 q.lost ++
      leBytes 1 q.cause ++ leBytes 3 0)

/-- SET_COALESCE (R161): a pending count is signalled first (log entry 162). -/
def execSetCoalesce (p : Packet) (s : State) : Host.Outcome State Fault Refusal :=
  runCmd 0x0705 p s fun s =>
    let q := s.qp (p.u32 0)
    if 2 ^ 20 ≤ p.u32 0 ∨ q.state = 0 then s.refuseWith 0x000A 0
    else if ((s.qpBindNew q.qpid).map QpBind.isHost).getD true ∧ 2048 ≤ p.u16 4 then s.refuseWith 0x000A 4
    else if p.u8 7 ≠ 0 then s.refuseWith 0x000A 7
    else if 4 ≤ p.u8 10 then s.refuseWith 0x000A 10
    else if p.u8 11 ≠ 0 then s.refuseWith 0x000A 11
    else
      let s := if q.pend ≠ 0 then s.signalCq q.qpid else s
      (s.setQp { s.qp q.qpid with
        aggCount := p.u8 6, aggTime := max 1 (p.u16 8), cqFlags := p.u8 10, vector := p.u16 4 }).reply []

/-- GET_QP_STATS (Table "Host Queues and Command Ordering" 1). -/
def execGetQpStats (p : Packet) (s : State) : Host.Outcome State Fault Refusal :=
  runCmd 0x0706 p s fun s =>
    if 2 ^ 20 ≤ p.u32 0 then s.refuseWith 0x000A 0 else
    let q := s.qp (p.u32 0)
    s.reply ([q.commands, q.bytesRead, q.bytesWritten, q.lockWaits, q.ctxMisses].flatMap (leBytes 8))

/-- QP_CTX_READ (R130): the context's layout is the HX880's own, its 128 bytes free values (log entry 2). -/
def execQpCtxRead (p : Packet) (s : State) : Host.Outcome State Fault Refusal :=
  runCmd 0x8710 p s fun s =>
    if 2 ^ 20 ≤ p.u32 0 then s.refuseWith 0x000A 0 else
    let (bs, s) := s.freeBytes 128
    s.reply bs

/-! ## Doorbells (R136) -/

/-- A write to BAR2: which doorbell of which queue pair it rings, if it acts. -/
def State.bar2 (s : State) (off size data : Nat) (low : Nat) (f : State → Nat → Nat → State) : State :=
  if ¬ s.hostReaches then s else
  let qpid := off / 16
  let q := s.qp qpid
  let host := ((s.qpBindNew qpid).map QpBind.isHost).getD false
  if 4 ≤ size ∧ off % 16 = low ∧ host ∧ q.takesDoorbell then f s qpid (data % 2 ^ 16)
  else if q.state ≠ 0 then s.setQp { q with ignored := q.ignored + 1 }
  else s

/-- SQ_TAIL_DOORBELL (R136). -/
def execSqTailDoorbell (off size data : Nat) (s : State) : Host.Outcome State Fault Refusal :=
  okIf (off < 2 ^ 24) (s.bar2 off size data 0 State.ringSq)

/-- CQ_HEAD_DOORBELL (R136): released slots let fetching go on. -/
def execCqHeadDoorbell (off size data : Nat) (s : State) : Host.Outcome State Fault Refusal :=
  okIf (off < 2 ^ 24) (s.bar2 off size data 4 (fun s q n => (s.ringCq q n).startFetch q))

/-! ## Fetching (R139 to R143) -/

/-- The first byte of a field that is not zero. -/
def firstByte (off n v : Nat) : Option Nat := ((leBytes n v).findIdx? (· ≠ 0)).map (off + ·)

/-- The offset of the first parameter of a submission entry that R142 and R143 do not allow (log entry 48). -/
def entryBad (host : Bool) (e : SubEntry) : Option Nat :=
  let uses := e.opcode = 1 ∨ e.opcode = 2 ∨ e.opcode = 4
  if 8 ≤ e.flags then some 1
  else if uses ∧ (e.nblk = 0 ∨ 4096 < e.nblk) then some 16
  else match firstByte 18 6 e.rsvd18 with
  | some i => some i
  | none =>
    if host ∧ e.dkey ≠ 0 then firstByte 32 4 e.dkey else
    if bitAt e.flags 2 ∧ (e.sglCnt = 0 ∨ 256 < e.sglCnt) ∨ ¬ bitAt e.flags 2 ∧ e.sglCnt ≠ 0 then some 36 else
    match firstByte 38 10 e.rsvd38 with
    | some i => some i
    | none =>
      match (if e.opcode = 8 then (if bitsAt e.arg 20 16 ≠ 0 ∨ bitsAt e.arg 52 12 ≠ 0 then some 48 else none) else firstByte 48 8 e.arg) with
      | some i => some i
      | none => firstByte 56 8 e.rsvd56

/-- Take one entry into flight, or complete it at once (R143). -/
def State.takeEntry (s : State) (b : QpBind) (e : SubEntry) : State :=
  let q := s.qp b.qpid
  let s := s.setQp { q with sqHead := (q.sqHead + 1) % 2 ^ b.sqLog2, commands := q.commands + 1 }
  if ¬ [1, 2, 3, 4, 8].contains e.opcode then s.postCqe b.qpid e.cid 0x0006 0 false
  else match entryBad b.isHost e with
  | some off => s.postCqe b.qpid e.cid 0x000A off false
  | none =>
    if (s.hcmd b.qpid e.cid).isSome then s.postCqe b.qpid e.cid 0x000E 0 false else
    let quota := ((s.vol e.volume).map Vol.quota).getD 0
    let c : HCmd :=
      { qpid := b.qpid, sub := e, epoch := s.get SYS.EPOCH_NUM.NUM, cluster := b.cluster, seq := s.hq.seq
        full := quota ≠ 0 && decide (quota * 2 ^ 30 ≤ s.storedBytes e.volume)
        covers := (s.dp.writes.filter (fun (w : WJob) => decide (w.vol = e.volume) && w.completed)).map WJob.id }
    { s with hq := { s.hq with cmds := s.hq.cmds ++ [c], seq := s.hq.seq + 1 } }

/-- A write command stays unfetched while the quadrant that takes its volume's writes is held (R23). -/
def State.writeHeld (s : State) (e : SubEntry) : Bool :=
  (e.opcode = 2 || e.opcode = 4) &&
  (match s.mediaQuad e.volume (((s.vol e.volume).map Vol.writeTier).getD 0) with
    | some q => s.bit FTL.STS.WRITE_HELD q
    | none => false)

/-- Take entries one by one while the limits of R139 and BARRIER allow. -/
def State.takeEntries (s : State) (b : QpBind) : Nat → List SubEntry → State
  | 0, _ => s
  | _, [] => s
  | n + 1, e :: rest =>
    let fly := (s.qpCmds b.qpid).length
    if s.fetchLimit b ≤ fly ∨ bitAt e.flags 0 ∧ fly ≠ 0 ∨ s.writeHeld e then s
    else (s.takeEntry b e).takeEntries b n rest

/-- How long after the last one served a queue pair's turn comes, in QPID order, wrapping (R139; log entry 144). -/
def State.turnKey (s : State) (b : QpBind) : Nat := (b.qpid + 2 ^ 20 - (s.hq.turns.getD b.cluster 0 + 1)) % 2 ^ 20

/-- It is a queue pair's turn: no other I/O queue pair of its cluster whose entries are here comes before it (R139). -/
def State.hasTurn (s : State) (b : QpBind) : Bool :=
  !s.act.qps.any (fun x => x.cluster = b.cluster && x.typ = 0 && (s.qp x.qpid).state = 2 && (s.ringData x).isSome &&
    decide (s.turnKey x < s.turnKey b))

/-- FETCH (R139): at a cluster's turn, the entries a ring read of a pair has brought; what cannot be taken yet is read again. -/
def execSqFetch (cluster qpid : Nat) (s : State) : Host.Outcome State Fault Refusal :=
  done (match s.qpBind qpid with
    | none => s
    | some b =>
      let q := s.qp qpid
      if b.cluster ≠ cluster ∨ b.typ ≠ 0 ∨ q.state ≠ 2 ∨ s.halted ∨ ¬ s.clusterWorks b.cluster ∨ ¬ s.hasTurn b then s else
      match s.ringData b with
      | none => s
      | some ring =>
        let avail := (q.sqTail + 2 ^ b.sqLog2 - q.sqHead) % 2 ^ b.sqLog2
        let n := min (min 32 (if b.weight = 0 then 8 else b.weight)) (min avail (2 ^ b.sqLog2 - q.sqHead))
        let s := s.dropFetch b
        let s : State := { s with hq := { s.hq with turns := s.hq.turns.set b.cluster qpid } }
        (s.takeEntries b n (entriesOf ring)).startFetch qpid)

/-- CONTEXT_FETCH (R140): the least recently used context of the cluster makes room. -/
def execContextFetch (qpid : Nat) (s : State) : Host.Outcome State Fault Refusal :=
  done (match s.qpBindNew qpid, s.pci.reads.find? (fun r => r.kind = 3 ∧ r.id = qpid ∧ r.arrived) with
    | some b, some r => ((s.dropRead r.tag).cacheQp qpid b.cluster).startFetch qpid
    | _, _ => s)

/-! ## Access (R138, R143, R73, R74) -/

/-- A tier can allocate a band in some quadrant (R293, R363). -/
def State.tierOpen (s : State) (tier : Nat) : Bool :=
  s.act.sets.any (fun r => r.tier = tier && decide (r.width ≤ ((r.vers.headD default).live.length)) &&
    (List.range r.members.length).any (fun i => !memberIsModule (r.member i) ||
      ((s.module (memberNo (r.member i))).map (fun m => decide (m.stage < 4))).getD true))

/-- A set of the HDA tier holds a frame (R73). -/
def State.onHda (s : State) (f : SFrame) : Bool :=
  match f.band with
  | some (set, _) => ((s.rset set).map (fun r => decide (r.tier = 1))).getD false
  | none => false

/-- Blocks of a command as lookups. -/
def State.cmdBlocks (s : State) (e : SubEntry) (g : Option Nat) : List BlkData :=
  (List.range e.nblk).map (fun i => s.lookup e.volume g (e.slba + i))

/-- The generation a command's image has: none for the live one. A replica's live image is its newest applied REPL
snapshot (R404). -/
def State.imageGen (s : State) (v : Vol) (snap : Nat) : Option Nat :=
  if snap ≠ 0 then (s.snap v.num snap).map Snap.gen
  else if v.replica then
    (s.snapsOf v.num).foldl (fun (g : Option Nat) x => if x.repl ∧ x.state = 2 then (match g with
      | some y => if genNewer x.gen y then some x.gen else g
      | none => some x.gen) else g) none
  else none

/-- Why a command may not run: status and RESULT. -/
def State.denied (s : State) (c : HCmd) (group : Nat) : Option (Nat × Nat) :=
  let e := c.sub
  let writes := e.opcode = 2 ∨ e.opcode = 4
  match (s.tablesOf c.epoch).vol e.volume with
  | none => some (0x0705, 0)
  | some v =>
    if v.state ≠ 1 then some (0x0705, 0)
    else if group = 0 ∨ ¬ v.agroup.contains group then some (0x0706, 0)
    else if s.start.reached < 4 ∧ s.forced SYS.START_CFG.S2_EN = 0 then some (0x0702, s.get SYS.START_STS.STAGE)
    else if ¬ s.serves v then some (0x0704, 0)
    else if e.snap ≠ 0 ∧ ((s.snap e.volume e.snap).map Snap.state).getD 0 ≠ 2 then some (0x0705, 0)
    else if e.opcode ≠ 3 ∧ v.size * 1024 < e.slba + e.nblk then some (0x0707, 0)
    else if writes ∧ (e.snap ≠ 0 ∨ v.readOnly ∨ v.replica ∨ ¬ s.tierOpen v.writeTier) then some (0x0708, 0)
    else if s.start.reached < 4 ∧ writes then some (0x0702, s.get SYS.START_STS.STAGE)
    else if s.start.reached < 4 ∧ e.opcode = 1 ∧ (s.cmdBlocks e (s.imageGen v e.snap)).any (fun b => match b with
        | .frame f _ => s.onHda f
        | _ => false) then some (0x0702, s.get SYS.START_STS.STAGE)
    else if e.opcode = 2 ∧ c.full then some (0x0709, 0)
    else none

/-- Take a fetched command for processing, in fetch order on its queue pair: access check, then its range lock
(R138, R143, R151, R154). -/
def State.beginCmd (s : State) (c : HCmd) : State :=
  if s.hq.cmds.any (fun x => x.qpid = c.qpid && x.seq < c.seq && x.phase = .fetched) then s else
  let group := ((s.qpBind c.qpid).map QpBind.accessGroup).getD 0
  match s.denied c group with
  | some (st, r) => s.endCmd c.qpid c.sub.cid st r false
  | none =>
    let e := c.sub
    if e.opcode = 3 ∨ e.snap ≠ 0 then s.setPhase c.qpid e.cid .ready
    else
      let s := s.lockReq c.qpid e.cid e.volume e.slba e.nblk (e.opcode ≠ 1)
      s.setPhase c.qpid e.cid (if s.lockHeld c.qpid e.cid then HPhase.ready else HPhase.locking)

/-- LOCK_GRANT (R152): in request order, once nothing that overlaps holds or waits before it. -/
def execLockGrant (qpid cid : Nat) (s : State) : Host.Outcome State Fault Refusal :=
  done (match s.hq.locks.find? (fun l => l.qpid = qpid ∧ l.cid = cid) with
    | none => s
    | some l =>
      let before := s.hq.locks.takeWhile (fun x => ¬ (x.qpid = qpid ∧ x.cid = cid))
      if l.granted ∨ ¬ grantable before l then s else
      let s := { s with hq := { s.hq with locks := s.hq.locks.map (fun (x : LockReq) =>
        if x.qpid = qpid ∧ x.cid = cid then { x with granted := true } else x) } }
      match s.hcmd qpid cid with
      | some c => if c.phase = .locking then s.setPhase qpid cid .ready else s
      | none => s)

/-- Run the body of an I/O command of an opcode once its cluster is awake (R158): first its access and lock, then the body once
it is ready. -/
def State.ioCmd (s : State) (qpid cid op : Nat) (body : State → HCmd → State) : State :=
  match s.hcmd qpid cid with
  | none => s
  | some c =>
    if c.sub.opcode ≠ op ∨ s.halted ∨ ¬ s.clusterAwake c.cluster then s else
    let s := if c.phase = .fetched then s.beginCmd c else s
    match s.hcmd qpid cid with
    | some d => if d.phase = .ready then body s d else s
    | none => s

/-! ## READ (R372, R249, R149) -/

/-- Map pages hold 512 units (spec/08). A page is at hand when it is in DRAM, or when nothing of it is mapped. -/
def State.pageHere (s : State) (vol page : Nat) : Bool :=
  s.dp.pages.any (fun p => p.vol = vol && p.page = page && p.dram) ||
  !s.nv.media.units.any (fun u => u.vol = vol && u.unit / 512 = page)

/-- Fetch a map page: from the host region where a copy is held, else from the map store (R251, R87). -/
def State.fetchPage (s : State) (vol page : Nat) : State :=
  match s.dp.pages.find? (fun p => p.vol = vol ∧ p.page = page) with
  | some p => if p.host.isSome ∧ ¬ s.pci.reads.any (fun r => r.kind = 5 ∧ r.id = vol ∧ r.ref = page) then s.upRead 5 vol page else s
  | none => s

/-- Ask for part of a command's data or its scatter list (R142, R186). -/
def State.dataRead (s : State) (b : QpBind) (cid part addr key len : Nat) : State :=
  if b.isHost then s.upRead 2 b.qpid cid addr len part else s.startPull b.conn 2 b.qpid cid addr key len 0 part

/-- The part is asked for; and its bytes, once all of them are here. -/
def State.dataComing (s : State) (b : QpBind) (cid part : Nat) : Bool :=
  if b.isHost then s.pci.reads.any (fun r => r.kind = 2 && r.id = b.qpid && r.ref = cid && r.part = part)
  else ((s.conn b.conn).map (fun c => c.pulls.any (fun x => x.kind = 2 && x.id = b.qpid && x.ref = cid && x.part = part))).getD false
def State.dataHere (s : State) (b : QpBind) (cid part : Nat) : Option (List Byte) :=
  if b.isHost then (s.pci.reads.find? (fun r => r.kind = 2 ∧ r.id = b.qpid ∧ r.ref = cid ∧ r.part = part ∧ r.arrived)).map URead.data
  else ((s.conn b.conn).bind (fun c => c.pulls.find? (fun x => x.kind = 2 ∧ x.id = b.qpid ∧ x.ref = cid ∧ x.part = part ∧ x.len ≤ x.placed))).map
    (fun x => x.data.reads 0 x.len)

/-- The pieces of a command's buffer, address, key and length, once they are known: one, or its scatter list once read. -/
def State.pieces (s : State) (b : QpBind) (e : SubEntry) : Option (List (Nat × Nat × Nat)) :=
  if bitAt e.flags 2 then (s.dataHere b e.cid 0).map scatterOf else some [(e.dptr, e.dkey, e.nblk * 4096)]

/-- Ask for the scatter list of a command, once. -/
def State.askList (s : State) (b : QpBind) (e : SubEntry) : State :=
  if bitAt e.flags 2 ∧ ¬ s.dataComing b e.cid 0 then s.dataRead b e.cid 0 e.dptr e.dkey (16 * e.sglCnt) else s

/-- The lengths of the pieces add up (R142; log entry 139). -/
def piecesFit (e : SubEntry) (ps : List (Nat × Nat × Nat)) : Bool := decide ((ps.map (fun x => x.2.2)).sum = e.nblk * 4096)

/-- The payload of a WRITE: none while some of it is to come. -/
def State.payload (s : State) (b : QpBind) (e : SubEntry) (ps : List (Nat × Nat × Nat)) : Option (List Byte) :=
  (List.range ps.length).foldl (fun (o : Option (List Byte)) i => match o with
    | none => none
    | some bs => if (ps.getD i (0, 0, 0)).2.2 = 0 then some bs else (s.dataHere b e.cid (i + 1)).map (bs ++ ·)) (some [])

/-- Ask for every piece of a WRITE's payload that is not asked for yet. -/
def State.pullPayload (s : State) (b : QpBind) (e : SubEntry) (ps : List (Nat × Nat × Nat)) : State :=
  (ps.mapIdx (fun i x => (i, x))).foldl (fun (s : State) x =>
    if x.2.2.2 = 0 ∨ s.dataComing b e.cid (x.1 + 1) then s else s.dataRead b e.cid (x.1 + 1) x.2.1 x.2.2.1 x.2.2.2) s

/-- The pulls or reads of a command's data are done with. -/
def State.dropPayload (s : State) (b : QpBind) (cid : Nat) : State :=
  if b.isHost then { s with pci := { s.pci with reads := s.pci.reads.filter (fun r => ¬ (r.kind = 2 ∧ r.id = b.qpid ∧ r.ref = cid)) } }
  else match s.conn b.conn with
    | some c => s.setConn { c with pulls := c.pulls.filter (fun x => ¬ (x.kind = 2 ∧ x.id = b.qpid ∧ x.ref = cid)) }
    | none => s

/-- READ (R142, R249, R372): map pages first, then keys under R81 and R213, then its media reads. -/
def execIoRead (qpid cid : Nat) (s : State) : Host.Outcome State Fault Refusal :=
  done (s.ioCmd qpid cid 1 fun s c =>
    let e := c.sub
    match (s.tablesOf c.epoch).vol e.volume with
    | none => s
    | some v =>
      let s := ((s.qpBind qpid).map (fun b => s.askList b e)).getD s
      let pages := ((List.range e.nblk).map (fun i => (e.slba + i) / 1024 / 512)).eraseDups
      let miss := pages.filter (fun p => ¬ s.pageHere e.volume p)
      if ¬ miss.isEmpty then miss.foldl (fun (s : State) p => s.fetchPage e.volume p) s else
      let frames := ((s.cmdBlocks e (s.imageGen v e.snap)).filterMap (fun b => match b with
        | .frame f _ => some f
        | _ => none)).eraseDups
      let keys := (frames.map (fun f => (1, f.vol, f.epoch, 0))).eraseDups
      let lack := keys.filter (fun k => ¬ s.hasKey c.cluster k)
      if ¬ frames.isEmpty ∧ ¬ s.entReady (c.cluster / 8) then s
      else if ¬ lack.isEmpty then lack.foldl (fun (s : State) k => s.wantKey c.cluster k) s
      else
        let seen := fun (s : State) (u : Nat) =>
          if s.nv.media.units.any (fun x => x.vol = e.volume && x.unit = u) then
            let x := s.unit e.volume u
            s.setUnit { x with readAt := s.aon, reads := s.aon :: x.reads.filter (fun t => s.aon < t + Config.day) }
          else s
        let s := (((List.range e.nblk).map (fun i => (e.slba + i) / 1024)).eraseDups).foldl seen s
        -- The walker reads the map through its slice (R456, R457).
        let s := pages.foldl (fun (s : State) _ => s.walk c.cluster false) s
        let s := s.setPhase qpid cid .running
        frames.foldl (fun (s : State) f => s.readFrame qpid cid 0 f) s)

/-- Split bytes over a scatter list. -/
def scatter : List (Nat × Nat × Nat) → List Byte → List (Nat × Nat × List Byte)
  | [], _ => []
  | (a, k, n) :: rest, bs => (a, k, bs.take n) :: scatter rest (bs.drop n)

/-- A frame fails as it was read: its header does not pass (R193), a block of it does not (R207), or redundancy could not
reconstruct it. -/
def seenFails (x : FrameSeen) : Bool := !headerGood x.header || !x.bad.isEmpty

/-- The frames of a command's blocks that failed as read, or whose reconstruction did. -/
def failing (c : HCmd) (odd : List FrameSeen) (f : SFrame) : Bool :=
  f.band.isSome && !c.lost.contains f.serial && (c.failed.contains f.serial || odd.any (fun x => x.serial == f.serial && seenFails x))

/-- Whether block k of a failing frame fails: every block of one that has no good header or could not be reconstructed. -/
def blockFails (c : HCmd) (odd : List FrameSeen) (f : SFrame) (k : Nat) : Bool :=
  failing c odd f && (c.failed.contains f.serial || odd.any (fun x => x.serial == f.serial && (!headerGood x.header || x.bad.contains k)))

/-- Redundancy is asked once to reconstruct a frame that failed (R193, R207): its columns go to the joint decoder. -/
def State.askRebuild (s : State) (qpid cid : Nat) (f : SFrame) : State :=
  let s := { s with hq := { s.hq with cmds := s.hq.cmds.map (fun (x : HCmd) =>
    if x.qpid = qpid ∧ x.sub.cid = cid then { x with rebuilt := f.serial :: x.rebuilt } else x) } }
  match f.band with
  | none => s
  | some (set, zone) => match s.rset set, s.band set zone with
    | some r, some b => match r.version b.ver with
      | some v => (s.addRead { id := 0, qpid := qpid, cid := cid, serial := f.serial, pos := f.pos, band := (set, zone),
                               recovered := true, check := true,
                               joint := frameCols r (frameOffsets r v b.level f) r.num zone f.pos }).2
      | none => s
    | _, _ => s

/-- The first n blocks of a READ's image go to the host's buffer or as the data packets before its completion, and the command ends
(R148, R149). -/
def State.returnRead (s : State) (b : QpBind) (c : HCmd) (g : Option Nat) (list : List (Nat × Nat × Nat)) (st res n : Nat) : State :=
  let (bs, s) := s.readBlocks c.sub.volume g c.sub.slba n
  let parts := scatter list bs
  if b.isHost then
    (parts.foldl (fun (s : State) x => if x.2.2.isEmpty then s else s.emit (.hostData x.1 x.2.2)) s).endCmd c.qpid c.sub.cid st res c.recovered
  else
    let pmtu := ((s.connBind b.conn).map ConnBind.pmtu).getD 4096
    let pkts := parts.flatMap (fun x => writePackets pmtu x.1 x.2.1 x.2.2)
    s.endCmdData c.qpid c.sub.cid st res c.recovered pkts

/-- READ_COMPLETE (R148, R149, R193, R207, R388): the frames of the READ are here, odd those that are not as stored, and are checked, and those that fail go to
redundancy once; then every byte is placed, and the completion follows, as the FENCE write of the transfer for a client queue
pair. -/
def execReadComplete (qpid cid : Nat) (here : Bool) (odd : List FrameSeen) (s : State) :
    Host.Outcome State Fault Refusal :=
  done (match s.hcmd qpid cid, s.qpBind qpid with
    | some c, some b =>
      let e := c.sub
      if e.opcode ≠ 1 ∨ c.phase ≠ .running ∨ ¬ s.clusterAwake c.cluster ∨ s.dp.reads.any (fun r => r.qpid = qpid && r.cid = cid) then s else
      match (s.tablesOf c.epoch).vol e.volume with
      | none => s.endCmd qpid cid 0x0705 0 false
      | some v =>
        let g := s.imageGen v e.snap
        match s.pieces b e with
        | none => s.askList b e
        | some list =>
        if ¬ piecesFit e list then s.endCmd qpid cid 0x000A 36 false
        else if ¬ here then s.endCmd qpid cid 0x070C 0 false
        else
          let at_ := fun (i : Nat) => s.lookup e.volume g (e.slba + i)
          let frames := ((List.range e.nblk).filterMap (fun i => match at_ i with
            | .frame f _ => some f
            | _ => none)).eraseDups
          let s := frames.foldl (fun (s : State) f => s.masked c.cluster f.body.length) s
          let again := frames.filter (fun f => failing c odd f && !c.rebuilt.contains f.serial)
          if ¬ again.isEmpty then again.foldl (fun (s : State) f => s.askRebuild qpid cid f) s else
          let lost := (List.range e.nblk).find? (fun i => match at_ i with
            | .lost => true
            | .frame f _ => c.lost.contains f.serial
            | _ => false)
          let bad := (List.range e.nblk).find? (fun i => match at_ i with
            | .frame f k => blockFails c odd f k
            | _ => false)
          match lost, bad with
          | some i, _ => s.returnRead b c g list 0x070A i i
          | none, some i =>
            let s := s.setB XF.STS.CHECK_FAIL
            let loc := locCluster (c.cluster / 8) (c.cluster % 8)
            let s := if s.on XF.CHECK_ERR.VALID then s else
              ((s.put XF.CHECK_ERR.VALID 1).put XF.CHECK_ERR.LOC loc).put XF.CHECK_ERR.VOLUME e.volume
            (s.record 0x0902 loc e.volume i []).returnRead b c g list 0x070B i i
          | none, none =>
            let q := s.qp qpid
            let s := s.setQp { q with bytesRead := q.bytesRead + 4096 * e.nblk }
            s.returnRead b c g list 0 0 e.nblk
    | _, _ => s)

/-! ## WRITE, DISCARD and FLUSH -/

/-- Code and encipher one chunk into a frame (R195, R197, R203 to R205, R218, R219); fault: the coded form fails its verification; raw4: AUTO
has given up. -/
def State.makeFrame (s : State) (c : HCmd) (p : Policy) (epoch : Nat) (fault raw4 : Bool) (blocks : List (List Byte)) :
    SFrame × State :=
  let data := blocks.flatten
  let code := p.cmp = 1 ∨ p.cmp = 2 ∧ ¬ raw4
  let len := (Config.coded data).length
  let bad := decide code && fault
  let raw := !decide code || bad || decide (data.length < len + 512 * p.gain)
  let s := if bad then (s.setB XF.STS.CODER_FALLBACK).record 0x0901 0 c.sub.volume 0 [] else s
  let (n, s) := s.nextSerial
  let idx := p.dedup && 4 ≤ blocks.length
  let f : SFrame :=
    { serial := n, vol := c.sub.volume, epoch := epoch, raw := raw, payLen := if raw then data.length else len, data := data,
      digest := if idx then some (sha256 data) else none, created := s.dev }
  let s := (s.xfCount c.cluster (if raw then 1 else 0) 1).xfCount c.cluster 3 f.size
  (f, s.iff raw (·.count XF.RAW_CNT.COUNT 1))

/-- Turn a payload into duplicates and frames (R191, R194 to R199): the frames, the duplicates' serials and the block
references; k and raws: frames made so far, and whether the first four have all been RAW, after which AUTO codes no more
(R203). -/
def State.transform (s : State) (c : HCmd) (p : Policy) (epoch : Nat) (faulty : List Nat) :
    Nat → Bool → Nat → List (List (List Byte)) → List SFrame × List Nat × List (Nat × BlkRef) × State
  | _, _, _, [] => ([], [], [], s)
  | k, raws, lba, ch :: rest =>
    let look := p.dedup && 4 ≤ ch.length
    let s := s.xfCount c.cluster 2 (ch.length * 4096)
    match (if look then s.findDup c.sub.volume epoch (sha256 ch.flatten) else none) with
    | some f =>
      let s := (s.count XF.DEDUP_HIT.COUNT 1).xfCount c.cluster 4 1
      let (fs, ds, bs, s) := s.transform c p epoch faulty k raws (lba + ch.length) rest
      (fs, f.serial :: ds, (List.range ch.length).map (fun i => (lba + i, BlkRef.frame f.serial i)) ++ bs, s)
    | none =>
      let s := s.iff look (fun s => (s.count XF.DEDUP_MISS.COUNT 1).xfCount c.cluster 5 1)
      let (f, s) := s.makeFrame c p epoch (faulty.contains k) (decide (4 ≤ k) && raws) ch
      let (fs, ds, bs, s) := s.transform c p epoch faulty (k + 1) (if k < 4 then raws && f.raw else raws) (lba + ch.length) rest
      (f :: fs, ds, (List.range ch.length).map (fun i => (lba + i, BlkRef.frame f.serial i)) ++ bs, s)

/-- The keys a write's chunks need: the DATA key, and the META keys of the index pages it looks up and enters (R198, R213). -/
def State.writeKeys (s : State) (v : Vol) (p : Policy) (chunks : List (List (List Byte))) : List (Nat × Nat × Nat × Nat) :=
  let idx := if p.dedup then chunks.filter (fun ch => 4 ≤ ch.length) else []
  let pages := (idx.flatMap (fun ch => s.candidates v.num (sha256 ch.flatten))).map SumEntry.page
  let old := (s.nv.media.ipages.filter (fun x => pages.contains x.num)).map (fun x => (2, v.num, x.epoch, 0))
  ((1, v.num, v.keyEpoch, 0) :: (if idx.isEmpty then [] else [(2, v.num, v.keyEpoch, 0)]) ++ old).eraseDups

/-- WRITE (R191 to R199, R20, R417): pulls its payload, and turns it into frames in the write cache once it is here; faulty: those
of its frames, counted from 0, whose coded form fails its verification (R205). -/
def execIoWrite (qpid cid : Nat) (faulty : List Nat) (s : State) : Host.Outcome State Fault Refusal :=
  done (s.ioCmd qpid cid 2 fun s c =>
    let e := c.sub
    match s.qpBind qpid, (s.tablesOf c.epoch).vol e.volume with
    | some b, some v =>
      let s := s.askList b e
      match s.pieces b e with
      | none => s
      | some ps =>
      if ¬ piecesFit e ps then s.endCmd qpid cid 0x000A 36 false else
      let s := s.pullPayload b e ps
      match s.payload b e ps with
      | none => s
      | some payload =>
      let p := (s.tablesOf c.epoch).policy v.num
      let chunks := cutChunks p.bits [] (blocksOf e.nblk payload)
      let lack := (s.writeKeys v p chunks).filter (fun k => ¬ s.hasKey c.cluster k)
      if ¬ s.entReady (c.cluster / 8) then s
      else if ¬ lack.isEmpty then lack.foldl (fun (s : State) k => s.wantKey c.cluster k) s
      else
        let s := s.dropPayload b cid
        let (fs, ds, bs, s) := s.transform c p v.keyEpoch faulty 0 true e.slba chunks
        let s := fs.foldl (fun (s : State) f => s.masked c.cluster f.body.length) s
        (s.setPhase qpid cid .running).addJob
          { id := 0, kind := .write, qpid := qpid, cid := cid, vol := v.num, slba := e.slba, nblk := e.nblk,
            fua := bitAt e.flags 1, epoch := c.epoch, vgen := v.vgen, gset := v.gset, frames := fs, dups := ds, blocks := bs,
            through := !s.admitsDirty, at_ := s.aon }
    | _, _ => s)

/-- DISCARD (R262): a hint, which may be applied fully, partly or not at all, block by block a free choice. -/
def execIoDiscard (qpid cid : Nat) (s : State) : Host.Outcome State Fault Refusal :=
  done (s.ioCmd qpid cid 4 fun s c =>
    let e := c.sub
    match (s.tablesOf c.epoch).vol e.volume with
    | some v =>
      let chosen := (List.range e.nblk).filter (fun i => Config.freeValue (s.free + i) % 2 = 1)
      let s := { s with free := s.free + e.nblk }
      (s.setPhase qpid cid .running).addJob
        { id := 0, kind := .discard, qpid := qpid, cid := cid, vol := v.num, slba := e.slba, nblk := e.nblk,
          epoch := c.epoch, vgen := v.vgen, gset := v.gset, frames := [],
          blocks := chosen.map (fun i => (e.slba + i, BlkRef.discarded)), at_ := s.aon }
    | none => s)

/-- FLUSH (spec/05, Table 5; R368): stripes of the writes it covers close at once; it ends when all are durable. -/
def execIoFlush (qpid cid : Nat) (s : State) : Host.Outcome State Fault Refusal :=
  done (s.ioCmd qpid cid 3 fun s c =>
    let s := s.setPhase qpid cid .running
    let s := c.covers.foldl (fun (s : State) id => match s.wjob id with
      | some w => s.closeFor w
      | none => s) s
    (s.setDp fun d => { d with flushes := d.flushes ++ [(qpid, cid, c.covers)] }).endFlushes)

/-- ABORT (R155 to R157). -/
def execIoAbort (qpid cid : Nat) (s : State) : Host.Outcome State Fault Refusal :=
  done (match s.hcmd qpid cid with
    | none => s
    | some c =>
      if c.sub.opcode ≠ 8 then s else
      let tq := bitsAt c.sub.arg 0 20
      let tc := bitsAt c.sub.arg 36 16
      match s.hcmd tq tc with
      | none => s.endCmd qpid cid 0 2 false
      | some t =>
        if t.sub.opcode = 8 then s.endCmd qpid cid 0x000A 48 false
        else if t.sub.opcode = 1 ∨ t.phase ≠ .running then
          let s := match s.qpBind tq with
            | some b => s.dropPayload b tc
            | none => s
          ((s.endCmd tq tc 0x0701 0 false).setB HQ.STS.ABRT).endCmd qpid cid 0 0 false
        else s.endCmd qpid cid 0 1 false)

/-- COALESCE_TIMER (R160): every 1 µs. -/
def execCoalesceTimer (s : State) : Host.Outcome State Fault Refusal :=
  let s := s.passTo (s.nextTick Config.us)
  let due := s.hq.qps.filter (fun q => q.pend ≠ 0 && bitAt q.cqFlags 0 && decide (q.aggTime * Config.us ≤ s.aon - q.firstAt))
  done (due.foldl (fun (s : State) q => s.signalCq q.qpid) s)

end Sys2Proof.Machine
end

