-- ==== Sys2Proof/Machine/Transform.lean ====
section
/-! DEFINITION. Commands of spec/07: policies, rekey, root keys and derivation, entropy and randomness. -/

namespace Sys2Proof.Machine

/-! ## Policies -/

/-- A volume's entry in the shadow table: what a command that changes it starts from. -/
def State.shadowVol (s : State) (n : Nat) : Option Vol := s.shadow.vol n
def State.setShadowVol (s : State) (v : Vol) : State := { s with shadow := { s.shadow with vols := putVol s.shadow.vols v } }

/-- POLICY_SET (R228): CMP 3 and values beyond the table's are out of range. -/
def execPolicySet (p : Packet) (s : State) : Host.Outcome State Fault Refusal :=
  runCmd 0x0901 p s fun s =>
    match s.shadowVol (p.u16 0) with
    | none => s.refuseWith 0x0901 0
    | some v =>
    if ¬ s.serves v then s.refuseWith 0x1301 (1 - s.headNo)
    else if 8 ≤ p.u8 2 ∨ bitsAt (p.u8 2) 1 2 = 3 then s.refuseWith 0x000A 2
    else if 4 < p.u8 3 then s.refuseWith 0x000A 3
    else if 16 < p.u8 4 then s.refuseWith 0x000A 4
    else match (List.range 11).find? (fun i => p.u8 (5 + i) ≠ 0) with
    | some i => s.refuseWith 0x000A (5 + i)
    | none =>
      let x : Policy := { num := p.u16 0, flags := p.u8 2, chunkBits := p.u8 3, minGain := p.u8 4 }
      ({ s with shadow := { s.shadow with policies := x :: s.shadow.policies.filter (fun y => y.num ≠ x.num) } } : State).reply []

/-- POLICY_GET (R228). -/
def execPolicyGet (p : Packet) (s : State) : Host.Outcome State Fault Refusal :=
  runCmd 0x0902 p s fun s =>
    if (s.vol (p.u16 0)).isNone then s.refuseWith 0x0901 0 else
    let x := s.act.policy (p.u16 0)
    s.reply (leBytes 2 x.num ++ leBytes 1 x.flags ++ leBytes 1 x.chunkBits ++ leBytes 1 x.minGain ++ List.replicate 11 0)

/-- XF_STATS (R228): of a cluster, or summed over a quadrant. -/
def execXfStats (p : Packet) (s : State) : Host.Outcome State Fault Refusal :=
  runCmd 0x0903 p s fun s =>
    let q := bitsAt p.loc 4 2
    let cls := if bitsAt p.loc 6 2 = 2 then [8 * q + bitsAt p.loc 0 3] else (List.range 8).map (8 * q + ·)
    if bitsAt p.loc 6 2 = 0 then s.refuseWith 0x0005 0 else
    s.reply ((List.range 6).flatMap (fun i => leBytes 8 ((cls.map (fun c => (s.cipher c).stats.getD i 0)).sum)))

/-! ## Rekey -/

/-- Frames a rekey sweep has left. -/
def State.rekeyLeft (s : State) (k : Rekey) : Nat :=
  (s.nv.media.frames.filter (fun f => f.vol = k.vol && decide (f.epoch < k.epoch) && !s.frameLost f)).length

/-- REKEY_START (R216): the reply comes at the commit of the first step, which starts the sweep (`State.commitKeys`). -/
def execRekeyStart (p : Packet) (s : State) : Host.Outcome State Fault Refusal :=
  runCmd 0x0A01 p s fun s =>
    let n := p.u16 0
    match s.shadowVol n with
    | none => s.refuseWith 0x0901 0
    | some v =>
      if ¬ s.serves v then s.refuseWith 0x1301 (1 - s.headNo) else
      match s.nv.media.rekeys.find? (fun k => k.vol = n && !k.ended) with
      | some k => s.refuseWith 0x0A06 (min 0xFFFFFFFF (s.rekeyLeft k))
      | none =>
        if v.keyEpoch = 0xFFFFFFFF then s.refuseWith 0x0A07 0 else
        let e := v.keyEpoch + 1
        let s := s.setShadowVol { v with keyEpoch := e }
        let s := if p.commit then s else
          { s with cmd := { s.cmd with waits := { pkt := p, cls := p.cls, at_ := s.aon, wrote := true, detail := 0, data := [] } :: s.cmd.waits } }
        { st := s, later := !p.commit }

/-- Commands in flight that write under a key epoch below one (R24, R216). -/
def State.oldWriters (s : State) (vol epoch : Nat) : Bool :=
  s.hq.cmds.any (fun c => c.sub.volume = vol && c.sub.opcode = 2 &&
    decide ((((s.tablesOf c.epoch).vol vol).map Vol.keyEpoch).getD epoch < epoch)) ||
  s.dp.writes.any (fun w => w.vol = vol && w.frames.any (fun f => decide (f.epoch < epoch)))

/-- REKEY_SWEEP_END (R216, step 3): no frame and no index page of a lower epoch is left or to come; MIN_EPOCH takes KEY_EPOCH at
the next commit. -/
def execRekeySweepEnd (vol : Nat) (s : State) : Host.Outcome State Fault Refusal :=
  done (match s.nv.media.rekeys.find? (fun k => k.vol = vol) with
    | some k =>
      if s.rekeyLeft k ≠ 0 ∨ s.nv.media.ipages.any (fun p => p.vol = vol && decide (p.epoch < k.epoch)) ∨ s.oldWriters vol k.epoch then s
      else s.media fun m => { m with rekeys := m.rekeys.map (fun x => if x.vol = vol then { x with ended := true } else x) }
    | none => s)

/-- REKEY_STATUS (R228). -/
def execRekeyStatus (p : Packet) (s : State) : Host.Outcome State Fault Refusal :=
  runCmd 0x0A02 p s fun s =>
    match s.vol (p.u16 0) with
    | none => s.refuseWith 0x0901 0
    | some v =>
      let left := ((s.nv.media.rekeys.find? (fun k => k.vol = v.num)).map s.rekeyLeft).getD 0
      s.reply (leBytes 4 v.keyEpoch ++ leBytes 4 v.minEpoch ++ leBytes 4 (s.hwm v.num) ++ leBytes 8 left)

/-! ## Root keys (R208 to R214, R222) -/

/-- ROOT_LOAD (R209): readBackOk: the fuses read back as blown. -/
def execRootLoad (p : Packet) (readBackOk : Bool) (s : State) : Host.Outcome State Fault Refusal :=
  runCmd 0x8A10 p s fun s =>
    let root := p.u8 0
    let r := s.nv.roots
    let key := slice p.params 4 32
    let (old, bad) := if root = 0 then (r.ark, r.arkBad) else (r.frk, r.frkBad)
    if 1 < root then s.refuseWith 0x000A 0
    else match (List.range 3).find? (fun i => p.u8 (1 + i) ≠ 0) with
    | some i => s.refuseWith 0x000A (1 + i)
    | none =>
      if bad then s.refuseWith 0x0A01 root
      else if old.isSome then s.refuseWith 0x0A02 root
      else if kcv (some key) ≠ slice p.params 36 4 then s.refuseWith 0x0A03 0
      else
        let put := fun (s : State) (k : Option (List Byte)) (b : Bool) =>
          ({ s with nv := { s.nv with roots := if root = 0 then { r with ark := k, arkBad := b } else { r with frk := k, frkBad := b } } } : State).showRoots
        if readBackOk then (put s (some key) false).reply []
        else { st := put s none true, status := 0x0A04, detail := root }

/-- SEAL_KEY_EXPORT (R222). -/
def execSealKeyExport (p : Packet) (s : State) : Host.Outcome State Fault Refusal :=
  runCmd 0x0A03 p s fun s =>
    if ¬ bitAt (p.u32 0) 31 then s.refuseWith 0x0A05 0
    else if s.frk.isNone then s.refuseWith 0x0A01 1
    else ((s.count KDF.DERIVE_CNT.COUNT 1).count KDF.EXPORT_CNT.COUNT 1).reply (s.sealKey (p.u32 0))

/-- GET_KCV (R209, R228). -/
def execGetKcv (p : Packet) (s : State) : Host.Outcome State Fault Refusal :=
  runCmd 0x0A04 p s fun s => s.reply (kcv s.nv.roots.ark ++ kcv s.nv.roots.frk)

/-- The key that a purpose is derived from (Table "De-duplication, Compression, Check Values and Encryption" 7), where the engine
has it; none for a purpose the table does not have, and for fields a purpose does not use (R212). -/
def State.deriveRoot (s : State) (cl : Nat) (k : Nat × Nat × Nat × Nat) : Option (List Byte) :=
  let (purpose, vol, epoch, label) := k
  if purpose = 1 ∨ purpose = 2 then (if label = 0 then s.ark else none)
  else if purpose = 3 then (if vol = 0 ∧ label = 0 then s.ark else none)
  else if purpose = 4 then (if vol = 0 ∧ epoch = 0 then s.frk else none)
  else if purpose = 5 then (if vol = 0 ∧ s.hasKey cl (4, 0, 0, label) then s.frk.map (fun _ => s.sealKey label) else none)
  else if purpose = 6 then (if vol = 0 ∧ epoch = 0 ∧ label = 0 then s.ark else none)
  else none

/-- KEY_DERIVATION_DONE (R212, R213, R215): the key enters a slot of the cluster; the engine refuses an epoch below MIN_EPOCH, and
waits for K_conn before a key derived from it. With 64 keys held, the one used least recently is zeroised. -/
def execKeyDerivationDone (cluster purpose vol epoch label : Nat) (s : State) : Host.Outcome State Fault Refusal :=
  let k := (purpose, vol, epoch, label)
  let c := s.cipher cluster
  okIf (cluster < 32) (if ¬ c.wanted.contains k then s else
    let low := (purpose = 1 ∨ purpose = 2) ∧ epoch < ((s.vol vol).map Vol.minEpoch).getD 0
    if purpose = 5 ∧ ¬ s.hasKey cluster (4, 0, 0, label) then s.wantSeal cluster label epoch
    else
      let rest := { c with wanted := c.wanted.erase k }
      if low ∨ (s.deriveRoot cluster k).isNone then s.setCipher cluster rest
      else ((s.setCipher cluster { rest with slots := (k :: c.slots).take 64 }).masked cluster 24).count KDF.DERIVE_CNT.COUNT 1)

/-- SUMMARY_REBUILT (R202): after S3, from the full index. -/
def execSummaryRebuilt (s : State) : Host.Outcome State Fault Refusal :=
  done (if s.start.reached < 4 ∨ s.on XF.DEDUP_STS.REBUILT then s else
    let lack := s.nv.media.frames.filter (fun f => match f.sumEntry s.summaryGib with
      | some e => !s.dp.summary.contains e
      | none => false)
    (lack.foldl State.addSummary s).setB XF.DEDUP_STS.REBUILT)

/-! ## Entropy (R223 to R225, R81) -/

/-- A health test fails at its cut-off for the claim that the last start-up test latched (R224). -/
def HealthFails (claim : Nat) : HealthObs → Bool
  | .repetition n => Config.repetitionCutoff claim ≤ n
  | .proportion n => Config.proportionCutoff claim ≤ n

/-- HEALTH_TEST_FAIL (R224, R225): the third within 60 minutes moves the quadrant to BORROW, any other to RETEST, whose start-up
test takes H_CLAIM anew. -/
def execHealthTestFail (test : HealthTest) (s : State) : Host.Outcome State Fault Refusal :=
  let q := test.quad
  okIf (q < 4) (if 3 ≤ s.get (XF.ENT_STS.STATE q) ∨ ¬ HealthFails (s.ent q).claim test.seen then s else
    let fails := s.aon :: s.entFails q
    let s := (s.setEnt q { s.ent q with fails := fails, retestAt := s.aon }).latchClaim q
    let s := s.put (XF.ENT_STS.STATE q) 2
    (if 3 ≤ fails.length then s.enterEnt q (if s.anyReady then 3 else 4) else s.enterEnt q 2).lendEntropy)

/-- ENT_READY (R81, R223, R225): 4,096 healthy bits exist, and the clusters' DRBGs are seeded from them. -/
def execEntReady (q : Nat) (s : State) : Host.Outcome State Fault Refusal :=
  let st := s.get (XF.ENT_STS.STATE q)
  okIf (q < 4) (if (st = 0 ∨ st = 2) ∧ s.pwr.quads.getD q .gated = .awake then
      (((s.put (XF.ENT_STS.STATE q) 1).putBit SYS.START_STS.ENT_READY q true).seedQuad q).lendEntropy
    else s)

/-- HOURLY_RETEST (R225): in BORROW or STARVED, a pass returns the quadrant to READY; a failure counts and it stays. -/
def execHourlyRetest (q : Nat) (pass : Bool) (s : State) : Host.Outcome State Fault Refusal :=
  okIf (q < 4) (if s.get (XF.ENT_STS.STATE q) ≠ 3 ∧ s.get (XF.ENT_STS.STATE q) ≠ 4 then s else
    let s := (s.passTo ((s.ent q).retestAt + Config.hour)).latchClaim q
    if pass then
      let s := s.setEnt q { s.ent q with retestAt := s.aon }
      (((s.put (XF.ENT_STS.STATE q) 1).putBit SYS.START_STS.ENT_READY q true).seedQuad q).lendEntropy
    else
      let fails := s.aon :: s.entFails q
      s.setEnt q { s.ent q with fails := fails, retestAt := s.aon })

/-- When the next reseed of a cluster's DRBG falls due (R223): at once after a wake or 2^32 requests, else a second after the
last one. -/
def Cipher.reseedAt (c : Cipher) (now : Nat) : Nat :=
  match c.seededAt with
  | none => now
  | some t => if 2 ^ 32 ≤ c.requests then now else t + Config.sec

/-- DRBG_RESEED (R223, R225): the reseed that falls due, from the quadrant's own seed or a borrowed one; with neither, ENT_READY
clears. -/
def execDrbgReseed (cluster : Nat) (s : State) : Host.Outcome State Fault Refusal :=
  let q := cluster / 8
  let st := s.get (XF.ENT_STS.STATE q)
  let s := s.passTo ((s.cipher cluster).reseedAt s.aon)
  okIf (cluster < 32) (if st = 1 ∨ st = 3 ∧ s.anyReady then s.seed cluster else s.putBit SYS.START_STS.ENT_READY q false)

end Sys2Proof.Machine
end

