-- ==== Sys2Proof/Machine/Lanes.lean ====
section
/-! DEFINITION. Commands of spec/08 on links: flits and retry, spare lanes of flash links and of the Nerryn link, and the
FLK command packets (R230 to R238, R270, R410, R411). -/

namespace Sys2Proof.Machine

/-! ## Flits and retry (R232) -/

/-- A link carries flits. -/
def State.refUp (s : State) : LinkRef → Bool
  | .flash k => s.linkUp k
  | .nerryn => s.on NRN.STS.UP

/-- The physical lanes of a link's flit slots, in order. -/
def State.activeLanes (s : State) (k : Nat) : List Nat :=
  if k = 48 then s.pair.slots else [s.get (FLK.LINKk_STS.LANE0 k), s.get (FLK.LINKk_STS.LANE1 k)].filter (· ≠ 3)

/-- Send a flit of link management or retry: its ACKSEQ names the last flit received in order. Its VC, CRED and payload are the
model's choice and free values (log entry 154). -/
def State.sendFlit (s : State) (k typ : Nat) : State :=
  let x := s.flink k
  let lanes := s.activeLanes k
  (s.setFlink k { x.push typ 1 with rxSince := 0, ackAt := s.aon }).emit (.flit k (lanes.getD (x.sent % max 1 lanes.length) 0)
    (flitBytes typ (if typ = 5 then 3 else 0) x.txSeq (Config.flitCred x.sent % 64) ((x.rxSeq + 1023) % 1024) (Config.flitPayload typ x.sent)))

/-- Both ends retrain the link; its flits and commands wait for the replay. -/
def State.retrain (s : State) (r : LinkRef) : State :=
  let s := s.setFlink r.idx { s.flink r.idx with replays := 0, training := true }
  match r with
  | .flash k => s.flashTo k 1
  | .nerryn => s

/-- LINK_RETRAIN: the same flit has been replayed 8 times without progress. -/
def State.retrainStuck (s : State) (r : LinkRef) : State :=
  if 8 ≤ (s.flink r.idx).replays then s.retrain r else s

/-- An ACKSEQ frees the flits up to it, and flits that waited go. -/
def FLink.ack (x : FLink) (ackSeq : Nat) : FLink :=
  let left := x.kept.takeWhile (fun f => f.1 ≠ ackSeq)
  if left.length = x.kept.length then x else
  x.stalled.foldl (fun (y : FLink) e => y.push e.1 e.2) { x with kept := left, acked := ackSeq, replays := 0, stalled := [] }

/-- Replay from the flit after ACKSEQ. -/
def State.replay (s : State) (r : LinkRef) : State :=
  let x := s.flink r.idx
  if x.kept.isEmpty then s else
  let s := s.setFlink r.idx { x with replays := x.replays + 1 }
  match r with
  | .flash k => s.count (FLK.LINKk_REPLAY.COUNT k) x.kept.length
  | .nerryn => s

/-- FLIT_RECEIVE (R231, R232): a flit by its two header words, payload and FCRC; a bad FCRC, or a SEQ that is not the next in order, is discarded with a NAK; TYPE 4 asks for a
replay. -/
def execFlitReceive (link : LinkRef) (word0 word1 : Nat) (payload : List Byte) (fcrc : Nat) (s : State) : Host.Outcome State Fault Refusal :=
  let k := link.idx
  let x := s.flink k
  let bytes := leBytes 2 word0 ++ leBytes 2 word1 ++ payload ++ leBytes 4 fcrc
  okIf (link.ok && word0 < 2 ^ 16 && word1 < 2 ^ 16 && payload.length = 120 && fcrc < 2 ^ 32)
    (if ¬ s.refUp link then s
    else if ¬ flitGood bytes ∨ flitSeq bytes ≠ x.rxSeq then s.sendFlit k 4
    else
      let s := s.setFlink k ({ x with rxSeq := (x.rxSeq + 1) % 1024, rxSince := x.rxSince + 1 }.ack (flitAck bytes))
      let s := if flitTyp bytes = 4 then (s.replay link).retrainStuck link else s
      if 64 ≤ (s.flink k).rxSince then s.sendFlit k 0 else s)

/-- ACKSEQ_TIMER (R232): 1 µs after the last flit that returned ACKSEQ. -/
def execAckseqTimer (link : LinkRef) (s : State) : Host.Outcome State Fault Refusal :=
  okIf link.ok (if ¬ s.refUp link then s else
    let s := s.passTo ((s.flink link.idx).ackAt + Config.us)
    (s.sendFlit link.idx 0).retrainStuck link)

/-! ## Spare lanes (R233 to R235, R411) -/

/-- The thresholds in force: uncorrectable codewords, and the logarithm of the symbol ratio. -/
def State.laneThr (s : State) : LinkRef → Nat × Nat
  | .flash _ => (max 1 (s.get FLK.CFG.UNCORR_THR), max 10 (s.get FLK.CFG.SER_LOG2))
  | .nerryn => (max 1 (s.get NRN.CFG.UNCORR_THR), max 10 (s.get NRN.CFG.SER_LOG2))

/-- A flit slot has a lane. -/
def State.slotActive (s : State) (r : LinkRef) (slot : Nat) : Bool :=
  match r with
  | .flash k => slot = 0 || slot = 1 && s.get (FLK.LINKk_STS.LANE1 k) ≠ 3
  | .nerryn => slot < s.pair.slots.length

/-- The spare lane behind a flit slot: its own swap in progress, or a usable spare with none in progress. -/
def State.spareBehind (s : State) (r : LinkRef) (slot : Nat) : Bool :=
  match r with
  | .flash k => s.get (FLK.LINKk_STS.SPARE k) = 0 || (s.flink k).swapSlot = some slot
  | .nerryn => match s.pair.swap with
    | some (i, lane, _) => i = slot || s.pair.spares.any (· ≠ lane)
    | none => !s.pair.spares.isEmpty

/-- The Nerryn link is DOWN; identity 5's locks go with it (R411, R433). -/
def State.nrnDown (s : State) : State :=
  let x := s.flink 48
  ((s.clrB NRN.STS.UP).setFlink 48 { x with kept := [], stalled := [], training := false, winUncorr := [] }).releaseLocks 5

/-- A Nerryn lane change: its record, and the bit that keeps it (R411). -/
def State.nrnLane (s : State) (lane : Nat) : State := (s.setB NRN.STS.LANE_SPARE).record 0x1405 0 lane 0 []

/-- The slots after one of them has gone. -/
def slotAfter (gone : Nat) (i : Nat) : Nat := if gone < i then i - 1 else i

/-- LANE_OUT_OF_SERVICE (R234, R411): the link goes on with its other lanes, or is DOWN. -/
def State.laneOut (s : State) (r : LinkRef) (slot : Nat) : State :=
  let x := s.flink r.idx
  let win := (x.winUncorr.filter (fun w => w.1 ≠ slot)).map (fun w => (slotAfter slot w.1, w.2))
  match r with
  | .flash k =>
    if s.get (FLK.LINKk_STS.LANE1 k) = 3 then s.linkDown k else
    let keep := if slot = 0 then s.get (FLK.LINKk_STS.LANE1 k) else s.get (FLK.LINKk_STS.LANE0 k)
    let mine := decide (x.swapSlot = some slot)
    let s := s.setFlink k { x with
      winUncorr := win, swapSlot := if mine then none else x.swapSlot.map (slotAfter slot), switchReady := x.switchReady && !mine }
    let s := ((s.put (FLK.LINKk_STS.LANE0 k) keep).put (FLK.LINKk_STS.LANE1 k) 3).flashTo k 3
    s.record 0x0C01 0 k 0 []
  | .nerryn =>
    let lane := s.pair.slots.getD slot 0
    let s := (s.setFlink 48 { x with winUncorr := win }).setPair fun p => { p with
      slots := p.slots.eraseIdx slot
      swap := match p.swap with
        | some (i, l, b) => if i = slot then none else some (slotAfter slot i, l, b)
        | none => none }
    let s := (s.putBit NRN.LANE_STS.FAILED lane true).nrnLane lane
    if s.pair.slots.length < 8 then s.nrnDown else s

/-- Event 1 of a swap: the spare lane begins to train (Table "Flash Modules and the Translation Layer" 2). -/
def State.startSparing (s : State) (r : LinkRef) (slot : Nat) : State :=
  match r with
  | .flash k =>
    if s.get (FLK.LINKk_STS.SPARE k) ≠ 0 then s else
    ((s.put (FLK.LINKk_STS.SPARE k) 1).setFlink k { s.flink k with swapSlot := some slot, switchReady := false }).sendFlit k 5
  | .nerryn =>
    match s.pair.swap, s.pair.spares with
    | none, lane :: _ => (s.setPair fun p => { p with swap := some (slot, lane, false) }).sendFlit 48 5
    | _, _ => s

/-- A lane with no spare behind it leaves the link when its last window, or its loss of lock, asks for it. -/
def State.checkLane (s : State) (r : LinkRef) (slot : Nat) : State :=
  let n := (fldFind (s.flink r.idx).winUncorr slot).getD 0
  if ¬ s.spareBehind r slot ∧ s.slotActive r slot ∧ 16 * (s.laneThr r).1 ≤ n then s.laneOut r slot else s

/-- Keep a lane's last window. -/
def State.noteLane (s : State) (r : LinkRef) (slot n : Nat) : State :=
  let x := s.flink r.idx
  s.setFlink r.idx { x with winUncorr := fldSet x.winUncorr slot n 0 }

/-- LANE_ERROR_WINDOW (R233, R234): the counts of one lane over 1 s. -/
def execLaneErrorWindow (link : LinkRef) (slot uncorr corr symbols : Nat) (s : State) : Host.Outcome State Fault Refusal :=
  okIf link.ok (if ¬ s.refUp link ∨ ¬ s.slotActive link slot then s else
    let s := match link with
      | .flash k => (s.count (FLK.LINKk_CORR.COUNT k) corr).count (FLK.LINKk_UNCORR.COUNT k) uncorr
      | .nerryn => s
    let (thr, ser) := s.laneThr link
    let s := s.noteLane link slot uncorr
    let s := if thr ≤ uncorr ∨ symbols < corr * 2 ^ ser then s.startSparing link slot else s
    s.checkLane link slot)

/-- LANE_LOSS_OF_LOCK (R234): with a spare behind it the lane is swapped out, or waits for the swap that runs. -/
def execLaneLossOfLock (link : LinkRef) (slot : Nat) (s : State) : Host.Outcome State Fault Refusal :=
  okIf link.ok (if ¬ s.refUp link ∨ ¬ s.slotActive link slot then s
    else (s.noteLane link slot (2 ^ 32)).checkLane link slot)

/-- SPARE_LANE_TRAINED (R233, R234): 10^12 good bits, or the spare has failed. -/
def execSpareLaneTrained (link : LinkRef) (ok : Bool) (s : State) : Host.Outcome State Fault Refusal :=
  okIf link.ok (match link with
    | .flash k =>
      let x := s.flink k
      match x.swapSlot with
      | none => s
      | some slot =>
        if x.switchReady then s
        else if ok then s.setFlink k { x with switchReady := true }
        else ((s.put (FLK.LINKk_STS.SPARE k) 3).setFlink k { x with swapSlot := none }).checkLane link slot
    | .nerryn =>
      match s.pair.swap with
      | none => s
      | some (slot, lane, ready) =>
        if ready then s
        else if ok then s.setPair fun p => { p with swap := some (slot, lane, true) }
        else
          let s := s.setPair fun p => { p with swap := none, spares := p.spares.filter (· ≠ lane) }
          ((s.putBit NRN.LANE_STS.FAILED lane true).nrnLane lane).checkLane link slot)

/-- LANE_SWITCH (events 4 and 5): the flit slot moves to the spare lane. -/
def execLaneSwitch (link : LinkRef) (s : State) : Host.Outcome State Fault Refusal :=
  okIf link.ok (match link with
    | .flash k =>
      let x := s.flink k
      match x.swapSlot with
      | none => s
      | some slot =>
        if ¬ x.switchReady then s else
        let f := if slot = 0 then FLK.LINKk_STS.LANE0 k else FLK.LINKk_STS.LANE1 k
        let old := s.get f
        let s := s.setFlink k { x with swapSlot := none, switchReady := false, winUncorr := x.winUncorr.filter (fun w => w.1 ≠ slot) }
        let s := ((s.put f (s.get (FLK.LINKk_STS.DARK k))).put (FLK.LINKk_STS.DARK k) old).put (FLK.LINKk_STS.SPARE k) 2
        s.record 0x0C01 0 k 0 []
    | .nerryn =>
      match s.pair.swap with
      | none => s
      | some (slot, lane, ready) =>
        if ¬ ready then s else
        let old := s.pair.slots.getD slot 0
        let x := s.flink 48
        let s := (s.setFlink 48 { x with winUncorr := x.winUncorr.filter (fun w => w.1 ≠ slot) }).setPair fun p => { p with
          swap := none, slots := p.slots.set slot lane, spares := p.spares.filter (· ≠ lane) }
        (s.putBit NRN.LANE_STS.FAILED old true).nrnLane old)

/-- SPARE_LANE_TEST (R235): every TEST_DAYS days; failed: the spares that do not pass the 100 ms check. -/
def execSpareLaneTest (link : LinkRef) (failed : List Nat) (s : State) : Host.Outcome State Fault Refusal :=
  okIf link.ok (
    let x := s.flink link.idx
    let due := x.testedAt + max 1 (s.get FLK.CFG.TEST_DAYS) * Config.day
    match link with
    | .flash k =>
      if ¬ s.refUp link ∨ s.get (FLK.LINKk_STS.SPARE k) ≠ 0 then s else
      let s := s.passTo (due + 100 * Config.ms)
      let s := s.setFlink k { x with testedAt := due }
      if failed.contains (s.get (FLK.LINKk_STS.DARK k)) then s.put (FLK.LINKk_STS.SPARE k) 3 else s
    | .nerryn =>
      if ¬ s.refUp link ∨ s.pair.swap.isSome then s else
      let s := s.passTo (due + 100 * Config.ms)
      let s := s.setFlink 48 { x with testedAt := due }
      let bad := s.pair.spares.filter failed.contains
      let s := s.setPair fun p => { p with spares := p.spares.filter (fun l => ¬ bad.contains l) }
      bad.foldl (fun (s : State) l => (s.putBit NRN.LANE_STS.FAILED l true).nrnLane l) s)

/-! ## FLK command packets (Table "Flash Modules and the Translation Layer" 11) -/

/-- LINK_STATUS: its RC fields clear with the read (R519). -/
def execLinkStatus (p : Packet) (s : State) : Host.Outcome State Fault Refusal :=
  runCmd 0x0C01 p s fun s =>
    if 48 ≤ p.u8 0 then s.refuseWith 0x000A 0 else
    match (List.range 3).find? (fun i => p.u8 (1 + i) ≠ 0) with
    | some i => s.refuseWith 0x000A (1 + i)
    | none => s.onLink (p.u8 0) fun s =>
      let a := 0xA0100 + 0x10 * p.u8 0
      let (bs, s) := s.readRegs [a, a + 4, a + 8, a + 12]
      s.reply bs

/-- MODULE_IDENT: the 64 bytes the module returned. -/
def execModuleIdent (p : Packet) (s : State) : Host.Outcome State Fault Refusal :=
  runCmd 0x0C02 p s fun s =>
    if 48 ≤ p.u8 0 then s.refuseWith 0x000A 0 else
    match (List.range 3).find? (fun i => p.u8 (1 + i) ≠ 0) with
    | some i => s.refuseWith 0x000A (1 + i)
    | none => s.onLink (p.u8 0) fun s => match s.linkUp (p.u8 0), (s.flink (p.u8 0)).ident with
      | true, some x => s.reply (slice x.raw 0 64)
      | _, _ => s.refuseWith 0x0C01 (p.u8 0)

/-- LANE_SPARE (expert): forces the swap of Table "Flash Modules and the Translation Layer" 2. -/
def execLaneSpare (p : Packet) (s : State) : Host.Outcome State Fault Refusal :=
  runCmd 0x8C10 p s fun s =>
    let k := p.u8 0
    if 48 ≤ k then s.refuseWith 0x000A 0
    else if 2 ≤ p.u8 1 then s.refuseWith 0x000A 1
    else if p.u8 2 ≠ 0 then s.refuseWith 0x000A 2
    else if p.u8 3 ≠ 0 then s.refuseWith 0x000A 3
    else s.onLink k fun s => if ¬ s.linkUp k then s.refuseWith 0x0C01 k
    else if ¬ s.slotActive (.flash k) (p.u8 1) then s.refuseWith 0x000A 1
    else if s.get (FLK.LINKk_STS.SPARE k) ≠ 0 then s.refuseWith 0x0C02 k
    else (s.startSparing (.flash k) (p.u8 1)).reply []

/-- BRIDGE_RAW (expert): the payload goes out as it is; the reply comes with its CPL. -/
def execBridgeRaw (p : Packet) (s : State) : Host.Outcome State Fault Refusal :=
  runCmd 0x8C11 p s fun s =>
    let k := p.u8 0
    if 48 ≤ k then s.refuseWith 0x000A 0 else
    match (List.range 3).find? (fun i => p.u8 (1 + i) ≠ 0) with
    | some i => s.refuseWith 0x000A (1 + i)
    | none => s.onLink k fun s =>
      if ¬ s.linkUp k then s.refuseWith 0x0C01 k else
      { st := s.sendBridge k 0 [] (slice p.params 4 120) (.raw p), later := true }

end Sys2Proof.Machine
end

