-- ==== Sys2Proof/Machine/Mapping.lean ====
section
/-! DEFINITION. Commands of spec/08 on the map and the bands: map pages, the map log and map commits, fine units, garbage
collection, migration, band allocation and PURGE. -/

namespace Sys2Proof.Machine

/-! ## Map pages (R245, R251, R252) -/

/-- The 8-byte map entry of a unit version (Table "Flash Modules and the Translation Layer" 8). -/
def Version.entry (v : Version) : Nat := v.gen * 2 ^ 40 + v.kind * 2 ^ 38 + b2n v.gset * 2 ^ 37 + v.ptr % 2 ^ 37

/-- A map page: the entries of 512 units. -/
def State.pageBytes (s : State) (vol page : Nat) : List Byte :=
  (List.range 512).flatMap (fun i => leBytes 8 (((s.unit vol (512 * page + i)).live.map Version.entry).getD 0))

/-- A map page's record. -/
def State.page (s : State) (vol page : Nat) : MapPage :=
  (s.dp.pages.find? (fun p => p.vol = vol ∧ p.page = page)).getD { vol := vol, page := page, dram := false, usedAt := s.aon }
def State.setPage (s : State) (p : MapPage) : State := s.setDp fun d => { d with
  pages := p :: d.pages.filter (fun x => ¬ (x.vol = p.vol ∧ x.page = p.page)) }

/-- Map page DRAM and host region in pages. -/
def State.dramPages (s : State) : Nat := min 2048 (s.forced FTL.MAP_CFG.DRAM_GIB) * 2 ^ 18
def State.hostPages (s : State) : Nat := if s.on FTL.HOST_CFG.EN then s.get FTL.HOST_CFG.HOST_GIB * 2 ^ 18 else 0
def State.hostBase (s : State) : Nat := s.get FTL.HOST_BASE_HI.BASE_HI * 2 ^ 32 + s.get FTL.HOST_BASE_LO.BASE_LO * 4096

/-- The least recently used of some pages. -/
def oldestPage (ps : List MapPage) : Option MapPage :=
  ps.foldl (fun (o : Option MapPage) p => match o with
    | some x => if p.usedAt < x.usedAt then some p else o
    | none => some p) none

/-- Evict a clean page: copied to a slot of the host region, whose least recently used page makes room, or dropped. -/
def State.evictPage (s : State) (p : MapPage) : State :=
  if s.hostPages = 0 then s.setPage { p with dram := false } else
  let held := s.dp.pages.filter (fun x => x.host.isSome)
  let (slot, s) := match p.host with
    | some n => (n, s)
    | none =>
      if held.length < s.hostPages then
        (((List.range (held.length + 1)).find? (fun n => ¬ held.any (fun x => x.host = some n))).getD 0, s)
      else match oldestPage held with
        | some x => (x.host.getD 0, s.setPage { x with host := none })
        | none => (0, s)
  let bytes := s.pageBytes p.vol p.page
  (s.setPage { p with dram := false, host := some slot, crc := crc32c bytes }).emit (.hostData (s.hostBase + 4096 * slot) bytes)

/-- A page comes into DRAM; a clean page makes room, a dirty one never (R251). -/
def State.loadPage (s : State) (vol page : Nat) (dirty : Bool) : State :=
  let p := s.page vol page
  let inDram := s.dp.pages.filter (fun x => x.dram)
  let s := if p.dram ∨ inDram.length < s.dramPages then s else
    match oldestPage (inDram.filter (fun x => ¬ x.dirty)) with
    | some x => s.evictPage x
    | none => s
  s.setPage { s.page vol page with
    dram := true, dirty := p.dirty || dirty, host := if dirty then none else p.host, usedAt := s.aon }

/-- A host-held page failed its check: it is fetched from the map store next (R252). -/
def State.hostPageBad (s : State) (vol page : Nat) : State :=
  let s := s.setPage { s.page vol page with host := none }
  ((s.setB FTL.STS.HOST_BAD).count FTL.HOST_BAD.COUNT 1).record 0x0B01 0 vol 0 []

/-- MAP_PAGE_FETCH (R251, R252): a host-held page is checked for its CRC-32C, and ok says whether its volume, page number and
sequence number are right; a page of the map store that fails its check is reconstructed first (R246). -/
def execMapPageFetch (vol page : Nat) (fromHost crcOk : Bool) (s : State) : Host.Outcome State Fault Refusal :=
  let p := s.page vol page
  done (if p.dram ∨ s.start.reached < 3 then s
    else if fromHost then
      match s.pci.reads.find? (fun r => r.kind = 5 ∧ r.id = vol ∧ r.ref = page ∧ r.arrived) with
      | none => s
      | some r =>
        let s := s.dropRead r.tag
        if crcOk && decide (crc32c r.data = p.crc) then s.loadPage vol page false else s.hostPageBad vol page
    else if p.host.isSome ∨ ¬ crcOk then s
    else s.loadPage vol page false)

/-! ## The map log (R253, R370) -/

/-- Every stripe of a region has its strips durable, or is void. -/
def regionClean (r : RSet) (v : SetVer) (b : Band) (g : Nat) : Bool :=
  (List.range (min 64 (r.rows - 64 * g))).all (fun i => (List.range (r.stripes v)).all (fun t =>
    b.done_.contains (64 * g + i, t) || b.void.contains (64 * g + i, t)))

/-- A flush keeps the bits of regions that are not clean; those ahead of the programming stay set (R370). -/
def State.flushRegions (s : State) : State :=
  s.media fun m => { m with bands := m.bands.map (fun b =>
    if b.theirs then b else match s.rset b.set with
    | none => b
    | some r => match r.version b.ver with
      | some v => { b with dirty := b.dirty.filter (fun g => ¬ regionClean r v b g) }
      | none => b) }

/-- Entries of moved strips whose writes are done become durable with the log, and are shipped (R377). -/
def State.flushMoved (s : State) : State :=
  let there := (s.dp.moving.filter (fun x => x.left = 0)).map Moving.strip
  let s := (s.setDp fun d => { d with moving := d.moving.filter (fun x => x.left ≠ 0) }).media fun m => { m with strips := m.strips ++ there }
  there.foldl (fun (s : State) x => s.ship 3 [x.set, x.zone, x.row, x.pos, x.target, x.spareZone, x.index] []) s

/-- MAP_LOG_FLUSH (R253): 1 ms after the last one, or before it at 4 MiB of log, a free choice (log entry 65); the records of every placed write are
then durable in the map store. -/
def execMapLogFlush (s : State) : Host.Outcome State Fault Refusal :=
  done (if s.start.reached < 4 ∨ s.halted then s else
    let (n, s) := s.draw
    let s := if n % 2 = 1 then s else s.passTo (s.dp.flushedAt + Config.ms)
    let s := s.setDp fun d => { d with
      flushedAt := s.aon
      writes := d.writes.map (fun w => { w with durable := w.durable || w.frames.all (fun f => f.band.isSome) }) }
    s.flushMoved.flushRegions)

/-- Units whose map entries a commit changes: none where an indexed frame moves, which changes its index entry only (R250). -/
def State.commitUnits (s : State) (w : WJob) : List (Nat × Nat) :=
  match w.kind with
  | .reloc old => if ((s.frame old).bind SFrame.digest).isSome then [] else (s.nv.media.units.filter (fun u => u.versions.any (fun v => v.names old))).map (fun u => (u.vol, u.unit))
  | _ => (w.blocks.map (fun b => (w.vol, b.1 / 1024))).eraseDups

/-! ## Erasing bands (R240, R242) -/

/-- The members of a band's version. -/
def State.bandMembers (s : State) (b : Band) : List Nat :=
  match s.rset b.set with
  | some r => match r.version b.ver with
    | some v => v.live.map r.member
    | none => []
  | none => []

/-- The band is erased. PURGE frees it again; otherwise waiting frames go into it. -/
def State.erased (s : State) (b : Band) : State :=
  if b.use_ = 3 then
    (s.freeBand b.set b.zone).setDp fun d => { d with purge := d.purge.map (fun l => l.filter (· ≠ (b.set, b.zone))) }
  else s.gatherAll

/-- Every block is owned: the flash zones are erased, and for PURGE zeros go over the HDA zones (R242, R264). -/
def State.eraseZones (s : State) (b : Band) : State :=
  let codes := s.bandMembers b
  let work := codes.flatMap (fun c => if memberIsModule c then
      match s.module (memberNo c) with
      | some m => (m.zoneBlocks b.zone).map (fun x => (c, x))
      | none => []
    else if b.use_ = 3 then [(c, (0, 0, 0))] else [])
  let b' := { b with owning := 0, erasing := work.length }
  let s := s.setBand b'
  let s := codes.foldl (fun (s : State) c => match memberIsModule c, s.module (memberNo c) with
    | true, some m => s.setModule { m with erases := fldSet m.erases b.zone ((fldFind m.erases b.zone).getD 0 + 1) 0 }
    | _, _ => s) s
  let s := work.foldl (fun (s : State) x =>
    if memberIsModule x.1 then s.sendBridge (memberNo x.1) 3 [x.2.1, x.2.2.1, x.2.2.2] [] (.erase b.set b.zone)
    else s.askRun (memberNo x.1) 2 b.zone 0 262144 true [] (.erase b.set b.zone)) s
  if work.isEmpty then s.erased b' else s

/-- OWN of every block number the zone uses on a module, with FORCE when the partner has gone; HDA zones wait for the reset
of their write pointers (R240, R427, Table "Flash Modules and the Translation Layer" 6). -/
def State.ownZones (s : State) (b : Band) : State :=
  let force := b2n (s.get NRN.PAIR_STS.ROLE = roleSurvivor)
  let work := (s.bandMembers b).flatMap (fun c => if memberIsModule c then
      match s.module (memberNo c) with
      | some m => (((m.zoneBlocks b.zone).map (fun x => x.2.2)).eraseDups).map (fun n => (c, n))
      | none => []
    else [(c, 0)])
  let b' := { b with owning := work.length, erasing := 1
                     resets := ((s.bandMembers b).filter (fun c => !memberIsModule c)).map memberNo }
  let s := s.setBand b'
  let s := work.foldl (fun (s : State) x =>
    if memberIsModule x.1 then s.sendBridge (memberNo x.1) 5 [x.2, force] [] (.own b.set b.zone) else s) s
  if work.isEmpty then s.eraseZones b' else s

/-- One of them is done. -/
def State.ownDone (s : State) (set zone : Nat) : State :=
  match s.band set zone with
  | none => s
  | some b => if b.owning = 0 then s else if b.owning = 1 then s.eraseZones b else s.setBand { b with owning := b.owning - 1 }

/-- One erase is done. -/
def State.eraseDone (s : State) (set zone : Nat) : State :=
  match s.band set zone with
  | none => s
  | some b =>
    if b.erasing = 0 ∨ b.owning ≠ 0 then s else
    let b' := { b with erasing := b.erasing - 1 }
    let s := s.setBand b'
    if b.erasing = 1 then s.erased b' else s

/-! ## PURGE (R264) -/

/-- Bands that hold bytes no frame uses. -/
def State.garbageBands (s : State) : List Band :=
  s.nv.media.bands.filter (fun b => !b.theirs && 1 ≤ b.state && b.state ≤ 3 &&
    decide (s.liveBytes b.set b.zone < (b.fills.map Prod.snd).sum))

/-- Bands of the purge that are FREE now are erased. -/
def State.purgeStep (s : State) : State :=
  ((s.dp.purge.getD []).filter (fun x => (s.band x.1 x.2).isNone)).foldl (fun (s : State) x =>
    match s.rset x.1 with
    | some r => s.ownZones { set := x.1, zone := x.2, state := 3, use_ := 3, ver := (r.vers.headD default).ver, level := 1 }
    | none => s) s

/-- PURGE: open bands that hold garbage close first. -/
def execPurge (p : Packet) (s : State) : Host.Outcome State Fault Refusal :=
  runCmd 0x0B04 p s fun s =>
    if s.dp.purge.isSome then s.refuseWith 0x0B02 0 else
    let bands := s.garbageBands
    let s := s.setDp fun d => { d with purge := some (bands.map (fun b => (b.set, b.zone))) }
    let s := bands.foldl (fun (s : State) b =>
      let s := if b.state = 1 then s.closeBand b else s
      match s.band b.set b.zone with
      | some b => s.relocateBand b
      | none => s) s
    s.purgeStep.reply []

/-- PURGE_DONE: every band of it is erased. -/
def execPurgeDone (s : State) : Host.Outcome State Fault Refusal :=
  done (if s.dp.purge = some [] then s.setDp fun d => { d with purge := none } else s)

/-! ## Map commits, checkpoints and fine units -/

/-- MAP_COMMIT (R253, R199, R200, R248, R255, R256). -/
def execMapCommit (id : Nat) (s : State) : Host.Outcome State Fault Refusal :=
  done (match s.wjob id with
    | none => s
    | some w =>
      if ¬ s.mayCommit w ∨ s.halted ∨ w.kind = .apply then s else
      let units := s.commitUnits w
      let s := s.commitJob w
      let s := ((units.map (fun u => (u.1, u.2 / 512))).eraseDups).foldl (fun (s : State) u =>
        let (c, s) := (s.loadPage u.1 u.2 true).draw
        s.walk (c % 32) true) s
      let s := (s.storeUnits units).setDp fun d => { d with restored := d.restored.filter (· ≠ id) }
      s.purgeStep.startSweeps)

/-- MAP_CHECKPOINT (R253, R254): 64 MiB of log have come since the last one. -/
def execMapCheckpoint (s : State) : Host.Outcome State Fault Refusal :=
  done (if s.start.reached < 4 then s else
    let s := (s.dp.pages.filter (fun p => p.dirty)).foldl (fun (s : State) p => s.emit (.mapStore (s.pageBytes p.vol p.page))) s
    let s := s.setDp fun d => { d with pages := d.pages.map (fun p => { p with dirty := false }) }
    s.media fun m => { m with ckpt := (s.dp.pages.filter (fun p => p.dram)).map (fun p => (p.vol, p.page)) })

/-- MAP_WARM (R254): log replayed, dump indexed, the pages of the last checkpoint loaded again. -/
def execMapWarm (s : State) : Host.Outcome State Fault Refusal :=
  done (if s.start.reached < 3 ∨ s.on FTL.STS.MAP_WARM ∨ s.on SYS.START_STS.DEAD ∨
      ¬ s.dp.dumpRead ∧ s.nv.media.dumpStart.isSome then s else
    let s := s.nv.media.ckpt.foldl (fun (s : State) p => s.loadPage p.1 p.2 false) s
    s.setB FTL.STS.MAP_WARM)

/-- Fine units, and whether their tables exceed the budget. -/
def State.fineUnits (s : State) : List MapUnit :=
  s.nv.media.units.filter (fun u => (u.live.map Version.kind).getD 0 = 2)
def State.overBudget (s : State) : Bool :=
  min 8 (s.get FTL.FINE_CFG.BUDGET_PCT) * min 2048 (s.forced FTL.MAP_CFG.DRAM_GIB) * 2 ^ 30 < 100 * s.fineUnits.length * 16384

/-- FINE_DEMOTE (R248): DEMOTE_H hours without a write, or the least recently written one when the budget is exceeded. -/
def execFineDemote (vol unit : Nat) (s : State) : Host.Outcome State Fault Refusal :=
  let u := s.unit vol unit
  done (match u.live with
    | none => s
    | some v =>
      if v.kind ≠ 2 then s else
      let lru := s.overBudget && s.fineUnits.all (fun x => decide (u.wroteAt ≤ x.wroteAt))
      let s := if lru then s else s.passTo (u.wroteAt + max 1 (s.get FTL.FINE_CFG.DEMOTE_H) * Config.hour)
      let (p, s) := s.draw
      ((s.setUnit { u with live := some { v with kind := 1, fine := [], ptr := p % 2 ^ 37 } }).loadPage vol (unit / 512) true).storeUnits
        [(vol, unit)])

/-- REBASE_SWEEP_END (R256, R257): the new generations take effect at the commit it asks for. -/
def execRebaseSweepEnd (vol : Nat) (s : State) : Host.Outcome State Fault Refusal :=
  done (if s.dp.sweeps.any (fun x => x.1 = vol && !x.2.2.2) then
      (s.setDp fun d => { d with sweeps := d.sweeps.map (fun x => if x.1 = vol then (x.1, x.2.1, x.2.2.1, true) else x) }).requestCommit
    else s)

/-! ## Garbage collection, migration and allocation (R258 to R261, R286, R363, R422) -/

/-- Bytes of a band's data strips. -/
def State.bandSize (s : State) (b : Band) : Nat :=
  match s.rset b.set with
  | some r => match r.version b.ver with
    | some v => bandBytes r v b.level
    | none => 0
  | none => 0

/-- a scores higher than b (R260), compared as fractions over the bands' ages in ns; on a tie the lower band number. -/
def State.scoresOver (s : State) (a b : Band) : Bool :=
  let sc := fun (x : Band) => let n := s.bandSize x; let l := s.liveBytes x.set x.zone; ((n - l) * (s.aon - x.fullAt), 2 * l)
  let (an, ad) := sc a
  let (bn, bd) := sc b
  let low := a.zone < b.zone || a.zone = b.zone && a.set < b.set
  if ad = 0 ∨ bd = 0 then (ad = 0 && (bd ≠ 0 || low))
  else if an * bd = bn * ad then low else bn * ad < an * bd

/-- GC_BAND_SELECT (R259, R260): below GC_START_PCT, the FULL band with the highest score. -/
def execGcBandSelect (q tier : Nat) (s : State) : Host.Outcome State Fault Refusal :=
  okIf (q < 4 && tier < 2) (
    let full := s.nv.media.bands.filter (fun b => b.state = 2 && !b.pinned && !b.theirs &&
      (match s.rset b.set with
        | some r => r.quad = q && r.tier = tier
        | none => false))
    let best := full.foldl (fun (o : Option Band) b => match o with
      | some x => if s.scoresOver b x then some b else o
      | none => some b) none
    match best with
    | some b => if s.freePct q tier < s.gcStart ∧ ¬ s.halted then s.relocateBand b else s
    | none => s)

/-- The tier a frame lies on. -/
def State.frameTier (s : State) (f : SFrame) : Option Nat := f.band.bind (fun b => (s.rset b.1).map RSet.tier)

/-- TIER_MIGRATE (R261): a unit that has not been read for COOL_DAYS days, or one read WARM_READS times within 24 h. -/
def execTierMigrate (vol unit : Nat) (s : State) : Host.Outcome State Fault Refusal :=
  done (match s.vol vol, (s.unit vol unit).live with
    | some v, some x =>
      if v.tier ≠ 2 ∨ x.kind ≠ 1 ∨ s.halted then s else
      let u := s.unit vol unit
      let fs := s.nv.media.frames.filter (fun f => x.names f.serial)
      let cool := if v.coolDays = 0 then 14 else v.coolDays
      let warm := if v.warmReads = 0 then 8 else v.warmReads
      let hot := decide (warm ≤ (u.reads.filter (fun t => s.aon < t + Config.day)).length)
      let last := if u.readAt = 0 then u.wroteAt else u.readAt
      let onHda := fs.filter (fun f => s.frameTier f = some 1)
      if ¬ onHda.isEmpty then
        (if hot then onHda.foldl (fun (s : State) f => s.relocate f false true) s else s)
      else if s.act.sets.any (fun r => r.tier = 1) then
        fs.foldl (fun (s : State) f => s.relocate f false true) (s.passTo (last + cool * Config.day))
      else s
    | _, _ => s)

/-- Erase counts of a zone over a set's members: their sum and number. -/
def State.zoneErases (s : State) (r : RSet) (zone : Nat) : Nat × Nat :=
  (((r.members.filter memberIsModule).map (fun c =>
    ((s.module (memberNo c)).map (fun m => (fldFind m.erases zone).getD 0)).getD 0)).sum, r.members.length)

/-- Mean a is below mean b by more than a gap. -/
def meanBelow (gap : Nat) (a b : Nat × Nat) : Bool := a.1 * b.2 + gap * a.2 * b.2 < b.1 * a.2

/-- FREE bands of a set and level that this head may open: on the capo, or alone, every one not granted to the partner; on
the other head the granted ones (R422). -/
def State.openable (s : State) (r : RSet) (level : Nat) : List Nat :=
  if s.isCapo ∨ ¬ s.synced then (List.range r.bandZones).filter (fun z => (s.band r.num z).isNone &&
    !s.pair.given.any (fun g => g.1 = r.num && g.2.2 = z))
  else (s.pair.granted.filter (fun g => g.1 = r.num ∧ g.2.1 = level ∧ (s.band r.num g.2.2).isNone)).map (fun g => g.2.2)

/-- Ask the capo for more bands when fewer than 2 are left (R422). -/
def State.askBands (s : State) (set level : Nat) : State :=
  if s.isCapo ∨ ¬ s.synced ∨ s.pair.asked.contains (set, level) ∨
      2 ≤ (s.pair.granted.filter (fun g => g.1 = set ∧ g.2.1 = level)).length then s
  else (s.setPair fun p => { p with asked := p.asked ++ [(set, level)] }).sendNrn 5 3 [1, set, level] []

/-- Wear levelling after an allocation: one relocation at a time in a quadrant tier (R286). -/
def State.levelWear (s : State) (r : RSet) : State :=
  let sets := s.act.sets.filter (fun x => x.quad = r.quad ∧ x.tier = r.tier)
  let inSets := fun (b : Band) => sets.any (fun x => x.num = b.set)
  let all := sets.flatMap (fun x => (List.range x.bandZones).map (s.zoneErases x))
  let gap := 10 * s.get TUN.WEAR_CFG.WL_GAP
  let apart := all.any (fun a => all.any (fun b => meanBelow gap a b))
  if r.tier ≠ 0 ∨ ¬ apart ∨ s.nv.media.bands.any (fun b => b.wl && b.state = 3 && inSets b) then s else
  let full := s.nv.media.bands.filter (fun b => b.state = 2 && !b.pinned && !b.theirs && inSets b)
  let old := full.foldl (fun (o : Option Band) b => match o with
    | some x => if b.lastWrite < x.lastWrite then some b else o
    | none => some b) none
  match old with
  | some b => (s.setBand { b with wl := true }).relocateBand { b with wl := true }
  | none => s

/-- BAND_ALLOCATE (R242, R251, R286, R363, R365): of the FREE bands it may open, one with the lowest mean erase count, stamped
with the newest version; the open band of the same use and level before it closes. Use 4 is the map store's: a flash band,
RESERVED, at the set's highest level. -/
def execBandAllocate (set zone use_ level : Nat) (s : State) : Host.Outcome State Fault Refusal :=
  okIf (use_ < 3 || use_ = 4) (match s.rset set with
    | none => s
    | some r =>
      let cand := s.openable r level
      let mine := s.zoneErases r zone
      if s.start.reached < 4 ∨ s.halted ∨ s.noAlloc r ∨ level = 0 ∨ r.pmax < level ∨ use_ = 4 ∧ (r.tier ≠ 0 ∨ level ≠ r.pmax) ∨ ¬ cand.contains zone ∨
          cand.any (fun z => meanBelow 0 (s.zoneErases r z) mine) then s else
      let s := (s.nv.media.bands.filter (fun b => b.set = set && b.state = 1 && b.use_ = use_ && b.level = level && !b.theirs)).foldl
        State.closeBand s
      let s := s.setPair fun p => { p with granted := p.granted.filter (fun g => ¬ (g.1 = set ∧ g.2.2 = zone)) }
      let b : Band := { set := set, zone := zone, state := if use_ = 4 then 4 else 1, use_ := use_, ver := (r.vers.headD default).ver, level := level,
                        lastWrite := s.aon, dirty := aheadRegions r (s.ahead - 1) 0 [] }
      (((s.ownZones b).askBands set level).levelWear r).relocateOldest)

/-! ## FTL command packets (Table "Flash Modules and the Translation Layer" 11) -/

/-- FTL_STATUS of a quadrant. -/
def execFtlStatus (p : Packet) (s : State) : Host.Outcome State Fault Refusal :=
  runCmd 0x0B01 p s fun s =>
    if bitsAt p.loc 6 2 ≠ 1 then s.refuseWith 0x0005 0 else
    let q := bitsAt p.loc 4 2
    let inQ := fun (b : Band) => ((s.rset b.set).map (fun r => decide (r.quad = q))).getD false
    let n := fun (st : Nat) => (s.nv.media.bands.filter (fun b => inQ b && b.state = st)).length
    s.reply (leBytes 1 (s.freePct q 0) ++ leBytes 1 (s.freePct q 1) ++ leBytes 4 (n 2) ++ leBytes 4 (n 3) ++
      leBytes 4 ((s.poolBands q 0).1 + (s.poolBands q 1).1) ++ leBytes 2 0)

/-- TIER_SET (R261): a tier named must have bands in some quadrant. -/
def execTierSet (p : Packet) (s : State) : Host.Outcome State Fault Refusal :=
  runCmd 0x0B02 p s fun s =>
    match s.shadowVol (p.u16 0) with
    | none => s.refuseWith 0x000A 0
    | some v =>
      if ¬ s.serves v then s.refuseWith 0x1301 (1 - s.headNo)
      else if 3 ≤ p.u8 2 then s.refuseWith 0x000A 2
      else if p.u8 3 ≠ 0 then s.refuseWith 0x000A 3
      else if p.u8 2 < 2 ∧ ¬ s.act.sets.any (fun r => r.tier = p.u8 2) then s.refuseWith 0x0B03 (p.u8 2)
      else (s.setShadowVol { v with tier := p.u8 2, coolDays := p.u16 4, warmReads := p.u16 6 }).reply []

/-- UNIT_INFO: of the live image, or of a snapshot. -/
def execUnitInfo (p : Packet) (s : State) : Host.Outcome State Fault Refusal :=
  runCmd 0x0B03 p s fun s =>
    match s.vol (p.u16 0) with
    | none => s.refuseWith 0x000A 0
    | some v =>
      if p.u16 2 ≠ 0 ∧ (s.snap v.num (p.u16 2)).isNone then s.refuseWith 0x000A 2
      else if v.size ≤ p.u64 4 then s.refuseWith 0x000A 4
      else
        let x := (s.unit v.num (p.u64 4)).pick (s.imageGen v (p.u16 2))
        let n := (x.map (fun x => ((x.blocks.filterMap (fun b => match b.2 with
          | .frame f _ => some f
          | .discarded => none)).eraseDups).length)).getD 0
        s.reply (leBytes 8 ((x.map Version.entry).getD 0) ++ leBytes 2 n ++ leBytes 1 (b2n ((x.map Version.kind).getD 0 = 2)) ++ leBytes 1 0)

/-- DUMP_STATUS. -/
def execDumpStatus (p : Packet) (s : State) : Host.Outcome State Fault Refusal :=
  runCmd 0x0B05 p s fun s =>
    let (bs, s) := s.readRegs [0x90020, 0x90024]
    s.reply (bs ++ leBytes 4 s.nv.media.dumpSeq)

/-- MAP_PAGE_READ (expert): the raw page. -/
def execMapPageRead (p : Packet) (s : State) : Host.Outcome State Fault Refusal :=
  runCmd 0x8B10 p s fun s =>
    match s.vol (p.u16 0) with
    | none => s.refuseWith 0x000A 0
    | some v =>
      if p.u8 2 ≠ 0 then s.refuseWith 0x000A 2
      else if p.u8 3 ≠ 0 then s.refuseWith 0x000A 3
      else if v.size ≤ 512 * p.u32 4 then s.refuseWith 0x000A 4
      else s.reply (s.pageBytes v.num (p.u32 4))

end Sys2Proof.Machine
end

