-- ==== Sys2Proof/Machine/Tuning.lean ====
section
/-! DEFINITION. Commands of spec/09: codeword decodes, tuning and its validation, refresh, patrol, die swaps, and the TUN
command packets. -/

namespace Sys2Proof.Machine

/-! ## Codewords (R277, R281, R283, R284, R290, R292) -/

/-- The block group of a page slot of a job: module, die, plane and page. -/
def State.jobGroup (s : State) (j : RdJob) (page : Nat) : Option (Module × Nat × Nat) :=
  (s.module (memberNo j.code)).map (fun m => let a := flashAddr m (page * 16384); (m, m.dieAt j.zone a.1, a.2.1))

/-- Iterations of a decode go into the mean of the set, in 1/256 of 1/8 iteration (it_mean, R292). -/
def TuneVals.mean (v : TuneVals) (it : Nat) : TuneVals :=
  { v with itMean := (Int.ofNat v.itMean + (Int.ofNat (2048 * it) - Int.ofNat v.itMean) / 256).toNat }

/-- The length of a validation in codewords, and of a window. -/
def State.valLen (s : State) : Nat := 16 * max 1 (s.get TUN.VAL_CFG.VAL_CW16)
def State.calLen (s : State) : Nat := max 256 (s.get TUN.CAL_CFG.CAL_CW)

/-- What a first read's decode does to the statistics of its set: the mean, the validation, and the window (R277, R281). A
window gathers under VALID and CANDIDATE sets, and under a SUSPECT one for its replacement (R282). -/
def TSet.decoded (t : TSet) (temp : Option Int) (used : TuneState) (it : Nat) (ok : Bool) : TSet :=
  let t := { t with cur := t.cur.mean it }
  let judged := used = .validating ∨ used = .candidate
  let t := if judged then { t with vCw := t.vCw + 1, vIt := t.vIt + 8 * it, vFail := t.vFail + b2n (!ok) } else t
  if ok ∧ used ≠ .validating then
    { t with winCw := t.winCw + 1, winIt := t.winIt + 8 * it, winTemp := if t.winCw = 0 then temp else t.winTemp }
  else t

/-- A codeword reaches joint decoding; the second time within 30 days its block is retired (R290). -/
def State.noteJoint (s : State) (m : Module) (die plane : Nat) (set zone key : Nat) : State :=
  match s.band set zone with
  | none => s
  | some b =>
    let again := b.jointAt.any (fun x => x.1 = key && s.aon < x.2 + 30 * Config.day)
    let s := s.setBand { b with jointAt := (key, s.aon) :: b.jointAt.filter (fun x => s.aon < x.2 + 30 * Config.day), marked := true }
    if again then s.retireBlock m.link die plane zone true else s

/-- A patrolled block that was refreshed before retires when its mean is too high (R290). -/
def State.patrolled (s : State) (j : RdJob) (m : Module) (die plane : Nat) : State :=
  let blk := (die, plane, j.zone)
  if ¬ m.refreshed.contains blk then s else
  let s := s.setModule { m with refreshed := m.refreshed.filter (· ≠ blk) }
  if s.get TUN.WEAR_CFG.RETIRE_IT * j.itN ≤ 8 * j.itSum ∧ j.itN ≠ 0 then
    let s := match s.band j.band.1 j.band.2 with
      | some b => s.setBand { b with marked := true }
      | none => s
    s.retireBlock m.link die plane j.zone true
  else s

/-- CODEWORD_DECODE: a codeword of a job whose read has returned decodes, or goes to its next step. -/
def execCodewordDecode (job page cw it : Nat) (ok : Bool) (s : State) : Host.Outcome State Fault Refusal :=
  okIf (it ≤ 24) (match s.rjob job with
    | none => s
    | some j =>
      match j.cws.find? (fun c => c.page = page ∧ c.idx = cw ∧ c.here), s.jobGroup j page, s.band j.band.1 j.band.2 with
      | some c, some (m, die, plane), some b =>
        let key := blockKey j.pos die plane
        let s := if c.step ≠ 1 then s else
          match s.tset m.link die plane c.ret c.load with
          | some t =>
            let t := t.decoded (s.flink m.link).temp c.used it ok
            let s := s.setTset t
            if t.cur.state = .valid ∧ 256 * s.get TUN.WEAR_CFG.WEAR_IT ≤ t.cur.itMean then s.raiseStage m.link 1 else s
          | none => s
        let left := j.cws.filter (fun x => ¬ (x.page = page ∧ x.idx = cw))
        if ok then
          let hot := j.patrol && decide (s.get TUN.DIST_CFG.REFRESH_IT < 8 * it)
          let s := if hot then (match s.band j.band.1 j.band.2 with
            | some b => s.setBand { b with marked := true }
            | none => s) else s
          let j := { j with cws := left, itSum := j.itSum + it, itN := j.itN + 1 }
          let s := (s.setRead j).endRead job
          if left.isEmpty ∧ j.patrol then s.patrolled j m die plane else s
        else
          let s := s.setBand { b with marked := true }
          if c.step < 7 then
            (s.setRead { j with cws := left }).readPages j m b [(page, 2 ^ cw)] (c.step + 1)
          else ((s.setRead { j with cws := left }).noteJoint m die plane j.band.1 j.band.2 key).toJoint job (page * 16384 + 4096 * cw)
      | _, _, _ => s)

/-! ## Temperature and load (R273, R275) -/

/-- TEMPERATURE_REPORT: windows whose temperature has moved too far will be discarded (R278). -/
def execTemperatureReport (link : Nat) (temp : Int) (s : State) : Host.Outcome State Fault Refusal :=
  okIf (link < 48 && -128 ≤ temp && temp ≤ 127) (
    let s := s.setFlink link { s.flink link with temp := some temp, tempAt := s.aon }
    let tol := max 1 (s.get TUN.VAL_CFG.TEMP_TOL_C)
    let far := fun (t : TSet) => t.link = link && decide (0 < t.winCw) && (match t.winTemp with
      | some w => decide (tol < tempGap temp w)
      | none => false)
    (s.act.tuning.filter far).foldl (fun (s : State) t => s.setTset { t with winBad := true }) s)

/-- TEMPERATURE_TIMEOUT: 1 s after the last report. -/
def execTemperatureTimeout (link : Nat) (s : State) : Host.Outcome State Fault Refusal :=
  okIf (link < 48) (
    let x := s.flink link
    if x.temp.isNone then s else (s.passTo (x.tempAt + Config.sec)).setFlink link { x with temp := none })

/-- LOAD_CLASS_UPDATE: BW in % and QD over the last 100 ms. -/
def execLoadClassUpdate (link bw qd : Nat) (s : State) : Host.Outcome State Fault Refusal :=
  okIf (link < 48) (
    let s := s.passTo (s.nextTick (100 * Config.ms))
    let full := s.get TUN.LOAD_CFG.FULL_BW_PCT
    let light := min full (s.get TUN.LOAD_CFG.LIGHT_BW_PCT)
    let c := if full ≤ bw ∨ s.get TUN.LOAD_CFG.FULL_QD ≤ qd then 2
      else if bw < light ∧ qd < s.get TUN.LOAD_CFG.LIGHT_QD then 0 else 1
    s.setFlink link { s.flink link with load := c, bw := bw })

/-! ## Windows and candidates (R278, R279) -/

/-- round(4 × (hi − lo) / n), halves away from zero, clamped (R278). -/
def levelStep (hi lo maxStep : Nat) : Int :=
  let n := hi + lo
  let d := 4 * (max hi lo - min hi lo)
  let m := min maxStep ((2 * d + n) / (2 * max 1 n))
  if lo < hi then Int.ofNat m else - Int.ofNat m

/-- The moves of the read levels. -/
def State.moves (s : State) (hi lo : List Nat) (levels : Nat) : List Int :=
  (List.range levels).map (fun j =>
    let h := hi.getD j 0
    let l := lo.getD j 0
    if 32 ≤ h + l ∧ (h + l) * max 1 (s.get TUN.CAL_CFG.SKEW) < (max h l - min h l) * 16
    then levelStep h l (max 1 (s.get TUN.CAL_CFG.MAX_STEP)) else 0)

/-- Clamp to ±127. -/
def clamp127 (x : Int) : Int := max (-127) (min 127 x)

/-- WINDOW_CLOSE: after CAL_CW codewords; discarded when the temperature has moved, while the complex is in reset (R295),
or while tuning is frozen (R296). -/
def execWindowClose (link die plane ret load : Nat) (hi lo : List Nat) (temp : Int) (bw : Nat) (s : State) :
    Host.Outcome State Fault Refusal :=
  done (match s.act.tuning.find? (fun t => t.link = link ∧ t.die = die ∧ t.plane = plane ∧ t.ret = ret ∧ t.load = load),
      s.module link with
    | some t, some m =>
      if t.winCw < s.calLen then s else
      let shut : TSet := { t with winCw := 0, winIt := 0, winTemp := none, winBad := false }
      let s := s.setTset shut
      if t.winBad ∨ s.cmd.inReset ∨ s.on TUN.STS.FROZEN then s else
      let levels := 2 ^ m.ident.bpc - 1
      let mv := s.moves hi lo levels
      if mv.all (· = 0) then s.setTset { shut with cur := { shut.cur with it0 := t.winIt / t.winCw } }
      else
        let offs := (List.range 17).map (fun j =>
          clamp127 (t.cur.offs.getD j 0 + (if j < levels then mv.getD j 0 else if j < 15 then 0 else Config.softMove mv (j - 15))))
        let c : TSet := { shut with cur := { t.cur with offs := offs, tagTemp := temp, tagBw := bw, state := .candidate } }
        s.setDp fun d => { d with cands := putTset d.cands c }
    | _, _ => s)

/-- COMMIT_S seconds after the last one, or at once where a SUSPECT set waits to be replaced. -/
def State.commitSets (s : State) : State :=
  if s.dp.cands.isEmpty ∨ s.on SYS.EPOCH_STS.PEND ∨ s.cmd.inReset ∨ s.on TUN.STS.FROZEN then s else
    let old := fun (s : State) (c : TSet) => s.tset c.link c.die c.plane c.ret c.load
    let urgent := s.dp.cands.any (fun c => ((old s c).map (fun t => decide (t.cur.state = .suspect))).getD false)
    let s := if urgent then s else s.passTo (s.dp.tunedAt + max 1 (s.get TUN.CAL_CFG.COMMIT_S) * Config.sec)
    let put := fun (s : State) (c : TSet) => match old s c with
      | some t =>
        let was := if t.vCw = 0 then t.cur.itMean / 256 else t.vIt / t.vCw
        let n : TSet := { c with prev := some t.cur, cur := { c.cur with it0 := was, itMean := t.cur.itMean } }
        { s with shadow := { s.shadow with tuning := putTset s.shadow.tuning n } }
      | none => s
    let s := s.dp.cands.foldl put s
    (s.setDp fun d => { d with cands := [], tunedAt := s.aon }).requestCommit

/-- CANDIDATE_COMMIT, of flash sets or of HDA sets (R279, R327). -/
def execCandidateCommit (hda : Bool) (s : State) : Host.Outcome State Fault Refusal :=
  done (if hda then s.commitHsets else s.commitSets)

/-! ## Validation (R281, R282) -/

/-- A set under validation in the current context. -/
def State.judged (s : State) (link die plane ret load : Nat) : Option TSet :=
  (s.act.tuning.find? (fun t => t.link = link ∧ t.die = die ∧ t.plane = plane ∧ t.ret = ret ∧ t.load = load)).filter
    (fun t => (t.cur.state = .validating || t.cur.state = .candidate) && decide (load = (s.flink link).load))

/-- Its mean is within the margin. -/
def State.valOk (s : State) (t : TSet) : Bool := t.vIt ≤ (t.cur.it0 + s.get TUN.VAL_CFG.VAL_MARGIN) * t.vCw

/-- A flash set passes. -/
def State.passSet (s : State) (link die plane ret load : Nat) : State :=
  match s.judged link die plane ret load with
    | none => s
    | some t =>
      if t.vCw < s.valLen ∨ s.get TUN.VAL_CFG.VAL_FAIL < t.vFail ∨ ¬ s.valOk t then s else
      let x := s.flink link
      let tag := t.cur.state = .validating
      s.setTset { t with
        prev := none, vCw := 0, vIt := 0, vFail := 0
        cur := { t.cur with
          state := .valid, it0 := t.vIt / t.vCw
          tagTemp := if tag then x.temp.getD t.cur.tagTemp else t.cur.tagTemp, tagBw := if tag then x.bw else t.cur.tagBw } }

/-- A flash set fails: too many failures at once, or a mean beyond the margin at the end. -/
def State.failSet (s : State) (link die plane ret load : Nat) : State :=
  match s.judged link die plane ret load with
    | none => s
    | some t =>
      if ¬ (s.get TUN.VAL_CFG.VAL_FAIL < t.vFail ∨ s.valLen ≤ t.vCw ∧ ¬ s.valOk t) then s else
      let cur := match t.cur.state, t.prev with
        | .candidate, some p => p
        | _, _ => { t.cur with state := .suspect }
      let s := s.setTset { t with
        cur := cur, prev := none, vCw := if cur.state = .suspect then t.vCw else 0, vIt := if cur.state = .suspect then t.vIt else 0
        vFail := 0, winCw := 0, winIt := 0, winTemp := none, winBad := false }
      (s.setB TUN.STS.SUSPECT).record 0x0D01 0 link 0 []

/-- VALIDATION_PASS. -/
def execValidationPass (t : SetRef) (s : State) : Host.Outcome State Fault Refusal :=
  done (match t with
    | .group link die plane ret load => s.passSet link die plane ret load
    | .zone hda zone load => s.passHset hda zone load)

/-- VALIDATION_FAIL. -/
def execValidationFail (t : SetRef) (s : State) : Host.Outcome State Fault Refusal :=
  done (match t with
    | .group link die plane ret load => s.failSet link die plane ret load
    | .zone hda zone load => s.failHset hda zone load)

/-! ## Refresh (R284, R285) -/

/-- REFRESH: a marked FULL flash band, or one FULL for RET_DAYS days. -/
def execRefresh (set zone : Nat) (s : State) : Host.Outcome State Fault Refusal :=
  done (match s.rset set, s.band set zone with
    | some r, some b =>
      let days := s.get TUN.DIST_CFG.RET_DAYS
      if r.tier ≠ 0 ∨ b.state ≠ 2 ∨ b.pinned ∨ b.theirs ∨ ¬ b.marked ∧ days = 0 ∨ s.halted then s else
      let s := if b.marked then s else s.passTo (b.fullAt + days * Config.day)
      let s := (s.bandMembers b).foldl (fun (s : State) c => match s.module (memberNo c) with
        | some m =>
          let blks := (List.range m.dieMap.length).flatMap (fun d =>
            (List.range m.ident.planes).map (fun p => (m.dieAt zone d, p, zone)))
          s.setModule { m with refreshed := (m.refreshed ++ blks).eraseDups }
        | none => s) s
      s.relocateBand b
    | _, _ => s)

/-! ## Patrol (R287 to R289) -/

/-- The spare zones of an HDA that hold reallocated sectors, and how far (R287, R321). -/
def HdaMedia.spareItems (h : HdaMedia) : List (Nat × Nat) :=
  let idx := h.realloc.map (fun e => e.2.1)
  ((idx.map (· / 262144)).eraseDups).map (fun z =>
    (h.ident.userZones + z, ((idx.filter (fun i => i / 262144 = z)).map (fun i => i % 262144 + 1)).foldl max 0))

/-- What a lap covers: FULL and RESERVED flash bands of this head, and the written sectors of the HDA zones on carriers it
drives, those of the spare regions included. -/
def State.lapItems (s : State) : List (Nat × Nat × Nat) :=
  let flash := (s.nv.media.bands.filter (fun b => (b.state = 2 || b.state = 4) && !b.theirs)).flatMap (fun b =>
    match s.rset b.set with
    | some r => if r.tier = 0 then (s.bandMembers b).map (fun c => (c, b.zone, r.zoneSize)) else []
    | none => [])
  let hda := s.nv.media.hdas.flatMap (fun h =>
    if s.on (STR.STRING_STS.DRIVER (h.hda / 2)) then
      ((h.wptr.filter (fun w => w.2 ≠ 0)) ++ h.spareItems).map (fun w => (0x8000 + h.hda, w.1, 4096 * w.2)) else [])
  flash ++ hda

/-- Bytes of a lap's items. -/
def lapBytes (l : List (Nat × Nat × Nat)) : Nat := (l.map (fun x => x.2.2)).sum

/-- A new lap starts now. -/
def State.newLap (s : State) : State :=
  let l := s.lapItems
  (s.setDp fun d => { d with lapAt := s.aon, lapLeft := l, lapAll := lapBytes l, lapCredit := 0 }).put TUN.PAT_STS.LAP_PCT 0

/-- The patrol period in ns. -/
def State.lapNs (s : State) : Nat := max 1 (s.get TUN.PAT_CFG.PERIOD_H) * Config.hour

/-- The quadrant of a member. -/
def memberQuad (code : Nat) : Nat := if memberIsModule code then memberNo code / 12 else memberNo code / 48

/-- Read the blocks of an item at the lowest priority: patrol jobs of a flash zone by block, or one run of an HDA zone. -/
def State.patrolItem (s : State) (x : Nat × Nat × Nat) : State :=
  let code := x.1
  let zone := x.2.1
  if memberIsModule code then
    match s.module (memberNo code), s.nv.media.bands.find? (fun b => b.zone = zone && (b.state = 2 || b.state = 4) && !b.theirs &&
        (s.bandMembers b).contains code) with
    | some m, some b =>
      let pos := ((s.rset b.set).map (fun r => r.members.findIdx (· = code))).getD 0
      let planes := m.ident.planes
      let dies := m.dieMap.length
      (List.range (dies * planes)).foldl (fun (s : State) i =>
        let (j, s) := s.addRead { id := 0, patrol := true, code := code, zone := zone, band := (b.set, b.zone), pos := pos }
        s.readPages j m b ((List.range m.ident.pages).map (fun pg => (pg * (planes * dies) + i, 15))) 1) s
    | _, _ => s
  else
    let hda := memberNo code
    let p := (s.positionsOf code).headD (2 ^ 32, 0)
    let mine := ((s.rset p.1).map (fun r => decide (zone < r.bandZones))).getD false
    let (j, s) := s.addRead
      { id := 0, patrol := true, code := code, zone := zone, band := (p.1, if mine then zone else 2 ^ 32), pos := p.2, open_ := 1 }
    s.askRun hda 3 zone 0 (x.2.2 / 4096) false [] (.read j.id 0)

/-- Take items in order while the credit lasts; an item that may not be read now keeps its place. -/
def State.patrolTake (s : State) (may : State → Nat × Nat × Nat → Bool) : Nat → List (Nat × Nat × Nat) → State
  | _, [] => s
  | credit, x :: rest =>
    if credit < x.2.2 then s.setDp fun d => { d with lapCredit := credit }
    else if may s x then
      let s := s.setDp fun d => { d with lapLeft := d.lapLeft.erase x, lapCredit := credit - x.2.2 }
      (s.patrolItem x).patrolTake may (credit - x.2.2) rest
    else s.patrolTake may credit rest

/-- The lap runs late: the flags and their record. -/
def State.patLate (s : State) : State :=
  ((s.setB TUN.STS.PAT_LATE).setB TUN.PAT_STS.LATE).record 0x0D04 0 0 0 []

/-- PATROL_PACE: every 10 s, at the rate of R288, within the share of each link and the HDAs under patrol of a quadrant; a
gated quadrant sleeps on unless the lap is 5 % of its period behind. -/
def execPatrolPace (s : State) : Host.Outcome State Fault Refusal :=
  done (if s.start.reached < 4 ∨ ¬ s.on TUN.PAT_CFG.EN ∨ s.cmd.inReset ∨ s.halted then s else
    let s := s.passTo (s.nextTick (10 * Config.sec))
    let s := if s.dp.lapAt = 0 then s.newLap else s
    let gone := s.aon - s.dp.lapAt
    let left := lapBytes s.dp.lapLeft
    let secs := max 1 ((s.lapNs - gone) / Config.sec)
    let behind := fun (pct : Nat) => decide (s.dp.lapAll * s.lapNs * pct < (s.dp.lapAll * gone - (s.dp.lapAll - left) * s.lapNs) * 100)
    let slow := behind 5
    let may := fun (s : State) (x : Nat × Nat × Nat) =>
      let q := memberQuad x.1
      let awake := slow || !(s.pwr.quads.getD q .gated).isGated
      if memberIsModule x.1 then
        let k := memberNo x.1
        let rate := if s.get (FLK.LINKk_STS.STATE k) = 2 then 24700000000 else 12350000000
        let busy := ((s.dp.reads.filter (fun j => j.patrol && j.code = x.1)).map (fun j => j.cws.length * 4096)).sum
        awake && s.linkUp k && decide (busy < rate * max 1 (s.get TUN.PAT_CFG.SHARE_PCT) / 100 * 10)
      else
        let under := ((s.dp.runs.filter (fun r => r.cls = 3 && !r.write && r.hda / 48 = q)).map HdaRun.hda).eraseDups
        awake && s.memberReadable x.1 && !under.contains (memberNo x.1) && decide (under.length < min 16 (s.get TUN.PAT_CFG.HDA_STREAMS))
    let s := s.patrolTake may (s.dp.lapCredit + left * 10 / secs) s.dp.lapLeft
    let pct := if s.dp.lapAll = 0 then 100 else 100 * (s.dp.lapAll - lapBytes s.dp.lapLeft) / s.dp.lapAll
    let s := s.put TUN.PAT_STS.LAP_PCT pct
    if behind 10 ∧ ¬ s.on TUN.PAT_STS.LATE then s.patLate else s)

/-- LAP_END (R288, R289): the next lap starts; a lap more than 10 % late sets LATE, one on time clears it. -/
def execLapEnd (s : State) : Host.Outcome State Fault Refusal :=
  done (if s.start.reached < 4 ∨ ¬ s.on TUN.PAT_CFG.EN ∨ s.cmd.inReset ∨ ¬ s.dp.lapLeft.isEmpty ∨ s.dp.lapAt = 0 ∨
      s.dp.reads.any RdJob.patrol then s else
    let due := s.dp.lapAt + s.lapNs
    let late := decide (due + s.lapNs / 10 < s.aon)
    let onTime := decide (s.aon ≤ due)
    let s := (s.passTo due).count TUN.PAT_STS.LAPS 1
    let s := if late ∧ ¬ s.on TUN.PAT_STS.LATE then s.patLate else s
    (s.iff onTime (·.clrB TUN.PAT_STS.LATE)).newLap)

/-! ## Die swaps (Table "Wear, Tuning and Patrol" 1) -/

/-- DIE_SWAP_AGREED (event 2): new bands place the position on the spare die; each band in use keeps the old one until it
has been copied, which starts here (`State.stepSwap`). -/
def execDieSwapAgreed (link : Nat) (s : State) : Host.Outcome State Fault Refusal :=
  done (match s.module link with
    | none => s
    | some m => match m.swap with
      | some (pos, die, old, _) =>
        if ¬ m.agreed then s else
        let zones := s.zonesOf (0x4000 + link)
        s.setModule { m with
          agreed := false, swap := some (pos, die, old, zones), dieMap := m.dieMap.set pos die
          oldDie := zones.map (fun z => (z, pos, old)) ++ m.oldDie }
      | none => s)

/-- DIE_SWAP_DONE (event 4): the last band has moved; the old die is retired and the spare count falls. A dump takes precedence
(R295). -/
def execDieSwapDone (link : Nat) (s : State) : Host.Outcome State Fault Refusal :=
  done (match s.module link with
    | none => s
    | some m => match m.swap with
      | some (pos, die, old, zones) =>
        if m.agreed ∨ m.dieMap.getD pos pos ≠ die ∨ ¬ zones.isEmpty ∨ s.halted then s else
        let m' := { m with
          swap := none
          retiredDies := m.retiredDies ++ [old], spareDies := m.spareDies - 1 }
        let s := (s.setModule m').record 0x0D02 0 link pos []
        if m'.spareDies = 0 then s.raiseStage link 3 else s
      | none => s)

/-! ## TUN command packets (R296, R297) -/

/-- Numbers of sets in a state: listed ones, and of the three that a format gives each group those not listed. -/
def State.setsIn (s : State) (st : TuneState) : Nat :=
  let listed := (s.act.tuning.filter (fun t => t.cur.state = st)).length
  if st = .valid then
    listed + (s.nv.media.modules.map (fun m => 3 * m.ident.dies * m.ident.planes)).sum - (s.act.tuning.filter (fun t => t.load = 1)).length
  else listed

/-- TUN_STATUS. -/
def execTunStatus (p : Packet) (s : State) : Host.Outcome State Fault Refusal :=
  runCmd 0x0D01 p s fun s =>
    let (bs, s) := s.readRegs [0xB0000, 0xB001C]
    s.reply (bs ++ leBytes 4 (s.setsIn .suspect) ++ leBytes 4 (s.setsIn .valid))

/-- The code of a set's state in GROUP_HEALTH. -/
def stateCode : Option TSet → Nat
  | none => Config.setStateCode 4
  | some t => Config.setStateCode (match t.cur.state with
    | .valid => 0
    | .validating => 1
    | .candidate => 2
    | .suspect => 3)

/-- The low byte of a signed number. -/
def sByte (x : Int) : List Byte := [BitVec.ofInt 8 x]

/-- Checks of a link, die and plane: link, then TUN_BAD_GROUP. -/
def State.groupBad (s : State) (link die plane : Nat) : Option (Nat × Nat) :=
  if 48 ≤ link then some (0x000A, 0) else if ¬ s.linkEnabled link then some (0x0004, link) else
  match s.module link with
  | none => some (0x0C01, link)
  | some m => if m.ident.dies ≤ die ∨ m.ident.planes ≤ plane then some (0x0D03, 0) else none

/-- GROUP_HEALTH: the nine sets by retention class, then load class. -/
def execGroupHealth (p : Packet) (s : State) : Host.Outcome State Fault Refusal :=
  runCmd 0x0D02 p s fun s =>
    match s.groupBad (p.u8 0) (p.u8 1) (p.u8 2), s.module (p.u8 0) with
    | some (st, d), _ => s.refuseWith st d
    | none, none => s.refuseWith 0x0C01 (p.u8 0)
    | none, some m =>
      if p.u8 3 ≠ 0 then s.refuseWith 0x000A 3 else
      let one := fun (ret load : Nat) =>
        let t := s.tset (p.u8 0) (p.u8 1) (p.u8 2) ret load
        let v := (t.map TSet.cur).getD { offs := [] }
        leBytes 1 (stateCode t) ++ leBytes 1 (min 255 (v.itMean / 256)) ++ sByte v.tagTemp ++ leBytes 1 v.tagBw
      let sets := [0, 1, 2].flatMap (fun r => [0, 1, 2].flatMap (fun l => one r l))
      let gone := (m.retired.filter (fun x => x.1 = p.u8 1 ∧ x.2.1 = p.u8 2)).length
      s.reply (sets ++ leBytes 2 (m.spareLeft (p.u8 1) (p.u8 2)) ++ leBytes 2 m.eraseMean ++ leBytes 2 gone ++ leBytes 2 0)

/-- MODULE_WEAR: die map entries beyond the positions in service are free (log entry 2). -/
def execModuleWear (p : Packet) (s : State) : Host.Outcome State Fault Refusal :=
  runCmd 0x0D03 p s fun s =>
    if 48 ≤ p.u8 0 then s.refuseWith 0x000A 0 else
    match (List.range 3).find? (fun i => p.u8 (1 + i) ≠ 0) with
    | some i => s.refuseWith 0x000A (1 + i)
    | none => s.onLink (p.u8 0) fun s =>
      let a := 0xB0100 + 8 * p.u8 0
      let (bs, s) := s.readRegs [a, a + 4]
      let map := ((s.module (p.u8 0)).map Module.dieMap).getD []
      let (rest, s) := s.freeBytes (64 - map.length)
      s.reply (bs ++ (map.take 64).flatMap (leBytes 1) ++ rest)

/-- PATROL_RESTART. -/
def execPatrolRestart (p : Packet) (s : State) : Host.Outcome State Fault Refusal :=
  runCmd 0x0D04 p s fun s => s.newLap.reply []

/-- TUNING_FREEZE (expert). -/
def execTuningFreeze (p : Packet) (s : State) : Host.Outcome State Fault Refusal :=
  runCmd 0x8D10 p s fun s =>
    if 2 ≤ p.u8 0 then s.refuseWith 0x000A 0 else
    match (List.range 3).find? (fun i => p.u8 (1 + i) ≠ 0) with
    | some i => s.refuseWith 0x000A (1 + i)
    | none => (s.put TUN.STS.FROZEN (p.u8 0)).reply []

/-- DIE_SWAP (expert): replies once the swap has started (R100). -/
def execDieSwap (p : Packet) (s : State) : Host.Outcome State Fault Refusal :=
  runCmd 0x8D11 p s fun s =>
    if 48 ≤ p.u8 0 then s.refuseWith 0x000A 0 else s.onLink (p.u8 0) fun s =>
    match s.module (p.u8 0) with
    | none => s.refuseWith 0x0C01 (p.u8 0)
    | some m =>
      if m.dieMap.length ≤ p.u8 1 then s.refuseWith 0x000A 1
      else if p.u8 2 ≠ 0 then s.refuseWith 0x000A 2
      else if p.u8 3 ≠ 0 then s.refuseWith 0x000A 3
      else match m.swap with
      | some (_, _, _, zones) => s.refuseWith 0x0D02 (min 0xFFFFFFFF (if zones.isEmpty then (s.zonesOf (0x4000 + p.u8 0)).length else zones.length))
      | none =>
        if m.spareDies = 0 then s.refuseWith 0x0D01 (p.u8 0)
        else (s.retireDie (p.u8 0) (m.dieMap.getD (p.u8 1) 0)).reply []

/-- SET_WRITE (expert): the set is committed VALID, tagged with the current context. -/
def execSetWrite (p : Packet) (s : State) : Host.Outcome State Fault Refusal :=
  runCmd 0x8D12 p s fun s =>
    match s.groupBad (p.u8 0) (p.u8 1) (p.u8 2) with
    | some (st, d) => s.refuseWith st d
    | none =>
      if 3 ≤ p.u8 3 then s.refuseWith 0x000A 3
      else if 3 ≤ p.u8 4 then s.refuseWith 0x000A 4
      else match ([5, 6, 7, 25, 26, 27].find? (fun i => p.u8 i ≠ 0)) with
      | some i => s.refuseWith 0x000A i
      | none =>
        if s.on TUN.STS.FROZEN then s.refuseWith 0x0D04 0 else
        let x := s.flink (p.u8 0)
        let v : TuneVals :=
          { offs := (slice p.params 8 17).map BitVec.toInt, tagTemp := x.temp.getD 0, tagBw := x.bw }
        let t : TSet := { link := p.u8 0, die := p.u8 1, plane := p.u8 2, ret := p.u8 3, load := p.u8 4, cur := v }
        let s := { s with shadow := { s.shadow with tuning := putTset s.shadow.tuning t } }
        { st := if p.commit then s else s.requestCommit }

end Sys2Proof.Machine
end

