-- ==== Sys2Proof/Machine/Redundancy.lean ====
section
/-! DEFINITION. Commands of spec/12: stripes that close, resync, joint decoding, the lost-range table, rebuild and copy-back,
and the RDN command packets. -/

namespace Sys2Proof.Machine

/-! ## The lost-range table (R383 to R385) -/

/-- Two entries of one kind, volume and generation that overlap or adjoin. -/
def Lost.meets (a b : Lost) : Bool :=
  a.kind ≠ 2 && a.kind = b.kind && a.vol = b.vol && a.gen = b.gen && a.gset = b.gset &&
  a.first ≤ b.first + b.count && b.first ≤ a.first + a.count

/-- The entry that covers both, and what lies between them. -/
def Lost.widen (a b : Lost) : Lost :=
  let lo := min a.first b.first
  { a with first := lo, count := max (a.first + a.count) (b.first + b.count) - lo }

/-- One entry holds all of another. -/
def Lost.holds (a b : Lost) : Bool :=
  if b.kind = 2 then a.kind = 2 && a.serial = b.serial
  else a.meets b && a.first ≤ b.first && b.first + b.count ≤ a.first + a.count

/-- A lost range goes to the partner with the map log (R383). -/
def State.shipLost (s : State) (l : Lost) : State :=
  s.ship 6 [l.kind, l.cause, l.vol, l.gen, l.first, l.count, l.set, l.zone, l.serial, b2n l.gset] []

/-- Enter a loss, merged with what it meets; each new entry sets LOST and writes a record. -/
def State.putLost (s : State) (l : Lost) : State :=
  if s.nv.media.lost.any (fun x => x.holds l) then s else
  let all := (s.nv.media.lost.filter l.meets).foldl Lost.widen l
  let s := s.media fun m => { m with lost := m.lost.filter (fun x => ¬ l.meets x) ++ [all] }
  ((s.setB RDN.STS.LOST).record 0x1203 0 l.vol 0 []).shipLost all

/-- Entries of the WRITE_LOST kind, and of the others. -/
def State.writeLosses (s : State) : List Lost := s.nv.media.lost.filter (fun l => l.kind = 3)
def State.otherLosses (s : State) : List Lost := s.nv.media.lost.filter (fun l => l.kind ≠ 3)

/-- The blocks of a version that name a frame, as runs of neighbours: first index and count. -/
def Version.runsOf (v : Version) (serial : Nat) : List (Nat × Nat) :=
  let idx := v.blocks.filterMap (fun b => match b.2 with
    | .frame n _ => if n = serial then some b.1 else none
    | .discarded => none)
  idx.foldl (fun (acc : List (Nat × Nat)) i => match acc.getLast? with
    | some (a, n) => if a + n = i then acc.dropLast ++ [(a, n + 1)] else acc ++ [(i, 1)]
    | none => [(i, 1)]) []

/-- The entries of a lost frame: FRAME with an index entry, else RANGE through every unit version that names it. -/
def State.lossOf (s : State) (cause set zone : Nat) (f : SFrame) : List Lost :=
  if f.digest.isSome then
    [{ kind := 2, cause := cause, vol := f.vol, gen := 0, first := 64 * f.page + f.entry, count := 1, set := set, zone := zone,
       time := s.dev, serial := f.serial }]
  else (s.nv.media.units.filter (fun u => u.vol = f.vol)).flatMap (fun u => u.versions.flatMap (fun v =>
    (v.runsOf f.serial).map (fun r =>
      ({ kind := 1, cause := cause, vol := f.vol, gen := v.gen, gset := v.gset, first := 1024 * u.unit + r.1, count := r.2,
         set := set, zone := zone, time := s.dev } : Lost))))

/-- A frame is lost; a table that is full pins its band instead (R385). -/
def State.loseFrame (s : State) (cause set zone : Nat) (f : SFrame) : State :=
  let new := (s.lossOf cause set zone f).filter (fun l => !s.nv.media.lost.any (fun x => x.holds l))
  if s.otherLosses.length + new.length ≤ 65536 - 4096 then new.foldl State.putLost s else
  match s.band set zone with
  | some b => (s.setBand { b with pinned := true }).setB RDN.STS.PINNED
  | none => s

/-- A column is lost on the members not known: the frames that overlap it there (R374, R383); their reads fail. -/
def State.loseColumn (s : State) (cause : Nat) (c : Column) (unknown : List Nat) : State :=
  let fs := s.nv.media.frames.filter (fun f => f.band = some (c.set, c.zone) && unknown.contains f.pos &&
    (s.colsOf f).contains { c with pos := f.pos })
  fs.foldl (fun (s : State) f => s.loseFrame cause c.set c.zone f) s

/-- A write that is lost for good (R268, R385). -/
def State.loseWrite (s : State) (vol first count : Nat) : State :=
  let v := s.vol vol
  let l : Lost := { kind := 3, cause := 3, vol := vol, gen := (v.map Vol.vgen).getD 0, gset := (v.map Vol.gset).getD false,
                    first := first, count := count, set := 0xFF, zone := 0, time := s.dev }
  if s.writeLosses.length < 4096 ∨ s.writeLosses.any l.meets then s.putLost l else
  let gap := fun (x : Lost) => if x.first + x.count ≤ first then first - (x.first + x.count) else x.first - (first + count)
  let near := (s.writeLosses.filter (fun x => x.vol = vol)).foldl (fun (o : Option Lost) x => match o with
    | some y => if gap x < gap y then some x else o
    | none => some x) none
  match near with
  | some x => (s.media fun m => { m with lost := m.lost.map (fun y => if y = x then x.widen l else y) }).shipLost (x.widen l)
  | none => (s.media fun m => { m with lostVols := insertNat m.lostVols vol }).setB RDN.STS.LOST_OVF

/-- Bytes of an entry (Table "Declustered Redundancy and Rebuild" 5). -/
def Lost.bytes (l : Lost) : List Byte :=
  leBytes 1 l.kind ++ leBytes 1 l.cause ++ leBytes 2 l.vol ++ leBytes 3 l.gen ++ leBytes 1 (b2n l.gset) ++ leBytes 8 l.first ++
  leBytes 4 l.count ++ leBytes 1 l.set ++ leBytes 3 l.zone ++ leBytes 8 l.time

/-! ## Gathering and resync (R368, R371) -/

/-- When the oldest frame that gathers in a stripe came. -/
def State.gatherSince (s : State) (r : RSet) (v : SetVer) (b : Band) (row t : Nat) : Option Nat :=
  (s.dp.writes.filter (fun w => w.frames.any (fun f => f.band = some (b.set, b.zone) && (frameStripes r v b.level f).contains (row, t)))).foldl
    (fun (o : Option Nat) w => match o with
      | some x => some (min x w.at_)
      | none => some w.at_) none

/-- STRIPE_CLOSE_TIMEOUT (R368): not while a dump runs; the rows before it close with it, for strips go out in row
order. -/
def execStripeCloseTimeout (set zone row stripe : Nat) (s : State) : Host.Outcome State Fault Refusal :=
  done (match s.rset set, s.band set zone with
    | some r, some b => match r.version b.ver with
      | none => s
      | some v => match s.gatherSince r v b row stripe with
        | none => s
        | some at_ =>
          if b.state ≠ 1 ∨ b.issued.contains (row, stripe) ∨ s.halted then s else
          let s := s.passTo (at_ + max 1 (s.get RDN.GATHER_CFG.CLOSE_MS) * Config.ms)
          (List.range (row + 1)).foldl (fun (s : State) i => (List.range (r.stripes v)).foldl (fun (s : State) t =>
            if i < row ∨ t = stripe then s.closeStripe set zone i t else s) s) s
    | _, _ => s)

/-- A stripe becomes void: its frames never reached a map commit (R371). -/
def State.voidStripe (s : State) (set zone row t : Nat) : State :=
  match s.band set zone with
  | none => s
  | some b => if b.void.contains (row, t) then s else s.failStripe set zone row t

/-- RESYNC (R371): every stripe of a dirty region is checked; bad: set, zone, row and stripe of those that are incomplete
or break R366. A stripe with a FAILED member counts as incomplete. -/
def execResync (bad : List (Nat × Nat × Nat × Nat)) (s : State) : Host.Outcome State Fault Refusal :=
  done (if ¬ s.dp.resync ∨ s.start.reached < 4 then s else
    let one := fun (s : State) (b : Band) => match s.rset b.set with
      | none => s
      | some r => match r.version b.ver with
        | none => s
        | some v =>
          let rows := (b.dirty.flatMap (fun g => (List.range 64).map (64 * g + ·))).filter (· < r.rows)
          rows.foldl (fun (s : State) row => (List.range (r.stripes v)).foldl (fun (s : State) t =>
            let hole := (stripeOf r v row t).any (fun p => r.pstate.getD p 0 = 2)
            let cut := b.issued.contains (row, t) && !b.done_.contains (row, t)
            if bad.contains (b.set, b.zone, row, t) ∨ b.issued.contains (row, t) ∧ hole ∨ cut then s.voidStripe b.set b.zone row t
            else s) s) s
    let s := (s.nv.media.bands.filter (fun b => b.state = 1 || b.state = 2)).foldl one s
    s.setDp fun d => { d with resync := false })

/-! ## Joint decoding (R373, R374, R382) -/

/-- The HX880 repairs a member that failed its own decode: by refresh on flash, by reallocation on an HDA (R374). -/
def State.repairColumn (s : State) (r : RSet) (c : Column) (pos : Nat) : State :=
  match s.stripPlace r c.zone c.row pos with
  | none => s
  | some (code, zone, base) =>
    if memberIsModule code then
      match s.band c.set c.zone with
      | some b => s.setBand { b with marked := true }
      | none => s
    else s.realloc (memberNo code) (zone * 262144 + (base + 4096 * c.col) / 4096) (s.columnBytes { c with pos := pos })

/-- Whether joint decoding of a column recovers it, and the members not known: more absent than the level, or more
undecoded than the level and EXTRA, give up; as many undecoded as the level solve and always verify; else what the
decoder finds decides. -/
def jointOutcome (level extra absent undecoded : Nat) (ok : Bool) : Bool :=
  if level < absent ∨ level + extra < undecoded then false else if undecoded = level then true else ok

/-- The read command of a job: its data comes from redundancy, or its frame is lost, or a frame that failed its check could
not be reconstructed (R193, R207). -/
def State.markJob (s : State) (j : RdJob) (lost : Bool) : State :=
  { s with hq := { s.hq with cmds := s.hq.cmds.map (fun (x : HCmd) =>
    if x.qpid = j.qpid ∧ x.sub.cid = j.cid ∧ j.serial ≠ 0 then
      { x with recovered := true, lost := if lost && !j.check then j.serial :: x.lost else x.lost,
               failed := if lost && j.check then j.serial :: x.failed else x.failed } else x) } }

/-- The outer iterations a joint decode may take, and those in a row without progress (R374). -/
def State.jsdLimits (s : State) : Nat × Nat :=
  (min 16 (max 1 (s.get RDN.JSD_CFG.OUTER_IT)), max 1 (s.get RDN.JSD_CFG.STALL))

/-- JOINT_DECODE: a column of a job; failed: other members of the stripe whose own decode failed. -/
def execJointDecode (job row col : Nat) (failed : List Nat) (run : JointRun) (s : State) : Host.Outcome State Fault Refusal :=
  done (match s.rjob job with
    | none => s
    | some j =>
      match j.joint.find? (fun c => c.row = row ∧ c.col = col) with
      | none => s
      | some c =>
        match s.rset c.set, s.band c.set c.zone with
        | some r, some b => match r.version b.ver, (r.version b.ver).bind (fun v => slotOf r v row c.pos) with
          | some v, some (t, _) =>
            -- A region under resync is read afterwards; a void stripe is never read (R371).
            if s.dp.resync ∧ b.dirty.contains (row / 64) then s
            else if b.void.contains (row, t) then (s.setRead { j with joint := j.joint.filter (· ≠ c) }).endRead job
            else
              let s := (s.setRead { j with joint := j.joint.filter (· ≠ c) }).endRead job
              let ps := stripeOf r v row t
              let absent := ps.filter (fun p => (s.stripPlace r c.zone row p).isNone)
              let own := fun (p : Nat) => decide (p = c.pos) || failed.contains p
              let open_ := ps.filter (fun p => own p && !absent.contains p)
              let good := jointOutcome b.level (min 3 (s.get RDN.JSD_CFG.EXTRA)) absent.length (absent.length + open_.length)
                (run.ok && decide (run.its ≤ s.jsdLimits.1 ∧ run.stall < s.jsdLimits.2 ∨ absent.length + open_.length < b.level))
              if good then
                let s := s.count RDN.JSD_OK.COUNT 1
                let s := s.markJob j false
                open_.foldl (fun (s : State) p => s.repairColumn r c p) s
              else
                let s := s.count RDN.JSD_FAIL.COUNT 1
                let s := if r.tier = 1 then s.setB HRC.STS.LOST else s
                let s := s.markJob j true
                -- A frame that only failed its check is no lost column: its read ends with CHECK_FAILED (R207).
                if j.check then s else
                s.loseColumn (if b.level < absent.length then 1 else 2) c (absent ++ open_)
          | _, _ => (s.setRead { j with joint := j.joint.filter (· ≠ c) }).endRead job
        | _, _ => (s.setRead { j with joint := j.joint.filter (· ≠ c) }).endRead job)

/-! ## Rebuild (R376 to R382) -/

/-- The strips of a position that are still to move: zone, row and stripe; of this head's bands, and of an absent
partner's (R379, R380). -/
def State.toMove (s : State) (r : RSet) (pos : Nat) : List (Nat × Nat × Nat) :=
  let mine := s.nv.media.bands.filter (fun b => b.set = r.num && (b.state = 1 || b.state = 2 || b.state = 4) &&
    (!b.theirs || s.get NRN.PAIR_STS.ROLE = roleSurvivor))
  mine.flatMap (fun b => match r.version b.ver with
    | none => []
    | some v => b.done_.filterMap (fun x => match slotOf r v x.1 pos with
      | some (t, _) =>
        if t = x.2 ∧ ¬ b.void.contains x ∧ ¬ b.gone.contains (x.1, pos) ∧
            ¬ s.dp.moving.any (fun y => y.strip.set = r.num && y.strip.zone = b.zone && y.strip.row = x.1 && y.strip.pos = pos) ∧
            ¬ s.nv.media.strips.any (fun y => y.set = r.num && y.zone = b.zone && y.row = x.1 && y.pos = pos)
        then some (b.zone, x.1, t) else none
      | none => none))

/-- Members of a stripe that are FAILED and not rebuilt (R379). -/
def State.missingOf (s : State) (r : RSet) (zone row t : Nat) : List Nat :=
  match s.band r.num zone with
  | none => []
  | some b => match r.version b.ver with
    | none => []
    | some v => (stripeOf r v row t).filter (fun p => (r.pstate.getD p 0 = 2 || r.pstate.getD p 0 = 4) &&
        (s.stripPlace r zone row p).isNone)

/-- Level of a band. -/
def State.levelAt (s : State) (set zone : Nat) : Nat := ((s.band set zone).map Band.level).getD 0

/-- Positions that a set rebuilds now. -/
def State.rebuilding (s : State) (set : Nat) : List Rebuild := s.nv.media.rebuilds.filter (fun x => x.set = set && !x.copy)

/-- Bytes read to move a strip of a position (R379). -/
def State.moveCost (s : State) (r : RSet) (pos zone : Nat) : Nat :=
  if r.pstate.getD pos 0 = 1 then r.strip else (r.width - s.levelAt r.num zone) * r.strip

/-- Bytes left to read for a set. -/
def State.leftToRead (s : State) (r : RSet) : Nat :=
  (((s.rebuilding r.num).map (fun x => ((s.toMove r x.pos).map (fun y => s.moveCost r x.pos y.1)).sum)).sum)

/-- REBUILD_START (Table "Declustered Redundancy and Rebuild" 4, event 4). -/
def execRebuildStart (set : Nat) (s : State) : Host.Outcome State Fault Refusal :=
  done (match s.rset set with
    | none => s
    | some r =>
      if s.start.reached < 4 ∨ s.cmd.inReset then s else
      let new := (List.range r.members.length).filter (fun p => (r.pstate.getD p 0 = 1 || r.pstate.getD p 0 = 2) &&
        !s.nv.media.rebuilds.any (fun x => x.set = set && x.pos = p))
      let add := fun (s : State) (p : Nat) =>
        let n := ((s.toMove r p).map (fun y => s.moveCost r p y.1)).sum
        s.media fun m => { m with rebuilds := m.rebuilds ++
          [{ set := set, pos := p, copy := false, startAt := s.aon, left := n, total := n, started := true }] }
      new.foldl add s)

/-- The open spare zone of a position: one that is begun and not full, else the first free one. -/
def State.openSpare (s : State) (r : RSet) (pos : Nat) : Option Nat :=
  let zs := (List.range r.spareZones).map (r.firstSpare + ·)
  match zs.find? (fun z => let n := s.spareFillOf r.num pos z; 0 < n && n < r.rows) with
  | some z => some z
  | none => zs.find? (fun z => s.spareFillOf r.num pos z = 0 && 0 < r.rows)

/-- Where a strip of a stripe goes: the ACTIVE position without a strip of the stripe that has the most free spare strips,
the lowest on a tie (R377). -/
def State.spareTarget (s : State) (r : RSet) (zone row t : Nat) : Option Nat :=
  match s.band r.num zone with
  | none => none
  | some b => match r.version b.ver with
    | none => none
    | some v =>
      let there := stripeOf r v row t
      let has := fun (p : Nat) => there.contains p ||
        (s.nv.media.strips ++ s.dp.moving.map Moving.strip).any
          (fun x => x.set = r.num && x.zone = zone && x.row = row && x.target = p && there.contains x.pos)
      let cand := (List.range r.members.length).filter (fun p => r.pstate.getD p 0 = 0 && !has p && 0 < s.spareStrips r p)
      cand.foldl (fun (o : Option Nat) p => match o with
        | some q => if s.spareStrips r q < s.spareStrips r p then some p else o
        | none => some p) none

/-- Write a strip at a place of a member's zone. -/
def State.writeAt (s : State) (r : RSet) (code zone index : Nat) (data : List Byte) (use_ : BrUse) : State :=
  if memberIsModule code then
    match s.module (memberNo code) with
    | none => s
    | some m => s.programFlash m zone (index * r.strip) data use_
  else s.askRun (memberNo code) 1 zone (index * r.strip / 4096) (r.strip / 4096) true data use_

/-- Move a strip into spare capacity; its entry waits for the strip and for the map log (R377). A zone that no strip has ever been
in is cleared first. -/
def State.moveStrip (s : State) (r : RSet) (pos zone row t : Nat) : State :=
  match s.spareTarget r zone row t with
  | none => (s.setB RDN.STS.SPARE_OUT).record 0x1204 (locQuad r.quad) r.num 0 []
  | some p => match s.openSpare r p with
    | none => s
    | some z =>
      let n := s.spareFillOf r.num p z
      let data := match s.band r.num zone with
        | some b => ((r.version b.ver).map (fun v => s.stripData r v b row pos)).getD []
        | none => []
      let k := spareKey r.num p z
      let s := if (fldFind s.nv.media.spareFill k).isNone then s.clearZone (r.member p) z else s
      let x : RStrip := { set := r.num, zone := zone, row := row, pos := pos, target := p, spareZone := z, index := n }
      let left := if memberIsModule (r.member p) then slotCount data else 1
      let s := s.setDp fun d => { d with moving := d.moving ++ [{ strip := x, left := left }] }
      let s := s.media fun m => { m with spareFill := fldSet m.spareFill k (n + 2) 0 }
      s.writeAt r (r.member p) z n data (.spare r.num zone row pos)

/-- A stripe lacks more members than its level: its columns on the missing positions are lost, and its strips are moved no
more (R381). -/
def State.loseStripe (s : State) (r : RSet) (zone row : Nat) (missing : List Nat) : State :=
  let cols := r.strip / 4096
  let s := (List.range cols).foldl (fun (s : State) c =>
    missing.foldl (fun (s : State) p => s.loseColumn 1 { set := r.num, zone := zone, row := row, col := c, pos := p } missing) s)
    (s.count RDN.JSD_FAIL.COUNT (cols * missing.length))
  match s.band r.num zone with
  | some b => s.setBand { b with gone := b.gone ++ (missing.map (fun p => (row, p))).filter (fun x => ¬ b.gone.contains x) }
  | none => s

/-- The work of a set in the order of R379: position, zone, row and stripe, most missing members first, then by zone, then
by row; paused sets keep their critical stripes (R390). -/
def State.rebuildQueue (s : State) (r : RSet) : List (Nat × Nat × Nat × Nat) :=
  let all := (s.rebuilding r.num).flatMap (fun x => (s.toMove r x.pos).map (fun y => (x.pos, y.1, y.2.1, y.2.2)))
  let miss := fun (x : Nat × Nat × Nat × Nat) => (s.missingOf r x.2.1 x.2.2.1 x.2.2.2).length
  let crit := fun (x : Nat × Nat × Nat × Nat) => s.levelAt r.num x.2.1 ≤ miss x
  let all := if s.dp.paused.contains r.num then all.filter crit else all
  let le := fun (a b : Nat × Nat × Nat × Nat) =>
    miss b < miss a || miss a = miss b && (a.2.1 < b.2.1 || a.2.1 = b.2.1 && a.2.2.1 ≤ b.2.2.1)
  all.foldl (fun (acc : List (Nat × Nat × Nat × Nat)) x => acc.takeWhile (fun y => le y x) ++ [x] ++ acc.dropWhile (fun y => le y x)) []

/-- Move strips while bytes are left; bad: zone, row and column of columns whose decode gave up (R382). -/
def State.rebuildStep (s : State) (r : RSet) (bad : List (Nat × Nat × Nat)) : Nat → List (Nat × Nat × Nat × Nat) → State
  | _, [] => s
  | budget, (pos, zone, row, t) :: rest =>
    if budget = 0 then s else
    let cost := s.moveCost r pos zone
    let missing := s.missingOf r zone row t
    if s.levelAt r.num zone < missing.length then (s.loseStripe r zone row missing).rebuildStep r bad budget rest
    else if (s.band r.num zone).any (fun b => b.gone.contains (row, pos)) then s.rebuildStep r bad budget rest
    else
      let lost := (bad.filter (fun x => x.1 = zone && x.2.1 = row)).map (fun x => x.2.2)
      let cols := r.strip / 4096
      let s := lost.foldl (fun (s : State) c => s.loseColumn 2 { set := r.num, zone := zone, row := row, col := c, pos := pos } [pos])
        (s.count RDN.JSD_FAIL.COUNT lost.length)
      let s := if r.pstate.getD pos 0 = 1 then s else s.count RDN.JSD_OK.COUNT (cols - lost.length)
      (s.moveStrip r pos zone row t).rebuildStep r bad (budget - cost) rest

/-- Rate of a member for this head, in bytes per second: the link's payload rate, or the HDA's delivery
rate in the zone that is read. -/
def State.memberRate (s : State) (code zone : Nat) : Nat :=
  if memberIsModule code then (if s.get (FLK.LINKk_STS.STATE (memberNo code)) = 2 then 24700000000 else 12350000000)
  else ((s.hdaIdent (memberNo code)).map (fun i => i.zoneRate zone)).getD 0

/-- The shares in force (spec/12, RDN_REBUILD_CFG). -/
def State.sharePct (s : State) : Nat := min 100 (s.get RDN.REBUILD_CFG.SHARE_PCT)
def State.critPct (s : State) : Nat := max s.sharePct (s.get RDN.REBUILD_CFG.CRIT_PCT)

/-- cap of R380 while a band zone is read: host gives a position's class-0 read bytes of the last second. -/
def State.rebuildCap (s : State) (r : RSet) (zone pct : Nat) (host : List (Nat × Nat)) : Nat :=
  let read := (List.range r.members.length).filter (fun p => r.pstate.getD p 0 ≤ 1 && s.memberReadable (r.member p))
  (read.map (fun p => let m := s.memberRate (r.member p) zone; max (m * pct / 100) (m - (fldFind host p).getD 0))).sum

/-- REBUILD_PACE: every second; a dump comes first, and new jobs wait for the firmware (R389). -/
def execRebuildPace (set : Nat) (host : List (Nat × Nat)) (bad : List (Nat × Nat × Nat)) (s : State) :
    Host.Outcome State Fault Refusal :=
  done (match s.rset set with
    | none => s
    | some r =>
      if s.start.reached < 4 ∨ (s.rebuilding set).isEmpty ∨ s.cmd.inReset ∨ s.halted then s else
      let s := s.passTo (s.nextTick Config.sec)
      let q := s.rebuildQueue r
      let crit := q.any (fun x => s.levelAt set x.2.1 ≤ (s.missingOf r x.2.1 x.2.2.1 x.2.2.2).length)
      let cap := s.rebuildCap r ((q.head?.map (fun x => x.2.1)).getD 0) (if crit then s.critPct else s.sharePct) host
      let began := ((s.rebuilding set).map Rebuild.startAt).foldl min s.aon
      let want := s.leftToRead r / max 1 (max 1 (s.get RDN.REBUILD_CFG.TARGET_H) * 3600 - (s.aon - began) / Config.sec)
      let rate := min cap (max want (s.get RDN.REBUILD_MIN.MIN_MBPS * 1000000))
      let s := if cap < want then s.setB RDN.STS.REBUILD_LATE else s
      let s := s.rebuildStep r bad rate q
      s.media fun m => { m with rebuilds := m.rebuilds.map (fun x => if x.set = set ∧ ¬ x.copy then { x with rate := rate } else x) })

/-- POSITION_REBUILT (event 5): nothing of it is left to move. -/
def execPositionRebuilt (set pos : Nat) (s : State) : Host.Outcome State Fault Refusal :=
  done (match s.rset set with
    | none => s
    | some r =>
      if ¬ (s.rebuilding set).any (fun x => x.pos = pos) ∨ ¬ (s.toMove r pos).isEmpty ∨
          s.dp.moving.any (fun x => x.strip.set = set && x.strip.pos = pos) then s else
      let s := s.media fun m => { m with rebuilds := m.rebuilds.filter (fun x => ¬ (x.set = set ∧ x.pos = pos)) }
      let st := r.pstate.getD pos 0
      if st = 1 ∨ st = 2 then (s.record 0x1202 (locQuad r.quad) set pos []).propose (.position set pos 3) else s)

/-! ## Copy-back (R386) -/

/-- Write a band's zone on the new member in row order: rows that were written, idle strips as zeros. -/
def State.copyZone (s : State) (r : RSet) (b : Band) (pos : Nat) : State :=
  match r.version b.ver with
  | none => s
  | some v =>
    let rows := (List.range r.rows).filter (fun row => b.done_.any (fun x => x.1 = row))
    let s := rows.foldl (fun (s : State) row => s.writeAt r (r.member pos) b.zone row (s.stripData r v b row pos) .other)
      (s.clearZone (r.member pos) b.zone)
    let n := rows.length * (r.strip / 4096)
    if memberIsModule (r.member pos) then s else
    match s.hdaMedia (memberNo (r.member pos)) with
    | some m => s.setHdaMedia { m with wptr := fldSet m.wptr b.zone n 0 }
    | none => s

/-- COPYBACK_BAND_DONE: the band's table entries end; after the last one the position is ACTIVE again. -/
def execCopybackBandDone (set pos zone : Nat) (s : State) : Host.Outcome State Fault Refusal :=
  done (match s.rset set, s.nv.media.rebuilds.find? (fun x => x.set = set ∧ x.pos = pos ∧ x.copy) with
    | some r, some x =>
      if ¬ x.bands.contains zone ∨ r.pstate.getD pos 0 ≠ 4 ∨ s.halted then s else
      let s := match s.band set zone with
        | some b => s.copyZone r b pos
        | none => s
      let x := { x with bands := x.bands.filter (· ≠ zone) }
      let s := s.media fun m => { m with
        strips := m.strips.filter (fun y => ¬ (y.set = set ∧ y.zone = zone ∧ y.pos = pos))
        rebuilds := x :: m.rebuilds.filter (fun y => ¬ (y.set = set ∧ y.pos = pos ∧ y.copy)) }
      if ¬ x.bands.isEmpty then s else
      (s.media fun m => { m with rebuilds := m.rebuilds.filter (fun y => ¬ (y.set = set ∧ y.pos = pos ∧ y.copy)) }).propose
        (.position set pos 0)
    | _, _ => s)

/-! ## RDN command packets (Table "Declustered Redundancy and Rebuild" 6) -/

/-- A set of the shadow table. -/
def State.shadowSet (s : State) (n : Nat) : Option RSet := s.shadow.sets.find? (fun r => r.num = n)

/-- Where SET_CREATE's parameters break R361: the byte offset. -/
def geometryBad (p : Packet) : Option Nat :=
  let n := p.u8 3
  let width := p.u8 4
  if 64 ≤ p.u8 0 then some 0
  else if 2 ≤ p.u8 1 then some 1
  else if 4 ≤ p.u8 2 then some 2
  else if n < 7 ∨ 64 < n ∨ p.plen ≠ 16 + 2 * n then some 3
  else if width < 6 ∨ 30 < width ∨ n < width + 1 then some 4
  else if p.u8 5 = 0 ∨ 3 < p.u8 5 then some 5
  else if p.u8 6 < 16 ∨ 22 < p.u8 6 then some 6
  else if p.u16 7 = 0 ∨ 255 < p.u16 7 then some 7
  else none

/-- The first member of the wrong tier or quadrant, as a byte offset. -/
def memberBad (tier quad : Nat) (ms : List Nat) : Option Nat :=
  (ms.findIdx? (fun c => memberIsModule c ≠ (tier = 0) || bitsAt c 14 2 ≠ (if tier = 0 then 1 else 2) || memberQuad c ≠ quad)).map (16 + 2 * ·)

/-- A member in a set, with a zone that is not FREE or another zone size than the first. -/
def State.memberBusy (s : State) (ms : List Nat) : Option Nat :=
  let z := s.memberZones (ms.headD 0)
  (ms.zipIdx.find? (fun x => s.shadow.sets.any (fun r => r.members.contains x.1) || decide ((ms.take x.2).contains x.1) ||
    (s.memberZones x.1).1 = 0 || (s.memberZones x.1).2 ≠ z.2)).map Prod.fst

/-- SET_CREATE. -/
def execSetCreate (p : Packet) (s : State) : Host.Outcome State Fault Refusal :=
  runCmd 0x1201 p s fun s =>
    let ms := (List.range (p.u8 3)).map (fun i => p.u16 (16 + 2 * i))
    let zone := (s.memberZones (ms.headD 0)).2
    if ¬ s.isCapo then s.refuseWith 0x1201 s.capoHead
    else match geometryBad p with
    | some off => s.refuseWith 0x1202 off
    | none =>
      match (List.range 7).find? (fun i => p.u8 (9 + i) ≠ 0) with
      | some i => s.refuseWith 0x000A (9 + i)
      | none =>
        if (s.shadowSet (p.u8 0)).isSome then s.refuseWith 0x1202 0
        else match memberBad (p.u8 1) (p.u8 2) ms, s.memberBusy ms with
        | some off, _ => s.refuseWith 0x1202 off
        | none, some c => s.refuseWith 0x1203 c
        | none, none =>
          if zone % 2 ^ p.u8 6 ≠ 0 then s.refuseWith 0x1202 6
          else if (s.memberZones (ms.headD 0)).1 ≤ p.u16 7 then s.refuseWith 0x1202 7
          else (s.propose (.create (p.u8 0) (p.u8 1) (p.u8 2) (p.u8 4) (p.u8 5) (p.u8 6) (p.u16 7) ms)).reply []

/-- SET_STATUS. -/
def execSetStatus (p : Packet) (s : State) : Host.Outcome State Fault Refusal :=
  runCmd 0x1202 p s fun s =>
    match (List.range 3).find? (fun i => p.u8 (1 + i) ≠ 0), s.rset (p.u8 0) with
    | some i, _ => s.refuseWith 0x000A (1 + i)
    | none, none => s.refuseWith 0x1204 (p.u8 0)
    | none, some r =>
      let (bs, s) := s.readRegs [0x100100 + 4 * r.num]
      let left := s.leftToRead r
      let rate := ((s.rebuilding r.num).map Rebuild.rate).foldl max 0
      s.reply (bs ++ leBytes 8 left ++ leBytes 4 (min 0xFFFFFFFF (if rate = 0 then 0 else left / rate)) ++
        leBytes 4 ((s.nv.media.lost.filter (fun l => l.set = r.num && l.kind ≠ 3)).length) ++
        (List.range 64).flatMap (fun i => leBytes 1 (r.pstate.getD i 0)))

/-- FRET_READ: a set version, in two parts. -/
def execFretRead (p : Packet) (s : State) : Host.Outcome State Fault Refusal :=
  runCmd 0x1203 p s fun s =>
    if p.u8 2 ≠ 0 then s.refuseWith 0x000A 2
    else if 2 ≤ p.u8 3 then s.refuseWith 0x000A 3
    else match s.rset (p.u8 0) with
    | none => s.refuseWith 0x1204 (p.u8 0)
    | some r => match r.version (p.u8 1) with
      | none => s.refuseWith 0x1204 (p.u8 0)
      | some v => s.reply (if p.u8 3 = 0 then (r.verBytes v).take 4096 else slice (r.verBytes v) 4096 256)

/-- LEVEL_SET, on the owning head (R394). -/
def execLevelSet (p : Packet) (s : State) : Host.Outcome State Fault Refusal :=
  runCmd 0x1204 p s fun s =>
    match s.shadowVol (p.u16 0) with
    | none => s.refuseWith 0x000A 0
    | some v =>
      if ¬ s.serves v then s.refuseWith 0x1301 (1 - s.headNo)
      else if p.u8 2 = 0 ∨ 3 < p.u8 2 then s.refuseWith 0x000A 2
      else if p.u8 3 ≠ 0 then s.refuseWith 0x000A 3
      else (s.setShadowVol { v with level := p.u8 2 }).reply []

/-- LOST_LIST. -/
def execLostList (p : Packet) (s : State) : Host.Outcome State Fault Refusal :=
  runCmd 0x1205 p s fun s =>
    s.reply (leBytes 4 s.nv.media.lost.length ++ ((s.nv.media.lost.drop (p.u32 0)).take 127).flatMap Lost.bytes)

/-- A position that a command names: the set, or the refusal. -/
def State.posCheck (s : State) (set pos : Nat) : Except (Nat × Nat) RSet :=
  match s.rset set with
  | none => .error (0x1204, set)
  | some r => if r.members.length ≤ pos then .error (0x000A, 1) else .ok r

/-- REPLACE: the copy-back starts with the commit. -/
def execReplace (p : Packet) (s : State) : Host.Outcome State Fault Refusal :=
  runCmd 0x1206 p s fun s =>
    let code := p.u16 2
    if ¬ s.isCapo then s.refuseWith 0x1201 s.capoHead else
    match s.posCheck (p.u8 0) (p.u8 1) with
    | .error e => s.refuseWith e.1 e.2
    | .ok r =>
      let st := r.pstate.getD (p.u8 1) 0
      let z := s.memberZones code
      let tierOk := memberIsModule code = (r.tier = 0) && memberQuad code = r.quad
      if st ≠ 2 ∧ st ≠ 3 then s.refuseWith 0x1205 st
      else if (r.member (p.u8 1) ≠ code && s.shadow.sets.any (fun x => x.members.contains code)) || z.1 = 0 || z.2 ≠ r.zoneSize || !tierOk then
        s.refuseWith 0x1203 code
      else if 8 ≤ (s.liveVers r).length then s.refuseWith 0x1206 r.num
      else (s.propose (.replace r.num (p.u8 1) code)).reply []

/-- MEMBER_FAIL (expert). -/
def execMemberFail (p : Packet) (s : State) : Host.Outcome State Fault Refusal :=
  runCmd 0x9210 p s fun s =>
    if ¬ s.isCapo then s.refuseWith 0x1201 s.capoHead else
    match s.posCheck (p.u8 0) (p.u8 1) with
    | .error e => s.refuseWith e.1 e.2
    | .ok r =>
      let st := r.pstate.getD (p.u8 1) 0
      let want := if p.u8 2 = 0 then 2 else 1
      let ok := st = 0 || want = 2 && (st = 1 || st = 4)
      if 2 ≤ p.u8 2 then s.refuseWith 0x000A 2
      else if p.u8 3 ≠ 0 then s.refuseWith 0x000A 3
      else if ¬ ok then s.refuseWith 0x1205 st
      else if st = 0 ∧ 8 ≤ (s.liveVers r).length then s.refuseWith 0x1206 r.num
      else (s.failPosition r.num (p.u8 1) want).reply []

/-- REBUILD_PAUSE (expert). -/
def execRebuildPause (p : Packet) (s : State) : Host.Outcome State Fault Refusal :=
  runCmd 0x9211 p s fun s =>
    match s.rset (p.u8 0) with
    | none => s.refuseWith 0x1204 (p.u8 0)
    | some r =>
      if 2 ≤ p.u8 1 then s.refuseWith 0x000A 1
      else if p.u8 2 ≠ 0 then s.refuseWith 0x000A 2
      else if p.u8 3 ≠ 0 then s.refuseWith 0x000A 3
      else (s.setDp fun d => { d with
        paused := if p.u8 1 = 1 then insertNat d.paused r.num else d.paused.filter (· ≠ r.num) }).reply []

end Sys2Proof.Machine
end

