-- ==== Sys2Proof/Machine/Dump.lean ====
section
/-! DEFINITION. Commands of spec/08 for the power-loss dump and its restore. -/

namespace Sys2Proof.Machine

/-! ## The dump (Table "Flash Modules and the Translation Layer" 10) -/

/-- Bytes of a job's frames. -/
def WJob.bytes (w : WJob) : Nat := (w.frames.map SFrame.size).sum

/-- Data a dump takes: own first, then adopted, each oldest first (R429). -/
def State.dumpJobs (s : State) : List WJob :=
  let js := s.dp.writes.filter (fun w => !w.through && (match w.kind with
    | .reloc _ => false
    | _ => true))
  js.filter (fun w => !w.adopted) ++ js.filter WJob.adopted

/-- Modules that still take part. -/
def State.dumpModules (s : State) : List Nat := ((s.nv.media.dumpStart.map Prod.snd).getD []).filter s.linkUp

/-- Give each job that fits to a module, a free choice (R266 gives the shares' proportion only); jobs that do not fit. -/
def State.dumpShares (s : State) (room : Nat) : List WJob → State × List WJob
  | [] => (s, [])
  | w :: ws =>
    let ms := s.dumpModules
    if ms.isEmpty ∨ room < w.bytes then
      let (s, out) := s.dumpShares room ws
      (s, w :: out)
    else
      let (n, s) := s.draw
      let k := ms.getD (n % ms.length) 0
      let s := s.dumpProgram k (w.frames.flatMap s.frameBytes)
      let s := s.media fun m => { m with dumped := m.dumped ++ [(k, w)] }
      s.dumpShares (room - w.bytes) ws

/-- DUMP_FRAMES_DONE: event 3, ns after the trigger; a warm reset parks or hands over its HDAs first (R85). -/
def execDumpFramesDone (ns : Nat) (s : State) : Host.Outcome State Fault Refusal :=
  let waits := s.start.warm = .dumping ∧ (List.range 192).any (fun h => s.drives h && 1 ≤ s.srvState h && s.srvState h ≤ 5)
  done (if ¬ s.on FTL.DUMP_STS.RUN ∨ s.dp.dumpPhase ≠ 1 ∨ waits then s else
    let s := s.passTo (s.dp.dumpAt + ns)
    let room := min (2 ^ 34) ((s.dumpModules.map s.dumpRate).sum * 287000)
    let (s, left) := s.dumpShares room s.dumpJobs
    let s := (left.filter WJob.adopted).foldl (fun (s : State) w => s.loseWrite w.vol w.slba w.nblk) s
    s.setDp fun d => { d with dumpPhase := 2 })

/-- The bytes of a module's share. -/
def State.dumpShare (s : State) (link : Nat) : List Byte :=
  (s.nv.media.dumped.filter (fun x => x.1 = link)).flatMap (fun x => x.2.frames.flatMap s.frameBytes)

/-- A dump record's bytes, with the CRC-32C over its share: the order of its fields is the model's (log entry 152). -/
def State.dumpRecord (s : State) (r : DumpRec) : List Byte :=
  leBytes 4 r.seq ++ leBytes 4 r.modules ++ leBytes 8 r.bytes ++ leBytes 4 r.time ++ leBytes 4 (crc32c (s.dumpShare r.link))

/-- DUMP_LOG_DONE: event 4, ns after the trigger. -/
def execDumpLogDone (ns : Nat) (s : State) : Host.Outcome State Fault Refusal :=
  done (if ¬ s.on FTL.DUMP_STS.RUN ∨ s.dp.dumpPhase ≠ 2 then s else
    let s := s.passTo (s.dp.dumpAt + ns)
    let s := s.setDp fun d => { d with dumpPhase := 3 }
    let t := (s.aon - s.dp.dumpAt) / (10 * Config.us)
    match s.nv.media.dumpStart with
    | none => s
    | some (seq, ms) =>
      let recs := s.dumpModules.map (fun k => ({
        link := k, seq := seq, modules := ms.length, time := t
        bytes := ((s.nv.media.dumped.filter (fun x => x.1 = k)).map (fun x => x.2.bytes)).sum } : DumpRec))
      let s := s.media fun m => { m with dumpRecs := recs }
      recs.foldl (fun (s : State) r => s.dumpProgram r.link (s.dumpRecord r)) s)

/-- DUMP_DONE: event 5, ns after the trigger (R533); after a warm reset's dump, FENCE (self, 1) (R431). -/
def execDumpDone (ns : Nat) (s : State) : Host.Outcome State Fault Refusal :=
  done (if ¬ s.on FTL.DUMP_STS.RUN ∨ s.dp.dumpPhase ≠ 3 then s else
    let t := (s.aon - s.dp.dumpAt) / (10 * Config.us)
    let t := ((s.nv.media.dumpRecs.head?).map DumpRec.time).getD t
    let s := s.passTo (s.dp.dumpAt + ns)
    let s := ((s.clrB FTL.DUMP_STS.RUN).setB FTL.DUMP_STS.DONE).put FTL.DUMP_STS.LAST_10US (min 0xFFFF t)
    let s := s.setDp fun d => { d with dumpPhase := 4 }
    if s.start.warm = .dumping then s.fenceSelf else s)

/-! ## The restore (R267, R268, R533) -/

/-- A dumped job returns to the write cache, without a place, under a number of its own. -/
def State.restoreJob (s : State) (w : WJob) : State :=
  let v := s.vol w.vol
  let w' : WJob := { w with
    id := s.dp.nextWrite, completed := true, adopted := true, sent := false, mirrored := false, durable := false
    epoch := s.get SYS.EPOCH_NUM.NUM, vgen := (v.map Vol.vgen).getD w.vgen, gset := (v.map Vol.gset).getD w.gset
    frames := w.frames.map (fun f => { f with band := none, pos := 0, off := 0 }) }
  s.setDp fun d => { d with writes := d.writes ++ [w'], nextWrite := d.nextWrite + 1, restored := d.restored ++ [w'.id] }

/-- DUMP_RESTORE: between S1 and S2; intact: the modules whose dump record reads intact. -/
def execDumpRestore (intact : List Nat) (s : State) : Host.Outcome State Fault Refusal :=
  done (if s.start.reached ≠ 2 ∨ s.dp.dumpRead ∨ s.on SYS.START_STS.DEAD then s else
    let s := s.setDp fun d => { d with dumpRead := true }
    match s.nv.media.dumpStart with
    | none => s
    | some (seq, ms) =>
      let ok := fun (k : Nat) => intact.contains k && s.nv.media.dumpRecs.any (fun r => r.link = k && r.seq = seq)
      let s := if ms.all ok then
          (s.setB FTL.DUMP_STS.DONE).put FTL.DUMP_STS.LAST_10US (min 0xFFFF (((s.nv.media.dumpRecs.head?).map DumpRec.time).getD 0))
        else (s.setB FTL.DUMP_STS.INCOMPLETE).record 0x0B02 0 seq 0 []
      let all := s.nv.media.dumped
      let s := ((all.filter (fun x => ok x.1)).map Prod.snd).foldl State.restoreJob s
      let s := s.setPair fun p => { p with missing := (all.filter (fun x => !ok x.1)).map Prod.snd }
      if ms.all ok then s.setDp fun d => { d with resync := false } else s)

/-- DUMP_RESTORED: after S3, every restored write has reached its map commit; the zones are erased and the others become
current. -/
def execDumpRestored (s : State) : Host.Outcome State Fault Refusal :=
  done (if s.start.reached < 4 ∨ ¬ s.dp.dumpRead ∨ ¬ s.dp.restored.isEmpty ∨ ¬ s.pair.missing.isEmpty ∨
      s.on FTL.DUMP_STS.RESTORED ∨ s.nv.media.dumpStart.isNone ∨ s.halted then s else
    let used := s.nv.media.dumpUsed
    let s := used.foldl (fun (s : State) k => match s.module k with
      | some m => m.dumpDies.foldl (fun (s : State) d =>
          s.sendBridge k 3 [d, 2 ^ m.ident.planes - 1, s.dumpBlock m] [] .other) s
      | none => s) s
    let s := s.media fun m => { m with
      dumpZone := used.foldl (fun z k => fldSet z k (1 - (fldFind z k).getD 0) 0) m.dumpZone
      dumpUsed := [], dumpStart := none, dumpRecs := [], dumped := [] }
    s.setB FTL.DUMP_STS.RESTORED)

end Sys2Proof.Machine
end

