-- ==== Sys2Proof/Machine/Nerryn.lean ====
section
/-! DEFINITION. Commands of spec/14: training and the pair check, messages, proposals, capo swaps, quorum and takeover, resync
and the NRN command packets. -/

namespace Sys2Proof.Machine

/-! ## Receiving a message (R413, R414) -/

/-- A message is dropped and counted; the third within 1 s retrains the link. -/
def State.dropMessage (s : State) : State :=
  let ds := s.aon :: s.pair.drops.filter (fun t => s.aon < t + Config.sec)
  let s := (s.count NRN.STS.SEAL_FAIL 1).setPair fun p => { p with drops := if 3 ≤ ds.length then [] else ds }
  if 3 ≤ ds.length then s.retrain .nerryn else s

/-- The tag verifies, the key epoch is current and the sequence number is the next. -/
def State.sealGood (s : State) (x : Seal) : Bool :=
  x.tagOk && decide (x.epoch = s.get NRN.KEY_EPOCH.EPOCH) && decide (x.mseq = s.pair.mseqRx)

/-- Receive a message; always: also on a refused link. Intake stops in a warm reset and with the draw limit (R85, R50). -/
def State.receive (s : State) (x : Seal) (always : Bool) (f : State → State) : State :=
  if ¬ s.on NRN.STS.UP ∨ s.intakeStopped then s
  else if ¬ s.sealGood x then s.dropMessage
  else
    let s := s.setPair fun p => { p with mseqRx := p.mseqRx + 1, lastRx := s.aon }
    if always ∨ s.get NRN.PAIR_STS.PARTNER ≠ 2 then f s else s

/-! ## Training and the pair check (R410, R414, R416) -/

/-- What this head's HELLO and HEARTBEAT carry. -/
def State.sendHello (s : State) : State :=
  s.sendNrn 9 0 [s.headNo, s.get SYS.ID.VARIANT, s.nv.image.version, b2n s.nv.image.pairStep, s.nv.keyMark, s.get SYS.START_STS.STAGE,
    s.get NRN.PAIR_VER.VER] (s.nv.serial ++ kcv s.ark)

/-- NERRYN_TRAINED: mark is the partner's epoch high-water mark. The new mark is stored before any sealed message. -/
def execNerrynTrained (mark : Nat) (s : State) : Host.Outcome State Fault Refusal :=
  done (if s.start.reached < 2 ∨ s.on SYS.START_STS.DEAD then s else
    let again := s.on NRN.STS.UP
    let e := (max s.nv.keyMark mark + 1) % 2 ^ 32
    let s := (({ s with nv := { s.nv with keyMark := e } } : State).storeSettings [([0x0008], [e])] true).put NRN.KEY_EPOCH.EPOCH e
    let s := s.setFlink 48 { s.flink 48 with training := false, replays := 0, retrains := 0 }
    let s := s.setPair fun p => { p with
      mseqTx := 0, mseqRx := 0, drops := [], lastRx := s.aon, beatAt := s.aon
      slots := if again ∨ ¬ p.slots.isEmpty then p.slots else List.range 16 }
    let s := if again ∧ (s.synced ∨ s.get NRN.PAIR_STS.PARTNER = 3) then s else s.put NRN.PAIR_STS.PARTNER 1
    (s.setB NRN.STS.UP).sendHello)

/-- The first cause of R416 that refuses synchronisation. -/
def State.refuseCause (s : State) (h : Hello) : Option Nat :=
  let mine := s.nv.image.version / 2 ^ 24
  let theirs := h.fw / 2 ^ 24
  let step := mine + 1 = theirs ∧ h.step ∨ theirs + 1 = mine ∧ s.nv.image.pairStep
  if h.variant ≠ s.get SYS.ID.VARIANT then some 1
  else if s.ark.isNone ∨ h.kcv ≠ some (kcv s.ark) then some 2
  else if h.headB = s.on SYS.HEAD.HEAD_B then some 3
  else if mine ≠ theirs ∧ ¬ step then some 4
  else none

/-- The partner serves while this head comes back (R432): it has reached S3 and this head has not, or this head is
ISOLATED. -/
def State.comesBack (s : State) (h : Hello) : Bool := decide (h.stage = 3) && (decide (s.start.reached < 4) || s.isolated)

/-- Writes that are not in the partner's mirror region yet are sent there (R417, R432). -/
def State.mirrorAll (s : State) : State :=
  s.dp.writes.foldl (fun (s : State) w =>
    let mine : Bool := match w.kind with
      | .reloc _ => false
      | _ => !w.through
    if mine ∧ ¬ w.sent ∧ s.mirrors then s.mirrorWrite w else s) s

/-- HELLO (R416, R432). -/
def execHello (env : Seal) (h : Hello) (s : State) : Host.Outcome State Fault Refusal :=
  done (s.receive env true fun s =>
    let s := s.setPair fun p => { p with hello := some h }
    match s.refuseCause h with
    | some c =>
      (((s.put NRN.PAIR_STS.PARTNER 2).put NRN.PAIR_STS.REFUSE_CAUSE c).setB NRN.STS.REFUSED).record 0x1401 0 c 0 []
    | none =>
      let s := s.put NRN.PAIR_STS.REFUSE_CAUSE 0
      if s.synced then s else
      let back := s.comesBack h
      let s := (s.put NRN.PAIR_STS.PARTNER 3).setPair fun p => { p with returning := back }
      if ¬ back then s.mirrorAll else
      -- The serving head's pair state and capo hold; a dump that the takeover supersedes is not restored.
      let s := ((s.put NRN.PAIR_VER.VER h.pairVer).clrB NRN.PAIR_STS.CAPO).setPair fun p => { p with missing := [] }
      s.setDp fun d => { d with writes := d.writes.filter (fun w => !d.restored.contains w.id), restored := [] })

/-! ## Heartbeats (R415, R417, R424) -/

/-- HEARTBEAT. -/
def execHeartbeat (env : Seal) (b : Beat) (s : State) : Host.Outcome State Fault Refusal :=
  done (s.receive env true fun s =>
    let s := s.setPair fun p => { p with beat := b }
    let s := if s.isCapo then s else s.put NRN.PAIR_STS.SWAP_BUSY (b2n b.pairSwap)
    s.mirrorAll)

/-- The heartbeat period. -/
def State.beatNs (s : State) : Nat := max 1 (s.get NRN.CFG.HB_10US) * 10 * Config.us

/-! ## The mirrored write cache (R417, R418) -/

/-- MIRROR: a part of a write enters the mirror region, or waits for space there. -/
def execMirror (env : Seal) (m : MirPart) (s : State) : Host.Outcome State Fault Refusal :=
  done (s.receive env false fun s =>
    if ¬ s.synced ∧ s.get NRN.PAIR_STS.PARTNER ≠ 3 then s else s.placePart m)

/-- The job that a mirror entry of the partner belongs to. -/
def State.mirJob (s : State) (id : Nat) : Option WJob := s.dp.writes.find? (fun w => s.mirId w = id)

/-- MIRROR_ACK: a write in both caches completes (R20); FUA and write-through wait for their media. -/
def execMirrorAck (env : Seal) (ids : List Nat) (s : State) : Host.Outcome State Fault Refusal :=
  done (s.receive env false fun s =>
    ids.foldl (fun (s : State) id => match s.mirJob id with
      | some w =>
        if ¬ w.sent then s else
        let s := s.setWjob { w with mirrored := true }
        if s.synced ∧ s.pwr.holdup ∧ ¬ w.fua ∧ ¬ w.through then s.completeWrite { w with mirrored := true } else s
      | none => s) s)

/-- A committed frame of a map-log record. -/
def mapFrame (f : MapFrame) : SFrame := { mirFrame f.frame with band := some (f.set, f.zone), pos := f.pos, off := f.off }

/-- The partner's write reaches its map commit: this head's view of the map follows, and its mirror entry frees (R253, R418). -/
def State.takeWrite (s : State) (id vol slba nblk : Nat) (frames : List SFrame) (blocks : List (Nat × BlkRef)) : State :=
  let v := s.vol vol
  let w : WJob := {
    id := 0, kind := if frames.isEmpty then .discard else .write, qpid := 0, cid := 0, vol := vol, slba := slba, nblk := nblk
    epoch := s.get SYS.EPOCH_NUM.NUM, vgen := (v.map Vol.vgen).getD 0, gset := (v.map Vol.gset).getD false
    frames := frames, blocks := blocks, at_ := s.aon }
  (s.applyWrite w).setPair fun p => { p with mirror := p.mirror.filter (fun x => x.id ≠ id) }

/-- A volume table entry from its bytes (Table "Volumes, Snapshots and Replication" 1). -/
def Vol.ofBytes (b : List Byte) : Vol :=
  let flags := fieldAt b 3 1
  { num := fieldAt b 0 2, state := fieldAt b 2 1, readOnly := bitAt flags 0, replica := bitAt flags 1, ownerB := bitAt flags 2,
    level := fieldAt b 4 1, tier := fieldAt b 5 1, coolDays := fieldAt b 6 2, warmReads := fieldAt b 8 2, vgen := fieldAt b 10 3,
    gset := bitAt (fieldAt b 13 1) 0, size := fieldAt b 16 4, quota := fieldAt b 20 4, keyEpoch := fieldAt b 24 4,
    minEpoch := fieldAt b 28 4, agroup := (List.range 8).map (fun i => fieldAt b (36 + 2 * i) 2), link := fieldAt b 52 2,
    remote := fieldAt b 54 2 }

/-- One shipped map-log record. -/
def State.shipRec (s : State) (r : LogRec) : State :=
  match r with
  | .write id vol slba nblk frames blocks => s.takeWrite id vol slba nblk (frames.map mapFrame) (blocks.map mirBlock)
  | .reloc old f => (s.applyReloc old (mapFrame f)).freeReclaimed
  | .noEffect id => s.setPair fun p => { p with mirror := p.mirror.filter (fun x => x.id ≠ id) }
  | .band set zone state ver level =>
    if state = 0 then s.freeBand set zone else
    let b := (s.band set zone).getD { set := set, zone := zone, state := state, ver := ver, level := level, lastWrite := s.aon }
    s.setBand { b with state := state, ver := ver, level := level, theirs := true, fullAt := if state = 2 then s.aon else b.fullAt }
  | .strip set zone row pos target spareZone index =>
    let e : RStrip := { set := set, zone := zone, row := row, pos := pos, target := target, spareZone := spareZone, index := index }
    s.media fun m => { m with strips := m.strips.filter (fun x => ¬ (x.set = set ∧ x.zone = zone ∧ x.row = row ∧ x.pos = pos)) ++ [e] }
  | .realloc hda sector spare =>
    match s.hdaMedia hda with
    | some m => s.setHdaMedia { m with realloc := m.realloc.filter (fun e => e.1 ≠ sector) ++ [(sector, spare, s.dev / Config.ms)] }
    | none => s
  | .lost kind cause vol gen first count set zone serial gset =>
    let l : Lost := { kind := kind, cause := cause, vol := vol, gen := gen, gset := gset, first := first, count := count, set := set,
                      zone := zone, time := s.dev, serial := serial }
    if s.nv.media.lost.any (fun x => x.holds l) then s else s.media fun m => { m with lost := m.lost ++ [l] }
  | .volume num entry =>
    let put := fun (vs : List Vol) => if entry.length < 64 then vs.filter (fun v => v.num ≠ num) else putVol vs (Vol.ofBytes entry)
    let s : State := { s with act := { s.act with vols := put s.act.vols }, shadow := { s.shadow with vols := put s.shadow.vols } }
    let s := s.setHwm num (max (s.hwm num) (fieldAt entry 32 4))
    (if entry.length < 64 then s.dropVolume num else s).saveTables
  | .snap vol num entry =>
    let rest := s.nv.media.snaps.filter (fun x => ¬ (x.vol = vol ∧ x.num = num))
    let x : Snap := { vol := vol, num := num, gen := fieldAt entry 0 3, state := fieldAt entry 3 1, held := bitAt (fieldAt entry 4 1) 0,
                      repl := bitAt (fieldAt entry 4 1) 1, created := fieldAt entry 8 8 }
    let s := s.media fun m => { m with snaps := if entry.length < 16 then rest else rest ++ [x] }
    if entry.length < 16 then (s.sweepKept vol).freeReclaimed else s
  | .set num tier quad width pmax stripLog2 spareZones opZones zones zoneSize members pstate vers =>
    let r : RSet := { num := num, tier := tier, quad := quad, width := width, pmax := pmax, stripLog2 := stripLog2,
                      spareZones := spareZones, opZones := opZones, zones := zones, zoneSize := zoneSize, members := members,
                      pstate := pstate, vers := vers.map (fun v => { ver := v.1, pairVer := v.2.1, live := v.2.2, pattern := makePattern num v.1 v.2.2 }) }
    let put := fun (x : Tables) => { x with sets := r :: x.sets.filter (fun y => y.num ≠ num) }
    ({ s with act := put s.act, shadow := put s.shadow } : State).saveTables
  | .binding vol link target epochS epoch applied base snap =>
    let b : Repl := { vol := vol, link := link, target := target, epochS := epochS, epoch := epoch, applied := applied, base := base,
                      snap := snap, cutAt := s.dev, baseCut := s.dev, appliedAt := s.aon }
    s.media fun m => { m with repl := b :: m.repl.filter (fun x => x.vol ≠ vol) }
  | .rebase vol vgen gens => s.rebase vol gens vgen

/-- The serving head's pair state, as the returning head finds it in the map store and the shipped log tail: fret-map versions,
volume table, lost-range table and rebuilt-strip entries (R432, step 1). -/
def State.takePair (s : State) : State :=
  let (recs, s) := s.partnerLog
  let cut := fun (t : Tables) => { t with vols := [], sets := [] }
  let s := ({ s with act := cut s.act, shadow := cut s.shadow } : State).media fun m => { m with lost := [], strips := [] }
  (recs.foldl State.shipRec s).saveTables

/-- MAPLOG. -/
def execMaplog (env : Seal) (recs : List LogRec) (s : State) : Host.Outcome State Fault Refusal :=
  done (s.receive env false fun s => recs.foldl State.shipRec s)

/-! ## The capo protocol (R421, R422) -/

/-- PROPOSE: this head writes its shadow banks and answers READY; while PEND is 1 it waits. -/
def execPropose (env : Seal) (ver : Nat) (c : PairChange) (s : State) : Host.Outcome State Fault Refusal :=
  done (s.receive env false fun s =>
    if s.isCapo ∨ ¬ s.synced then s else (s.setPair fun p => { p with proposed := some (ver, c) }).answerProposal)

/-- READY: the capo commits and tells the partner; the next proposal may start. -/
def execCoordReady (env : Seal) (ver : Nat) (s : State) : Host.Outcome State Fault Refusal :=
  done (s.receive env false fun s =>
    match s.pair.proposal with
    | some (v, c) =>
      if v ≠ ver ∨ ¬ s.isCapo then s else
      let s := (s.setPair fun p => { p with proposal := none }).commitChange ver c
      (s.sendNrn 5 2 [ver] []).nextProposal
    | none => s)

/-- COORD_COMMIT: this head commits what it answered READY to. -/
def execCoordCommit (env : Seal) (ver : Nat) (s : State) : Host.Outcome State Fault Refusal :=
  done (s.receive env false fun s =>
    match s.pair.accepted with
    | some (v, c) => if v ≠ ver then s else (s.setPair fun p => { p with accepted := none }).commitChange ver c
    | none => s)

/-- REQUEST: only the capo decides; while its firmware does not run the request waits (R421, R435). -/
def execCoordRequest (env : Seal) (r : PairReq) (s : State) : Host.Outcome State Fault Refusal :=
  done (s.receive env false fun s =>
    if s.cmd.inReset then s.setPair fun p => { p with reqs := p.reqs ++ [r] } else s.serveRequest r)

/-- GRANT. -/
def execCoordGrant (env : Seal) (g : PairGrant) (s : State) : Host.Outcome State Fault Refusal :=
  done (s.receive env false fun s =>
    match g with
    | .bands set level zones => s.setPair fun p => { p with
        granted := p.granted ++ zones.map (fun z => (set, level, z)), asked := p.asked.filter (· ≠ (set, level)) }
    | .activation => s.grantCame)

/-! ## Capo swaps (R423) -/

/-- When the next scheduled swap falls due, by the AON clock. -/
def State.nextCapoDue (s : State) : Option Nat :=
  let h := s.get NRN.CAPO_CFG.PERIOD_H
  if h = 0 ∨ ¬ s.isCapo then none else some (s.aon + h * Config.hour)

/-- The capo changes. -/
def State.capoChanged (s : State) (mine : Bool) : State :=
  let s := (s.put NRN.PAIR_STS.CAPO (b2n mine)).setPair fun p => { p with capoAt := s.dev, swapWaitSince := none }
  s.setPair fun p => { p with swapDueAt := s.nextCapoDue }

/-- The first condition of R423 that fails, as NRN_SWAP_REFUSED gives it. -/
def State.swapBlocked (s : State) : Option Nat :=
  if ¬ s.synced then some 1
  else if s.on PWR.FEED_STS.SWAP_BUSY ∨ s.pair.beat.feedSwap then some 2
  else if s.on NRN.PAIR_STS.SWAP_BUSY ∨ s.pair.proposal.isSome ∨ s.pair.accepted.isSome ∨ ¬ s.pair.coming.isEmpty ∨ ¬ s.pair.leaving.isEmpty ∨ s.upd.given ∨
    (3 ≤ s.updState ∧ s.updState ≤ 6) then some 3
  else if s.on FTL.DUMP_STS.RUN then some 4
  else none

/-- Home volumes of a head. -/
def State.homeOf (s : State) (b : Bool) : List Nat := (s.act.vols.filter (fun v => v.ownerB = b && v.state ≠ 0)).map Vol.num

/-- Event 1 of a swap on the capo: SWAP_BUSY, which its heartbeats carry to the partner (Table "Dual Heads and the Nerryn Link" 5). -/
def State.capoSwap (s : State) : State :=
  (s.setB NRN.PAIR_STS.SWAP_BUSY).setPair fun p => { p with swapWaitSince := none, swapDueAt := none }

/-- Events 3 and 4 on the old capo: HANDOFF with what is queued; a SURVIVOR lets the new capo's home volumes go. -/
def State.handCapo (s : State) : State :=
  let s := (s.sendNrn 5 5 (s.get NRN.PAIR_VER.VER :: s.pair.queue.flatMap PairChange.args) []).setPair fun p => { p with queue := [] }
  let s := ((s.clrB NRN.PAIR_STS.SWAP_BUSY).capoChanged false).record 0x1402 0 (1 - s.headNo) 0 []
  let s := if s.get NRN.PAIR_STS.ROLE = roleSurvivor then
      (s.put NRN.PAIR_STS.ROLE roleServing).setPair fun p => { p with leaving := s.homeOf (!s.on SYS.HEAD.HEAD_B) }
    else s
  let ps := s.pair.swapPackets
  ps.foldl (fun (s : State) p => s.answerLater p 0 0 []) (s.setPair fun p => { p with swapPackets := [] })

/-- A swap that has begun goes on: once the capo's heartbeat has shown it, no proposal is in progress and the firmware runs, the
capo hands over; one whose partner has gone ends, and a CAPO_SWAP that asked for it is refused (R423, R435). -/
def State.goOnCapo (s : State) : State :=
  if ¬ s.isCapo ∨ ¬ s.on NRN.PAIR_STS.SWAP_BUSY ∨ s.pair.proposal.isSome ∨ s.cmd.inReset then s
  else if s.synced then s.handCapo else s

/-- A swap that had begun ends with the pair (R435). -/
def State.endCapoSwap (s : State) : State :=
  let ps := s.pair.swapPackets
  ps.foldl (fun (s : State) p => s.answerLater p 0x1403 1 []) ((s.clrB NRN.PAIR_STS.SWAP_BUSY).setPair fun p => { p with swapPackets := [] })

/-- HEARTBEAT_SEND; a capo swap that it has shown goes on. -/
def execHeartbeatSend (s : State) : Host.Outcome State Fault Refusal :=
  done (if ¬ s.on NRN.STS.UP then s else
    let s := s.passTo (s.pair.beatAt + s.beatNs)
    let s := s.setPair fun p => { p with beatAt := s.aon }
    (s.sendNrn 1 0 [s.get SYS.START_STS.STAGE, s.get NRN.PAIR_STS.ROLE, s.get NRN.PAIR_STS.CAPO, s.get PWR.FEED_STS.SWAP_BUSY,
      s.get NRN.PAIR_STS.SWAP_BUSY, s.get NRN.PAIR_VER.VER, s.mirrorFreeBytes] []).goOnCapo)

/-- HANDOFF: this head becomes capo; from STANDBY it becomes SERVING and its home volumes come. -/
def execHandoff (env : Seal) (ver : Nat) (queue : List PairChange) (s : State) : Host.Outcome State Fault Refusal :=
  done (s.receive env false fun s =>
    if s.isCapo ∨ ¬ s.synced then s else
    let s := ((s.put NRN.PAIR_VER.VER ver).clrB NRN.PAIR_STS.SWAP_BUSY).setPair fun p => { p with queue := queue }
    let s := (s.capoChanged true).record 0x1402 0 s.headNo 0 []
    if s.get NRN.PAIR_STS.ROLE = 3 then
      (s.put NRN.PAIR_STS.ROLE roleServing).setPair fun p => { p with coming := s.homeOf (s.on SYS.HEAD.HEAD_B) }
    else s)

/-- CAPO_SWAP_DUE: a due swap runs, or waits. -/
def execCapoSwapDue (s : State) : Host.Outcome State Fault Refusal :=
  done (if ¬ s.isCapo ∨ s.cmd.inReset then s else
    match s.pair.swapWaitSince, s.pair.swapDueAt with
    | some _, _ =>
      if s.get NRN.CAPO_CFG.PERIOD_H = 0 then s else if s.swapBlocked.isNone then s.capoSwap else s
    | none, some t =>
      if s.get NRN.CAPO_CFG.PERIOD_H = 0 then s else
      let s := s.passTo t
      if s.swapBlocked.isNone then s.capoSwap
      else s.setPair fun p => { p with swapWaitSince := some s.aon, swapDueAt := none }
    | none, none => s)

/-- CAPO_SWAP_SKIP: Table "Event Recorder" 3 gives the record no code, so the code is a free value. -/
def execCapoSwapSkip (s : State) : Host.Outcome State Fault Refusal :=
  done (match s.pair.swapWaitSince with
    | none => s
    | some t =>
      if ¬ s.isCapo ∨ s.cmd.inReset ∨ s.get NRN.CAPO_CFG.PERIOD_H = 0 then s else
      let s := s.passTo (t + s.get NRN.CAPO_CFG.DEFER_MAX_MIN * 60 * Config.sec)
      if s.swapBlocked.isNone then s.capoSwap else
      let s := s.setPair fun p => { p with swapWaitSince := none, swapDueAt := s.nextCapoDue }
      let (n, s) := s.draw
      (s.setB NRN.STS.CAPO_SKIP).record (n % 2 ^ 16) 0 0 0 [])

/-! ## Volumes and carriers that move (R420, R357) -/

/-- RELEASE: this head takes a moving volume's mirror entries as its own and serves it; or claims a carrier. -/
def execCoordRelease (env : Seal) (carrier : Bool) (num : Nat) (s : State) : Host.Outcome State Fault Refusal :=
  done (s.receive env false fun s =>
    if carrier then (if num < 96 ∧ 2 ≤ s.get (STR.STRING_STS.STATE num) then
      (s.setStr num { s.str num with handed := true }).claim num false none else s)
    else if ¬ s.pair.coming.contains num then s else
    let s := (s.pair.mirror.filter (fun m => m.vol = num && m.whole)).foldl (fun (s : State) m => s.adopt true m) s
    ((s.setPair fun p => { p with coming := p.coming.filter (· ≠ num) }).answerMoves num).renewLinks)

/-! ## Losing the partner (R424 to R431) -/

/-- Modules that belong to any set of the newest fret-map version. -/
def State.quorumModules (s : State) : List Nat :=
  ((s.act.sets.flatMap RSet.members).filter memberIsModule).map memberNo |>.eraseDups

/-- Send FENCE (other, 1) to every module of M whose link is UP. -/
def State.startQuorum (s : State) (absent : Bool) : State :=
  let m := s.quorumModules
  let ask := m.filter s.linkUp
  let s := s.setPair fun p => { p with quorum := some { modules := m, waiting := ask.length, absent := absent, at_ := s.aon } }
  ask.foldl (fun (s : State) k => s.sendBridge k 7 [1, 1] [] (.fence true true)) s

/-- PARTNER_SILENT: down: the link's retraining has failed for the third time; else no message for HB_MISS periods while it
is UP and not retraining. -/
def execPartnerSilent (down : Bool) (s : State) : Host.Outcome State Fault Refusal :=
  done (let st := s.get NRN.PAIR_STS.PARTNER
    if ¬ (st = 3 ∨ st = 4 ∨ st = 1 ∧ s.on NRN.STS.UP) ∨ s.halted ∨ s.pair.quorum.isSome then s else
    let s := if down then s.nrnDown else s
    if s.on NRN.STS.UP ∧ (s.flink 48).training then s else
    let s := if s.on NRN.STS.UP then s.passTo (s.pair.lastRx + max 3 (s.get NRN.CFG.HB_MISS) * s.beatNs) else s
    (s.put NRN.PAIR_STS.PARTNER 5).updSilent.startQuorum false)

/-- PARTNER_ABSENT: not trained ABSENT_S seconds after S1, or REFUSED. -/
def execPartnerAbsent (s : State) : Host.Outcome State Fault Refusal :=
  done (let st := s.get NRN.PAIR_STS.PARTNER
    if s.start.reached < 3 ∨ s.halted ∨ s.pair.quorum.isSome ∨ s.get NRN.PAIR_STS.ROLE ≠ 0 then s
    else if st = 2 then s.startQuorum true
    else if st ≤ 1 ∧ ¬ s.on NRN.STS.UP then
      (s.passTo (s.pair.s1At + max 1 (s.get NRN.CAPO_CFG.ABSENT_S) * Config.sec)).startQuorum true
    else s)

/-- Writes of missing dump shares that no mirror holds: where the surviving part of a share names the range, which the
model leaves free, it is entered as lost (R268). -/
def State.settleMissing (s : State) : State :=
  let lost := s.pair.missing
  let s := s.setPair fun p => { p with missing := [] }
  lost.foldl (fun (s : State) w =>
    match s.pair.mirror.find? (fun m => m.whole && m.vol = w.vol && m.slba = w.slba && m.nblk = w.nblk) with
    | some m => s.adopt s.synced m
    | none =>
      let (n, s) := s.draw
      if n % 2 = 1 then s.loseWrite w.vol w.slba w.nblk else s) s

/-- Events 2 to 5 of a takeover (Table "Dual Heads and the Nerryn Link" 6), with the partner's map-log tail. The role begins at the epoch commit of event 4. -/
def State.takeOver (s : State) : State :=
  let s := s.capoChanged true
  let s := match s.pair.accepted with
    | some (ver, c) => s.commitChange ver c
    | none => if s.pair.proposal.isSome ∧ ¬ s.on SYS.EPOCH_STS.PEND then s.abandonShadow else s
  let s := s.setPair fun p => { p with
    accepted := none, proposal := none, proposed := none, coming := [], leaving := [], given := [], asked := [], reqs := [] }
  let (tail, s) := s.endCapoSwap.partnerLog
  let s := tail.foldl State.shipRec s
  let s := s.settleMissing
  let s := (s.pair.mirror.filter MirWrite.whole).foldl (fun (s : State) m => s.adopt false m) s
  let s := s.setPair fun p => { p with mirror := [], parts := [], becomes := true }
  let s := (s.requestCommit.setB NRN.STS.TAKEOVER).record 0x1403 0 0 0 []
  let s := (s.pair.moveWaits.map Prod.fst).foldl State.answerMoves s
  let s := ((List.range 96).filter (fun k => s.on (STR.STRING_STS.OTHER_DRIVES k))).foldl (fun (s : State) k => s.claim k true none) s
  let theirs := s.nv.media.bands.filter Band.theirs
  let s := s.media fun m => { m with bands := m.bands.map (fun b => if b.theirs then
    { b with theirs := false, state := if b.state = 1 then 2 else b.state } else b) }
  (s.setDp fun d => { d with resync := d.resync || theirs.any (fun b => !b.dirty.isEmpty) }).renewLinks

/-- Event 1: the head unfences itself where it is fenced. -/
def State.unfenceSelf (s : State) : State :=
  (s.quorumModules.filter (fun k => s.linkUp k && s.on (FLK.LINKk_STS.FENCED k))).foldl (fun (s : State) k =>
    s.sendBridge k 7 [0, 0] [] (.fence false false)) s

/-- A quorum lost (R428). -/
def State.isolate (s : State) (wins : List Nat) : State :=
  let s := wins.foldl (fun (s : State) k => s.sendBridge k 7 [1, 0] [] (.fence true false)) s
  let s := s.fenceSelf
  let s := ((List.range 96).filter (fun k => s.on (STR.STRING_STS.DRIVER k))).foldl (fun (s : State) k => s.askRelease k none) s
  let s := (List.range 8).foldl (fun (s : State) p => (s.put (VRM.PORTp_STS.UP p) 0).put (VRM.PORTp_STS.PAUSED p) 0) s
  ((s.put NRN.PAIR_STS.ROLE 4).setB NRN.STS.QUORUM_LOST).record 0x1404 0 wins.length 0 []

/-- QUORUM: the fence completions decide, within 2 ms of SILENT. -/
def execQuorum (s : State) : Host.Outcome State Fault Refusal :=
  done (match s.pair.quorum with
    | none => s
    | some q =>
      let won := decide (q.modules.length < 2 * q.wins.length)
      let s := if won ∨ q.waiting = 0 then s else s.passTo (q.at_ + 2 * Config.ms)
      let s := s.setPair fun p => { p with quorum := none }
      if won then s.unfenceSelf.takeOver else (s.isolate q.wins).endCapoSwap)

/-- DEPART: a takeover from event 2, without fencing (R431). -/
def execCoordDepart (env : Seal) (s : State) : Host.Outcome State Fault Refusal :=
  done (s.receive env false fun s =>
    if s.get NRN.PAIR_STS.ROLE = 0 ∨ s.isolated ∨ ¬ s.synced then s else
    (s.put NRN.PAIR_STS.PARTNER 5).partnerEnds.takeOver)

/-! ## Return to service (R432) -/

/-- PAIR_RESYNC_DONE: every write of the serving head is in the mirror, and both heads become SYNCED. At the first
synchronisation head A becomes capo; the returning head takes the serving head's pair state; the head that is
unfenced on a module unfences the other's port. -/
def execPairResyncDone (s : State) : Host.Outcome State Fault Refusal :=
  let open_ := s.dp.writes.any (fun w => (match w.kind with
    | .reloc _ => false
    | _ => !w.through) && !w.mirrored)
  done (if s.get NRN.PAIR_STS.PARTNER ≠ 3 ∨ ¬ s.on NRN.STS.UP ∨ s.halted ∧ ¬ s.isolated ∨
      s.get NRN.PAIR_STS.ROLE = roleSurvivor ∧ open_ then s else
    let back := s.pair.returning
    let s := s.iff back State.takePair
    let s := (s.put NRN.PAIR_STS.PARTNER 4).partnerEnds.setPair fun p => { p with returning := false, downThere := [] }
    let s := if back then s.put NRN.PAIR_STS.ROLE 3
      else if s.get NRN.PAIR_STS.ROLE = 0 ∧ ¬ s.isCapo then s.capoChanged (!s.on SYS.HEAD.HEAD_B) else s
    let s := s.settleMissing
    let open_ := (List.range 48).filter (fun k => s.linkUp k && !s.on (FLK.LINKk_STS.FENCED k))
    let s := open_.foldl (fun (s : State) k => s.sendBridge k 7 [1, 0] [] (.fence true false)) s
    if s.isCapo then s else
    (s.act.sets.flatMap (fun r => (List.range r.pmax).map (fun l => (r.num, l + 1)))).foldl (fun (s : State) x => s.askBands x.1 x.2) s)

/-! ## NOTICE (R433) -/

/-- NRN_NOTICE: the partner's mailbox has a doorbell pending for this head's management complex. -/
def execNrnNotice (env : Seal) (ch : Nat) (s : State) : Host.Outcome State Fault Refusal :=
  okIf (ch < 64) (s.receive env false fun s => s.emit (.notify 0 ch))

/-! ## Command packets (R436) -/

/-- PAIR_STATUS. -/
def execPairStatus (p : Packet) (s : State) : Host.Outcome State Fault Refusal :=
  runCmd 0x1401 p s fun s =>
    let (bs, s) := s.readRegs [0x120008, 0x120010, 0x120014, 0x120018, 0x12001C]
    s.reply (bs ++ leBytes 8 s.pair.capoAt)

/-- CAPO_SWAP: the reply comes at event 3. -/
def execCapoSwap (p : Packet) (s : State) : Host.Outcome State Fault Refusal :=
  runCmd 0x1402 p s fun s =>
    if ¬ s.isCapo then s.refuseWith 0x1401 s.capoHead
    else match s.swapBlocked with
    | some n => s.refuseWith 0x1403 n
    | none => { st := s.capoSwap.setPair fun x => { x with swapPackets := x.swapPackets ++ [p] }, later := true }

/-- VOL_HOME: the reply comes at event 4 of the move, at once where no move runs. -/
def execVolHome (p : Packet) (s : State) : Host.Outcome State Fault Refusal :=
  runCmd 0x1403 p s fun s =>
    if 2 ≤ p.u8 2 then s.refuseWith 0x000A 2
    else if p.u8 3 ≠ 0 then s.refuseWith 0x000A 3
    else if ¬ s.isCapo then s.refuseWith 0x1401 s.capoHead
    else match s.vol (p.u16 0) with
    | none => s.refuseWith 0x000A 0
    | some v =>
      if ¬ s.synced then s.refuseWith 0x1402 (s.get NRN.PAIR_STS.PARTNER)
      else if v.ownerB = decide (p.u8 2 = 1) then s.reply []
      else if s.get NRN.PAIR_STS.ROLE ≠ roleServing then (s.propose (.home v.num (p.u8 2 = 1))).reply []
      else
        let s := s.setPair fun x => { x with moveWaits := x.moveWaits ++ [(v.num, p)] }
        { st := s.propose (.home v.num (p.u8 2 = 1)), later := true }

/-- NRN_LANE_SPARE (expert). -/
def execNrnLaneSpare (p : Packet) (s : State) : Host.Outcome State Fault Refusal :=
  runCmd 0x9410 p s fun s =>
    match (List.range 3).find? (fun i => p.u8 (1 + i) ≠ 0) with
    | some i => s.refuseWith 0x000A (1 + i)
    | none =>
      if ¬ s.slotActive .nerryn (p.u8 0) then s.refuseWith 0x000A 0
      else if s.pair.swap.isSome ∨ s.pair.spares.isEmpty then s.refuseWith 0x1404 0
      else (s.startSparing .nerryn (p.u8 0)).reply []

/-- SOLE_TAKEOVER (expert): R427 without a quorum. A serial is checked against the partner's HELLO, where there was one
(log entry 157). -/
def execSoleTakeover (p : Packet) (s : State) : Host.Outcome State Fault Refusal :=
  runCmd 0x9411 p s fun s =>
    let live := s.on NRN.STS.UP ∧ s.aon < s.pair.lastRx + max 3 (s.get NRN.CFG.HB_MISS) * s.beatNs
    let wrong : Bool := match s.pair.hello with
      | some h => fieldAt h.serial 0 4 ≠ p.u32 0
      | none => false
    if live then s.refuseWith 0x1405 0
    else if wrong then s.refuseWith 0x000A 0
    else
      let s := if s.get NRN.PAIR_STS.PARTNER = 0 then s else s.put NRN.PAIR_STS.PARTNER 5
      ((s.setPair fun x => { x with quorum := none }).unfenceSelf.takeOver).reply []

end Sys2Proof.Machine
end

