-- ==== Sys2Proof/Machine/Volumes.lean ====
section
/-! DEFINITION. Commands of spec/13: volumes, snapshots, replication links, bindings and the epoch cycle. -/

namespace Sys2Proof.Machine

/-! ## Volumes (R391 to R394) -/

/-- The first nonzero byte of n bytes of a packet's parameters from an offset. -/
def rsvdBad (p : Packet) (off n : Nat) : Option Nat := ((List.range n).find? (fun i => p.u8 (off + i) ≠ 0)).map (off + ·)

/-- Go on unless a reserved parameter byte is not zero. -/
def State.rsvd (s : State) (p : Packet) (off n : Nat) (r : Res) : Res :=
  match rsvdBad p off n with
  | some o => s.refuseWith 0x000A o
  | none => r

/-- Run a command on a volume on its owning head; the other head refuses it with SNP_NOT_OWNER (R394, R419). -/
def State.onVolume (s : State) (n : Nat) (f : Vol → Res) : Res :=
  match s.shadowVol n with
  | none => s.refuseWith 0x1303 0
  | some v =>
    if v.state ≠ 1 then s.refuseWith 0x1303 0
    else if ¬ s.serves v then s.refuseWith 0x1301 (1 - s.headNo)
    else f v

/-- The eight access groups of a packet. -/
def agroupAt (p : Packet) : List Nat := (List.range 8).map (fun i => p.u16 (12 + 2 * i))

/-- VOL_CREATE (R392). -/
def execVolCreate (p : Packet) (s : State) : Host.Outcome State Fault Refusal :=
  runCmd 0x1301 p s fun s =>
    let n := p.u16 0
    let old := match s.vol n with
      | some v => some v
      | none => s.shadowVol n
    if 1 < p.u8 2 then s.refuseWith 0x000A 2
    else if 1 < p.u8 3 then s.refuseWith 0x000A 3
    else if p.u32 4 = 0 then s.refuseWith 0x000A 4
    else match old with
    | some v => s.refuseWith 0x1302 v.state
    | none =>
      let e := s.hwm n + 1
      let v : Vol := { num := n, readOnly := bitAt (p.u8 3) 0, ownerB := p.u8 2 = 1, size := p.u32 4, quota := p.u32 8,
                       keyEpoch := e, minEpoch := e, agroup := agroupAt p }
      if s.ark.isNone then s.refuseWith 0x0A01 0
      else if ¬ s.serves v then s.refuseWith 0x1301 (1 - s.headNo)
      else
        let s := { s with shadow := { s.shadow with
          vols := putVol s.shadow.vols v, policies := s.shadow.policies.filter (fun x => x.num ≠ n) } }
        s.reply []

/-- VOL_SET (R393): SIZE_UNITS never shrinks; OWNER is ignored. -/
def execVolSet (p : Packet) (s : State) : Host.Outcome State Fault Refusal :=
  runCmd 0x1303 p s fun s =>
    if 1 < p.u8 3 then s.refuseWith 0x000A 3 else
    s.onVolume (p.u16 0) fun v =>
      if p.u32 4 < v.size then s.refuseWith 0x000A 4
      else (s.setShadowVol { v with readOnly := bitAt (p.u8 3) 0, size := p.u32 4, quota := p.u32 8, agroup := agroupAt p }).reply []

/-- VOL_DELETE (R394): asynchronous; DELETING at once. -/
def execVolDelete (p : Packet) (s : State) : Host.Outcome State Fault Refusal :=
  runCmd 0x1302 p s fun s => s.rsvd p 2 2 <|
    s.onVolume (p.u16 0) fun v =>
      if v.link ≠ 0xFFFF then s.refuseWith 0x1306 v.link
      else ((s.bothVol v.num fun x => { x with state := 2 }).saveTables.shipVolume v.num).reply []

/-- VOL_DELETE_SWEEP_END (R394, R200): every map reference of the volume and of its snapshots has ended. -/
def execVolDeleteSweepEnd (vol : Nat) (s : State) : Host.Outcome State Fault Refusal :=
  done (match s.vol vol with
    | none => s
    | some v =>
      if v.state ≠ 2 ∨ s.dp.writes.any (fun w => w.vol = vol) then s else
      let cut := fun (t : Tables) => { t with
        vols := t.vols.filter (fun x => x.num ≠ vol), policies := t.policies.filter (fun x => x.num ≠ vol) }
      (({ s with act := cut s.act, shadow := cut s.shadow } : State).dropVolume vol).saveTables.shipVolume vol)

/-- VOL_STATUS (R409). -/
def execVolStatus (p : Packet) (s : State) : Host.Outcome State Fault Refusal :=
  runCmd 0x1304 p s fun s => s.rsvd p 2 2 <|
    match s.vol (p.u16 0) with
    | none => s.refuseWith 0x1303 0
    | some v =>
      let kept := ((s.nv.media.units.filter (fun u => u.vol = v.num)).map (fun u => u.kept.length)).sum
      s.reply (s.volBytes v ++ leBytes 8 (s.storedBytes v.num) ++ leBytes 8 kept)

/-! ## Snapshots (R395 to R398) -/

/-- SNAP_CREATE (R397, R257): the reply comes at event 3. -/
def execSnapCreate (p : Packet) (s : State) : Host.Outcome State Fault Refusal :=
  runCmd 0x1305 p s fun s => s.rsvd p 2 2 <|
    s.onVolume (p.u16 0) fun v =>
      match s.freeSnap v.num with
      | none => s.refuseWith 0x1304 0
      | some n =>
        if (s.vol v.num).isNone then s.refuseWith 0x1303 0
        else if s.genSweep v then s.refuseWith 0x0B01 (s.unswept v.num)
        else { st := s.newSnap v n false (some p), later := true }

/-- A write of a volume stamped with an epoch before n is still on its way (R397, event 3). -/
def State.olderWrites (s : State) (vol n : Nat) : Bool :=
  let older := fun (e : Nat) => decide (e ≠ n) && decide ((n + 2 ^ 32 - e) % 2 ^ 32 < 2 ^ 31)
  s.dp.writes.any (fun w => w.vol = vol && older w.epoch && (match w.kind with
    | .reloc _ => false
    | _ => true)) ||
  s.hq.cmds.any (fun c => c.sub.volume = vol && (c.sub.opcode = 2 || c.sub.opcode = 4) && older c.epoch)

/-- SNAP_READY (R397, events 3 and 4). -/
def execSnapReady (vol snap : Nat) (s : State) : Host.Outcome State Fault Refusal :=
  done (match s.snap vol snap with
    | none => s
    | some x =>
      match x.since with
      | none => s
      | some n =>
        if x.state ≠ 1 ∨ s.olderWrites vol n then s else
        let s := (s.setSnap vol snap fun y => { y with state := 2, created := s.dev, asked := none }).shipSnap vol snap
        match x.asked with
        | some p => s.answerLater p 0 0 (leBytes 2 snap ++ [0, 0] ++ leBytes 4 x.gen)
        | none => s)

/-- SNAP_DELETE (R398): asynchronous; DELETING at once. -/
def execSnapDelete (p : Packet) (s : State) : Host.Outcome State Fault Refusal :=
  runCmd 0x1306 p s fun s =>
    s.onVolume (p.u16 0) fun v =>
      match s.snap v.num (p.u16 2) with
      | none => s.refuseWith 0x1303 0
      | some x =>
        if x.state ≠ 2 then s.refuseWith 0x1303 0
        else if x.held then s.refuseWith 0x1305 x.num
        else ((s.setSnap v.num x.num fun y => { y with state := 3 }).shipSnap v.num x.num).reply []

/-- SNAP_SWEEP_END (R398): retained versions that no remaining snapshot selects are freed, and the number is FREE. -/
def execSnapSweepEnd (vol snap : Nat) (s : State) : Host.Outcome State Fault Refusal :=
  done (match s.snap vol snap with
    | none => s
    | some x =>
      if x.state ≠ 3 ∨ s.hq.cmds.any (fun c => c.sub.volume = vol && c.sub.snap = snap && c.phase ≠ .fetched) then s else
      let s := (s.sweepKept vol).storePages s
      ((s.media fun m => { m with snaps := m.snaps.filter (fun y => ¬ (y.vol = vol ∧ y.num = snap)) }).freeReclaimed).shipSnap vol snap)

/-- SNAP_LIST (R409): entries carry no number, so they stand by number from the first asked for, FREE ones as zeros
(log entry 82). -/
def execSnapList (p : Packet) (s : State) : Host.Outcome State Fault Refusal :=
  runCmd 0x1307 p s fun s =>
    let vol := p.u16 0; let first := p.u16 2
    if (s.vol vol).isNone then s.refuseWith 0x1303 0
    else if first = 0 ∨ 16384 < first then s.refuseWith 0x000A 2
    else
      let top := ((s.snapsOf vol).map Snap.num).foldl max 0
      let n := min 255 (top + 1 - first)
      s.reply (leBytes 4 n ++ (List.range n).flatMap (fun i =>
        ((s.snap vol (first + i)).map Snap.bytes).getD (List.replicate 16 0)))

/-! ## Links (R399, R400, R406) -/

/-- The connection may carry the link: sealed, label bit 31 at 0, DIR as the role asks (R399). -/
def State.linkConnOk (s : State) (conn : Nat) (target : Bool) : Bool :=
  match s.conn conn, s.connBind conn with
  | some c, some b => decide (c.state = 2) && bitAt b.flags 0 && !bitAt b.label 31 && bitAt b.flags 2 = target
  | _, _ => false

/-- The cluster of a connection. -/
def State.connCluster (s : State) (conn : Nat) : Nat := ((s.connBind conn).map ConnBind.cluster).getD 0

/-- REPL_LINK_CREATE (R399, R400): region, memory key and tag; their numbers are free. -/
def execReplLinkCreate (p : Packet) (s : State) : Host.Outcome State Fault Refusal :=
  runCmd 0x1310 p s fun s =>
    let n := p.u16 0; let target : Bool := p.u8 2 = 1; let conn := p.u32 4; let mib := p.u16 8
    if 255 < n then s.refuseWith 0x000A 0
    else if 1 < p.u8 2 then s.refuseWith 0x000A 2
    else if p.u8 3 ≠ 0 then s.refuseWith 0x000A 3
    else if mib < 16 ∨ 4096 < mib then s.refuseWith 0x000A 8
    else s.rsvd p 10 2 <|
    if 256 ≤ s.dp.rlinks.length then s.refuseWith 0x1304 0 else
    match s.rlink n with
    | some _ => s.refuseWith 0x1307 (s.get (SNP.LINKl_STS.STATE n))
    | none =>
      if ¬ s.linkConnOk conn target then s.refuseWith 0x000A 4
      else if 65536 ≤ s.vrm.tags.length then s.refuseWith 0x0804 0
      else
        let c := s.get SNP.CFG.SLOT_LOG2
        let log2 := if 20 ≤ c ∧ c ≤ 24 then c else 22
        let (f, s) := s.draw
        let (g, s) := s.draw
        let (h, s) := s.draw
        let key := freshNat (f % 2 ^ 32) (s.vrm.keys.map IssuedKey.key)
        let place := freshNat (g % 2 ^ 16) (s.vrm.keys.map (fun k => k.base / 2 ^ 32))
        let tag := freshNat (h % 2 ^ 32) (s.vrm.tags.map Tag.tag)
        let l : RLink := { num := n, target := target, conn := conn, mib := mib, slotLog2 := log2, key := key, base := place * 2 ^ 32,
                           tag := tag }
        let k : IssuedKey := { key := key, handle := place, base := l.base, len := mib * 2 ^ 20, link := n }
        let s := { s with vrm := { s.vrm with
          keys := s.vrm.keys ++ [k], tags := s.vrm.tags ++ [({ tag := tag, cluster := s.connCluster conn } : Tag)] } }
        (s.setDp fun d => { d with rlinks := d.rlinks ++ [l] }).reply
          (leBytes 1 (b2n target) ++ leBytes 1 log2 ++ leBytes 2 n ++ leBytes 4 key ++ leBytes 8 l.base ++ leBytes 4 tag ++
            leBytes 2 l.slots ++ List.replicate 10 0)

/-- REPL_LINK_PEER (R400). -/
def execReplLinkPeer (p : Packet) (s : State) : Host.Outcome State Fault Refusal :=
  runCmd 0x1311 p s fun s => s.rsvd p 2 2 <|
    match s.rlink (p.u16 0) with
    | none => s.refuseWith 0x1307 0
    | some l =>
      if 1 < p.u8 4 then s.refuseWith 0x000A 4
      else if p.u8 5 < 20 ∨ 24 < p.u8 5 then s.refuseWith 0x000A 5
      else if p.u16 6 ≠ l.num then s.refuseWith 0x000A 6
      else s.rsvd p 26 10 <|
        let l := { l with peer := some { slotLog2 := p.u8 5, key := p.u32 8, addr := p.u64 12, tag := p.u32 20, slots := p.u16 24 } }
        (s.startLink l).reply []

/-- REPL_LINK_CONN (R399, R406): a new connection for a link that is DOWN or REFUSED. -/
def execReplLinkConn (p : Packet) (s : State) : Host.Outcome State Fault Refusal :=
  runCmd 0x1312 p s fun s => s.rsvd p 2 2 <|
    match s.rlink (p.u16 0) with
    | none => s.refuseWith 0x1307 0
    | some l =>
      if l.state = 2 ∨ l.state = 3 then s.refuseWith 0x1307 (s.get (SNP.LINKl_STS.STATE l.num))
      else if ¬ s.linkConnOk (p.u32 4) l.target then s.refuseWith 0x000A 4
      else
        let l := { l with conn := p.u32 4 }
        let s := { s with vrm := { s.vrm with tags := s.vrm.tags.map (fun (t : Tag) =>
          if t.tag = l.tag then { t with cluster := s.connCluster l.conn } else t) } }
        (if l.peer.isSome then s.startLink l else s.setRlink l).reply []

/-- REPL_LINK_DELETE (R409): refused while a volume is bound to the link. -/
def execReplLinkDelete (p : Packet) (s : State) : Host.Outcome State Fault Refusal :=
  runCmd 0x1313 p s fun s => s.rsvd p 2 2 <|
    match s.rlink (p.u16 0) with
    | none => s.refuseWith 0x1307 0
    | some l =>
      if (s.act.vols ++ s.shadow.vols).any (fun v => v.link = l.num) then s.refuseWith 0x1306 l.num else
      let s := { s with vrm := { s.vrm with
        keys := s.vrm.keys.filter (fun k => k.key ≠ l.key), tags := s.vrm.tags.filter (fun t => t.tag ≠ l.tag)
        land := s.vrm.land.filter (fun c => ¬ (l.base ≤ c.1 ∧ c.1 < l.base + 2 ^ 32)) } }
      let s := s.setDp fun d => { d with rlinks := d.rlinks.filter (fun x => x.num ≠ l.num) }
      let s := [SNP.LINKl_STS.STATE l.num, SNP.LINKl_STS.ROLE l.num, SNP.LINKl_STS.VOLUMES l.num, SNP.LINKl_STS.SLOTS_FREE l.num].foldl
        (fun (s : State) f => s.put f 0) s
      s.reply []

/-! ## Bindings (R401, R405 to R407) -/

/-- REPL_BIND: the binding is written to the shadow bank and its commit requested; the source cuts its first epoch with it
(spec/13, Pairing). -/
def execReplBind (p : Packet) (s : State) : Host.Outcome State Fault Refusal :=
  runCmd 0x1314 p s fun s =>
    let target : Bool := p.u8 6 = 1
    if 1 < p.u8 6 then s.refuseWith 0x000A 6
    else if p.u8 7 ≠ 0 then s.refuseWith 0x000A 7
    else s.onVolume (p.u16 0) fun v =>
      if v.link ≠ 0xFFFF then s.refuseWith 0x1306 v.link else
      match s.rlink (p.u16 2) with
      | none => s.refuseWith 0x1307 0
      | some l =>
        let mapped := s.nv.media.units.any (fun u => u.vol = v.num && u.live.isSome)
        if l.target ≠ target then s.refuseWith 0x000A 6
        else if target ∧ (mapped ∨ ¬ (s.snapsOf v.num).isEmpty) then s.refuseWith 0x1308 0
        else
          let e := p.u32 8
          let b : Repl := { vol := v.num, link := l.num, target := target, epochS := if e = 0 then 60 else e, asked := !target,
                            appliedAt := s.aon }
          let s := (s.setShadowVol { v with link := l.num, remote := p.u16 4, replica := target }).media fun m => { m with
            repl := b :: m.repl.filter (fun x => x.vol ≠ v.num), staged := m.staged.filter (fun t => t.vol ≠ v.num) }
          { st := (s.ship 9 [b.vol, b.link, b2n b.target, b.epochS, 0, 0, 0] []), after := (if target then id else State.requestCommit) }

/-- The staged records and the apply job of a volume are discarded. -/
def State.dropStaged (s : State) (b : Repl) : State :=
  let s := s.media fun m => { m with staged := m.staged.filter (fun t => t.vol ≠ b.vol) }
  match b.job with
  | some (id, _) => s.setDp fun d => { d with writes := d.writes.filter (fun w => ¬ (w.id = id ∧ w.kind = .apply)) }
  | none => s

/-- What a binding holds is let go: its snapshots, the apply job and the staged records (R401, R407). -/
def State.dropRepl (s : State) (b : Repl) : State :=
  let s := (s.freeSnapshot b.vol b.base).freeSnapshot b.vol b.snap
  (s.media fun m => { m with
    snaps := m.snaps.map (fun x => if x.vol = b.vol ∧ b.target ∧ x.repl then { x with held := false } else x) }).dropStaged b

/-- REPL_UNBIND (R409): the volume's binding goes; a target's REPLICA goes with it (log entry 83). -/
def execReplUnbind (p : Packet) (s : State) : Host.Outcome State Fault Refusal :=
  runCmd 0x1315 p s fun s => s.rsvd p 2 2 <|
    s.onVolume (p.u16 0) fun v =>
      match s.nv.media.repl.find? (fun b => b.vol = v.num) with
      | none => s.refuseWith 0x1307 0
      | some b =>
        if v.link = 0xFFFF then s.refuseWith 0x1307 0
        else ((s.setShadowVol { v with link := 0xFFFF, remote := 0, replica := false }).dropRepl b).reply []

/-- REPL_CUT (R401, R405, R257): an epoch in flight that is not STALLED is the one at most in flight. -/
def execReplCut (p : Packet) (s : State) : Host.Outcome State Fault Refusal :=
  runCmd 0x1316 p s fun s => s.rsvd p 2 2 <|
    s.onVolume (p.u16 0) fun v =>
      match s.repl v.num with
      | none => s.refuseWith 0x1307 0
      | some b =>
        if b.target ∨ b.state = 3 ∨ (b.epoch ≠ 0 ∧ b.state = 0) then s.refuseWith 0x1307 (s.get (SNP.LINKl_STS.STATE b.link))
        else if s.genSweep v then s.refuseWith 0x0B01 (s.unswept v.num)
        else
          let s := if b.epoch ≠ 0 then s.freeSnapshot v.num b.snap else s
          (s.setRepl { b with state := 0, epoch := 0, snap := none, total := none, next := 0, sent := [], commitSent := false, asked := true }).reply
            (leBytes 4 (b.applied + 1))

/-- EPOCH_CUT (R401, event 1): EPOCH_S after APPLIED (N − 1). -/
def execEpochCut (vol : Nat) (s : State) : Host.Outcome State Fault Refusal :=
  done (match s.repl vol with
    | none => s
    | some b =>
      if b.target ∨ b.epoch ≠ 0 ∨ b.state ≠ 0 ∨ b.asked ∨ ¬ s.complexRuns then s
      else (s.passTo (b.appliedAt + b.epochS * Config.sec)).setRepl { b with asked := true })

/-- REPL_STATUS (R409): the state by the codes of Table "Volumes, Snapshots and Replication" 11; lag where no epoch has been
applied is not stated. -/
def execReplStatus (p : Packet) (s : State) : Host.Outcome State Fault Refusal :=
  runCmd 0x1317 p s fun s => s.rsvd p 2 2 <|
    if (s.vol (p.u16 0)).isNone then s.refuseWith 0x1303 0 else
    match s.repl (p.u16 0) with
    | none => s.refuseWith 0x1307 0
    | some b =>
      let (f, s) := s.draw
      let lag := if b.applied = 0 ∨ b.target then f else (s.dev - b.baseCut) / Config.ms
      let st := if b.state = 2 then 4 else if b.state = 3 then 5 else s.get (SNP.LINKl_STS.STATE b.link)
      let left := (b.total.getD 0) - (b.next - b.sent.length)
      s.reply (leBytes 4 b.epoch ++ leBytes 4 b.applied ++ leBytes 4 lag ++ leBytes 4 left ++ leBytes 1 st ++ leBytes 3 0)

/-- REPL_PROMOTE (R407). -/
def execReplPromote (p : Packet) (s : State) : Host.Outcome State Fault Refusal :=
  runCmd 0x9320 p s fun s => s.rsvd p 2 2 <|
    s.onVolume (p.u16 0) fun v =>
      match s.repl v.num with
      | none => s.refuseWith 0x1307 0
      | some b =>
        let down := ((s.rlink b.link).map RLink.state).getD 1 = 1
        if ¬ b.target ∨ ¬ (down ∨ b.state = 2) then s.refuseWith 0x1307 (s.get (SNP.LINKl_STS.STATE b.link)) else
        let s := s.dropRepl b
        let s := s.bothVol v.num fun x => { x with replica := false, link := 0xFFFF, remote := 0 }
        (s.saveTables.shipVolume v.num).reply []

/-- REPL_RESYNC (R406): the binding starts again at epoch 1. -/
def execReplResync (p : Packet) (s : State) : Host.Outcome State Fault Refusal :=
  runCmd 0x9321 p s fun s => s.rsvd p 2 2 <|
    s.onVolume (p.u16 0) fun v =>
      match s.repl v.num with
      | none => s.refuseWith 0x1307 0
      | some b =>
        (((s.dropRepl b).setRepl { vol := b.vol, link := b.link, target := b.target, epochS := b.epochS, asked := !b.target,
                                    appliedAt := s.aon }).shipRepl v.num).reply []

/-! ## The epoch cycle's events -/

/-- The target tells the source about an epoch: on its link, or through the partner that got the COMMIT (R401, R406). -/
def State.tellSource (s : State) (b : Repl) (remote kind epoch : Nat) : State :=
  if b.handed then s.sendNrn 8 4 [b.link, remote, kind, epoch] [] else
  match s.rlink b.link with
  | some l => s.replNote l remote kind epoch
  | none => s

/-- The two newest REPL snapshots of a replica stay, HELD; older ones are deleted (R404). -/
def State.keepTwo (s : State) (vol : Nat) : State :=
  let rs := (s.snapsOf vol).filter (fun x => x.repl && x.state = 2)
  let newer := fun (x : Snap) => (rs.filter (fun y => genNewer y.gen x.gen)).length
  (rs.filter (fun x => 2 ≤ newer x)).foldl (fun (s : State) x => s.freeSnapshot vol (some x.num)) s

/-- APPLY_DONE (R401 event 6, R403 to R405): the epoch's map changes in one map commit, a REPL snapshot, and APPLIED; or
APPLY_FAIL, which leaves nothing of the epoch. -/
def execApplyDone (vol : Nat) (s : State) : Host.Outcome State Fault Refusal :=
  done (match s.repl vol, s.vol vol with
    | some b, some v =>
      match b.job, b.commit, s.freeSnap vol with
      | some (id, bad), some (e, _, _), num =>
        let full := decide (v.quota ≠ 0) && decide (v.quota * 2 ^ 30 ≤ s.storedBytes vol)
        if bad ∨ full ∨ ¬ s.tierOpen v.writeTier ∨ num.isNone then
          let s := s.dropStaged b
          let s := (s.setRepl { b with state := 2, job := none, commit := none }).setB SNP.STS.STALLED
          s.tellSource b v.remote 2 e
        else match s.wjob id with
        | none => s
        | some w =>
          if ¬ s.mayCommit w ∨ s.halted then s else
          let s := if e = 1 then s.media fun m => { m with units := m.units.map (fun u => if u.vol = vol then { u with live := none } else u) } else s
          let pages := ((s.commitUnits w).map (fun u => (u.1, u.2 / 512))).eraseDups
          let s := pages.foldl (fun (s : State) u => s.loadPage u.1 u.2 true) (s.commitJob w)
          let x : Snap := { vol := vol, num := num.getD 0, gen := v.vgen, state := 2, held := true, repl := true, created := s.dev }
          let s := s.media fun m => { m with
            snaps := m.snaps ++ [x], staged := m.staged.filter (fun t => ¬ (t.vol = vol ∧ t.epoch = e)) }
          let s := s.bothVol vol fun y => { y with vgen := (y.vgen + 1) % 2 ^ 24 }
          let s := s.setRepl { b with applied := e, job := none, commit := none, state := 0, baseCut := s.dev }
          (((s.keepTwo vol).saveTables.shipVolume vol).shipRepl vol).tellSource b v.remote 1 e
      | _, _, _ => s
    | _, _ => s)

/-- REPL_HELLO (R406): heard on a link that is not DOWN; the firmware serves it once it runs (R408). -/
def execReplHello (link : Nat) (h : ReplHello) (s : State) : Host.Outcome State Fault Refusal :=
  done (match s.rlink link with
    | none => s
    | some l =>
      if (l.state ≠ 2 ∧ l.state ≠ 3) ∨ ((s.conn l.conn).map Conn.state).getD 0 ≠ 2 then s
      else s.setRlink { l with heard := l.heard ++ [h] })

/-- STAGED_EXPIRE (R406): KEEP_H hours after the last record came, while the link is not UP. -/
def execStagedExpire (vol : Nat) (s : State) : Host.Outcome State Fault Refusal :=
  done (match s.nv.media.staged.filter (fun t => t.vol = vol), s.repl vol with
    | t :: ts, some b =>
      if b.job.isSome ∨ ((s.rlink b.link).map RLink.state).getD 1 = 3 then s else
      let last := (t :: ts).foldl (fun m x => max m x.at_) 0
      (s.passTo (last + max 1 (s.get SNP.CFG.KEEP_H) * Config.hour)).media fun m => { m with
        staged := m.staged.filter (fun x => x.vol ≠ vol) }
    | _, _ => s)

/-- LAG_ALARM (R409): once for each time a volume's lag passes LAG_S; 0 disables. -/
def execLagAlarm (vol : Nat) (s : State) : Host.Outcome State Fault Refusal :=
  done (match s.repl vol with
    | none => s
    | some b =>
      let lim := s.get SNP.CFG.LAG_S
      if b.target ∨ b.applied = 0 ∨ lim = 0 ∨ b.lagTold then s else
      ((s.pass (b.baseCut + lim * Config.sec + 1 - s.dev)).setRepl { b with lagTold := true }).setB SNP.STS.LAG)

end Sys2Proof.Machine
end

