-- ==== Sys2Proof/Machine/Servo.lean ====
section
/-! DEFINITION. Commands of spec/11: the servo and spindle loops, heads that load and park, spin-ups, SPINSYNC, and the SRV
and SPN command packets. -/

namespace Sys2Proof.Machine

/-! ## Loop parameter blocks (R340 to R342) -/

/-- Unsigned and signed fields of a block (Table "Servo and Spindle Control" 4). -/
def blockU (b : List Byte) (off n : Nat) : Nat := fieldAt b off n
def blockS (b : List Byte) (off : Nat) : Int := (BitVec.ofNat 16 (fieldAt b off 2)).toInt

/-- BW_TRIM applied to KP and KD, the fields 0 and 2 (Table "Servo and Spindle Control" 4). -/
def trimmed (trim field v : Nat) : Nat :=
  if field = 0 ∨ field = 2 then (BitVec.ofInt 16 ((BitVec.ofNat 16 v).toInt * (100 + (BitVec.ofNat 8 trim).toInt) / 100)).toNat else v

/-- ACC_MAX scale of a profile, in tenths (Table "Servo and Spindle Control" 5). -/
def accScale (profile : Nat) : Nat := if profile = 0 then 5 else if profile = 2 then 6 else 10

/-- The block of a profile and trim for a MODEL, with the defaults that every profile carries (R341). -/
def mkBlock (model : List Byte) (profile trim : Nat) : List Byte :=
  let c := Config.loopCoeff model profile
  let b := (List.range 15).flatMap (fun k => leBytes 2 (trimmed trim k (c k))) ++ leBytes 1 profile ++ leBytes 1 trim ++
    [40, 20, 24, 8, 8, 12, 24, 1] ++ leBytes 2 (c 15 % 65536 * accScale profile / 10) ++ leBytes 2 (c 16) ++ List.replicate 16 0
  b ++ leBytes 4 (crc32c b)

/-- The block a new HDA starts with. -/
def State.newBlock (s : State) (h : Nat) : List Byte :=
  match s.hdaIdent h with
  | some i => mkBlock i.model (if i.dense then 3 else 1) 0
  | none => mkBlock [] 1 0

/-- The committed block of an HDA with its stamp. -/
def State.loopEntry (s : State) (h : Nat) : Nat × List Byte :=
  match s.act.loops.find? (fun e => e.1 = h) with
  | some e => e.2
  | none => (0, s.newBlock h)

/-- PROFILE and OSC of an HDA show the block in use. -/
def State.showLoop (s : State) (h : Nat) : State :=
  let x := s.servo h
  (s.put (SRV.HDAh_STS.PROFILE h) (blockU x.block 30 1)).put (SRV.HDAh_STS.OSC h) (b2n x.safe)

/-- A loop takes up a committed block; i, d, e_prev and the bias table carry over (R342). -/
def State.takeBlock (s : State) (h : Nat) : State :=
  let (n, b) := s.loopEntry h
  let x := s.servo h
  if ¬ x.block.isEmpty ∧ x.taken = n then s
  else (s.setServo h { x with block := b, taken := n, safe := false }).showLoop h

/-- The offset of the first failing check of a block: its CRC, or a notch (R342). -/
def blockBad (b : List Byte) : Option Nat :=
  let notchBad := fun (off : Nat) =>
    let a1 := blockS b (off + 6)
    let a2 := blockS b (off + 8)
    decide (16384 ≤ a2.natAbs) || decide (16384 + a2 ≤ a1.natAbs)
  if fieldAt b 60 4 ≠ crc32c (slice b 0 60) then some 60
  else if notchBad 10 then some 10
  else if notchBad 20 then some 20
  else none

/-- Write blocks into the shadow table, each under a stamp of its own (R342). -/
def putLoops (ts : List (Nat × Nat × List Byte)) (new : List (Nat × List Byte)) : List (Nat × Nat × List Byte) :=
  new.foldl (fun (ts : List (Nat × Nat × List Byte)) e =>
    (e.1, (ts.map (fun x => x.2.1)).foldl max 0 + 1, e.2) :: ts.filter (fun x => x.1 ≠ e.1)) ts

/-! ## The control law (R340) -/

/-- Clamp to ± a bound. -/
def clampInt (m x : Int) : Int := max (-m) (min m x)

/-- One notch, a biquad in direct form II transposed: its output, and its two states in 1/16,384. -/
def notch (b : List Byte) (off : Nat) (x : Int) (z1 z2 : Int) : Int × Int × Int :=
  let y := (blockS b off * x + z1) / 16384
  (y, blockS b (off + 2) * x - blockS b (off + 6) * y + z2, blockS b (off + 4) * x - blockS b (off + 8) * y)

/-- The bias band of a position: 1/32 of the stroke each (R340). -/
def bandOf (stroke : Nat) (y : Int) : Nat := min 31 ((y / 256).toNat * 32 / max 1 stroke)

/-- One wedge of the law: the error, the output and the loop after it. -/
def Servo.law (x : Servo) (stroke : Nat) (y : Int) : Servo :=
  let b := x.block
  let e := clampInt 32767 (x.r + x.offset - y)
  let lim := Int.ofNat (blockU b 8 2)
  let i := clampInt lim (x.i + blockS b 2 * e / 65536)
  let dr := blockS b 4 * (e - x.ePrev) / 4096
  let d := x.d + Int.ofNat (max 1 (blockU b 6 2)) * (dr - x.d) / 65536
  let bias := ((x.bias.find? (fun z => z.1 = 32 * x.head + bandOf stroke y)).map Prod.snd).getD 0
  let u0 := blockS b 0 * e / 4096 + i + d + x.ff + bias
  let (y1, n1a, n1b) := notch b 10 u0 x.n1a x.n1b
  let (y2, n2a, n2b) := notch b 20 y1 x.n2a x.n2b
  { x with i := i, d := d, ePrev := e, n1a := n1a, n1b := n1b, n2a := n2a, n2b := n2b, u := clampInt 32767 y2 }

/-- Once per revolution in FOLLOW, i/64 of the integrator moves into the band's bias entry. -/
def Servo.learn (x : Servo) (stroke : Nat) (y : Int) : Servo :=
  let k := 32 * x.head + bandOf stroke y
  let m := x.i / 64
  let old := ((x.bias.find? (fun z => z.1 = k)).map Prod.snd).getD 0
  { x with i := x.i - m, bias := (k, old + m) :: x.bias.filter (fun z => z.1 ≠ k) }

/-! ## Oscillation (R348) -/

/-- Sign changes between the values of a list whose magnitude reaches a limit. -/
def signChanges (lim : Nat) (l : List Int) : Nat :=
  let big := l.filter (fun x => decide (lim ≤ x.natAbs))
  ((big.zip (big.drop 1)).filter (fun p => decide ((p.1 < 0) ≠ (p.2 < 0)))).length

/-- The sum of squares of a list. -/
def sumSq (l : List Int) : Nat := (l.map (fun x => x.natAbs * x.natAbs)).sum

/-- A full window oscillates: enough changes, and its RMS reaches a limit. -/
def oscillates (full amp cnt rms : Nat) (l : List Int) : Bool :=
  l.length = full && decide (cnt ≤ signChanges amp l) && decide (rms * rms * full ≤ sumSq l)

/-- The integer square root, by bits from the highest. -/
def isqrt (n : Nat) : Nat :=
  (List.range 32).foldl (fun r i => let t := r + 2 ^ (31 - i); if t * t ≤ n then t else r) 0

/-- RMS and peak of an HDA's PES: over 100 ms in FOLLOW, and over 1 s. -/
def State.pesRms (s : State) (h : Nat) : Nat :=
  let l := ((s.servo h).hist.filter (fun x => x.2.2 && decide (s.aon < x.1 + 100 * Config.ms))).map (fun x => x.2.1)
  if l.isEmpty then 0 else isqrt (sumSq l / l.length)
def State.pesPeak (s : State) (h : Nat) : Nat :=
  (((s.servo h).hist.filter (fun x => decide (s.aon < x.1 + Config.sec))).map (fun x => x.2.1.natAbs)).foldl max 0

/-! ## The spindle loop (R351, R352) -/

/-- A spindle at 95 % leaves ACCEL, or is caught, and runs in SYNC without the switch. -/
def State.toSync (s : State) (h : Nat) : State :=
  let s := (s.freeSwitch h).spinTo h 4
  s.setSpin h { s.spin h with inside := 0, beyond := 0, errs := [], oscOn := false, retried := false, recapture := false }

/-- One revolution in SYNC or LOCKED. -/
def State.revolution (s : State) (h : Nat) : State :=
  let st := s.spnState h
  if st ≠ 4 ∧ st ≠ 5 then s else
  let p := s.spin h
  let lock := max 1 (s.get SPN.SYNC_CFG.LOCK_NS)
  let ns := 200 * p.phaseErr.natAbs
  let errs := (200 * p.phaseErr :: p.errs).take 64
  let inside := if ns ≤ lock then p.inside + 1 else 0
  let beyond := if 4 * lock < ns then p.beyond + 1 else 0
  -- More than LOCK_NS between changes, and an RMS above twice LOCK_NS.
  let osc := oscillates 64 (lock + 1) 6 0 errs && decide (4 * lock * lock * 64 < sumSq errs)
  let s := s.setSpin h { p with inside := inside, beyond := beyond, errs := errs, oscOn := osc, halved := p.halved || osc }
  let s := if osc ∧ ¬ p.oscOn then (s.setB SPN.STS.OSC).record 0x1002 0 h 0 [] else s
  if st = 4 ∧ 64 ≤ inside then s.spinTo h (if s.get SPN.SYNC_STS.STATE = 1 then 5 else 6)
  else if st = 5 ∧ 8 ≤ beyond then (s.setSpin h { s.spin h with inside := 0, beyond := 0 }).spinTo h 4
  else s

/-- The rotor's phase error and speed, from a wedge or from back-EMF. -/
def State.rotorAt (s : State) (h : Nat) (x : Rotor) : State :=
  let s := s.setSpin h { s.spin h with phaseErr := x.phaseErr, speed := x.speed }
  let s := (s.put (SPN.HDAh_STS.SPEED_PCT h) (min 255 (x.speed / 100))).put (SPN.HDAh_STS.PHASE_ERR h)
    (BitVec.ofInt 16 x.phaseErr).toNat
  if ¬ s.drives h then s
  else if s.spnState h = 3 ∧ 9500 ≤ x.speed then s.toSync h
  else if s.spnState h = 7 ∧ x.speed < 200 then s.spinTo h 0
  else if x.rev then s.revolution h else s

/-! ## The servo loop (R332 to R334, R343 to R350) -/

/-- Wedges in a row that lose the loop. -/
def State.missMax (s : State) : Nat := min 64 (max 4 (s.get SRV.CFG.MISS_MAX))

/-- The loop is LOST: the engine commands RETRACT; the third time within 10 minutes the HDA becomes FAILING (R334). -/
def State.loopLost (s : State) (h : Nat) : State :=
  let s := ((s.stopRuns h).dropSeek h).servoTo h 7
  let x := s.servo h
  let ts := s.aon :: x.lostAt.filter (fun t => s.aon < t + 600 * Config.sec)
  let s := s.setServo h { x with lostAt := ts, range := false }
  let s := ((s.setB SRV.STS.LOST).record 0x0F01 0 h 0 []).traceTrig h 5
  if 3 ≤ ts.length then s.hdaFailing h else s

/-- A servo oscillation is flagged (R349). -/
def State.servoOsc (s : State) (h : Nat) : State :=
  let x := s.servo h
  let act := blockU x.block 39 1
  let s := ((s.setB SRV.STS.OSC).record 0x0F02 0 h 0 []).traceTrig h 1
  let model := ((s.hdaIdent h).map HdaIdent.model).getD []
  let x := { x with osc := x.osc + 1 }
  if act = 0 then s.setServo h x else
  let s := (s.setServo h { x with safe := true, block := mkBlock model 0 (blockU x.block 31 1) }).showLoop h
  if act = 1 then s else s.unload h false

/-- The heads have settled: FOLLOW, and the answer of a seek test. -/
def State.follow (s : State) (h : Nat) : State :=
  let k := (s.servo h).seek
  let s := s.servoTo h 2
  let s := s.setServo h { s.servo h with seek := none }
  let s := (s.dp.runs.filter (fun r => r.hda = h && r.pairAt.isSome && !r.write)).foldl State.startStream s
  match k with
  | some k => match k.test with
    | some p => s.answerLater p 0 0 (leBytes 4 ((s.aon - k.startAt) / Config.us) ++ leBytes 2 k.settled ++ leBytes 2 0)
    | none => s
  | none => s

/-- The samples of the traced nodes (Table "Servo and Spindle Control" 7), in 16 bits: positions by their low bits, the
others saturating. -/
def nodeValue (x : Servo) (p : Spindle) (w : Wedge) (y : Int) (n : Nat) : Int :=
  let low := fun (v : Int) => (BitVec.ofInt 16 v).toInt
  let sat := fun (v : Int) => max (-32768) (min 32767 v)
  match n with
  | 0 => sat x.ePrev
  | 1 => low y
  | 2 => low x.r
  | 3 => sat x.u
  | 4 => sat x.i
  | 5 => sat x.d
  | 6 => sat x.ff
  | 7 => sat w.samCorr
  | 8 => sat w.burstN
  | 9 => sat w.burstQ
  | 10 => sat p.phaseErr
  | 11 => sat (100 * (Int.ofNat p.speed - 10000))
  | 12 => sat (Config.torque p.phaseErr p.speed p.halved)
  | 13 => sat (Int.ofNat w.arriveNs)
  | _ => sat (Int.ofNat w.issueNs)

/-- The engine demodulates a wedge of loaded heads, the one its flits number, runs the law, and issues the SOUT that answers it. -/
def State.loopWedge (s : State) (h num : Nat) (w : Wedge) : State :=
  let st := s.srvState h
  let s := if st = 3 then s else s.takeBlock h
  let x := s.servo h
  let b := x.block
  let found := w.sam && w.parityOk && decide (w.num = num)
  let est := Config.estimate x.est x.u (if found then some w.y else none)
  let y := if found then w.y else est.1
  let stroke := ((s.hdaIdent h).map HdaIdent.stroke).getD 1
  let law := 2 ≤ st && st ≤ 4
  let missed := law && !found
  -- The reference: fixed, or on the seek's trajectory.
  let x := match st, x.seek with
    | 3, some k =>
      let t := Config.trajectory (blockU b 40 2) (blockU b 42 2) k.fromY k.toY k.wedges
      { x with r := t.1, ff := t.2, seek := some { k with wedges := k.wedges + 1 } }
    | 4, some k => { x with seek := some { k with settled := k.settled + 1 } }
    | _, _ => x
  let good := if found then x.good + 1 else 0
  let x := if law then x.law stroke y else { x with u := clampInt 32767 (Config.rampOut (decide (st = 5)) good) }
  let e := x.ePrev.natAbs
  let near := law && decide (e ≤ blockU b 34 1) && !missed
  let x := { x with
    est := est, expect := (num + 1) % 512, good := good
    misses := x.misses + b2n missed, missed := if missed then x.missed + 1 else 0
    settle := if near then x.settle + 1 else 0
    pes := if st = 2 ∨ st = 4 then (x.ePrev :: x.pes).take 256 else x.pes
    hist := if law then (s.aon, x.ePrev, decide (st = 2)) :: x.hist.filter (fun z => s.aon < z.1 + Config.sec) else x.hist }
  let x := if st = 2 ∧ num = 0 then x.learn stroke y else x
  let osc := (st = 2 ∨ st = 4) && oscillates 256 (blockU b 36 1) (blockU b 37 1) (blockU b 38 1) x.pes
  let inhibit := decide (st ≠ 2) || (x.pes.take 3).any (fun z => decide (blockU b 33 1 < z.natAbs)) || missed ||
    !s.spinning h || osc || decide (0 < x.hold) || decide (x.offset ≠ 0) || s.on FTL.DUMP_STS.RUN
  let began := osc && !x.oscOn
  let s := s.setServo h { x with hold := x.hold - 1, oscOn := osc }
  let s := if missed then ((s.setB SRV.STS.WEDGE_MISS).count SRV.MISS_CNT.COUNT 1).traceTrig h 2 else s
  let lost := missed && decide (s.missMax ≤ x.missed)
  let s := s.sout h num x.u (inhibit || lost) x.range lost false
  let s := if 5400 < w.issueNs then ((s.setB SRV.STS.ISSUE_LATE).count SRV.ISSUE_LATE.COUNT 1).traceTrig h 7 else s
  let s := if law then s.put (SRV.HDAh_STS.PES_RMS h) (min 255 (s.pesRms h)) else s
  let s := if law ∧ (s.trace (h / 48)).level ≤ Int.ofNat e then s.traceTrig h 3 else s
  let s := s.traceStep h (nodeValue x (s.spin h) w y)
  -- A run whose head is off track reads its sectors again (R343).
  let s := if st = 2 ∧ blockU b 32 1 < e then s.setDp fun d => { d with runs := d.runs.map (fun r =>
    if r.hda = h ∧ r.pairAt.isSome then { r with overrun := true } else r) } else s
  if lost then s.loopLost h
  else if began then s.servoOsc h
  else if st = 1 ∧ 16 ≤ good then
    let s := s.servoTo h 4
    s.setServo h { s.servo h with r := (y + 128) / 256 * 256, pes := [], range := false }
  else if st = 4 ∧ max 1 (blockU b 35 1) ≤ x.settle then s.follow h
  else s

/-- A head that listens keeps its estimator going (Table "Servo and Spindle Control" 6). -/
def State.listenWedge (s : State) (h num : Nat) (w : Wedge) : State :=
  let x := s.servo h
  let found := w.sam && w.parityOk && decide (w.num = num)
  s.setServo h { x with
    est := Config.estimate x.est x.u (if found then some w.y else none)
    expect := (num + 1) % 512, good := if found then x.good + 1 else x.good }

/-- One revolution at the measured period, or at 7,200 rpm where none was measured, in ns (R352). -/
def State.revNs (s : State) : Nat :=
  let div := max 1 (s.get SPN.SYNC_CFG.DIV)
  max 1 (((s.hdas.period).getD (div * 8333333)) / div)

/-- The device time that a carrier's time in ns modulo 2^32 stands for: the nearest one (R307, R339). -/
def State.devTime (s : State) (t : Nat) : Int :=
  let d := (t + 2 ^ 32 - s.dev % 2 ^ 32) % 2 ^ 32
  Int.ofNat s.dev + Int.ofNat d - (if d < 2 ^ 31 then 0 else 2 ^ 32)

/-- The mechanical phase error of a wedge whose address mark passed at a carrier time, in 200 ns: wedge 0 is due at the last
accepted edge plus whole revolutions plus PHASE of the active table in 1/8,192 of one (R352). -/
def State.phaseErrOf (s : State) (h num t : Nat) : Int :=
  let rev := s.revNs
  let phase := ((s.act.phases.find? (fun x => x.1 = h)).map Prod.snd).getD 0
  let due := s.hdas.ref + phase * rev / 8192 + num * rev / 512
  let e := (s.devTime t - Int.ofNat due) % Int.ofNat rev
  (if 2 * e < Int.ofNat rev then e else e - Int.ofNat rev) / 200

/-- Real-time flits of a string lost on the way (R299). -/
def State.lostFlits (s : State) (k n : Nat) : State :=
  if n = 0 then s else (s.count (STR.STRING_RTLOST.COUNT k) n).setStr k { s.str k with rtLost := (s.str k).rtLost + n }

/-- A good flit of another TYPE than a row's; the TYPE of one with a bad FCRC means nothing. -/
def otherTyp (typ : Nat) (bytes : List Byte) : Bool := flitGood bytes && flitTyp bytes ≠ typ

/-- A real-time flit arrives: a bad FCRC, or a gap in the count of its direction, is one lost flit (R299). -/
def State.rtArrive (s : State) (k : Nat) (bytes : List Byte) : State :=
  let x := s.str k
  if ¬ flitGood bytes then (s.setStr k { x with rtSeq := x.rtSeq.map (fun n => (n + 1) % 1024) }).lostFlits k 1
  else (s.setStr k { x with rtSeq := some ((flitSeq bytes + 1) % 1024) }).lostFlits k
    (b2n ((x.rtSeq.map (fun n => decide (n ≠ flitSeq bytes))).getD false))

/-- A wedge's window is complete: the rotor's phase comes from its address mark, and the loop or the estimator runs. -/
def State.wedge (s : State) (h num t : Nat) (w : Wedge) : State :=
  let s := if w.sam then s.rotorAt h { phaseErr := s.phaseErrOf h num (t + w.samAt), speed := w.speed, rev := num = 0 } else s
  if s.srvState h = 8 then s.listenWedge h num w
  else if s.drives h ∧ 1 ≤ s.srvState h ∧ s.srvState h ≤ 5 then s.loopWedge h num w
  else s

/-- A wedge of which no sample tells: SAM is not found. -/
def Wedge.none : Wedge := { sam := false, parityOk := false, num := 0, y := 0 }

/-- Wedges of which no flit came are missed: a loop that follows sends their SOUT late (R334, R339). -/
def State.skipWedges (s : State) (h num : Nat) : State :=
  let st := s.srvState h
  if ¬ (2 ≤ st ∧ st ≤ 4) ∨ ¬ s.drives h then s else
  let n := (num + 512 - (s.servo h).expect) % 512
  (List.range n).foldl (fun (s : State) i =>
    if 2 ≤ s.srvState h ∧ s.srvState h ≤ 4 then s.loopWedge h (s.servo h).expect { Wedge.none with issueNs := 16276 * (n - i) } else s) s

/-- A wedge part arrives (R307, R333, R358): the last one completes the window; one of another wedge shows that the last part of
the window before was lost, and that window is demodulated from the parts that came. -/
def State.wedgePart (s : State) (h part num time : Nat) (w : Wedge) : State :=
  let t := (time + 2 ^ 32 - 112 * part) % 2 ^ 32
  let s := match (s.servo h).win with
    | some (n, t0) => if n = num then s else
      let s := s.setServo h { s.servo h with win := none }
      (s.skipWedges h n).wedge h n t0 (if part = 3 then Wedge.none else w)
    | none => s
  if part = 3 then ((s.setServo h { s.servo h with win := none }).skipWedges h num).wedge h num t w
  else s.setServo h { s.servo h with win := some (num, t) }

/-- SSAMP: a servo flit of samples (R307). -/
def execSsamp (str : Nat) (flit : SsampFlit) (s : State) : Host.Outcome State Fault Refusal :=
  let bytes := flit.bytes
  okIf (str < 96 && flit.bytes.length = 128 && flit.wedge.num < 512) (
    if s.pwr.tripped ∨ s.get (STR.STRING_STS.STATE str) ≠ 2 ∨ otherTyp 7 bytes then s else
    let s := s.rtArrive str bytes
    if ¬ flitGood bytes then s else
    let h := 2 * str + fieldAt bytes 4 1 / 128
    let num := fieldAt bytes 5 2
    if num = 0xFFFF then
      let s := s.rotorAt h flit.rotor
      if s.srvState h = 8 then s.setServo h { s.servo h with good := 0 } else s
    else if num < 512 then s.wedgePart h (bitsAt (fieldAt bytes 4 1) 1 2) num (fieldAt bytes 7 4) flit.wedge
    else s)

/-- PARKED_SOUT: every 16.28 µs of device time for a parked or retracting slot (R332); a slot not yet taken up gets the hold
value with its spindle off (R78). -/
def execParkedSout (hda : Nat) (s : State) : Host.Outcome State Fault Refusal :=
  okIf (hda < 192) (
    let st := s.srvState hda
    let up := s.get (STR.STRING_STS.STATE (hda / 2)) = 2
    if s.pwr.tripped ∨ ¬ up then s
    else if s.drives hda ∧ (st = 0 ∨ st = 6 ∨ st = 7) then
      let s := s.pass 16276
      s.sout hda 0xFFFF Config.holdOut true false (st ≠ 0) false
    else if ¬ s.drives hda ∧ st = 15 then
      (s.pass 16276).soutOff hda
    else s)

/-! ## Heads that load and park (R334, R342 to R347) -/

/-- LOAD_RETRY: 100 ms after the heads have parked from LOST. -/
def execLoadRetry (hda : Nat) (s : State) : Host.Outcome State Fault Refusal :=
  okIf (hda < 192) (match (s.servo hda).reloadAt with
    | none => s
    | some t =>
      let s := s.passTo t
      if s.srvState hda = 0 ∧ s.spinning hda ∧ s.drives hda then (s.setServo hda { s.servo hda with reloadAt := none }).load hda else s)

/-- LOAD_TIMEOUT: 0.5 s of LOADING. -/
def execLoadTimeout (hda : Nat) (s : State) : Host.Outcome State Fault Refusal :=
  okIf (hda < 192) (if s.srvState hda = 1 then (s.passTo ((s.servo hda).since + 500 * Config.ms)).servoTo hda 6 else s)

/-- TRAJECTORY_END: SETTLE on the target, in LOW range; a waiting block is taken up (R342, R344, R346). -/
def execTrajectoryEnd (hda : Nat) (s : State) : Host.Outcome State Fault Refusal :=
  okIf (hda < 192) (match (s.servo hda).seek with
    | some k =>
      if s.srvState hda ≠ 3 then s else
      let s := s.servoTo hda 4
      (s.setServo hda { s.servo hda with r := k.toY, ff := 0, range := false, pes := [] }).takeBlock hda
    | none => s)

/-- The heads are on the ramp. -/
def State.parked (s : State) (h : Nat) : State :=
  let brake := (s.servo h).brake
  let s := s.servoTo h 0
  let s := s.setServo h { s.servo h with brake := false }
  if brake then s.brake h else s

/-- UNLOAD_DONE. -/
def execUnloadDone (hda : Nat) (s : State) : Host.Outcome State Fault Refusal :=
  okIf (hda < 192) (if s.srvState hda = 5 then s.parked hda else s)

/-- RETRACT_PULSE_END: RET_MS after the retract. -/
def execRetractPulseEnd (hda : Nat) (s : State) : Host.Outcome State Fault Refusal :=
  okIf (hda < 192) (
    let st := s.srvState hda
    if st ≠ 6 ∧ st ≠ 7 then s else
    let s := (s.passTo ((s.servo hda).since + min 255 (max 1 Config.retractMs) * Config.ms)).parked hda
    if st = 7 then s.setServo hda { s.servo hda with reloadAt := some (s.aon + 100 * Config.ms) } else s)

/-! ## SPINSYNC (R352) -/

/-- The nominal period in ns. -/
def State.syncNominal (s : State) : Nat := max 1 (s.get SPN.SYNC_CFG.DIV) * 8333333

/-- The multiple of the nominal period, up to 4, that an interval is within ±0.1 % of. -/
def State.syncMultiple (s : State) (ns : Nat) : Option Nat :=
  [1, 2, 3, 4].find? (fun m =>
    let n := m * s.syncNominal
    decide (1000 * (max ns n - min ns n) ≤ n))

/-- SPINSYNC: a rising edge at a device time, stamped to 2 ns; a time that is past has no edge left to bring. -/
def execSpinsync (stamp : Nat) (s : State) : Host.Outcome State Fault Refusal :=
  done (if stamp < s.dev then s else
    let s := s.pass (stamp - s.dev)
    let t := stamp / 2 * 2
    if ¬ s.on SPN.SYNC_CFG.EN ∨ s.pwr.tripped ∨ s.start.reached < 1 then s else
    match s.hdas.edge with
    | none => s.setHdas fun d => { d with edge := some t, ref := t }
    | some e =>
      match s.syncMultiple (t - e) with
      | none => s.count SPN.SYNC_STS.REJECTED 1
      | some m =>
        let s := (s.setHdas fun d => { d with edge := some t, ref := t, period := some ((t - e) / m) }).put SPN.SYNC_STS.STATE 1
        (List.range 192).foldl (fun (s : State) h => if s.spnState h = 6 then
          (s.setSpin h { s.spin h with inside := 0, beyond := 0 }).spinTo h 4 else s) s)

/-- The reference is lost: LOCKED spindles run FREE. -/
def State.syncLost (s : State) : State :=
  if s.get SPN.SYNC_STS.STATE ≠ 1 then s.setHdas fun d => { d with edge := none } else
  let s := (s.setHdas fun d => { d with edge := none }).put SPN.SYNC_STS.STATE (if s.hdas.period.isSome then 2 else 0)
  ((List.range 192).foldl (fun (s : State) h => if s.spnState h = 5 then s.spinTo h 6 else s) s).setB SPN.STS.SYNC_LOST

/-- SYNC_HOLDOVER: four nominal periods after the last accepted edge, or with EN = 0. -/
def execSyncHoldover (s : State) : Host.Outcome State Fault Refusal :=
  done (match s.hdas.edge with
    | none => s
    | some e => if s.on SPN.SYNC_CFG.EN then (s.pass (e + 4 * s.syncNominal - s.dev)).syncLost else s.syncLost)

/-! ## Spin-ups (R353 to R356) -/

/-- Spindles on carriers this head drives in ALIGN or ACCEL. -/
def State.starting (s : State) : Nat :=
  ((List.range 192).filter (fun h => s.drives h && (s.spnState h = 2 || s.spnState h = 3))).length

/-- A spindle that waits needs the switch: all but one caught at 80 % or more (R356). -/
def State.needsSwitch (s : State) (h : Nat) : Bool := !((s.spin h).recapture && 8000 ≤ (s.spin h).speed)

/-- A waiting spindle whose switch is free, or that needs none. -/
def State.mayStart (s : State) (h : Nat) : Bool :=
  s.spnState h = 1 && s.drives h && (!s.needsSwitch h || !(s.spin (otherSlot h)).switch)

/-- One waiting spin-up comes before another: by class, then by age. -/
def spinBefore (a b : Spindle) : Bool := a.cls < b.cls || a.cls = b.cls && a.askedAt < b.askedAt

/-- SPINUP_GRANT (R354). -/
def execSpinupGrant (hda : Nat) (s : State) : Host.Outcome State Fault Refusal :=
  okIf (hda < 192) (
    let most := min 48 (max 1 (s.get SPN.CFG.MAX_SPINUP))
    if ¬ s.mayStart hda ∨ most ≤ s.starting ∨ s.halted ∨
        (List.range 192).any (fun h => h ≠ hda && s.mayStart h && spinBefore (s.spin h) (s.spin hda)) then s else
    let s := s.passTo (match s.hdas.lastSpinUp with
      | some t => t + s.get SPN.CFG.STAGGER_10MS * (10 * Config.ms)
      | none => s.aon)
    let needs := s.needsSwitch hda
    let p := s.spin hda
    let s := s.setSpin hda { p with switch := needs, grantAt := s.aon, spinUps := p.spinUps + 1, halved := false }
    let s := (s.setHdas fun d => { d with lastSpinUp := some s.aon }).clrB (SPN.HDAh_STS.SW_WAIT hda)
    let s := if ¬ needs then s.toSync hda else s.spinTo hda (if p.recapture ∧ 1000 ≤ p.speed then 3 else 2)
    -- The other slot finds the switch held (R353).
    if needs ∧ s.spnState (otherSlot hda) = 1 then (s.setB (SPN.HDAh_STS.SW_WAIT (otherSlot hda))).setB SPN.STS.SW_WAIT else s)

/-- ALIGN_DONE. -/
def execAlignDone (hda : Nat) (s : State) : Host.Outcome State Fault Refusal :=
  okIf (hda < 192) (if s.spnState hda = 2 then s.spinTo hda 3 else s)

/-- SPINUP_TIMEOUT (R355): 12 s of switch hold. -/
def execSpinupTimeout (hda : Nat) (s : State) : Host.Outcome State Fault Refusal :=
  okIf (hda < 192) (if s.spnState hda ≠ 2 ∧ s.spnState hda ≠ 3 then s else
    let s := s.passTo ((s.spin hda).grantAt + 12 * Config.sec)
    let s := (s.freeSwitch hda).spinTo hda 9
    let s := s.setSpin hda { s.spin hda with faultAt := s.aon, fails := (s.spin hda).fails + 1 }
    (s.setB SPN.STS.SPINUP_FAIL).record 0x1001 0 hda 0 [])

/-- FAULT_RETRY (R355): one retry after 10 s; the retry's own FAULT ends the spindle and the HDA. -/
def execFaultRetry (hda : Nat) (s : State) : Host.Outcome State Fault Refusal :=
  okIf (hda < 192) (if s.spnState hda ≠ 9 then s else
    let p := s.spin hda
    if p.retried then (s.spinTo hda 10).hdaFailed hda else
    let s := s.passTo (p.faultAt + 10 * Config.sec)
    let s := (s.setSpin hda { s.spin hda with retried := true, askedAt := s.aon, recapture := true }).spinTo hda 1
    if (s.spin (otherSlot hda)).switch then (s.setB (SPN.HDAh_STS.SW_WAIT hda)).setB SPN.STS.SW_WAIT else s)

/-- IDLE_SPIN_DOWN (R356): no run granted for IDLE_MIN minutes; decisions pause while the complex is in reset (R358). -/
def execIdleSpinDown (hda : Nat) (s : State) : Host.Outcome State Fault Refusal :=
  okIf (hda < 192) (
    let m := s.get SPN.CFG.IDLE_MIN
    if m = 0 ∨ ¬ s.drives hda ∨ ¬ s.spinning hda ∨ s.cmd.inReset ∨ s.dp.runs.any (fun r => r.hda = hda) then s
    else (s.passTo ((s.spin hda).lastRun + m * 60 * Config.sec)).unload hda true)

/-! ## Command packets (Tables "Servo and Spindle Control" 10 and 11) -/

/-- The HDA a command names: why it is refused (R3, R360). -/
def State.hdaRefused (s : State) (h : Nat) : Option (Nat × Nat) :=
  if 192 ≤ h then some (0x000A, 0)
  else if ¬ s.stringEnabled (h / 2) then some (0x0004, h / 2)
  else if s.hdaState h < 2 then some (0x0E01, h)
  else none

/-- Run a command on an HDA that it may name. -/
def State.onHda1 (s : State) (h : Nat) (f : State → Res) : Res :=
  match s.hdaRefused h with
  | some (st, d) => s.refuseWith st d
  | none => f s

/-- First reserved byte of some that is not zero. -/
def rsvdByte (p : Packet) (offs : List Nat) : Option Nat := offs.find? (fun o => p.u8 o ≠ 0)

/-- Run a command whose reserved bytes are zero. -/
def State.zeros (s : State) (p : Packet) (offs : List Nat) (f : State → Res) : Res :=
  match rsvdByte p offs with
  | some o => s.refuseWith 0x000A o
  | none => f s

/-- SRV_STATUS. -/
def execSrvStatus (p : Packet) (s : State) : Host.Outcome State Fault Refusal :=
  runCmd 0x0F01 p s fun s => s.zeros p [1, 2, 3] fun s => s.onHda1 (p.u8 0) fun s =>
    let h := p.u8 0
    let x := s.servo h
    let (w, s) := s.readRegs [0xD0100 + 4 * h]
    s.reply (w ++ leBytes 2 (min 65535 (s.pesRms h)) ++ leBytes 2 (s.pesPeak h) ++ leBytes 4 x.misses ++ leBytes 4 x.dlMisses ++
      leBytes 4 x.osc)

/-- The HDAs a table write names: one, or with 0xFF every one this head drives. -/
def State.named (s : State) (h : Nat) : List Nat := if h = 0xFF then (List.range 192).filter s.drives else [h]

/-- LOOP_PROFILE. -/
def execLoopProfile (p : Packet) (s : State) : Host.Outcome State Fault Refusal :=
  runCmd 0x0F02 p s fun s =>
    let go := fun (s : State) =>
      if 3 < p.u8 1 then s.refuseWith 0x000A 1
      else if 25 < (signed8 (p.u8 2)).natAbs then s.refuseWith 0x000A 2
      else
        let new := (s.named (p.u8 0)).map (fun h =>
          (h, mkBlock (((s.hdaIdent h).map HdaIdent.model).getD []) (p.u8 1) (p.u8 2)))
        ({ s with shadow := { s.shadow with loops := putLoops s.shadow.loops new } } : State).reply []
    s.zeros p [3] fun s => if p.u8 0 = 0xFF then go s else s.onHda1 (p.u8 0) go

/-- LOOP_GET. -/
def execLoopGet (p : Packet) (s : State) : Host.Outcome State Fault Refusal :=
  runCmd 0x0F03 p s fun s => s.zeros p [1, 2, 3] fun s => s.onHda1 (p.u8 0) fun s =>
    let b := (s.servo (p.u8 0)).block
    s.reply (slice (if b.isEmpty then (s.loopEntry (p.u8 0)).2 else b) 0 64)

/-- The quadrant that LOC names. -/
def locQuadrant (p : Packet) : Option Nat := if bitsAt p.loc 6 2 = 1 then some (bitsAt p.loc 4 2) else none

/-- TRACE_ARM (R350). -/
def execTraceArm (p : Packet) (s : State) : Host.Outcome State Fault Refusal :=
  runCmd 0x0F04 p s fun s =>
    match locQuadrant p with
    | none => s.refuseWith 0x0005 0
    | some q => s.zeros p [10, 11] fun s => s.onHda1 (p.u8 0) fun s =>
      let h := p.u8 0
      let nodes := [1, 2, 3, 4].map p.u8
      let bad := [1, 2, 3, 4].find? (fun o => 14 < p.u8 o ∧ p.u8 o ≠ 0xFF)
      if h / 48 ≠ q then s.refuseWith 0x000A 0
      else if bad.isSome then s.refuseWith 0x000A (bad.getD 1)
      else if nodes.all (· = 0xFF) then s.refuseWith 0x000A 1
      else if 7 < p.u8 5 then s.refuseWith 0x000A 5
      else if 8 < p.u8 8 then s.refuseWith 0x000A 8
      else if (s.trace q).armed then s.refuseWith 0x0F02 q
      else if ¬ s.drives h ∧ s.srvState h ≠ 8 then s.refuseWith 0x0F01 (h / 2)
      else
        let t : Trace := { hda := h, nodes := nodes.filter (· ≠ 0xFF), trig := p.u8 5, level := Int.ofNat (p.u16 6),
                           pre := p.u8 8, decim := max 1 (p.u8 9) }
        let s := (s.setTrace q t).showTrace q
        (if p.u8 5 = 0 then s.traceTrig h 0 else s).reply []

/-- TRACE_READ: samples from the oldest on. -/
def execTraceRead (p : Packet) (s : State) : Host.Outcome State Fault Refusal :=
  runCmd 0x0F05 p s fun s =>
    match locQuadrant p with
    | none => s.refuseWith 0x0005 0
    | some q =>
      let l := (((s.trace q).buf.reverse).drop (p.u32 0)).take 2048
      s.reply (l.flatMap (fun x => leBytes 2 (BitVec.ofInt 16 x).toNat))

/-- LOOP_SET_RAW (expert). -/
def execLoopSetRaw (p : Packet) (s : State) : Host.Outcome State Fault Refusal :=
  runCmd 0x8F10 p s fun s =>
    let b := slice p.params 4 64
    let go := fun (s : State) => match blockBad b with
      | some off => s.refuseWith 0x0F03 off
      | none => ({ s with shadow := { s.shadow with
          loops := putLoops s.shadow.loops ((s.named (p.u8 0)).map (fun h => (h, b))) } } : State).reply []
    s.zeros p [1, 2, 3] fun s => if p.u8 0 = 0xFF then go s else s.onHda1 (p.u8 0) go

/-- SEEK_TEST (expert): a seek as class 3; the reply comes with FOLLOW. -/
def execSeekTest (p : Packet) (s : State) : Host.Outcome State Fault Refusal :=
  runCmd 0x8F11 p s fun s => s.zeros p [2, 3] fun s => s.onHda1 (p.u8 0) fun s =>
    let h := p.u8 0
    match s.hdaIdent h with
    | none => s.refuseWith 0x0E01 h
    | some i =>
      if ¬ s.drives h then s.refuseWith 0x0F01 (h / 2)
      else if s.spnState h = 10 ∨ s.hdaState h = 6 then s.refuseWith 0x1002 h
      else if i.heads ≤ p.u8 1 then s.refuseWith 0x000A 1
      else if i.stroke ≤ p.u32 4 then s.refuseWith 0x000A 4
      else { st := s.askRun h 3 0 0 0 false [] (.seekTest p (p.u8 1) (p.u32 4)), later := true }

/-- SPIN_UP. -/
def execSpinUp (p : Packet) (s : State) : Host.Outcome State Fault Refusal :=
  runCmd 0x1001 p s fun s => s.zeros p [2, 3] fun s => s.onHda1 (p.u8 0) fun s =>
    let h := p.u8 0
    if 3 < p.u8 1 then s.refuseWith 0x000A 1
    else if ¬ s.drives h then s.refuseWith 0x1001 (h / 2)
    else if s.spnState h = 10 then s.refuseWith 0x1002 h
    else (s.askSpin h (p.u8 1)).reply []

/-- SPIN_DOWN. -/
def execSpinDown (p : Packet) (s : State) : Host.Outcome State Fault Refusal :=
  runCmd 0x1002 p s fun s => s.zeros p [1, 2, 3] fun s => s.onHda1 (p.u8 0) fun s =>
    let h := p.u8 0
    if ¬ s.drives h then s.refuseWith 0x1001 (h / 2)
    else if s.spnState h = 10 then s.refuseWith 0x1002 h
    else (s.unload h true).reply []

/-- SPIN_STATUS. -/
def execSpinStatus (p : Packet) (s : State) : Host.Outcome State Fault Refusal :=
  runCmd 0x1003 p s fun s => s.zeros p [1, 2, 3] fun s => s.onHda1 (p.u8 0) fun s =>
    let h := p.u8 0
    let x := s.spin h
    let ns := x.spinNs + (if s.spinning h then s.aon - x.spinAt else 0)
    let (w, s) := s.readRegs [0xE0100 + 4 * h]
    s.reply (w ++ leBytes 4 x.spinUps ++ leBytes 4 x.fails ++ leBytes 4 (ns / Config.sec))

/-- PHASE_SET. -/
def execPhaseSet (p : Packet) (s : State) : Host.Outcome State Fault Refusal :=
  runCmd 0x1004 p s fun s =>
    let go := fun (s : State) =>
      if 8191 < p.u16 2 then s.refuseWith 0x000A 2
      else
        let hs := s.named (p.u8 0)
        ({ s with shadow := { s.shadow with
          phases := hs.map (fun h => (h, p.u16 2)) ++ s.shadow.phases.filter (fun x => ¬ hs.contains x.1) } } : State).reply []
    s.zeros p [1] fun s => if p.u8 0 = 0xFF then go s else s.onHda1 (p.u8 0) go

/-- MOTOR_SET (expert): pole pairs of an HDA, in the settings block. -/
def execMotorSet (p : Packet) (s : State) : Host.Outcome State Fault Refusal :=
  runCmd 0x9010 p s fun s => s.zeros p [2, 3] fun s => s.onHda1 (p.u8 0) fun s =>
    (s.storeSettings [([0x0007, p.u8 0], [p.u8 1])] true).reply []

end Sys2Proof.Machine
end

