-- ==== Sys2Proof/Machine/Hda.lean ====
section
/-! DEFINITION. Commands of spec/10: strings and carriers, drive, the decoder pool, recovery and reallocation, HDA tuning, and
the HRC and STR command packets. -/

namespace Sys2Proof.Machine

/-! ## What is shown of strings and HDAs -/

/-- The HDA in a slot, as the carrier's IDENT shows it. -/
def State.slotIdent (s : State) (h : Nat) : Option HdaIdent :=
  (s.str (h / 2)).ident.bind (fun c => if h % 2 = 0 then c.slot0 else c.slot1)

/-- Dense HDAs with a number below h that the licence may take (R306). -/
def State.denseBelow (s : State) (h : Nat) : Nat :=
  ((List.range h).filter (fun x => match s.slotIdent x with
    | some i => i.dense && !i.refused
    | none => false)).length

/-- STATE of an HDA (Table "HDA Strings and the Central Read Channel" 14): READ_ONLY is a dense HDA beyond the licence. -/
def State.stateOf (s : State) (h : Nat) : Nat :=
  match s.slotIdent h with
  | none => 0
  | some i =>
    if i.refused then 1 else
    match s.hdaMedia h with
    | none => 2
    | some m =>
      if m.failed then 6 else if m.failing then 5 else if ¬ m.formatted then 2
      else if i.dense ∧ s.get HRC.LIC.LICENSED ≤ s.denseBelow h then 4 else 3

/-- Every field of HRC_HDAh_STS but DRIVER and SM1_MISS. -/
def State.showHda (s : State) (h : Nat) : State :=
  let s := (s.put (HRC.HDAh_STS.STATE h) (s.stateOf h)).put (HRC.HDAh_STS.DENSE h)
    (b2n (((s.slotIdent h).map HdaIdent.dense).getD false))
  match s.slotIdent h, s.hdaMedia h with
  | some _, some m => (s.put (HRC.HDAh_STS.SPARE_PCT h) (s.sparePct m)).put (HRC.HDAh_STS.HEADS_FAILED h) m.headsFailed.length
  | _, _ => (s.put (HRC.HDAh_STS.SPARE_PCT h) 100).put (HRC.HDAh_STS.HEADS_FAILED h) 0

/-- Every HDA again, and USED, after the licence or an HDA has changed. -/
def State.showHdas (s : State) : State :=
  let s := ((List.range 192).filter (fun h => (s.slotIdent h).isSome || s.hdaState h ≠ 0)).foldl State.showHda s
  s.put HRC.LIC.USED (min (s.get HRC.LIC.LICENSED) (s.denseBelow 192))

/-! ## Strings that come up and go down (R298 to R302, R305) -/

/-- An HDA is found in a slot: one known by its serial keeps what it holds, another brings what its system zones hold; a new
HDA starts with its default loop block (R341). -/
def State.adoptHda (s : State) (h : Nat) (i : HdaIdent) (f : HdaFound) : State :=
  match s.nv.media.hdas.find? (fun x => x.ident.serial = i.serial) with
  | some m =>
    let s := s.media fun x => { x with hdas := x.hdas.filter (fun y => y.ident.serial ≠ i.serial) }
    s.setHdaMedia { m with hda := h, ident := i }
  | none =>
    let s := s.setHdaMedia { hda := h, ident := i, formatted := f.formatted, realloc := f.realloc, wptr := f.wptr, pass := f.pass }
    let drop := fun (t : Tables) => ({ t with
      loops := t.loops.filter (fun x => x.1 ≠ h), hsets := t.hsets.filter (fun x => x.hda ≠ h) } : Tables)
    let s := { s with act := drop s.act, shadow := drop s.shadow }
    let s := s.setServo h { s.servo h with block := [], taken := 0 }
    if s.spnState h = 10 then s.spinTo h 0 else s

/-- The servo engine takes up a carrier's HDAs: the first SOUT carry the hold value with the spindles off (R78). -/
def State.takeString (s : State) (k : Nat) : State :=
  if s.on (STR.STRING_STS.DRIVER k) then s.setStr k { s.str k with joined := true } else
  (slotsOf k).foldl State.soutOff (s.setStr k { s.str k with joined := true })

/-- STRING_UP's effect: identities are read, HDAs are accepted or REFUSED. -/
def State.stringUp (s : State) (k : Nat) (ident : CarrierIdent) (f0 f1 : HdaFound) : State :=
  let s := (s.setStr k { s.str k with ident := some ident, retrains := 0, joined := false, rtSeq := none }).stringTo k 2
  let s := (s.put (STR.STRING_STS.SLOT0 k) (b2n ident.slot0.isSome)).put (STR.STRING_STS.SLOT1 k) (b2n ident.slot1.isSome)
  let put := fun (s : State) (h : Nat) (i : Option HdaIdent) (f : HdaFound) => match i with
    | some i =>
      if i.refused then s.record 0x0E01 0 h 0 [] else s.adoptHda h i f
    | none => s
  let s := put (put s (2 * k) ident.slot0 f0) (2 * k + 1) ident.slot1 f1
  s.showHdas

/-- STRING_DOWN: a lane is lost, or a retraining fails for the third time in a row (R300). -/
def execStringDown (str : Nat) (laneLost : Bool) (s : State) : Host.Outcome State Fault Refusal :=
  okIf (str < 96) (
    if s.get (STR.STRING_STS.STATE str) = 0 then s else
    let n := (s.str str).retrains + 1
    let s := s.setStr str { s.str str with retrains := n }
    if laneLost ∨ 3 ≤ n then s.stringDown str else s.stringTo str 1)

/-- CSTAT (R302, R324, R339). -/
def execCstat (str : Nat) (c : Cstat) (s : State) : Host.Outcome State Fault Refusal :=
  okIf (str < 96 && -128 ≤ c.temp0 && c.temp0 ≤ 127 && -128 ≤ c.temp1 && c.temp1 ≤ 127) (
    if s.get (STR.STRING_STS.STATE str) ≠ 2 then s else
    let byte := fun (t : Int) => (BitVec.ofInt 8 t).toNat
    let s := (s.put (STR.STRING_STS.TEMP0_C str) (byte c.temp0)).put (STR.STRING_STS.TEMP1_C str) (byte c.temp1)
    let s := s.put (STR.STRING_STS.OTHER_DRIVES str) (b2n c.otherDrives)
    let n := c.deadlines0 + c.deadlines1
    let x := s.str str
    let new := x.dlSince + Config.sec ≤ s.aon
    let sum := (if new then 0 else x.dlMisses) + n
    let excess := decide (max 1 (s.get SRV.CFG.DL_THR) < sum)
    let told := !new && x.dlTold
    let s := s.setStr str { x with
      cstatAt := s.aon, fresh := true, dlMisses := sum, dlSince := if new then s.aon else x.dlSince, dlTold := told || excess }
    let s := s.count SRV.DL_CNT.COUNT n
    let add := fun (s : State) (h m : Nat) => s.setServo h { s.servo h with dlMisses := (s.servo h).dlMisses + m }
    let s := add (add s (2 * str) c.deadlines0) (2 * str + 1) c.deadlines1
    let s := if excess ∧ ¬ told then (s.setB SRV.STS.DL_MISS).record 0x0F03 0 str 0 [] else s
    -- Windows whose temperature has moved too far will be discarded (R326).
    let far := fun (t : HSet) => t.hda / 2 = str && decide (0 < t.winCw) && (match t.winTemp, s.hdaTemp t.hda with
      | some w, some z => decide (max 1 (s.get TUN.HDA_VAL.TEMP_TOL_C) < tempGap z w)
      | _, _ => false)
    let s := (s.act.hsets.filter far).foldl (fun (s : State) t => s.setHset { t with winBad := true }) s
    let s := if c.retracted then (s.setB (STR.STRING_STS.RETRACTED str)).setStr str { s.str str with handed := false } else s
    let s := if c.retracted ∨ ¬ c.driver then s.driveLost str else s
    (s.showDriver str).listen str)

/-- CSTAT_TIMEOUT: 1 s after the last CSTAT, every set in use on the carrier is out of context (R324). -/
def execCstatTimeout (str : Nat) (s : State) : Host.Outcome State Fault Refusal :=
  okIf (str < 96) (
    let x := s.str str
    if x.fresh then (s.passTo (x.cstatAt + Config.sec)).setStr str { x with fresh := false } else s)

/-- POOR_CHECK: each second the growth of real-time loss counts towards POOR; the drive of a POOR string's carrier moves to
the partner where it can reach it (R300). -/
def execPoorCheck (s : State) : Host.Outcome State Fault Refusal :=
  done (
    let s := s.passTo (s.nextTick Config.sec)
    let thr := max 1 (s.get STR.CFG.RT_LOSS_THR)
    (List.range 96).foldl (fun (s : State) k =>
      let x := s.str k
      let bad := thr ≤ x.rtLost - x.lostAt
      let s := s.setStr k { x with
        lostAt := x.rtLost, badSecs := if bad then x.badSecs + 1 else 0, goodSecs := if bad then 0 else x.goodSecs + 1 }
      if bad ∧ 9 ≤ x.badSecs ∧ ¬ s.on (STR.STRING_STS.POOR k) then
        let s := (s.setB (STR.STRING_STS.POOR k)).record 0x1101 0 k 0 []
        if s.synced ∧ s.on (STR.STRING_STS.DRIVER k) ∧ ¬ s.pair.downThere.contains (hdaCode (2 * k)) then
          s.propose (.drive k (s.headNo = 0)) else s
      else s) s)

/-- POOR_CLEAR: 60 s below the threshold. -/
def execPoorClear (str : Nat) (s : State) : Host.Outcome State Fault Refusal :=
  okIf (str < 96) (if 60 ≤ (s.str str).goodSecs then s.clrB (STR.STRING_STS.POOR str) else s)

/-! ## Taking drive (R301, R328, R356, R357) -/

/-- A slot is taken up: after a handover it keeps the state it had; else its heads reload and a spindle that still turns is
caught. -/
def State.takeUp (s : State) (handed : Bool) (h : Nat) : State :=
  match s.hdaMedia h with
  | none => s
  | some m =>
    if s.hdaState h < 2 then s else
    let put := fun (t : Tables) => ({ t with hsets := m.sets ++ t.hsets.filter (fun x => x.hda ≠ h) } : Tables)
    let s := { s with act := put s.act, shadow := put s.shadow }
    let x := s.servo h
    let speed := (s.spin h).speed
    let live := handed && decide (s.srvState h = 8) && decide (0 < x.good)
    let s := (s.servoTo h (if live then 2 else 0)).spinTo h (if s.spnState h = 10 then 10
      else if handed ∧ 9500 ≤ speed then 4 else if 200 ≤ speed then 8 else 0)
    let s := s.setSpin h { s.spin h with inside := 0, beyond := 0, errs := [], oscOn := false, lastRun := s.aon }
    let x := { s.servo h with
      d := 0, ePrev := 0, n1a := 0, n1b := 0, n2a := 0, n2b := 0, ff := 0, pes := [], oscOn := false, offset := 0, seek := none
      range := false, brake := false, hold := 8, i := if live then x.est.2.2 else 0
      r := (x.est.1 + 128) / 256 * 256, reloadAt := none }
    let s := s.setServo h x
    if handed ∨ speed < 200 then s
    else (s.setServo h { x with reloadAt := some s.aon }).askSpin h 3

/-- A claim has succeeded. -/
def State.takeDrive (s : State) (k : Nat) : State :=
  let handed := (s.str k).handed
  let s := s.setStr k { s.str k with claiming := false, handed := false }
  let s := ((s.setB (STR.STRING_STS.DRIVER k)).clrB (STR.STRING_STS.OTHER_DRIVES k)).showDriver k
  (slotsOf k).foldl (fun (s : State) h => s.takeUp handed h) s

/-! ## Samples (R299, R307, R314) -/

/-- RSAMP: a flit by its fields, its first four bytes in head, byte 0 of the payload in slot, and 112 samples of a stream (R307); the
positions of lost flits become erasures (R329), a full buffer discards until the next sector. -/
def execRsamp (str head slot stream first : Nat) (samples : List Byte) (fcrc : Nat) (s : State) : Host.Outcome State Fault Refusal :=
  let bytes := leBytes 4 head ++ leBytes 1 slot ++ leBytes 2 stream ++ leBytes 5 first ++ samples ++ leBytes 4 fcrc
  okIf (str < 96 && head < 2 ^ 32 && slot < 256 && stream < 2 ^ 16 && first < 2 ^ 40 && samples.length = 112 && fcrc < 2 ^ 32) (
    if s.get (STR.STRING_STS.STATE str) ≠ 2 ∨ otherTyp 6 bytes then s else
    let s := s.rtArrive str bytes
    if ¬ flitGood bytes then s else
    let h := 2 * str + slot / 128
    match s.dp.runs.find? (fun r => r.hda = h && !r.write && r.pairAt.isSome && r.id % 65536 = stream) with
    | none => s
    | some r =>
      if ¬ s.drives h ∨ r.overrun ∨ first < r.base + r.samples.length then s else
      let gap := List.replicate (first - (r.base + r.samples.length)) (0 : Byte)
      let all := r.samples ++ gap ++ samples
      if 2 ^ 20 < all.length then (s.setRun { r with overrun := true }).setB HRC.STS.OVERRUN
      else s.setRun { r with samples := all })

/-! ## The decoder pool (R313) -/

/-- A read run whose first sector comes by: its head follows the run's track, and no other run has the HDA. -/
def State.grantable (s : State) (r : HdaRun) : Bool :=
  let st := s.hdaState r.hda
  r.wants && s.drives r.hda && 2 ≤ st && st ≤ 5 && decide (s.srvState r.hda = 2) && s.spinning r.hda && !s.halted &&
  !s.dp.runs.any (fun x => x.hda = r.hda && s.runActive x) &&
  (match s.runPlace r with
    | some (head, cyl) => decide ((s.servo r.hda).head = head) && decide ((s.servo r.hda).r = 256 * Int.ofNat cyl)
    | none => false)

/-- RUN_GRANT: a pair for a run, in class order and oldest first; with none free it waits a revolution. -/
def execRunGrant (run : Nat) (s : State) : Host.Outcome State Fault Refusal :=
  done (match s.hrun run with
    | none => s
    | some r =>
      let q := r.hda / 48
      let ahead := (s.dp.runs.filter (fun x => x.hda / 48 = q && s.grantable x && x.before r)).length
      if ¬ s.grantable r ∨ s.poolPairs q ≤ s.poolBusy q + ahead then s else
      let (t, s) := s.chooseHset (s.runEpoch r) r.hda r.zone
      let used := (t.map (fun t => t.cur.state)).getD .valid
      -- A SUSPECT set's sectors start with the settings of step 3 (R327).
      let r := { r with pairAt := some s.aon, yield_ := false, overrun := false, step := if used = .suspect then 2 else 1, revs := 0
                        load := (t.map HSet.load).getD 1, used := used }
      let s := (s.setRun r).setSpin r.hda { s.spin r.hda with lastRun := s.aon }
      s.startStream r)

/-- RUN_PREEMPT: RUN_MS with the pair, or a class-3 run at once, while a run of a higher class waits. -/
def execRunPreempt (run : Nat) (s : State) : Host.Outcome State Fault Refusal :=
  done (match s.hrun run with
    | none => s
    | some r =>
      match r.pairAt with
      | none => s
      | some t =>
        if ¬ s.dp.runs.any (fun x => x.hda / 48 = r.hda / 48 && s.grantable x && x.cls < r.cls) then s else
        let s := if r.cls = 3 then s else s.passTo (t + max 1 (s.get HRC.POOL_CFG.RUN_MS) * Config.ms)
        s.setRun { r with yield_ := true })

/-! ## Recovery and reallocation (R310, R319 to R323) -/

/-- A read run has ended. -/
def State.finishRead (s : State) (r : HdaRun) : State :=
  let s := (s.dropRun r.id).setServo r.hda { s.servo r.hda with offset := 0 }
  let s := s.sendCarrier (r.hda / 2) 4 [r.hda % 2] .other
  match r.use_ with
  | .read job _ => match s.rjob job with
    | some j => (s.setRead { j with open_ := j.open_ - 1 }).endRead job
    | none => s
  | .partner job soft =>
    -- Stored frames, or one soft value for each codeword bit (R434, R308).
    let (bs, s) := if soft then s.freeBytes (35264 * r.count)
      else ((List.range r.count).flatMap (fun i => s.sectorBytes r.hda r.zone (r.sector + i)), s)
    -- A message carries at most 65,536 bytes (R413).
    let n := if soft then 35264 else 61440
    (cutBytes n bs).foldl (fun (s : State) x =>
      s.sendNrn 8 1 [job, if bs.length ≤ x.1 + n then 0 else 3, r.hda, r.zone, r.sector, r.count] x.2) s
  | _ => s

/-- The run goes on to its next sector: on another track its heads seek first; a run that gives its pair up waits as a new
run (R313, R329). -/
def State.nextSector (s : State) (r : HdaRun) (used : Nat) : State :=
  let again := r.step = 4
  let r := { r with done_ := r.done_ + 1, step := if r.used = .suspect then 2 else 1, revs := 0
                    samples := r.samples.drop used, base := r.base + used, overrun := false }
  if r.count ≤ r.done_ then s.finishRead r
  else if r.yield_ then
    (s.setRun { r with pairAt := none, yield_ := false, samples := [], base := 0, askedAt := s.aon }).sendCarrier
      (r.hda / 2) 4 [r.hda % 2] .other
  else
    let s := s.setRun r
    match s.runPlace r with
    | some (head, cyl) =>
      if (s.servo r.hda).head ≠ head ∨ (s.servo r.hda).r ≠ 256 * Int.ofNat cyl then s.seekTo r.hda head cyl none
      else if again then s.startStream r else s
    | none => s

/-- Step 6: the sector goes to the joint decoder of the head that asked for it. -/
def State.sectorStep6 (s : State) (r : HdaRun) (used : Nat) : State :=
  let (z, x) := s.sectorOf r.hda r.zone (r.sector + r.done_)
  let head := ((s.hdaIdent r.hda).map (fun i => (i.entry r.zone).head)).getD 0
  let s := match s.hdaMedia r.hda with
    | some m => s.setHdaMedia { m with step6 := m.step6 + 1 }
    | none => s
  let s := s.noteStep6 r.hda head
  let s := match r.use_ with
    | .read job _ => s.toJoint job (4096 * x)
    | .partner job _ => s.sendNrn 8 1 [job, 1, r.hda, z, x, 1] []
    | _ => s
  s.nextSector r used

/-- Step 4 again in the next revolution, or what follows the last one (R320). -/
def State.reread (s : State) (r : HdaRun) (used : Nat) : State :=
  let rcv := min 16 (s.get HRC.RCV_CFG.RCV_REVS)
  let most := if r.cls = 0 then min rcv (s.get HRC.RCV_CFG.HOST_REVS) else rcv
  if r.revs < most then
    let r := { r with step := 4, revs := r.revs + 1 }
    (s.setRun r).startStream r
  else if r.revs = 0 ∨ r.cls = 0 ∧ r.revs < 2 then s.sectorStep6 r used
  else s.setRun { r with step := 5 }

/-- Global iterations a decode may take: GLOBAL_IT, or 12 with the settings of step 3 (R309, R319, R327). -/
def State.mostIt (s : State) (r : HdaRun) : Nat :=
  if r.step = 1 then min 12 (max 1 (s.get HRC.DEC_CFG.GLOBAL_IT)) else 12

/-- SECTOR_DECODE: the decode of a run's current sector ends after some global iterations; tag: the tag it decoded, where the
syndrome is zero and the CRC passes, which must name the sector (R308); mark: 0 SM1 was found, 1 only SM2, 2 neither; used: the
samples up to the sector's end. -/
def execSectorDecode (run it : Nat) (tag : Option Nat) (mark used : Nat) (s : State) : Host.Outcome State Fault Refusal :=
  okIf (it ≤ 12 && mark < 3) (match s.hrun run with
    | none => s
    | some r =>
      if r.pairAt.isNone ∨ r.write ∨ s.srvState r.hda ≠ 2 then s else
      let first := r.step ≤ 2
      let s := if first ∧ mark = 1 then s.count (HRC.HDAh_STS.SM1_MISS r.hda) 1 else s
      let x := r.sector + r.done_
      match r.use_ with
      | .capture p off => (s.finishRead r).answerLater p 0 0 (slice r.samples off 4096)
      | _ =>
      if r.overrun then
        let r := { r with overrun := false, step := if r.used = .suspect then 2 else 1 }
        ((s.count HRC.OVERRUN_CNT.COUNT 1).setRun r).startStream r
      else
        let o := s.sectorOf r.hda r.zone x
        let ok := !(first && mark = 2) && decide (it ≤ s.mostIt r) && tag.any (fun t => bitsAt t 30 34 = o.1 * 262144 + o.2)
        let s := if ¬ first then s else match s.hset r.hda r.zone r.load with
          | some t => s.setHset (t.decoded (s.hdaTemp r.hda) r.used it ok)
          | none => s
        if ok then
          let s := if 4 ≤ r.step then s.realloc r.hda (o.1 * 262144 + o.2) (s.sectorBytes r.hda r.zone x) else s
          s.nextSector r used
        else if r.step ≤ 2 then s.setRun { r with step := 3 }
        else if r.step = 3 ∨ r.step = 4 then s.reread r used
        else s.sectorStep6 r used)

/-- REALLOCATION_DURABLE: the spare sector and its table entry are durable, the entry shipped with the map log (R321, R323). -/
def execReallocationDurable (hda sector : Nat) (s : State) : Host.Outcome State Fault Refusal :=
  done (match s.hdaMedia hda, s.hdas.held.find? (fun e => e.1 = hda ∧ e.2.1 = sector) with
    | some m, some e =>
      let busy := s.dp.runs.any (fun r => match r.use_ with
        | .realloc h x _ => h = hda && x = sector
        | _ => false)
      if busy then s else
      let m' := { m with realloc := m.realloc.filter (fun x => x.1 ≠ sector) ++ [(sector, e.2.2, s.dev / Config.ms % 2 ^ 32)] }
      let s := (s.setHdaMedia m').setHdas fun d => { d with held := d.held.filter (fun x => ¬ (x.1 = hda ∧ x.2.1 = sector)) }
      ((((s.setB HRC.STS.REALLOC).count HRC.REALLOC_CNT.COUNT 1).ship 4 [hda, sector, e.2.2] []).showHda hda).nextRealloc (hda / 48)
    | _, _ => s)

/-- A number that a list gives a key. -/
def listGet (l : List (Nat × Nat)) (k : Nat) : Nat := ((l.find? (fun x => x.1 = k)).map Prod.snd).getD 0
def listPut (l : List (Nat × Nat)) (k v : Nat) : List (Nat × Nat) := (k, v) :: l.filter (fun x => x.1 ≠ k)

/-- ZONE_RESET: the write pointer to 0 and 1 to the write pass, after every reallocation write of the zone (R318). -/
def execZoneReset (hda zone : Nat) (s : State) : Host.Outcome State Fault Refusal :=
  done (match s.hdaMedia hda, s.nv.media.bands.find? (fun b => b.zone = zone && b.resets.contains hda) with
    | some m, some b =>
      if s.hdas.held.any (fun e => e.1 = hda && e.2.1 / 262144 = zone) then s else
      let s := s.setHdaMedia { m with
        wptr := listPut m.wptr zone 0, pass := listPut m.pass zone ((listGet m.pass zone + 1) % 2 ^ 24) }
      (s.setBand { b with resets := b.resets.filter (· ≠ hda) }).ownDone b.set b.zone
    | _, _ => s)

/-! ## Write runs (R317) -/

/-- A write run is durable once its own sectors and its parts on spare sectors are (R322). -/
def State.runWritten (s : State) (r : HdaRun) : State :=
  if s.dp.runs.any (fun x => decide (x.use_ = .sparePart r.id)) then s else
  let s := s.dropRun r.id
  match r.use_ with
  | .strip set zone row t pos => s.stripDone set zone row t pos
  | .erase set zone => s.eraseDone set zone
  | .spare set zone row pos => s.spareWritten set zone row pos
  | _ => s

/-- A write run's completion: the sectors of its finished gates are durable; a reallocated sector's gate stays closed and its
data lies on its spare sector (R322). -/
def State.writeDone (s : State) (r : HdaRun) (gates : Nat) : State :=
  match s.hdaMedia r.hda with
  | none => s
  | some m =>
    let lo := r.zone * 262144 + r.sector + r.done_
    let left := r.count - r.done_
    let closed := fun (n : Nat) => (((List.range n).filter (fun i => !m.realloc.any (fun e => e.1 = lo + i))).map
      (fun i => (gatesOf m.ident r.hda r.zone (r.sector + r.done_ + i)).length)).sum
    let n := ((List.range (left + 1)).filter (fun n => decide (closed n ≤ gates))).getLast?.getD 0
    let r' := { r with done_ := r.done_ + n }
    let top := r.sector + r'.done_
    let s := s.setHdaMedia { m with wptr := if listGet m.wptr r.zone < top then listPut m.wptr r.zone top else m.wptr }
    if r'.done_ < r.count then s.setRun r' else
    match r.use_ with
    | .sparePart run => match s.hrun run with
      | some x => if x.done_ < x.count then s.dropRun r.id else (s.dropRun r.id).runWritten x
      | none => s.dropRun r.id
    | _ => (s.setRun r').runWritten r'

/-! ## Completions of carriers (R301, R317, R357) -/

/-- A carrier's completion of a command other than FW_STAGE. -/
def State.carrierDone (s : State) (c : StrCmd) (st : CarStatus) (gates : Nat) : State :=
  match c.use_ with
  | .drive true _ _ p =>
    if st = .ok then
      let s := s.takeDrive c.str
      match p with
      | some p => s.answerLater p 0 0 []
      | none => s
    else match p with
      | some p => s.answerLater p 0x1102 c.str []
      -- R357: the new head claims again until it succeeds.
      | none => if (s.str c.str).claiming then s.claim c.str false none else s
  | .drive false _ _ p =>
    let x := s.str c.str
    let s := (s.setStr c.str { x with leaveFor := none }).driveLost c.str
    let s := s.setStr c.str { s.str c.str with handed := decide (st = .ok) }
    match p with
    | some p => if st = .ok then s.answerLater p 0 0 [] else s.answerLater p 0x0E02 c.str []
    | none => s
  | .stream run => match s.hrun run with
    | some r =>
      if st = .ok then s
      else if st = .notDriver then s.driveLost c.str
      else if st = .hdaAbsent then s.loseRun r
      else s.setRun { r with pairAt := none, askedAt := s.aon, samples := [], base := 0 }
    | none => s
  | .writeRun run => match s.hrun run with
    | some r =>
      if st = .notDriver then s.driveLost c.str
      else if st = .hdaAbsent then s.loseRun r
      else s.writeDone r gates
    | none => s
  | _ => s

/-! ## Tuning (R324 to R328) -/

/-- HDA_LOAD_CLASS_UPDATE: every 100 ms, from the pairs its quadrant has granted and its PES (R324). -/
def execHdaLoadClassUpdate (s : State) : Host.Outcome State Fault Refusal :=
  done (
    let s := s.passTo (s.nextTick (100 * Config.ms))
    let full := s.get TUN.HDA_LOAD.FULL_STREAMS
    let light := min full (s.get TUN.HDA_LOAD.LIGHT_STREAMS)
    let cls := fun (h : Nat) =>
      let n := s.poolBusy (h / 48)
      let pes := s.pesRms h
      if full ≤ n ∨ s.get TUN.HDA_LOAD.PES_FULL ≤ pes then 2
      else if n < light ∧ pes < s.get TUN.HDA_LOAD.PES_LIGHT then 0 else 1
    s.setHdas fun d => { d with loads := ((List.range 192).filter (fun h => 2 ≤ s.hdaState h)).map (fun h => (h, cls h)) })

/-- Division rounded to the nearest, halves away from zero. -/
def roundDiv (a : Int) (b : Nat) : Int :=
  let m := Int.ofNat ((2 * a.natAbs + b) / (2 * max 1 b))
  if a < 0 then -m else m

/-- Saturate to a signed byte. -/
def sat8 (x : Int) : Int := max (-128) (min 127 x)

/-- A number put into a rising list, and the median of a list, the lower of two middles. -/
def insertUp : List Nat → Nat → List Nat
  | [], n => [n]
  | a :: r, n => if a < n then a :: insertUp r n else n :: a :: r
def median (l : List Nat) : Nat := (l.foldl insertUp []).getD ((l.length - 1) / 2) 0

/-- HDA_WINDOW_CLOSE (R326): after CAL_SECT sectors; discarded when the temperature has moved, during a restart (R329) or while
tuning is frozen. gf, gt: the sums of its law; np: the statistics of the noise predictor; clr: the window's clearance. -/
def execHdaWindowClose (hda zone load : Nat) (gf gt np : List Int) (clr : Nat) (temp : Int) (bw : Nat) (s : State) :
    Host.Outcome State Fault Refusal :=
  okIf (hda < 192 && load < 3) (match s.hset hda zone load, s.hdaIdent hda with
    | some t, some i =>
      if t.winCw < max 128 (s.get TUN.HDA_CAL.CAL_SECT) then s else
      let shut : HSet := { t with winCw := 0, winIt := 0, winTemp := none, winBad := false }
      let s := s.setHset shut
      if t.winBad ∨ s.cmd.inReset ∨ s.on TUN.STS.FROZEN then s else
      let n := t.winCw * 2 ^ s.get TUN.HDA_CAL.MU_LOG2
      let tol := max 1 (s.get TUN.HDA_VAL.TEMP_TOL_C)
      let like := s.act.hsets.filter (fun x => x.hda = hda && decide (0 < x.cur.windows) && decide (tempGap temp x.cur.tagTemp ≤ tol) &&
        !(x.zone = zone && x.load = load))
      let goal := median (clr :: like.map (fun x => x.cur.clr))
      let step := Int.ofNat (max 1 (s.get TUN.HDA_CAL.HEAT_STEP))
      let move := clampInt step (roundDiv (Int.ofNat clr - Int.ofNat goal) 16)
      let top := Int.ofNat i.heatMax - Int.ofNat (i.entry zone).heatDef
      let heat := sat8 (min top (t.cur.heat + move))
      let s := if top < t.cur.heat + move then s.setB TUN.HDA_STS.HEAT_CLAMP else s
      let v : HVals := { t.cur with
        eq := (List.range 16).map (fun k => sat8 (t.cur.eq.getD k 0 - roundDiv (gf.getD k 0) n))
        tgt := (List.range 4).map (fun k => sat8 (t.cur.tgt.getD k 0 + roundDiv (gt.getD k 0) n))
        np := (List.range 24).map (fun k => sat8 (Config.npFit np k))
        heat := heat, tagTemp := temp, tagBw := bw, clr := clr, windows := t.cur.windows + 1, state := .candidate }
      s.setHdas fun d => { d with cands := putHset d.cands { shut with cur := v } }
    | _, _ => s)

/-- HDA_SET_FLUSH: an hour after the last one, changed sets of the HDAs this head drives (R328). -/
def execHdaSetFlush (s : State) : Host.Outcome State Fault Refusal :=
  done (
    let s := s.passTo (s.hdas.flushAt + Config.hour)
    let s := (s.hdas.changed.filter s.drives).foldl State.flushSets s
    s.setHdas fun d => { d with flushAt := s.aon })

/-! ## Command packets (Tables "HDA Strings and the Central Read Channel" 8 and 9) -/

/-- HDA_STATUS. -/
def execHdaStatus (p : Packet) (s : State) : Host.Outcome State Fault Refusal :=
  runCmd 0x0E01 p s fun s => s.zeros p [1, 2, 3] fun s => s.onHda1 (p.u8 0) fun s =>
    let h := p.u8 0
    let (w, s) := s.readRegs [0xC0100 + 4 * h]
    match s.hdaMedia h with
    | some m => s.reply (w ++ leBytes 4 m.realloc.length ++ leBytes 4 (s.freeSpares m) ++ leBytes 4 m.step6)
    | none => s.refuseWith 0x0E01 h

/-- An identity as bytes (Tables "HDA Strings and the Central Read Channel" 3 and 4). -/
def identBytes (i : HdaIdent) : List Byte :=
  slice i.serial 0 16 ++ leBytes 1 (b2n i.dense) ++ leBytes 1 i.heads ++ leBytes 2 i.rpm ++ leBytes 2 i.wedges ++
  leBytes 2 i.layout.length ++ leBytes 4 i.userZones ++ leBytes 1 i.spareZones ++ leBytes 1 i.sysZones ++ leBytes 1 i.heatMax ++
  [0] ++ slice i.model 0 32 ++
  i.layout.flatMap (fun e => leBytes 4 e.firstZone ++ leBytes 1 e.head ++ [0] ++ leBytes 2 e.rateMhz ++ leBytes 4 e.firstCyl ++
    leBytes 2 e.tracks ++ leBytes 1 e.heatDef ++ leBytes 1 e.precomp)

/-- HDA_IDENT. -/
def execHdaIdent (p : Packet) (s : State) : Host.Outcome State Fault Refusal :=
  runCmd 0x0E02 p s fun s => s.zeros p [1, 2, 3] fun s => s.onHda1 (p.u8 0) fun s =>
    match s.hdaIdent (p.u8 0) with
    | some i => s.reply (identBytes i)
    | none => s.refuseWith 0x0E01 (p.u8 0)

/-- Bands that are not FREE of the sets an HDA is a member of. -/
def State.hdaBands (s : State) (h : Nat) : Nat :=
  (s.nv.media.bands.filter (fun b => (s.positionsOf (hdaCode h)).any (fun x => x.1 = b.set))).length

/-- HDA_FORMAT: new system zones, an empty reallocation table, every zone reset (R318, R325; log entry 157). -/
def execHdaFormat (p : Packet) (s : State) : Host.Outcome State Fault Refusal :=
  runCmd 0x0E03 p s fun s => s.zeros p [1, 2, 3] fun s => s.onHda1 (p.u8 0) fun s =>
    let h := p.u8 0
    match s.hdaMedia h with
    | none => s.refuseWith 0x0E01 h
    | some m =>
      if ¬ s.drives h then s.refuseWith 0x0E02 (h / 2)
      else if fieldAt m.ident.serial 0 4 ≠ p.u32 4 then s.refuseWith 0x000A 4
      else if 0 < s.hdaBands h then s.refuseWith 0x0E03 (min (2 ^ 32 - 1) (s.hdaBands h))
      else
        let s := s.setHdaMedia { m with
          formatted := true, realloc := [], wptr := [], sets := [], step6 := 0, step6At := [], formats := m.formats + 1 }
        let drop := fun (t : Tables) => ({ t with hsets := t.hsets.filter (fun x => x.hda ≠ h) } : Tables)
        let s := { s with act := drop s.act, shadow := drop s.shadow }
        let s := s.setHdas fun d => { d with held := d.held.filter (fun e => e.1 ≠ h), queued := d.queued.filter (fun e => e.1 ≠ h)
                                             cands := d.cands.filter (fun t => t.hda ≠ h)
                                             changed := d.changed.filter (· ≠ h) }
        s.showHdas.reply []

/-- The state code of a set in CTX (Table "HDA Strings and the Central Read Channel" 7). -/
def TuneState.code : TuneState → Nat
  | .valid => 0
  | .validating => 1
  | .candidate => 2
  | .suspect => 3

/-- A set as bytes. -/
def HSet.bytes (t : HSet) : List Byte :=
  let v := t.cur
  let i8 := fun (x : Int) => BitVec.ofInt 8 x
  let b := (List.range 16).map (fun k => i8 (v.eq.getD k 0)) ++ (List.range 4).map (fun k => i8 (v.tgt.getD k 0)) ++
    (List.range 24).map (fun k => i8 (v.np.getD k 0)) ++ [i8 v.heat, i8 v.gain, i8 v.tagTemp] ++ leBytes 1 v.tagBw ++
    leBytes 1 (64 * t.load + 16 * v.state.code) ++ leBytes 1 v.it0 ++ leBytes 2 v.clr ++ leBytes 4 v.windows ++ [0, 0, 0, 0]
  b ++ leBytes 4 (crc32c b)

/-- Zones of an identity. -/
def allZones (i : HdaIdent) : Nat := i.userZones + i.spareZones + i.sysZones

/-- ZONE_SETS: a set that the zone does not have reads as free bytes. -/
def execZoneSets (p : Packet) (s : State) : Host.Outcome State Fault Refusal :=
  runCmd 0x0E04 p s fun s => s.zeros p [1, 2, 3] fun s => s.onHda1 (p.u8 0) fun s =>
    let h := p.u8 0
    match s.hdaIdent h with
    | none => s.refuseWith 0x0E01 h
    | some i =>
      if ¬ s.drives h then s.refuseWith 0x0E02 (h / 2)
      else if allZones i ≤ p.u32 4 then s.refuseWith 0x0E04 0
      else
        let (bs, s) := [0, 1, 2].foldl (fun (a : List Byte × State) l => match a.2.hset h (p.u32 4) l with
          | some t => (a.1 ++ t.bytes, a.2)
          | none => let (f, s) := a.2.freeBytes 64; (a.1 ++ f, s)) ([], s)
        s.reply bs

/-- REALLOC_LIST. -/
def execReallocList (p : Packet) (s : State) : Host.Outcome State Fault Refusal :=
  runCmd 0x0E05 p s fun s => s.zeros p [1, 2, 3] fun s => s.onHda1 (p.u8 0) fun s =>
    match s.hdaMedia (p.u8 0) with
    | none => s.refuseWith 0x0E01 (p.u8 0)
    | some m => s.reply (leBytes 4 m.realloc.length ++
        ((m.realloc.drop (p.u32 4)).take 255).flatMap (fun e => leBytes 8 e.1 ++ leBytes 4 e.2.1 ++ leBytes 4 e.2.2))

/-- SAMPLE_CAPTURE (expert): a class-3 read of one sector; the samples come with it. -/
def execSampleCapture (p : Packet) (s : State) : Host.Outcome State Fault Refusal :=
  runCmd 0x8E10 p s fun s => s.zeros p [1, 2, 3] fun s => s.onHda1 (p.u8 0) fun s =>
    let h := p.u8 0
    match s.hdaIdent h with
    | none => s.refuseWith 0x0E01 h
    | some i =>
      if ¬ s.drives h then s.refuseWith 0x0E02 (h / 2)
      else if allZones i ≤ p.u32 4 ∨ 262144 ≤ p.u32 8 then s.refuseWith 0x0E04 0
      else if 35360 < p.u32 12 + 4096 then s.refuseWith 0x000A 12
      else { st := s.askRun h 3 (p.u32 4) (p.u32 8) 1 false [] (.capture p (p.u32 12)), later := true }

/-- Run a command on a string that it may name (R3). -/
def State.onString (s : State) (p : Packet) (f : State → Nat → Res) : Res :=
  let k := p.u8 0
  if 96 ≤ k then s.refuseWith 0x000A 0
  else if ¬ s.stringEnabled k then s.refuseWith 0x0004 k
  else f s k

/-- STRING_STATUS. -/
def execStringStatus (p : Packet) (s : State) : Host.Outcome State Fault Refusal :=
  runCmd 0x1101 p s fun s => s.zeros p [1, 2, 3] fun s => s.onString p fun s k =>
    let b := 0xF0100 + 16 * k
    let (bs, s) := s.readRegs [b, b + 4, b + 8, b + 12]
    s.reply bs

/-- CARRIER_IDENT. -/
def execCarrierIdent (p : Packet) (s : State) : Host.Outcome State Fault Refusal :=
  runCmd 0x1102 p s fun s => s.zeros p [1, 2, 3] fun s => s.onString p fun s k =>
    match s.get (STR.STRING_STS.STATE k), (s.str k).ident with
    | 2, some c => s.reply (slice c.serial 0 16 ++ leBytes 4 c.fw ++ leBytes 1 (b2n c.slot0.isSome + 2 * b2n c.slot1.isSome) ++ [0, 0, 0])
    | _, _ => s.refuseWith 0x1101 k

/-- DRIVE_SET (expert): a release with handover, or a claim; the reply comes with the carrier's answer. -/
def execDriveSet (p : Packet) (s : State) : Host.Outcome State Fault Refusal :=
  runCmd 0x9110 p s fun s => s.zeros p [2, 3] fun s => s.onString p fun s k =>
    if 2 < p.u8 1 then s.refuseWith 0x000A 1
    else if s.get (STR.STRING_STS.STATE k) ≠ 2 then s.refuseWith 0x1101 k
    else if p.u8 1 = 0 then
      if ¬ s.on (STR.STRING_STS.DRIVER k) ∨ (s.str k).leave then s.refuseWith 0x0E02 k
      else { st := s.askRelease k (some p), later := true }
    else if ¬ (s.str k).joined then s.refuseWith 0x000F 3
    else { st := s.claim k (p.u8 1 = 2) (some p), later := true }

end Sys2Proof.Machine
end

