-- ==== Sys2Proof/Machine/Memory.lean ====
section
/-! DEFINITION. Commands of spec/15: DRAM training, errors and repair, SRAM errors and the background test, slices of the
metadata cache, and the MEM and MCC command packets. -/

namespace Sys2Proof.Machine

/-! ## DRAM (R437 to R443) -/

/-- The rows that await hard repair, as the settings block records them (R442): channel × 2^32 + row. -/
def State.pprList (s : State) : List Nat := (s.setting [0x0004, 1]).getD []

/-- CHANNEL_TRAINING (R92, R437 to R440, R442): the SPDs of the channel and of channel 0, how the check of stored results and the
full training end, and the rows awaiting hard repair that had a spare row. -/
def execChannelTraining (ch : Nat) (d ref : Dimm) (checkOk fullOk : Bool) (hard : List Nat) (s : State) :
    Host.Outcome State Fault Refusal :=
  okIf (ch < 12) (
    if s.start.reached ≠ 2 ∨ ¬ s.start.settingsApplied ∨ s.on SYS.START_STS.DEAD ∨ (s.chan ch).tried then s else
    let q := ch / 3
    let t := if dimmAlike d ref then dimmType d else none
    let rate := min ((t.map Prod.snd).getD 0) (s.forced MEM.CFG.RATE_CAP)
    let rec_ := rate :: d.spd.map (fun b => b.toNat)
    let cached := decide (s.setting [0x0003, ch] = some rec_) && checkOk
    let ok := t.isSome && (cached || fullOk)
    let first := !((List.range 3).any (fun i => (s.chan (3 * q + i)).tried))
    let s := s.setChan ch { s.chan ch with tried := true, trained := ok }
    let s := if ok ∧ ¬ cached then s.storeSettings [([0x0003, ch], rec_)] true else s
    let s := if ¬ ok then s else
      let s := (s.putBit (MEM.Qn_STS.TRAINED q) (ch % 3) true).put (MEM.Qn_STS.RATE q) rate
      let s := s.put (MEM.Qn_STS.TYPE q) ((t.map Prod.fst).getD 0)
      s.put (MEM.Qn_STS.USABLE_GIB q) (min 512 (3 * d.gib))
    let s := s.put (MEM.Qn_STS.CACHED_RESULTS q) (b2n (cached && (first || s.on (MEM.Qn_STS.CACHED_RESULTS q))))
    -- Soft repairs of the channel become permanent where a spare row is left.
    let due := s.pprList.filter (fun x => x / 2 ^ 32 = ch)
    let s := if due.isEmpty then s else
      (s.storeSettings [([0x0004, 1], s.pprList.filter (fun x => x / 2 ^ 32 ≠ ch))] true).count MEM.PPR_STS.HARD
        (due.filter (fun x => hard.contains (x % 2 ^ 32))).length
    if (List.range 3).all (fun i => (s.chan (3 * q + i)).tried) ∧ s.get (MEM.Qn_STS.TRAINED q) ≠ 7 then
      let s := s.quadDown q 1
      if [0, 1, 2, 3].all (fun n => s.bit SYS.START_STS.Q_DOWN n) then s.die 3 else s
    else s)

/-- ZQ_CALIBRATION: every 128 ms on the trained channels (R440); it changes nothing that is read. -/
def execZqCalibration (s : State) : Host.Outcome State Fault Refusal :=
  done (if s.mem.chans.any Chan.trained then s.passTo (s.nextTick (128 * Config.ms)) else s)

/-- A correctable error of a row: counted; at PPR_CE of them within 24 h the row is repaired softly (R441, R442). -/
def State.dramCe (s : State) (ch row : Nat) : State :=
  let s := s.count (MEM.CHc_ERR.CE ch) 1
  let x := s.chan ch
  let l := (row, s.aon) :: x.rowCe.filter (fun e => s.aon < e.2 + Config.day)
  if (l.filter (fun e => e.1 = row)).length < max 1 (s.get MEM.CFG.PPR_CE) then s.setChan ch { x with rowCe := l } else
  let key := ch * 2 ^ 32 + row % 2 ^ 32
  let s := s.setChan ch { x with rowCe := l.filter (fun e => e.1 ≠ row) }
  (s.storeSettings [([0x0004, 1], key :: s.pprList.filter (· ≠ key))] true).put MEM.PPR_STS.SOFT
    (min 65535 (s.get MEM.PPR_STS.SOFT + 1))

/-- DRAM_CE. -/
def execDramCe (ch row : Nat) (s : State) : Host.Outcome State Fault Refusal :=
  okIf (ch < 12) (if (s.chan ch).trained then s.dramCe ch row else s)

/-- SCRUB: all usable DRAM once every SCRUB_H hours; rows: the channel and row of what it corrects (R441). -/
def execScrub (rows : List (Nat × Nat)) (s : State) : Host.Outcome State Fault Refusal :=
  okIf (rows.all (fun x => x.1 < 12)) (
    if ¬ s.mem.chans.any Chan.trained then s else
    let s := s.passTo (s.mem.scrubAt + max 1 (s.get MEM.CFG.SCRUB_H) * Config.hour)
    let s := s.setMem fun m => { m with scrubAt := s.aon }
    (rows.filter (fun x => (s.chan x.1).trained)).foldl (fun (s : State) x => s.dramCe x.1 x.2) s)

/-- Dirty map state is rebuilt from checkpoint and log; without a partner the writes whose records are lost are WRITE_LOST. -/
def State.rebuildMap (s : State) (lost : List (Nat × Nat × Nat)) : State :=
  if s.synced then s else lost.foldl (fun (s : State) x => s.loseWrite x.1 x.2.1 x.2.2) s

/-- A write of the cache that neither head holds any more ends as lost; a command that waits for it completes with DATA_LOST
(R443). -/
def State.dropWrite (s : State) (w : WJob) : State :=
  let s := (s.loseWrite w.vol w.slba w.nblk).setDp fun d => { d with writes := d.writes.filter (fun x => x.id ≠ w.id) }
  let s := if w.completed ∨ w.adopted ∨ ¬ (w.hosts || w.through) then s else s.endCmd w.qpid w.cid 0x070A 0 false
  s.endFlushes

/-- Recovery of what an uncorrectable error has hit (Table "DRAM, On-Chip Banks and the Metadata Cache" 2). -/
def State.recoverUe (s : State) (c : UeContent) : State :=
  match c with
  | .page vol page => s.refetchPage vol page
  | .dirtyMap lost => s.rebuildMap lost
  | .write id => match s.wjob id with
    | some w => if s.synced ∧ w.mirrored then s else s.dropWrite w
    | none => s
  | .mirror id => s.setPair fun p => { p with mirror := p.mirror.filter (fun m => m.id ≠ id) }
  | .summary bucket => s.setDp fun d => { d with summary := d.summary.filter (fun x => x.bucket ≠ bucket) }
  | .landing link slot => match s.rlink link with
    | some l =>
      if l.waits.any (fun w => w.1 = slot) then
        (s.setRlink { l with waits := l.waits.filter (fun w => w.1 ≠ slot) }).freeSlot link slot
      else s
    | none => s
  | .complex => s.mcRestart

/-- DRAM_UE: an uncorrectable error of a channel at a quadrant byte address (R443); a dirty line of the slice replaces the
poisoned data, a clean one is invalidated (R459). -/
def execDramUe (ch addr : Nat) (c : UeContent) (s : State) : Host.Outcome State Fault Refusal :=
  okIf (ch < 12 && addr < 2 ^ 39) (
    if ¬ (s.chan ch).trained then s else
    let s := (s.setB MEM.STS.UE).count (MEM.CHc_ERR.UE ch) 1
    let s := if s.on MEM.ERR.VALID then s else
      ((s.setB MEM.ERR.VALID).put MEM.ERR.CHANNEL ch).put MEM.ERR.ADDR_16K (addr / 16384)
    let s := s.record 0x1501 0 ch 0 []
    let q := ch / 3
    let x := s.mcc q
    match x.find (addr / 128) with
    | some l =>
      if l.dirty then (s.setMcc q { x with lines := x.lines.map (fun y => if y = l then { y with dirty := false } else y) }).count
        (MCC.Qn_WB.COUNT q) 1
      else (s.setMcc q { x with lines := x.lines.filter (· ≠ l) }).recoverUe c
    | none => s.recoverUe c)

/-! ## SRAM (R445, R448 to R451) -/

/-- A corrected error of a column-mode bank: COL_CE of them within 24 h enter the column for repair (R449). -/
def State.columnCe (s : State) (i col : Nat) : State :=
  let b := s.bank i
  let l := (col, s.aon) :: b.colCe.filter (fun e => s.aon < e.2 + Config.day)
  if b.bgt ∨ (l.filter (fun e => e.1 = col)).length < max 1 (s.get MEM.CFG.COL_CE) then s.setBank i { b with colCe := l } else
  let s := s.setBank i { b with colCe := l.filter (fun e => e.1 ≠ col) }
  if s.nv.bankPend.contains (i, col) then s.setB MEM.STS.REPAIR_PEND
  else ({ s with nv := { s.nv with bankPend := (i, col) :: s.nv.bankPend } } : State).setB MEM.STS.REPAIR_PEND

/-- SRAM_UE: a double-bit error poisons a read (R445); a corrected single-bit error counts towards its column's repair. -/
def execSramUe (quad bank : Nat) (e : SramErr) (s : State) : Host.Outcome State Fault Refusal :=
  okIf (quad < 4 && bank < 48) (
    match e with
    | .single col => s.columnCe (48 * quad + bank) col
    | .context cluster qp num =>
      let s := s.setB MEM.STS.UE_SRAM
      let s := s.parityError (cluster / 8 % 4) (cluster % 8)
      if qp then (if (s.qp num).state = 2 ∨ (s.qp num).state = 1 then s.qpFault num 6 3 else s) else s.loseConn num
    | .cacheLine addr lost =>
      let s := s.setB MEM.STS.UE_SRAM
      let x := s.mcc quad
      (match x.find addr with
      | some l =>
        let s := s.setMcc quad { x with lines := x.lines.filter (· ≠ l) }
        if l.dirty then s.rebuildMap lost else s
      | none => s)
    | .other =>
      let s := s.setB MEM.STS.UE_SRAM
      if bank < 45 then s else
      let (n, s) := s.draw
      (s.record (n % 2 ^ 16) 0 (64 * quad + bank) 0 []).mcRestart)

/-- Background-mode banks, and the blocks of a lap. -/
def State.bgtBanks (s : State) : Nat := (s.mem.banks.filter Bank.bgt).length

/-- BLOCK_TEST: a 4 KiB block of a background-mode bank is tested; one that fails moves to a spare block, or to nothing
(R450, R451). -/
def execBlockTest (quad bank block : Nat) (ok : Bool) (s : State) : Host.Outcome State Fault Refusal :=
  okIf (quad < 4 && bank < 48 && block < 256) (
    let i := 48 * quad + bank
    let b := s.bank i
    let awake := s.pwr.quads.getD quad .gated = .awake
    if ¬ b.bgt ∨ ¬ s.on MEM.BGT_CFG.EN ∨ bank < 45 ∧ ¬ awake then s else
    let s := s.setMem fun m => { m with lapDone := m.lapDone + 1 }
    let s := s.put MEM.BGT_STS.LAP_PCT (min 100 (100 * s.mem.lapDone / (256 * s.bgtBanks)))
    if ok then s
    else if b.spared.length < 8 then
      ((s.setBank i { b with spared := b.spared ++ [block] }).setB MEM.STS.BLOCK_SPARED).record 0x1502 0 (64 * quad + bank) 0 []
    else
      let s := s.setBank i { b with gone := insertNat b.gone block }
      { s with nv := { s.nv with bistOnce := insertNat s.nv.bistOnce i } })

/-- BGT_LAP_END: every background-mode bank has been tested once; more than 10 % late sets LATE (R451). -/
def execBgtLapEnd (s : State) : Host.Outcome State Fault Refusal :=
  done (
    if s.mem.lapDone < 256 * s.bgtBanks ∨ s.bgtBanks = 0 then s else
    let due := max 1 (s.get MEM.BGT_CFG.PERIOD_H) * Config.hour
    let late := 11 * due < 10 * (s.aon - s.mem.lapAt)
    let s := (s.count MEM.BGT_STS.LAPS 1).put MEM.BGT_STS.LAP_PCT 0
    let s := s.setMem fun m => { m with lapAt := s.aon, lapDone := 0 }
    if late then
      let (n, s) := s.draw
      (s.setB MEM.BGT_STS.LATE).record (n % 2 ^ 16) 0 0 0 []
    else s)

/-! ## Slices of the metadata cache (R458) -/

/-- Slice n as its new EN bit asks. -/
def State.sliceEnable (s : State) (n : Nat) (en : Bool) : State :=
  let old := s.bit MCC.CTL.EN n
  let s := s.putBit MCC.CTL.EN n en
  if en then s.putBit MCC.STS.DISABLED n false
  else if old ∧ ¬ s.mccDisabled n then s.putBit MCC.STS.DRAINING n true else s

/-- A write to MCC_CTL by an identity that may change it. -/
def State.mccCtl (s : State) (data : Word) : State :=
  let d := data.toNat
  let s := (s.put MCC.CTL.PF_DEPTH (bitsAt d 8 4)).put MCC.CTL.PF_EN (bitsAt d 4 4)
  [0, 1, 2, 3].foldl (fun (s : State) n => s.sliceEnable n (bitAt d n)) s

/-- A write to MCC_CTL (R514, R515): by another identity it is refused, if it would change a field. -/
def State.mccWrite (s : State) (ident : Nat) (data : Word) : State :=
  if ¬ s.reaches ident 0x140000 then s
  else if [0, 2, 7].contains ident then s.mccCtl data
  else if data.toNat % 2 ^ 12 = s.word 0x140000 then s
  else s.refuse 2 ident 0x140000

/-- SLICE_DISABLE: a write of MCC_CTL whose EN bit is 0. -/
def execSliceDisable (ident : Nat) (data : Word) (s : State) : Host.Outcome State Fault Refusal := done (s.mccWrite ident data)

/-- SLICE_ENABLE: a write of MCC_CTL whose EN bit is 1. -/
def execSliceEnable (ident : Nat) (data : Word) (s : State) : Host.Outcome State Fault Refusal := done (s.mccWrite ident data)

/-- SLICE_DRAIN_DONE: dirty lines are written back and every line is invalid; the slice is DISABLED, or enabled empty. -/
def execSliceDrainDone (slice : Nat) (s : State) : Host.Outcome State Fault Refusal :=
  okIf (slice < 4) (
    if ¬ s.mccDraining slice then s else
    let x := s.mcc slice
    let s := (s.count (MCC.Qn_WB.COUNT slice) (x.lines.filter MccLine.dirty).length).setMcc slice { x with lines := [] }
    (s.putBit MCC.STS.DRAINING slice false).putBit MCC.STS.DISABLED slice (!s.bit MCC.CTL.EN slice))

/-! ## Command packets (Table "DRAM, On-Chip Banks and the Metadata Cache" 5) -/

/-- Run a command on the quadrant that LOC names, if it is in service. -/
def State.onQuad (s : State) (p : Packet) (f : State → Nat → Res) : Res :=
  match locQuadrant p with
  | none => s.refuseWith 0x0005 0
  | some q => if s.bit SYS.START_STS.Q_DOWN q then s.refuseWith 0x1501 q else f s q

/-- MEM_STATUS. -/
def execMemStatus (p : Packet) (s : State) : Host.Outcome State Fault Refusal :=
  runCmd 0x1501 p s fun s => s.onQuad p fun s q =>
    let c := 0x130080 + 12 * q
    let (bs, s) := s.readRegs [0x130020 + 4 * q, c, c + 4, c + 8, 0x13000C]
    s.reply bs

/-- SRAM_HEALTH. -/
def execSramHealth (p : Packet) (s : State) : Host.Outcome State Fault Refusal :=
  runCmd 0x1502 p s fun s => s.onQuad p fun s q =>
    s.reply ((List.range 48).flatMap (fun b =>
      leBytes 1 (b2n (s.bank (48 * q + b)).bgt) ++ leBytes 1 (s.sparesLeft (48 * q + b))))

/-- REPAIR_MODE_SET (expert): held in the settings block until the next cold reset. -/
def execRepairModeSet (p : Packet) (s : State) : Host.Outcome State Fault Refusal :=
  runCmd 0x9510 p s fun s => s.zeros p [2, 3] fun s => s.onQuad p fun s q =>
    if 48 ≤ p.u8 0 then s.refuseWith 0x000A 0
    else if 1 < p.u8 1 then s.refuseWith 0x000A 1
    else
      let mode := fun (i : Nat) => if i = 48 * q + p.u8 0 then p.u8 1 = 1 else s.bankMode i
      let ws := (List.range 4).map (fun n => ((List.range 48).map (fun b => if mode (48 * n + b) then 2 ^ b else 0)).sum)
      (s.storeSettings [([0x0004, 0], ws)] true).reply []

/-- MCC_STATS. -/
def execMccStats (p : Packet) (s : State) : Host.Outcome State Fault Refusal :=
  runCmd 0x1601 p s fun s => s.onQuad p fun s q =>
    let b := 0x140010 + 16 * q
    let used := s.get (MCC.Qn_PF.USED q)
    let waste := s.get (MCC.Qn_PF.WASTE q)
    let (bs, s) := s.readRegs [b, b + 4, b + 8]
    let s := s.clearRc (b + 12)
    let w := fun (i : Nat) => fieldAt bs (4 * i) 4
    s.reply (leBytes 8 (w 0) ++ leBytes 8 (w 1) ++ leBytes 8 (w 2) ++ leBytes 8 used ++ leBytes 8 waste)

end Sys2Proof.Machine
end

