-- ==== Sys2Proof/Machine/Update.lean ====
section
/-! DEFINITION. Commands of spec/18: loading, checking and activating an image, components that are staged, and the
licence of dense HDAs. -/

namespace Sys2Proof.Machine

/-! ## The header (R491 to R493) -/

/-- The offset of the first reserved byte of a header that is not zero, by its zones: offset, length and the bits that are
reserved. -/
def headerZeros (h : List Byte) : Option Nat :=
  let n := fieldAt h 36 2
  let comps := (List.range 32).map (fun i => if n ≤ i then (96 + 64 * i, 64, 0xFF) else (98 + 64 * i, 2, 0xFF))
  let serial := if bitAt (fieldAt h 9 1) 0 then [] else [(16, 16, 0xFF)]
  ([(8, 1, 0xF8), (9, 1, 0xFC), (11, 1, 0xFF)] ++ serial ++ [(40, 8, 0xFF)] ++ comps ++
    [(2656, 1312, 0xFF), (4064, 32, 0xFF)]).findSome? (fun (z : Nat × Nat × Nat) =>
      (((slice h z.1 z.2.1).zipIdx z.1).find? (fun (x : Byte × Nat) => x.1.toNat &&& z.2.2 ≠ 0)).map Prod.snd)

/-- Check 1: the byte offset of the first field that fails. -/
def headerFails (h : List Byte) : Option Nat :=
  if slice h 0 4 ≠ ascii "HXIM" then some 0
  else if fieldAt h 4 1 ≠ 1 then some 4
  else if fieldAt h 6 2 ≠ 0x0880 then some 6
  else if fieldAt h 32 4 = 0 ∨ 0x079EF000 < fieldAt h 32 4 then some 32
  else if fieldAt h 36 2 < 4 ∨ 32 < fieldAt h 36 2 then some 36
  else headerZeros h

/-- A component entry of a header. -/
def parseComp (h : List Byte) (i : Nat) : Comp :=
  let o := 96 + 64 * i
  { kind := fieldAt h o 1, sub := fieldAt h (o + 1) 1, version := fieldAt h (o + 4) 4, offset := fieldAt h (o + 8) 4
    length := fieldAt h (o + 12) 4, digest := slice h (o + 16) 32, name := slice h (o + 48) 16 }

/-- The image a header describes. -/
def parseImage (h : List Byte) : Image :=
  { good := true, version := fieldAt h 12 4, format := fieldAt h 38 2
    expertKeys := (List.range 8).map (fun i => slice h (2144 + 64 * i) 64)
    comps := (List.range (fieldAt h 36 2)).map (parseComp h)
    types := fieldAt h 8 1, minStep := fieldAt h 10 1, pairStep := bitAt (fieldAt h 9 1) 1
    bound := if bitAt (fieldAt h 9 1) 0 then some (slice h 16 16) else none
    header := h, bodyLen := fieldAt h 32 4, bodyDigest := slice h 48 48 }

/-- Check 2 on a header alone: the signature verifies under the key whose digest the slot holds, the one that will come at the
start of the body (`State.bodyKeyGood`). -/
def State.signatureGood (s : State) (h : List Byte) : Bool :=
  match s.imageSlot h with
  | some dig => signed h (Config.imageKey dig)
  | none => false

/-- Check 6 (R492): an entry that shares KIND and SUB with an earlier one or ends beyond the body, by its index; the number
of entries stands for one that is missing. -/
def manifestFails (im : Image) : Option Nat :=
  let bad := (List.range im.comps.length).find? (fun i =>
    let c := im.comps.getD i default
    (im.comps.take i).any (fun d => d.kind = c.kind && d.sub = c.sub) || decide (im.bodyLen < c.offset + c.length))
  let one := fun (k : Nat) => (im.comps.filter (fun c => c.kind = k)).length = 1
  match bad with
  | some i => some i
  | none =>
    if one 1 ∧ one 3 ∧ one 4 ∧ (im.comps.filter (fun c => c.kind = 5 ∧ c.sub = 0)).length = 1 then none
    else some im.comps.length

/-- An activation runs, or the image region holds an image that does not run yet. -/
def State.updBusy (s : State) : Bool := decide (3 ≤ s.updState)

/-- An UPD_ACTIVATE that waits ends with a status (R498). -/
def State.endAsked (s : State) (status detail : Nat) : State :=
  match s.upd.asked with
  | some p => ((s.setUpd fun u => { u with asked := none }).answerLater p status detail []).sendNrn 5 3 [4] []
  | none => s

/-- UPD_OPEN (R493). DETAIL of UPD_BAD_MANIFEST is the bad entry's offset; for a missing entry it is a free value. -/
def execUpdOpen (p : Packet) (s : State) : Host.Outcome State Fault Refusal :=
  runCmd 0x1802 p s fun s =>
    let h := slice p.params 0 4096
    let im := parseImage h
    if s.updBusy then s.refuseWith 0x1809 s.updState
    else match headerFails h with
    | some off => s.refuseWith 0x1801 off
    | none =>
      if ¬ s.signatureGood h then s.refuseWith 0x1802 (fieldAt h 5 1)
      else if ¬ s.typeFits im then s.refuseWith 0x1803 (s.word 0 % 2 ^ 16)
      else if ¬ s.unitFits im then s.refuseWith 0x1804 0
      else if ¬ s.floorAccepts im.version then s.refuseWith 0x1805 s.updFloor
      else match manifestFails im with
      | some i =>
        if i < im.comps.length then s.refuseWith 0x1806 (96 + 64 * i) else
        let (n, s) := s.draw
        s.refuseWith 0x1806 (n % 2 ^ 32)
      | none =>
        let s := s.endAsked 0x1807 1
        { st := ((s.setUpd fun u => { u with image := some im, placed := 0 }).updTo 1).put UPD.LOAD_VER.VER 0 }

/-- UPD_DATA (R494). -/
def execUpdData (p : Packet) (s : State) : Host.Outcome State Fault Refusal :=
  runCmd 0x1803 p s fun s =>
    match s.upd.image with
    | none => s.refuseWith 0x000F 3
    | some im =>
      let data := (p.params.drop 8).take (p.plen - 8)
      if s.updBusy then s.refuseWith 0x1809 s.updState
      else if s.updState ≠ 1 then s.refuseWith 0x000F 3
      else if im.bodyLen < p.u32 0 + data.length then s.refuseWith 0x000A 0
      else if p.u32 4 ≠ 0 then s.refuseWith 0x000A 4
      else { st := s.setUpd fun u => { u with image := some { im with body := (p.u32 0, data) :: im.body }, placed := u.placed + data.length } }

/-- The image is discarded. -/
def State.dropImage (s : State) : State :=
  ((s.setUpd fun u => { u with image := none, placed := 0 }).updTo 0).put UPD.LOAD_VER.VER 0

/-- UPD_CLOSE (R491, R494): a body whose signing key does not fit its slot is a bad signature (log entry 155). -/
def execUpdClose (p : Packet) (s : State) : Host.Outcome State Fault Refusal :=
  runCmd 0x1804 p s fun s =>
    match s.upd.image with
    | none => s.refuseWith 0x000F 3
    | some im =>
      if s.updBusy then s.refuseWith 0x1809 s.updState
      else if s.updState ≠ 1 then s.refuseWith 0x000F 3
      else if Config.sha 384 (im.bytes 0 im.bodyLen) ≠ im.bodyDigest then { st := s.dropImage, status := 0x1808, detail := 0xFF }
      else if ¬ s.bodyKeyGood im then { st := s.dropImage, status := 0x1802, detail := fieldAt im.header 5 1 }
      else match (List.range im.comps.length).find? (fun i =>
          let c := im.comps.getD i default
          Config.sha 256 (im.bytes c.offset c.length) ≠ c.digest) with
      | some i => { st := s.dropImage, status := 0x1808, detail := i }
      | none => { st := (s.updTo 2).put UPD.LOAD_VER.VER im.version }

/-- UPD_CANCEL (R505, R506). -/
def execUpdCancel (p : Packet) (s : State) : Host.Outcome State Fault Refusal :=
  runCmd 0x1806 p s fun s =>
    if s.updBusy then s.refuseWith 0x1809 s.updState
    else if s.updState = 0 then s.refuseWith 0x000F 3
    else { st := (s.endAsked 0x1807 0).dropImage }

/-- UPD_STATUS. -/
def execUpdStatus (p : Packet) (s : State) : Host.Outcome State Fault Refusal :=
  runCmd 0x1801 p s fun s =>
    let (bs, s) := s.readRegs [0x160000, 0x160004, 0x160008, 0x16000C, 0x160010, 0x160014]
    s.reply bs

/-- UPD_ACTIVATE (R498): the head that is not capo asks for the grant and answers once it has come. -/
def execUpdActivate (p : Packet) (s : State) : Host.Outcome State Fault Refusal :=
  runCmd 0x1805 p s fun s =>
    match s.activateBlocked false with
    | some (st, d) => s.refuseWith st d
    | none =>
      if s.isCapo then
        if s.upd.given then s.refuseWith 0x180A (s.get NRN.PAIR_STS.PARTNER)
        else match s.compsBlocked with
        | some (st, d) => s.refuseWith st d
        | none => { st := (s.setUpd fun u => { u with granted := true }).startActivation }
      else if s.upd.asked.isSome then s.refuseWith 0x000F 3
      else { st := (s.setUpd fun u => { u with asked := some p }).sendNrn 5 3 [3] [], later := true }

/-- ACTIVATE_SOLO (R498): without the partner, major and grant conditions (log entry 157). -/
def execActivateSolo (p : Packet) (s : State) : Host.Outcome State Fault Refusal :=
  runCmd 0x9810 p s fun s =>
    if p.u32 0 ≠ leNat (s.nv.serial.take 4) then s.refuseWith 0x000A 0
    else match (s.activateBlocked true).orElse (fun _ => s.compsBlocked) with
    | some (st, d) => s.refuseWith st d
    | none => { st := s.startActivation }

/-! ## Components (R496 to R501) -/

/-- The HX880 takes up a component that has trained: it unfences itself on a module; a carrier's HDAs are taken up as
STRING_UP has read them (R501, R240, R78). -/
def State.takeComp (s : State) (c : Nat) : State :=
  let s := s.dropJob c
  if c < 0x200 then s.sendBridge (c - 0x100) 7 [0, 0] [] (.fence false false) else s.takeString (c - 0x200)

/-- R501: a component that has trained with a running version is staged first, taken up, or left fenced or undriven. -/
def State.joinComp (s : State) (c ver : Nat) : State :=
  let s := (s.setCompVer c ver).dropJob c
  match s.nv.image.entry c with
  | none => s.takeComp c
  | some e =>
    if majorOf ver = majorOf e.version then
      if e.version ≤ ver then s.takeComp c else
      let wait := decide (3 ≤ s.updState ∧ s.updState ≤ 6)
      let s := s.setUpd fun u => { u with jobs := u.jobs ++ [{ comp := c, join := true, phase := .wait }] }
      if wait then s else s.stageBegin c true
    else if majorOf ver = majorOf e.version + 1 ∧ s.nv.image.pairStep then s.takeComp c
    else s.record 0x1805 0 c ver []

/-- A FW_STAGE completion (R496, R499 to R501): subcommand and offset, status, and the versions it carries. -/
def State.stageDone (s : State) (c sub off st : Nat) (vers : List Nat) : State :=
  let s := match vers with
    | v :: _ => if st = 0 then s.setCompVer c v else s
    | [] => s
  match s.job? c with
  | none => s
  | some j =>
    let ok := decide (st = 0)
    let len := (((s.stageImage j.join).entry c).map Comp.length).getD 0
    match j.phase, sub with
    | .begin, 1 =>
      if ok then s.stageData c j.join 0
      else if j.join then s.setStage c (.retry (s.aon + Config.sec))
      else s.failActivation 0x180D c
    | .data o, 2 =>
      if o ≠ off then s
      else if ok then s.stageData c j.join (o + min 16384 (len - o))
      else if j.join then (s.sendStage c 7 0 [] []).dropJob c
      else s.failActivation 0x180D c
    | .verify, 3 =>
      if ok then
        if j.join then (s.setStage c .switch).sendStage c 4 0 [] []
        else s.setStage c .verified
      else if j.join then (s.sendStage c 7 0 [] []).dropJob c
      else s.failActivation 0x180D c
    | .switch, 4 =>
      if ok then
        if j.join then (s.setStage c .commit).sendStage c 6 0 [] [] else (s.setStage c .switched).switchNext
      else if j.join then (s.sendStage c 7 0 [] []).dropJob c
      else s.failActivation 0x180E c
    | .commit, 6 =>
      if ok then (s.record 0x1804 0 c ((s.compVer c).getD 0) []).takeComp c else s.dropJob c
    | .revert, 5 => s.revertEnds c ok
    | .retry _, 0 =>
      match (s.stageImage true).entry c, s.compVer c with
      | some e, some v => if ok ∧ e.version ≤ v then s.takeComp c else s.stageBegin c true
      | _, _ => s
    | _, _ => s

/-- STAGE_RETRY (R501): QUERY one second after a refused BEGIN; what it shows decides whether BEGIN follows. -/
def execStageRetry (comp : Nat) (s : State) : Host.Outcome State Fault Refusal :=
  done (match s.job? comp with
    | some { phase := .retry t, .. } => (s.passTo t).sendStage comp 0 0 [] []
    | _ => s)

/-- SWITCH_TIMEOUT (R500): the open SWITCH has not reported within 200 ms; or reverts have not. -/
def execSwitchTimeout (s : State) : Host.Outcome State Fault Refusal :=
  done (if s.updState ≠ 4 then s else
    let s := s.passTo (s.upd.switchAt + 200 * Config.ms)
    match s.upd.failing with
    | some _ => (s.upd.jobs.filter (fun j => !j.join)).foldl (fun (s : State) j => s.revertEnds j.comp false) s
    | none => match s.upd.jobs.find? (fun j => !j.join && j.phase = .switch) with
      | some j => s.failActivation 0x180E j.comp
      | none => s)

/-- IMAGE_WRITTEN (R499, R505): the readback is good; a warm reset follows, or HELD where the partner fell SILENT. -/
def execImageWritten (s : State) : Host.Outcome State Fault Refusal :=
  done (match s.upd.image with
    | none => s
    | some im =>
      if s.updState ≠ 5 ∨ s.start.warm ≠ .none then s else
      let s := { s with nv := { s.nv with region := some im, arriving := true } }
      if s.upd.hold then s.updTo 7 else (s.updTo 6).beginWarm)

/-- COMP_STATUS: QUERY, which a fenced port may send too (R496). -/
def execCompStatus (p : Packet) (s : State) : Host.Outcome State Fault Refusal :=
  runCmd 0x1808 p s fun s =>
    let (k, n) := (p.u8 0, p.u8 1)
    if 1 < k then s.refuseWith 0x000A 0
    else if (if k = 0 then 48 else 96) ≤ n then s.refuseWith 0x000A 1
    else if p.u16 2 ≠ 0 then s.refuseWith 0x000A (if p.u8 2 ≠ 0 then 2 else 3)
    else if ¬ (if k = 0 then s.linkEnabled n else s.stringEnabled n) then s.refuseWith 0x0004 n
    else
      let c := (if k = 0 then 0x100 else 0x200) + n
      if ¬ s.compUp c then s.refuseWith 0x180C c
      else if k = 0 then { st := s.sendBridge n 9 [0] [] (.version p), later := true }
      else { st := s.sendCarrier n 8 [0] (.version p), later := true }

/-! ## The licence (R504, R306) -/

/-- A licence record passes. -/
def State.licenceGood (s : State) (b : List Byte) : Bool :=
  let key := (s.nv.image.expertKeys[fieldAt b 22 1]?).filter (fun k => k.any (· ≠ 0))
  slice b 0 4 = ascii "HXDL" && slice b 4 16 = slice s.nv.serial 0 16 && decide (fieldAt b 22 1 < 8) && decide (fieldAt b 23 1 = 0) &&
    (key.map (fun k => Config.ecdsaP256 k (slice b 0 24) (slice b 24 64))).getD false

/-- LICENCE_SET. -/
def execLicenceSet (p : Packet) (s : State) : Host.Outcome State Fault Refusal :=
  runCmd 0x1807 p s fun s =>
    let b := slice p.params 0 88
    if ¬ s.licenceGood b then s.refuseWith 0x180F 0
    else { st := (s.storeSettings [([0x000A], b.map (fun x => x.toNat))] true).loadSettings.showHdas }

end Sys2Proof.Machine
end

