-- ==== Sys2Proof/Machine/Completions.lean ====
section
/-! DEFINITION. What comes back from modules and carriers: links and strings that train, completions of their commands, and
MEDIA messages (spec/08, spec/10, spec/14). -/

namespace Sys2Proof.Machine

/-! ## Flash links that train (R230, R232, R237, R240) -/

/-- A module is outside what the HX880 takes (R237). -/
def State.badGeom (s : State) (i : Ident) : Bool :=
  decide (2 ^ 48 < i.dies * i.planes * i.blocks * i.pages * 16384) || !i.slc ||
  !s.nv.image.comps.any (fun c => c.kind = 2 && c.sub = i.nandType)

/-- The record of a module first seen on a link: its last dies are spare (R271). -/
def State.firstModule (s : State) (k : Nat) (i : Ident) : Module :=
  let spare := min 8 (s.stored TUN.WEAR_CFG.SPARE_DIES)
  { link := k, ident := i, spareDies := spare, dieMap := List.range (i.dies - spare) }

/-- FLASH_LINK_UP: a first training or one after DOWN reads IDENT, and the port starts fenced; a retraining resumes replay;
one that fails for the third time in a row leaves the link DOWN. -/
def execFlashLinkUp (link : Nat) (trained : Bool) (ident : Ident) (s : State) : Host.Outcome State Fault Refusal :=
  okIf (link < 48) (
    if s.start.reached < 2 ∨ s.on SYS.START_STS.DEAD ∨ ¬ s.linkEnabled link ∨ 2 ≤ s.get (FLK.LINKk_STS.STATE link) then s else
    let x := s.flink link
    if ¬ trained then
      if x.retrains + 1 < 3 then s.setFlink link { x with retrains := x.retrains + 1 }
      else (s.setFlink link { x with retrains := 0 }).linkDown link
    else
      let up := if s.get (FLK.LINKk_STS.LANE1 link) = 3 then 3 else 2
      let s := s.setFlink link { x with retrains := 0, replays := 0, training := false }
      if x.training then (s.flashTo link up).replay (.flash link) else
      let s := (s.emit (.bridge link x.nextTag 6 [] [])).setFlink link { s.flink link with nextTag := (x.nextTag + 1) % 2 ^ 16 }
      if s.badGeom ident then (s.setB (FLK.LINKk_STS.BAD_GEOM link)).flashTo link 0 else
      let s := (s.clrB (FLK.LINKk_STS.BAD_GEOM link)).setFlink link { s.flink link with ident := some ident }
      let s := ((s.put (FLK.LINKk_STS.DIES link) ident.dies).setB (FLK.LINKk_STS.FENCED link)).flashTo link up
      let s := match s.module link with
        | some m => if m.ident.serial = ident.serial then s.setModule { m with ident := ident } else s.setModule (s.firstModule link ident)
        | none => s.setModule (s.firstModule link ident)
      s.joinComp (0x100 + link) ident.bridgeFw)

/-! ## Bridge completions (R238 to R240, R269, R290, R291) -/

/-- The planes of a mask. -/
def planesOf (mask : Nat) : List Nat := (List.range 8).filter (bitAt mask)

/-- The block number a physical block of a group serves: its own, or that of the retired block it stands for. -/
def Module.servedBy (m : Module) (die plane block : Nat) : Nat :=
  match m.retired.find? (fun x => x.1 = die ∧ x.2.1 = plane ∧ x.2.2.2 = block ∧ x.2.2.1 ≠ block) with
  | some x => x.2.2.1
  | none => block

/-- BLOCK_RETIRE (R290): the blocks a failed PROGRAM or ERASE names. -/
def State.retireNamed (s : State) (c : BrCmd) : State :=
  match s.module c.link with
  | none => s
  | some m =>
    let die := c.args.getD 0 0
    (planesOf (c.args.getD 1 0)).foldl (fun (s : State) p =>
      s.retireBlock c.link die p (m.servedBy die p (c.args.getD 2 0)) false) s

/-- A command that cannot run: the port is fenced (status 4). -/
def State.brFenced (s : State) (c : BrCmd) : State := (s.setB (FLK.LINKk_STS.FENCED c.link)).dropBr c

/-- A PROGRAM's completion. -/
def State.programDone (s : State) (c : BrCmd) (st set zone row t pos : Nat) : State :=
  match st with
  | 0 => s.stripDone set zone row t pos
  | 1 => ((s.retireNamed c).failStripe set zone row t).gatherAll
  | 3 => match s.band set zone with
    | some b => s.dropBand b
    | none => s
  | 4 => (s.brFenced c).gatherAll
  | 6 => ((s.retireDie c.link (c.args.getD 0 0)).failStripe set zone row t).gatherAll
  | _ => (s.failStripe set zone row t).gatherAll

/-- An ERASE's completion: a failed one is repeated on the spare blocks (R269). -/
def State.eraseCpl (s : State) (c : BrCmd) (st set zone : Nat) : State :=
  match st with
  | 0 => s.eraseDone set zone
  | 2 =>
    let die := c.args.getD 0 0
    let s := s.retireNamed c
    match s.module c.link with
    | none => s.dropBr c
    | some m =>
      let left := (planesOf (c.args.getD 1 0)).filter (fun p => m.blockAt die p zone ≠ c.args.getD 2 0)
      if left.isEmpty then s.dropBr c else
      -- One completion stands for the erase so far; the repeats on the spares count on their own.
      let s := match s.band set zone with
        | some b => s.setBand { b with erasing := b.erasing + (left.length - 1) }
        | none => s
      left.foldl (fun (s : State) p => s.sendBridge c.link 3 [die, 2 ^ p, m.blockAt die p zone] [] (.erase set zone)) s
  | 4 => s.brFenced c
  | 6 => (s.retireDie c.link (c.args.getD 0 0)).dropBr c
  | _ => s.dropBr c

/-- A completion of a die swap's copy; after a failed PROGRAM or ERASE on the spare die a spare block takes the place, and the band's
copy begins again. -/
def State.copyDone (s : State) (c : BrCmd) (st zone : Nat) : State :=
  match st with
  | 0 => s.setDp fun d => { d with copies := d.copies.map (fun x => if x.link = c.link ∧ x.zone = zone then { x with left := x.left - 1 } else x) }
  | 1 => (s.retireNamed c).dropCopy c.link zone
  | 2 => (s.retireNamed c).dropCopy c.link zone
  | 4 => s.brFenced c
  | 6 => (s.retireDie c.link (c.args.getD 0 0)).dropCopy c.link zone
  | _ => s.dropCopy c.link zone

/-- A PROGRAM of a strip that moves into spare capacity; one that fails is moved again (R290, R377). -/
def State.movedDone (s : State) (c : BrCmd) (st set zone row pos : Nat) : State :=
  match st with
  | 0 => s.spareWritten set zone row pos
  | 1 => (s.retireNamed c).dropMoving set zone row pos
  | 4 => s.brFenced c
  | 6 => (s.retireDie c.link (c.args.getD 0 0)).dropMoving set zone row pos
  | _ => s.dropMoving set zone row pos

/-- A FENCE's completion (R240, R426 to R428). -/
def State.fenceDone (s : State) (c : BrCmd) (st : Nat) (other on_ : Bool) : State :=
  if other then
    if on_ then s.setPair fun p => { p with quorum := p.quorum.map (fun q => { q with
      waiting := q.waiting - 1, wins := if st = 0 then insertNat q.wins c.link else q.wins }) }
    else s
  else if st ≠ 0 then s
  else if on_ then s.setB (FLK.LINKk_STS.FENCED c.link)
  else ((s.clrB (FLK.LINKk_STS.FENCED c.link)).dumpRefs c.link).gatherAll

/-- The words of a completion's data. -/
def dataWords (bs : List Byte) : List Nat := (List.range (bs.length / 4)).map (fun i => fieldAt bs (4 * i) 4)

/-- A completion by what its command was sent for. -/
def State.bridgeDone (s : State) (c : BrCmd) (st : Nat) (data : List Byte) : State :=
  match c.use_ with
  | .read job page =>
    if st = 0 then
      match s.rjob job with
      | some j => s.setRead { j with cws := j.cws.map (fun w => if w.page = page then { w with here := true } else w) }
      | none => s
    else
      let s := if st = 6 then s.retireDie c.link (c.args.getD 0 0) else s
      ((if st = 4 then s.brFenced c else s.dropBr c)).endRead job
  | .strip set zone row t pos => s.programDone c st set zone row t pos
  | .erase set zone => s.eraseCpl c st set zone
  | .own set zone =>
    if st = 0 then s.ownDone set zone else if st = 4 then s.brFenced c else s.dropBr c
  | .fence other on_ => s.fenceDone c st other on_
  | .copy zone => s.copyDone c st zone
  | .spare set zone row pos => s.movedDone c st set zone row pos
  | .stage sub off => s.stageDone (0x100 + c.link) sub off st (dataWords data)
  | .version p =>
    if st = 0 then (match dataWords data with
      | v :: _ => s.setCompVer (0x100 + c.link) v
      | [] => s).answerLater p 0 0 (slice data 0 12)
    else s.answerLater p 0x180C (0x100 + c.link) []
  | .raw p => s.answerLater p 0 0 (slice data 0 120)
  | .other =>
    if st = 1 ∨ st = 2 then s.retireNamed c
    else if st = 6 ∧ c.op ≠ 6 then s.retireDie c.link (c.args.getD 0 0)
    else if st = 4 then s.setB (FLK.LINKk_STS.FENCED c.link) else s
  | _ => s

/-- BRIDGE_COMPLETION: a CPL flit with its tag, status 0 to 8 and what it carries. -/
def execBridgeCompletion (link tag status : Nat) (data : List Byte) (s : State) : Host.Outcome State Fault Refusal :=
  okIf (link < 48 && status ≤ 8) (
    match s.dp.brs.find? (fun c => c.link = link ∧ c.tag = tag) with
    | none => s
    | some c => (s.setDp fun d => { d with brs := d.brs.filter (· ≠ c) }).bridgeDone c status data)

/-! ## Strings and carriers (R298 to R306, R501) -/

/-- STRING_UP. -/
def execStringUp (str : Nat) (ident : CarrierIdent) (found0 found1 : HdaFound) (s : State) : Host.Outcome State Fault Refusal :=
  okIf (str < 96) (
    if s.start.reached < 2 ∨ s.on SYS.START_STS.DEAD ∨ ¬ s.stringEnabled str ∨ s.get (STR.STRING_STS.STATE str) = 2 then s
    else (s.stringUp str ident found0 found1).joinComp (0x200 + str) ident.fw)

/-- The status code of a carrier's completion (Table "HDA Strings and the Central Read Channel" 2, R496). -/
def carCode : CarStatus → Nat
  | .ok => 0
  | .notDriver => 1
  | .badParam => 2
  | .hdaAbsent => 3
  | .writeFault => 4
  | .underrun => 5
  | .badDigest => 7
  | .stageBusy => 8

/-- CARRIER_COMPLETION; gates: the last gate completed of a write run; vers: the versions that a QUERY, SWITCH or REVERT
reports. -/
def execCarrierCompletion (str tag : Nat) (st : CarStatus) (gates : Nat) (vers : List Nat) (s : State) :
    Host.Outcome State Fault Refusal :=
  okIf (str < 96) (
    match s.hdas.cmds.find? (fun c => c.str = str ∧ c.tag = tag) with
    | none => s
    | some c =>
      let s := s.setHdas fun d => { d with cmds := d.cmds.filter (· ≠ c) }
      match c.use_ with
      | .stage sub off => s.stageDone (0x200 + str) sub off (carCode st) vers
      | .version p =>
        if st = .ok then (s.setCompVer (0x200 + str) (vers.getD 0 0)).answerLater p 0 0
          ((List.range 3).flatMap (fun i => leBytes 4 (vers.getD i 0)))
        else s.answerLater p 0x180C (0x200 + str) []
      | _ => s.carrierDone c st gates)

/-! ## MEDIA (R315, R406, R434) -/

/-- MEDIA. -/
def execMedia (env : Seal) (m : MediaMsg) (s : State) : Host.Outcome State Fault Refusal :=
  done (s.receive env false fun s =>
    match m with
    | .read job hda zone sector count cls soft =>
      if 192 ≤ hda ∨ 3 < cls then s else s.askRun hda cls zone sector count false [] (.partner job soft)
    | .answer job what _ _ sector count =>
      match s.rjob job with
      | none => s
      | some _ =>
        if what = 3 then s else
        let s := if what = 0 then s else (List.range count).foldl (fun (s : State) i => s.toJoint job (4096 * (sector + i))) s
        match s.rjob job with
        | some j => if what = 1 then s else (s.setRead { j with open_ := j.open_ - 1 }).endRead job
        | none => s
    | .records part last =>
      let bytes := s.pair.handing ++ part
      let s := s.setPair fun p => { p with handing := if last then [] else bytes }
      if ¬ last then s else match readRec bytes with
      | some r => if r.typ = 4 then s else s.stage r bytes
      | none => s
    | .commit vol epoch total frames => s.takeCommit vol epoch total frames true
    | .note link remote kind epoch => match s.rlink link with
      | some l => s.replNote l remote kind epoch
      | none => s)

end Sys2Proof.Machine
end

