-- ==== Sys2Proof/Machine/Regs.lean ====
section
/-! DEFINITION. Register accesses over every path (spec/20, R465, R121), the partner's accesses through the Nerryn link
(R433), and the two health summaries (R34). -/

namespace Sys2Proof.Machine

/-! ## Where an access falls -/

/-- The offset of an address within its mailbox window. -/
def mbxOff (addr : Nat) : Nat := (addr - 0x200000) % 0x100000

/-- Channel and register of an offset of the window, where it falls within a channel's registers. -/
def chAt (off : Nat) : Option (Nat × Nat) :=
  if 0x100 ≤ off ∧ off < 0x1100 then some ((off - 0x100) / 0x40, (off - 0x100) % 0x40) else none

/-- An address in either mailbox window. -/
def mbxAddr (addr : Nat) : Bool := inMbx addr || inMbx2 addr

/-- The primary address of a register: the secondary window repeats the map. -/
def mapAddr (addr : Nat) : Nat := if inMbx2 addr then addr - 0x100000 else addr

/-- Index of an array element when an address lies in an array of n elements of a stride. -/
def idxIn (addr base stride n : Nat) : Option Nat :=
  if base ≤ addr ∧ addr < base + stride * n then some ((addr - base) / stride) else none

/-- The register belongs to a fused-off link, string or port (R3, R516). -/
def State.fusedOff (s : State) (addr : Nat) : Bool :=
  let no := fun (i : Option Nat) (en : Nat → Bool) => match i with
    | some k => !en k
    | none => false
  let hda := fun (h : Nat) => s.stringEnabled (h / 2)
  no (idxIn addr 0xA0100 16 48) s.linkEnabled || no (idxIn addr 0xB0100 8 48) s.linkEnabled ||
  no (idxIn addr 0xF0100 16 96) s.stringEnabled || no (idxIn addr 0x60040 8 8) s.portEnabled ||
  no (idxIn addr 0xC0100 4 192) hda || no (idxIn addr 0xD0100 4 192) hda ||
  no (idxIn addr 0xE0100 4 192) hda || no (idxIn addr 0xE0400 4 192) hda

/-- The quadrant whose register an address holds. -/
def quadOf (addr : Nat) : Option Nat :=
  match idxIn addr 0x20010 8 4, idxIn addr 0xC0010 4 4, idxIn addr 0x130020 4 4, idxIn addr 0x130040 8 4,
    idxIn addr 0x140010 16 4, idxIn addr 0x130080 4 12 with
  | some q, _, _, _, _, _ => some q
  | _, some q, _, _, _, _ => some q
  | _, _, some q, _, _, _ => some q
  | _, _, _, some q, _, _ => some q
  | _, _, _, _, some q, _ => some q
  | _, _, _, _, _, some c => some (c / 3)
  | _, _, _, _, _, _ => none

/-- The register reads as zero whatever it holds (R516). -/
def State.reads0 (s : State) (addr : Nat) : Bool :=
  s.fusedOff addr || (match quadOf addr with
    | some q => s.bit SYS.START_STS.Q_DOWN q
    | none => false)

/-! ## Reads (R465, R519) -/

/-- A 32-bit read in a mailbox window: a slot's bytes, or a register. -/
def State.mbxRead (s : State) (ident addr : Nat) : Nat × State :=
  let off := mbxOff addr
  match slotAt off with
  | some (ch, b, x) =>
    if s.readsSlot ident ch = some b then (leNat (s.cmd.mem.reads (slotBase ch b + x) 4), s) else (0, s)
  | none =>
    match chAt off with
    | some (n, 0xC) => s.recvMsg ident n
    | some (n, 0x10) => s.lockRead ident n
    | some (n, 0x20) => s.withdraw ident n
    | _ => s.readWord (mapAddr addr)

/-- The phase offset that SPN_HDAh_PHASE shows: the shadow table's (R521). -/
def State.phaseShown (s : State) (h : Nat) : Nat := ((s.shadow.phases.find? (fun x => x.1 = h)).map Prod.snd).getD 0

/-- A read of the 32-bit register at an aligned offset: zero where the path does not reach it (R514). -/
def State.regRead (s : State) (ident addr : Nat) : Nat × State :=
  if ¬ s.reaches ident addr then (0, s)
  else if mbxAddr addr then s.mbxRead ident addr
  else if s.reads0 addr then (0, s)
  else if addr = 0x60020 then s.stampRead
  else match idxIn addr 0x30040 4 16, idxIn addr 0xE0400 4 192 with
    | some w, _ =>
      if s.bit EVR.CFG.READ_IDS ident then (leNat (slice (s.slotBytes (s.get EVR.RD_IDX.INDEX)) (4 * w) 4), s) else (0, s)
    | _, some h => (s.phaseShown h, s)
    | _, _ => s.readWord addr

/-- The aligned words that an access touches. -/
def wordsOf (addr size : Nat) : List Nat :=
  (List.range ((addr + size + 3) / 4 - addr / 4)).map (fun i => 4 * (addr / 4 + i))

/-- A read of any width and alignment acts on every register it touches, low address first (R465). -/
def State.readRange (s : State) (ident addr size : Nat) : State :=
  (wordsOf addr size).foldl (fun (s : State) a => State.emitRead ident a (s.regRead ident a)) s

/-- REGISTER_READ. -/
def execRegisterRead (ident addr size : Nat) (s : State) : Host.Outcome State Fault Refusal :=
  okIf (1 ≤ size && size ≤ 512) (s.readRange ident addr size)

/-! ## Writes field by field (R515, R523) -/

/-- Whether writing v to a field would change it (R515). -/
def State.wouldChange (s : State) (f : FDesc) (addr v : Nat) : Bool :=
  match f.acc with
  | .rw => v ≠ s.get (f.at_ addr)
  | .rwl => v ≠ s.get (f.at_ addr)
  | .w1c => v ≠ 0
  | .wo => v ≠ 0
  | .ro => false
  | .rc => false

/-- Write one field that the writer may change. -/
def State.writeField (s : State) (f : FDesc) (addr v : Nat) : State :=
  match f.acc with
  | .rw => s.put (f.at_ addr) v
  | .rwl => s.put (f.at_ addr) v
  | .w1c => s.put (f.at_ addr) (s.get (f.at_ addr) &&& (2 ^ f.width - 1 - v))
  | .wo => s
  | .ro => s
  | .rc => s

/-- Write a register field by field. bar gives 0 for a field the writer may change, else the cause of the refusal; the answer
holds the first cause that a field which would have changed gives, or 0. -/
def State.writeFields (s : State) (addr data : Nat) (bar : FDesc → Nat) : Nat × State :=
  let fs := (regAt addr).getD []
  let cause := (fs.filter (fun f => s.wouldChange f addr (bitsAt data f.lsb f.width))).map bar |>.find? (· ≠ 0)
  (cause.getD 0,
    (fs.filter (fun f => bar f = 0)).foldl (fun (t : State) f => t.writeField f addr (bitsAt data f.lsb f.width)) s)

/-- The lock of a block's RWL fields is set (R523); a lock bit locks itself. -/
def State.locked (s : State) (addr : Nat) : Bool :=
  match addr / 0x10000 with
  | 3 => s.on EVR.CTL.LOCK
  | 5 => s.on HQ.CTL.LOCK
  | 6 => s.on VRM.CTL.LOCK
  | 9 => s.on FTL.HOST_BASE_LO.LOCK
  | _ => false

/-- The identities that may write a field of a register outside the MBX block (R515). -/
def mayWrite (ident addr : Nat) (f : FDesc) : Bool :=
  if f.at_ addr = CMD.WDOG_CFG.EN then ident = 0 || ident = 7
  else ident = 0 || ident = 2 || ident = 7 || ident = 4 && 0x10000 ≤ addr && addr < 0x40000

/-! ## What a write sets off (R521, R522) -/

/-- A new period keeps the base of the old one; from 0 it counts from now, and 0 stops the swaps. -/
def rebaseDue (due : Option Nat) (old new now : Nat) : Option Nat :=
  if new = 0 then none
  else if old = 0 then some (now + new * Config.hour)
  else due.map (fun t => t - old * Config.hour + new * Config.hour)

/-- What follows from a register's write; s is the state before it, t the state after. -/
def State.afterWrite (s t : State) (addr : Nat) : State :=
  let ch := fun (f : Fld) => s.get f ≠ t.get f
  let t := (storedFlds.filter (fun e => e.2.any ch)).foldl (fun (t : State) e =>
    { t with start := { t.start with storeDue := e.1 :: t.start.storeDue.filter (· ≠ e.1) } }) t
  let t := match idxIn addr 0x60040 8 8 with
    | some p =>
      if ch (VRM.PORTp_CFG.EN p) ∨ ch (VRM.PORTp_CFG.AN p) ∨ ch (VRM.PORTp_CFG.MODE p) then
        (t.put (VRM.PORTp_STS.UP p) 0).put (VRM.PORTp_STS.PAUSED p) 0
      else t
    | none => t
  let t := if ch PWR.CAP.SUST_W ∨ ch PWR.CAP.SPRINT_W ∨ ch PWR.SPRINT_CFG.EN then t.retarget else t
  let t : State := if s.on SPN.SYNC_CFG.EN && !t.on SPN.SYNC_CFG.EN then t.syncLost else t
  let t := if ch PWR.SWAP_CFG.PERIOD_H then
      -- Before S3 no swap is scheduled; a period of 0 ends a waiting one too (R46).
      let new := t.get PWR.SWAP_CFG.PERIOD_H
      { t with pwr := { t.pwr with
        swapWaitSince := if new = 0 then none else t.pwr.swapWaitSince
        swapDueAt := if t.start.reached < 4 then none else rebaseDue t.pwr.swapDueAt (s.get PWR.SWAP_CFG.PERIOD_H) new t.aon } }
    else t
  let t := if ch NRN.CAPO_CFG.PERIOD_H ∧ t.isCapo then
      t.setPair fun p => { p with
        swapWaitSince := if t.get NRN.CAPO_CFG.PERIOD_H = 0 then none else p.swapWaitSince
        swapDueAt := rebaseDue p.swapDueAt (s.get NRN.CAPO_CFG.PERIOD_H) (t.get NRN.CAPO_CFG.PERIOD_H) t.aon }
    else t
  if ¬ s.on CMD.WDOG_CFG.EN ∧ t.on CMD.WDOG_CFG.EN then { t with cmd := { t.cmd with kicks := List.replicate 10 t.aon } } else t

/-- A write to a register with no row of its own: field by field, recorded where it would have changed a field it may not. -/
def State.plainWrite (s : State) (ident addr data : Nat) : State :=
  let (cause, t) := s.writeFields addr data (fun f =>
    if ¬ mayWrite ident addr f then 2 else if f.acc = .rwl ∧ s.locked addr then 1 else 0)
  let t := s.afterWrite t addr
  if cause = 0 then t else t.refuse cause ident addr

/-- A write to SPN_HDAh_PHASE goes to the shadow table (R342, R521); while PEND is 1 it is ignored (R27). -/
def State.phaseWrite (s : State) (ident addr h data : Nat) : State :=
  let v := bitsAt data 0 13
  if v = s.phaseShown h then s.iff (s.on SYS.EPOCH_STS.PEND && [0, 2, 7].contains ident) (·.setB SYS.EPOCH_STS.LATE)
  else if ¬ [0, 2, 7].contains ident then s.refuse 2 ident addr
  else if s.on SYS.EPOCH_STS.PEND then (s.setB SYS.EPOCH_STS.LATE).refuse 4 ident addr
  else { s with shadow := { s.shadow with phases := (h, v) :: s.shadow.phases.filter (fun x => x.1 ≠ h) } }

/-! ## Mailbox registers (R120, R121) -/

/-- A write to a mailbox register that acts field by field; the refusals go to MBX_ERR alone. -/
def State.mbxFields (s : State) (ident addr ch data : Nat) (inCh : Bool) (bar : Nat) : State :=
  let (cause, t) := s.writeFields addr data (fun _ => bar)
  if cause = 0 then t else t.mbxRefuse cause ident ch (inCh && cause = 1)

/-- A 32-bit write to a mailbox register (log entry 30). -/
def State.mbxWrite (s : State) (ident addr data : Nat) : State :=
  let a := mapAddr addr
  let own := if [0, 2, 7].contains ident then 0 else 1
  let lock := if s.on MBX.BIND_LOCK.LOCK then 5 else 0
  match chAt (mbxOff addr) with
  | none =>
    if mbxOff addr = 0 then s.mbxFields ident a 0 data false (if own = 1 then 1 else lock)
    else s.mbxFields ident a 0 data false own
  | some (n, r) =>
    if r = 0 then s.mbxFields ident a n data true
      (if ¬ (ident = 0 ∨ ident = 7) then 1 else if lock ≠ 0 then lock else if bindOk data then 0 else 5)
    else if (regAt a).isNone then s
    else if ¬ s.bound n then s.mbxRefuse 1 ident n true
    else if r = 0xC ∨ r = 0x20 then s
    else match r with
      | 0x4 => s.mbxFields ident a n data true own
      | 0x8 => s.sendMsg ident n data
      | 0x10 => s.lockWrite ident n
      | 0x14 => s.dbSet ident n data
      | 0x18 => s.dbClear ident n data
      | 0x1C => s.dbMask ident n data
      | _ => s.mbxFields ident a n data true own

/-! ## A write as a whole (R465) -/

/-- A 32-bit write at an aligned offset. -/
def State.regWrite (s : State) (ident addr data : Nat) : State :=
  let w := BitVec.ofNat 32 data
  if ¬ s.reaches ident addr ∨ s.fusedOff addr then s
  else if mbxAddr addr then s.mbxWrite ident addr data
  else if addr = 0x30 then s.epochCtl ident w
  else if addr = 0x48 then s.rstCtl ident w
  else if addr = 0x10004 then s.feedCtl ident w
  else if addr = 0x140000 then s.mccWrite ident w
  else match idxIn addr 0xE0400 4 192 with
    | some h => s.phaseWrite ident addr h data
    | none => s.plainWrite ident addr data

/-- A write that is narrower than a register or not naturally aligned: ignored, and recorded where it met a register. -/
def State.badWrite (s : State) (ident addr size : Nat) : State :=
  match (wordsOf addr size).find? (fun a => s.reaches ident a && !s.fusedOff a && (regAt (mapAddr a)).isSome) with
  | none => s
  | some a =>
    if mbxAddr a then
      match chAt (mbxOff a) with
      | some (n, _) => s.mbxRefuse 6 ident n true
      | none => s.mbxRefuse 6 ident 0 false
    else s.refuse 3 ident a

/-- A write of size bytes. Slots take any length; a register takes 32 or 64 bits, the low half first. -/
def State.writeRange (s : State) (ident addr size data : Nat) : State :=
  if mbxAddr addr ∧ (slotAt (mbxOff addr)).isSome then
    if s.reaches ident addr then s.slotWrite ident (mbxOff addr) (leBytes size data) else s
  else if size = 4 ∧ addr % 4 = 0 then s.regWrite ident addr (data % 2 ^ 32)
  else if size = 8 ∧ addr % 8 = 0 then
    (s.regWrite ident addr (data % 2 ^ 32)).regWrite ident (addr + 4) (data / 2 ^ 32 % 2 ^ 32)
  else s.badWrite ident addr size

/-- REGISTER_WRITE. -/
def execRegisterWrite (ident addr size data : Nat) (s : State) : Host.Outcome State Fault Refusal :=
  okIf (1 ≤ size && size ≤ 512) (s.writeRange ident addr size data)

/-! ## The partner's accesses (R433) -/

/-- The channel that an offset of the primary window belongs to. -/
def chOf (off : Nat) : Option Nat :=
  match slotAt off, chAt off with
  | some x, _ => some x.1
  | none, some x => some x.1
  | none, none => none

/-- The channel is bound to identity 5. -/
def State.tunnelled (s : State) (off : Nat) : Bool :=
  match chOf off with
  | some n => s.get (MBX.CHn_BIND.END0 n) = 5 || s.get (MBX.CHn_BIND.END1 n) = 5
  | none => false

/-- A TUNNEL access: only channels whose binding names identity 5; another write is refused as R121 gives. -/
def State.tunnel (s : State) (a : TunnelAcc) : State :=
  match a with
  | .read off size =>
    (wordsOf (0x200000 + off) size).foldl (fun (s : State) w =>
      let (v, s) := if s.tunnelled (mbxOff w) then s.regRead 5 w else (0, s)
      s.sendNrn 6 1 [w - 0x200000, v] []) s
  | .write off bytes =>
    if s.tunnelled off then s.writeRange 5 (0x200000 + off) bytes.length (leNat bytes)
    else if ¬ s.reaches 5 (0x200000 + off) then s
    else match chOf off with
      | some n => s.mbxRefuse 1 5 n true
      | none => s.mbxRefuse 1 5 0 false

/-- Offsets that lie within the window. -/
def TunnelOk (a : TunnelAcc) : Bool :=
  match a with
  | .read off size => 1 ≤ size && size ≤ 512 && off + size ≤ 0x100000
  | .write off bytes => 1 ≤ bytes.length && bytes.length ≤ 512 && off + bytes.length ≤ 0x100000

/-- TUNNEL. -/
def execTunnel (env : Seal) (a : TunnelAcc) (s : State) : Host.Outcome State Fault Refusal :=
  okIf (TunnelOk a) (s.receive env false fun s => s.tunnel a)

end Sys2Proof.Machine
end

