-- ==== Sys2Proof/Machine/Health.lean ====
section
/-! DEFINITION. The two health summaries (R34, R294, R323, R378, R452). -/

namespace Sys2Proof.Machine

/-- The lowest of some percentages; 100 of none. -/
def lowest (ps : List Nat) : Nat := ps.foldl min 100

/-- SRAM: spares left of the worst bank (R452). -/
def State.sramPct (s : State) : Nat :=
  lowest ([0, 1, 2, 3].flatMap (fun q => (List.range 48).map (fun b => 100 * s.sparesLeft (48 * q + b) / 8)))

/-- SERDES: the spare lane of each flash link, used or failed lanes gone, and those of the Nerryn link (R235, R411). -/
def State.serdesPct (s : State) : Nat :=
  lowest (50 * s.pair.spares.length ::
    ((List.range 48).filter s.linkEnabled).map (fun k => if 2 ≤ s.get (FLK.LINKk_STS.SPARE k) then 0 else 100))

/-- NAND_DIE of a module: one without spare dies counts 0 once it needs a die (R294). -/
def Module.diePct (m : Module) : Nat :=
  if m.spareDies = 0 then (if 4 ≤ m.stage then 0 else 100) else 100 * m.diesLeft / m.spareDies

/-- HDA_SECT: the lowest SPARE_PCT of the present HDAs (R323). -/
def State.hdaPct (s : State) : Nat :=
  lowest (s.nv.media.hdas.filterMap (fun m => if (s.slotIdent m.hda).isSome then some (s.sparePct m) else none))

/-- HEALTH_SUM_UPDATE, from S2 on. -/
def execHealthSumUpdate (s : State) : Host.Outcome State Fault Refusal :=
  done (if s.start.reached < 3 then s else
    let s := ((s.put SYS.HEALTH_SUM0.SRAM s.sramPct).put SYS.HEALTH_SUM0.SERDES s.serdesPct).put SYS.HEALTH_SUM0.CORE
      (50 * s.get CMD.CORE_STS.SPARES)
    let s := s.put SYS.HEALTH_SUM0.CLUSTER
      (if [0, 1, 2, 3].all (fun q => !s.on (SYS.SPARE_STS.SPARE_USED q)) then 100 else 0)
    let s := (s.put SYS.HEALTH_SUM1.HDA_SECT s.hdaPct).put SYS.HEALTH_SUM1.DECL (lowest (s.act.sets.map s.declPct))
    (s.put SYS.HEALTH_SUM1.NAND_DIE (lowest (s.nv.media.modules.map Module.diePct))).put SYS.HEALTH_SUM1.NAND_BLOCK
      (lowest (s.nv.media.modules.map Module.blockPct)))

end Sys2Proof.Machine
end

