-- ==== Sys2Proof/Machine/Dispatch.lean ====
section
/-! DEFINITION. One arm per command of the table, each a direct call of its meaning. -/

namespace Sys2Proof.Machine

/-- The effect of a command on everything but the queue. -/
def exec (i : Instr) (s : State) : Host.Outcome State Fault Refusal :=
  match i with
  | .vddAonRising headB => Sys2Proof.Machine.execVddAonRising headB s
  | .porN => Sys2Proof.Machine.execPorN s
  | .cold ident data => Sys2Proof.Machine.execCold ident data s
  | .warm ident data => Sys2Proof.Machine.execWarm ident data s
  | .mcRestart ident data => Sys2Proof.Machine.execMcRestart ident data s
  | .warmResetRelease => Sys2Proof.Machine.execWarmResetRelease s
  | .trstN => Sys2Proof.Machine.execTrstN s
  | .feedTick a b => Sys2Proof.Machine.execFeedTick a b s
  | .feedFailed feed loss => Sys2Proof.Machine.execFeedFailed feed loss s
  | .feedResync feed v => Sys2Proof.Machine.execFeedResync feed v s
  | .pgoodRise feed v => Sys2Proof.Machine.execPgoodRise feed v s
  | .verifyTimeout feed => Sys2Proof.Machine.execVerifyTimeout feed s
  | .rearm ident data => Sys2Proof.Machine.execRearm ident data s
  | .swapDue => Sys2Proof.Machine.execSwapDue s
  | .swapSkipped => Sys2Proof.Machine.execSwapSkipped s
  | .swapNow ident data => Sys2Proof.Machine.execSwapNow ident data s
  | .swapCheck aPgood bPgood aCode bCode => Sys2Proof.Machine.execSwapCheck aPgood bPgood aCode bCode s
  | .holdupOk level => Sys2Proof.Machine.execHoldupOk level s
  | .sprintBudgetUpdate avgW => Sys2Proof.Machine.execSprintBudgetUpdate avgW s
  | .powerStepUpdate nowW avg1sW => Sys2Proof.Machine.execPowerStepUpdate nowW avg1sW s
  | .thermalStepUpdate temps => Sys2Proof.Machine.execThermalStepUpdate temps s
  | .thermalTrip sensor tempC => Sys2Proof.Machine.execThermalTrip sensor tempC s
  | .clusterGate q k => Sys2Proof.Machine.execClusterGate q k s
  | .quadrantGate q => Sys2Proof.Machine.execQuadrantGate q s
  | .gateEntryDone q cluster => Sys2Proof.Machine.execGateEntryDone q cluster s
  | .clusterWake q k => Sys2Proof.Machine.execClusterWake q k s
  | .quadrantWake q => Sys2Proof.Machine.execQuadrantWake q s
  | .healthSumUpdate => Sys2Proof.Machine.execHealthSumUpdate s
  | .parityError q k => Sys2Proof.Machine.execParityError q k s
  | .swapDrainDone q => Sys2Proof.Machine.execSwapDrainDone q s
  | .spareSelfTestDone q pass => Sys2Proof.Machine.execSpareSelfTestDone q pass s
  | .swapRemap q => Sys2Proof.Machine.execSwapRemap q s
  | .spareWeeklyTest q pass => Sys2Proof.Machine.execSpareWeeklyTest q pass s
  | .epochCommit ident data => Sys2Proof.Machine.execEpochCommit ident data s
  | .epochAbandon ident data => Sys2Proof.Machine.execEpochAbandon ident data s
  | .retiringBanksFreed => Sys2Proof.Machine.execRetiringBanksFreed s
  | .stageS0 bootMode => Sys2Proof.Machine.execStageS0 bootMode s
  | .stageS1 bad => Sys2Proof.Machine.execStageS1 bad s
  | .settingsMigration readBackOk => Sys2Proof.Machine.execSettingsMigration readBackOk s
  | .stageS2 => Sys2Proof.Machine.execStageS2 s
  | .stageS3 => Sys2Proof.Machine.execStageS3 s
  | .startDeadline => Sys2Proof.Machine.execStartDeadline s
  | .x32kOk => Sys2Proof.Machine.execX32kOk s
  | .entReady q => Sys2Proof.Machine.execEntReady q s
  | .deadHead => Sys2Proof.Machine.execDeadHead s
  | .deadLineRepeat => Sys2Proof.Machine.execDeadLineRepeat s
  | .ping p => Sys2Proof.Machine.execPing p s
  | .getStatus p => Sys2Proof.Machine.execGetStatus p s
  | .getHealth p => Sys2Proof.Machine.execGetHealth p s
  | .getIdent p => Sys2Proof.Machine.execGetIdent p s
  | .getLoad p => Sys2Proof.Machine.execGetLoad p s
  | .reset p => Sys2Proof.Machine.execReset p s
  | .settingsReset p => Sys2Proof.Machine.execSettingsReset p s
  | .openSession p => Sys2Proof.Machine.execOpenSession p s
  | .closeSession p => Sys2Proof.Machine.execCloseSession p s
  | .expertUnlock p => Sys2Proof.Machine.execExpertUnlock p s
  | .sessionExpire handle => Sys2Proof.Machine.execSessionExpire handle s
  | .clusterSwap p => Sys2Proof.Machine.execClusterSwap p s
  | .packetTake src load => Sys2Proof.Machine.execPacketTake src load s
  | .class3Promote ident tag => Sys2Proof.Machine.execClass3Promote ident tag s
  | .watchdogRestart late failed => Sys2Proof.Machine.execWatchdogRestart late failed s
  | .firmwareRun => Sys2Proof.Machine.execFirmwareRun s
  | .wdogKick ident core data => Sys2Proof.Machine.execWdogKick ident core data s
  | .slotWrite ident off bytes => Sys2Proof.Machine.execSlotWrite ident off bytes s
  | .send ident n data => Sys2Proof.Machine.execSend ident n data s
  | .recv ident n => Sys2Proof.Machine.execRecv ident n s
  | .wdraw ident n => Sys2Proof.Machine.execWdraw ident n s
  | .lockRead ident n => Sys2Proof.Machine.execLockRead ident n s
  | .lockRelease ident n data => Sys2Proof.Machine.execLockRelease ident n data s
  | .dbSet ident n data => Sys2Proof.Machine.execDbSet ident n data s
  | .createQp p => Sys2Proof.Machine.execCreateQp p s
  | .deleteQp p => Sys2Proof.Machine.execDeleteQp p s
  | .resetQp p => Sys2Proof.Machine.execResetQp p s
  | .qpStatus p => Sys2Proof.Machine.execQpStatus p s
  | .setCoalesce p => Sys2Proof.Machine.execSetCoalesce p s
  | .getQpStats p => Sys2Proof.Machine.execGetQpStats p s
  | .qpCtxRead p => Sys2Proof.Machine.execQpCtxRead p s
  | .sqTailDoorbell off size data => Sys2Proof.Machine.execSqTailDoorbell off size data s
  | .cqHeadDoorbell off size data => Sys2Proof.Machine.execCqHeadDoorbell off size data s
  | .sqFetch cluster qpid => Sys2Proof.Machine.execSqFetch cluster qpid s
  | .contextFetch qpid => Sys2Proof.Machine.execContextFetch qpid s
  | .lockGrant qpid cid => Sys2Proof.Machine.execLockGrant qpid cid s
  | .ioRead qpid cid => Sys2Proof.Machine.execIoRead qpid cid s
  | .ioWrite qpid cid faulty => Sys2Proof.Machine.execIoWrite qpid cid faulty s
  | .ioFlush qpid cid => Sys2Proof.Machine.execIoFlush qpid cid s
  | .ioDiscard qpid cid => Sys2Proof.Machine.execIoDiscard qpid cid s
  | .ioAbort qpid cid => Sys2Proof.Machine.execIoAbort qpid cid s
  | .readComplete qpid cid here odd => Sys2Proof.Machine.execReadComplete qpid cid here odd s
  | .coalesceTimer => Sys2Proof.Machine.execCoalesceTimer s
  | .connCreate p => Sys2Proof.Machine.execConnCreate p s
  | .connDestroy p => Sys2Proof.Machine.execConnDestroy p s
  | .connStatus p => Sys2Proof.Machine.execConnStatus p s
  | .pathSet p => Sys2Proof.Machine.execPathSet p s
  | .portAddr p => Sys2Proof.Machine.execPortAddr p s
  | .excRing p => Sys2Proof.Machine.execExcRing p s
  | .trigAlloc p => Sys2Proof.Machine.execTrigAlloc p s
  | .trigPost p => Sys2Proof.Machine.execTrigPost p s
  | .trigFree p => Sys2Proof.Machine.execTrigFree p s
  | .trigStatus p => Sys2Proof.Machine.execTrigStatus p s
  | .portStatus p => Sys2Proof.Machine.execPortStatus p s
  | .connCtxRead p => Sys2Proof.Machine.execConnCtxRead p s
  | .frameReceive port sub f => Sys2Proof.Machine.execFrameReceive port sub f s
  | .connContextFetch conn => Sys2Proof.Machine.execConnContextFetch conn s
  | .writePacket port idx => Sys2Proof.Machine.execWritePacket port idx s
  | .fencePlace conn xfer => Sys2Proof.Machine.execFencePlace conn xfer s
  | .readReq port idx => Sys2Proof.Machine.execReadReq port idx s
  | .readResp port idx => Sys2Proof.Machine.execReadResp port idx s
  | .doorbell port idx => Sys2Proof.Machine.execDoorbell port idx s
  | .trigger port idx => Sys2Proof.Machine.execTrigger port idx s
  | .ack port idx => Sys2Proof.Machine.execAck port idx s
  | .nak port idx => Sys2Proof.Machine.execNak port idx s
  | .probe port idx => Sys2Proof.Machine.execProbe port idx s
  | .ackTimer conn => Sys2Proof.Machine.execAckTimer conn s
  | .reorderTimeout conn psn => Sys2Proof.Machine.execReorderTimeout conn psn s
  | .retransmitTimeout conn path => Sys2Proof.Machine.execRetransmitTimeout conn path s
  | .keepalive conn path => Sys2Proof.Machine.execKeepalive conn path s
  | .downPathProbe conn path => Sys2Proof.Machine.execDownPathProbe conn path s
  | .connectionLost conn => Sys2Proof.Machine.execConnectionLost conn s
  | .pfcRelease port => Sys2Proof.Machine.execPfcRelease port s
  | .pfcPauseReceive port sub pause => Sys2Proof.Machine.execPfcPauseReceive port sub pause s
  | .subPortUp port sub => Sys2Proof.Machine.execSubPortUp port sub s
  | .vrmStampRead ident => Sys2Proof.Machine.execVrmStampRead ident s
  | .policySet p => Sys2Proof.Machine.execPolicySet p s
  | .policyGet p => Sys2Proof.Machine.execPolicyGet p s
  | .xfStats p => Sys2Proof.Machine.execXfStats p s
  | .rekeyStart p => Sys2Proof.Machine.execRekeyStart p s
  | .rekeySweepEnd vol => Sys2Proof.Machine.execRekeySweepEnd vol s
  | .rekeyStatus p => Sys2Proof.Machine.execRekeyStatus p s
  | .sealKeyExport p => Sys2Proof.Machine.execSealKeyExport p s
  | .getKcv p => Sys2Proof.Machine.execGetKcv p s
  | .rootLoad p readBackOk => Sys2Proof.Machine.execRootLoad p readBackOk s
  | .keyDerivationDone cluster purpose vol epoch label => Sys2Proof.Machine.execKeyDerivationDone cluster purpose vol epoch label s
  | .summaryRebuilt => Sys2Proof.Machine.execSummaryRebuilt s
  | .healthTestFail test => Sys2Proof.Machine.execHealthTestFail test s
  | .hourlyRetest q pass => Sys2Proof.Machine.execHourlyRetest q pass s
  | .drbgReseed cluster => Sys2Proof.Machine.execDrbgReseed cluster s
  | .flitReceive link word0 word1 payload fcrc => Sys2Proof.Machine.execFlitReceive link word0 word1 payload fcrc s
  | .ackseqTimer link => Sys2Proof.Machine.execAckseqTimer link s
  | .flashLinkUp link trained ident => Sys2Proof.Machine.execFlashLinkUp link trained ident s
  | .laneErrorWindow link slot uncorr corr symbols => Sys2Proof.Machine.execLaneErrorWindow link slot uncorr corr symbols s
  | .spareLaneTrained link ok => Sys2Proof.Machine.execSpareLaneTrained link ok s
  | .laneSwitch link => Sys2Proof.Machine.execLaneSwitch link s
  | .spareLaneTest link failed => Sys2Proof.Machine.execSpareLaneTest link failed s
  | .bridgeCompletion link tag status data => Sys2Proof.Machine.execBridgeCompletion link tag status data s
  | .codewordDecode job page cw it ok => Sys2Proof.Machine.execCodewordDecode job page cw it ok s
  | .mapPageFetch vol page fromHost crcOk => Sys2Proof.Machine.execMapPageFetch vol page fromHost crcOk s
  | .mapLogFlush => Sys2Proof.Machine.execMapLogFlush s
  | .mapCommit id => Sys2Proof.Machine.execMapCommit id s
  | .mapCheckpoint => Sys2Proof.Machine.execMapCheckpoint s
  | .mapWarm => Sys2Proof.Machine.execMapWarm s
  | .fineDemote vol unit => Sys2Proof.Machine.execFineDemote vol unit s
  | .rebaseSweepEnd vol => Sys2Proof.Machine.execRebaseSweepEnd vol s
  | .gcBandSelect q tier => Sys2Proof.Machine.execGcBandSelect q tier s
  | .tierMigrate vol unit => Sys2Proof.Machine.execTierMigrate vol unit s
  | .bandAllocate set zone use_ level => Sys2Proof.Machine.execBandAllocate set zone use_ level s
  | .ftlStatus p => Sys2Proof.Machine.execFtlStatus p s
  | .tierSet p => Sys2Proof.Machine.execTierSet p s
  | .unitInfo p => Sys2Proof.Machine.execUnitInfo p s
  | .purge p => Sys2Proof.Machine.execPurge p s
  | .purgeDone => Sys2Proof.Machine.execPurgeDone s
  | .dumpStatus p => Sys2Proof.Machine.execDumpStatus p s
  | .mapPageRead p => Sys2Proof.Machine.execMapPageRead p s
  | .linkStatus p => Sys2Proof.Machine.execLinkStatus p s
  | .moduleIdent p => Sys2Proof.Machine.execModuleIdent p s
  | .laneSpare p => Sys2Proof.Machine.execLaneSpare p s
  | .bridgeRaw p => Sys2Proof.Machine.execBridgeRaw p s
  | .dumpFramesDone ns => Sys2Proof.Machine.execDumpFramesDone ns s
  | .dumpLogDone ns => Sys2Proof.Machine.execDumpLogDone ns s
  | .dumpDone ns => Sys2Proof.Machine.execDumpDone ns s
  | .dumpRestore intact => Sys2Proof.Machine.execDumpRestore intact s
  | .dumpRestored => Sys2Proof.Machine.execDumpRestored s
  | .temperatureReport link temp => Sys2Proof.Machine.execTemperatureReport link temp s
  | .temperatureTimeout link => Sys2Proof.Machine.execTemperatureTimeout link s
  | .loadClassUpdate link bw qd => Sys2Proof.Machine.execLoadClassUpdate link bw qd s
  | .windowClose link die plane ret load hi lo temp bw => Sys2Proof.Machine.execWindowClose link die plane ret load hi lo temp bw s
  | .candidateCommit hda => Sys2Proof.Machine.execCandidateCommit hda s
  | .validationPass t => Sys2Proof.Machine.execValidationPass t s
  | .validationFail t => Sys2Proof.Machine.execValidationFail t s
  | .refresh set zone => Sys2Proof.Machine.execRefresh set zone s
  | .patrolPace => Sys2Proof.Machine.execPatrolPace s
  | .lapEnd => Sys2Proof.Machine.execLapEnd s
  | .dieSwapAgreed link => Sys2Proof.Machine.execDieSwapAgreed link s
  | .dieSwapDone link => Sys2Proof.Machine.execDieSwapDone link s
  | .tunStatus p => Sys2Proof.Machine.execTunStatus p s
  | .groupHealth p => Sys2Proof.Machine.execGroupHealth p s
  | .moduleWear p => Sys2Proof.Machine.execModuleWear p s
  | .patrolRestart p => Sys2Proof.Machine.execPatrolRestart p s
  | .tuningFreeze p => Sys2Proof.Machine.execTuningFreeze p s
  | .dieSwap p => Sys2Proof.Machine.execDieSwap p s
  | .setWrite p => Sys2Proof.Machine.execSetWrite p s
  | .stringUp str ident found0 found1 => Sys2Proof.Machine.execStringUp str ident found0 found1 s
  | .rsamp str head slot stream first samples fcrc => Sys2Proof.Machine.execRsamp str head slot stream first samples fcrc s
  | .ssamp str flit => Sys2Proof.Machine.execSsamp str flit s
  | .cstat str c => Sys2Proof.Machine.execCstat str c s
  | .carrierCompletion str tag st gates vers => Sys2Proof.Machine.execCarrierCompletion str tag st gates vers s
  | .poorCheck => Sys2Proof.Machine.execPoorCheck s
  | .poorClear str => Sys2Proof.Machine.execPoorClear str s
  | .runGrant run => Sys2Proof.Machine.execRunGrant run s
  | .runPreempt run => Sys2Proof.Machine.execRunPreempt run s
  | .sectorDecode run it tag mark used => Sys2Proof.Machine.execSectorDecode run it tag mark used s
  | .reallocationDurable hda sector => Sys2Proof.Machine.execReallocationDurable hda sector s
  | .zoneReset hda zone => Sys2Proof.Machine.execZoneReset hda zone s
  | .hdaLoadClassUpdate => Sys2Proof.Machine.execHdaLoadClassUpdate s
  | .hdaWindowClose hda zone load gf gt np clr temp bw => Sys2Proof.Machine.execHdaWindowClose hda zone load gf gt np clr temp bw s
  | .hdaSetFlush => Sys2Proof.Machine.execHdaSetFlush s
  | .hdaStatus p => Sys2Proof.Machine.execHdaStatus p s
  | .hdaIdent p => Sys2Proof.Machine.execHdaIdent p s
  | .hdaFormat p => Sys2Proof.Machine.execHdaFormat p s
  | .zoneSets p => Sys2Proof.Machine.execZoneSets p s
  | .reallocList p => Sys2Proof.Machine.execReallocList p s
  | .sampleCapture p => Sys2Proof.Machine.execSampleCapture p s
  | .stringStatus p => Sys2Proof.Machine.execStringStatus p s
  | .carrierIdent p => Sys2Proof.Machine.execCarrierIdent p s
  | .driveSet p => Sys2Proof.Machine.execDriveSet p s
  | .parkedSout hda => Sys2Proof.Machine.execParkedSout hda s
  | .loadRetry hda => Sys2Proof.Machine.execLoadRetry hda s
  | .loadTimeout hda => Sys2Proof.Machine.execLoadTimeout hda s
  | .trajectoryEnd hda => Sys2Proof.Machine.execTrajectoryEnd hda s
  | .unloadDone hda => Sys2Proof.Machine.execUnloadDone hda s
  | .retractPulseEnd hda => Sys2Proof.Machine.execRetractPulseEnd hda s
  | .spinsync stamp => Sys2Proof.Machine.execSpinsync stamp s
  | .syncHoldover => Sys2Proof.Machine.execSyncHoldover s
  | .spinupGrant hda => Sys2Proof.Machine.execSpinupGrant hda s
  | .alignDone hda => Sys2Proof.Machine.execAlignDone hda s
  | .spinupTimeout hda => Sys2Proof.Machine.execSpinupTimeout hda s
  | .faultRetry hda => Sys2Proof.Machine.execFaultRetry hda s
  | .idleSpinDown hda => Sys2Proof.Machine.execIdleSpinDown hda s
  | .srvStatus p => Sys2Proof.Machine.execSrvStatus p s
  | .loopProfile p => Sys2Proof.Machine.execLoopProfile p s
  | .loopGet p => Sys2Proof.Machine.execLoopGet p s
  | .traceArm p => Sys2Proof.Machine.execTraceArm p s
  | .traceRead p => Sys2Proof.Machine.execTraceRead p s
  | .loopSetRaw p => Sys2Proof.Machine.execLoopSetRaw p s
  | .seekTest p => Sys2Proof.Machine.execSeekTest p s
  | .spinUp p => Sys2Proof.Machine.execSpinUp p s
  | .spinDown p => Sys2Proof.Machine.execSpinDown p s
  | .spinStatus p => Sys2Proof.Machine.execSpinStatus p s
  | .phaseSet p => Sys2Proof.Machine.execPhaseSet p s
  | .motorSet p => Sys2Proof.Machine.execMotorSet p s
  | .stripeCloseTimeout set zone row stripe => Sys2Proof.Machine.execStripeCloseTimeout set zone row stripe s
  | .resync bad => Sys2Proof.Machine.execResync bad s
  | .jointDecode job row col failed run => Sys2Proof.Machine.execJointDecode job row col failed run s
  | .rebuildStart set => Sys2Proof.Machine.execRebuildStart set s
  | .rebuildPace set host bad => Sys2Proof.Machine.execRebuildPace set host bad s
  | .positionRebuilt set pos => Sys2Proof.Machine.execPositionRebuilt set pos s
  | .copybackBandDone set pos zone => Sys2Proof.Machine.execCopybackBandDone set pos zone s
  | .setCreate p => Sys2Proof.Machine.execSetCreate p s
  | .setStatus p => Sys2Proof.Machine.execSetStatus p s
  | .fretRead p => Sys2Proof.Machine.execFretRead p s
  | .levelSet p => Sys2Proof.Machine.execLevelSet p s
  | .lostList p => Sys2Proof.Machine.execLostList p s
  | .replace p => Sys2Proof.Machine.execReplace p s
  | .memberFail p => Sys2Proof.Machine.execMemberFail p s
  | .rebuildPause p => Sys2Proof.Machine.execRebuildPause p s
  | .volCreate p => Sys2Proof.Machine.execVolCreate p s
  | .volDelete p => Sys2Proof.Machine.execVolDelete p s
  | .volDeleteSweepEnd vol => Sys2Proof.Machine.execVolDeleteSweepEnd vol s
  | .volSet p => Sys2Proof.Machine.execVolSet p s
  | .volStatus p => Sys2Proof.Machine.execVolStatus p s
  | .snapCreate p => Sys2Proof.Machine.execSnapCreate p s
  | .snapReady vol snap => Sys2Proof.Machine.execSnapReady vol snap s
  | .snapDelete p => Sys2Proof.Machine.execSnapDelete p s
  | .snapSweepEnd vol snap => Sys2Proof.Machine.execSnapSweepEnd vol snap s
  | .snapList p => Sys2Proof.Machine.execSnapList p s
  | .replLinkCreate p => Sys2Proof.Machine.execReplLinkCreate p s
  | .replLinkPeer p => Sys2Proof.Machine.execReplLinkPeer p s
  | .replLinkConn p => Sys2Proof.Machine.execReplLinkConn p s
  | .replLinkDelete p => Sys2Proof.Machine.execReplLinkDelete p s
  | .replBind p => Sys2Proof.Machine.execReplBind p s
  | .replUnbind p => Sys2Proof.Machine.execReplUnbind p s
  | .replCut p => Sys2Proof.Machine.execReplCut p s
  | .replStatus p => Sys2Proof.Machine.execReplStatus p s
  | .replPromote p => Sys2Proof.Machine.execReplPromote p s
  | .replResync p => Sys2Proof.Machine.execReplResync p s
  | .epochCut vol => Sys2Proof.Machine.execEpochCut vol s
  | .applyDone vol => Sys2Proof.Machine.execApplyDone vol s
  | .replHello link h => Sys2Proof.Machine.execReplHello link h s
  | .stagedExpire vol => Sys2Proof.Machine.execStagedExpire vol s
  | .lagAlarm vol => Sys2Proof.Machine.execLagAlarm vol s
  | .nerrynTrained mark => Sys2Proof.Machine.execNerrynTrained mark s
  | .hello env h => Sys2Proof.Machine.execHello env h s
  | .heartbeat env b => Sys2Proof.Machine.execHeartbeat env b s
  | .heartbeatSend => Sys2Proof.Machine.execHeartbeatSend s
  | .mirror env m => Sys2Proof.Machine.execMirror env m s
  | .mirrorAck env ids => Sys2Proof.Machine.execMirrorAck env ids s
  | .maplog env recs => Sys2Proof.Machine.execMaplog env recs s
  | .propose env ver c => Sys2Proof.Machine.execPropose env ver c s
  | .coordReady env ver => Sys2Proof.Machine.execCoordReady env ver s
  | .coordCommit env ver => Sys2Proof.Machine.execCoordCommit env ver s
  | .coordRequest env r => Sys2Proof.Machine.execCoordRequest env r s
  | .coordGrant env g => Sys2Proof.Machine.execCoordGrant env g s
  | .handoff env ver queue => Sys2Proof.Machine.execHandoff env ver queue s
  | .coordRelease env carrier num => Sys2Proof.Machine.execCoordRelease env carrier num s
  | .coordDepart env => Sys2Proof.Machine.execCoordDepart env s
  | .tunnel env a => Sys2Proof.Machine.execTunnel env a s
  | .nrnNotice env ch => Sys2Proof.Machine.execNrnNotice env ch s
  | .media env m => Sys2Proof.Machine.execMedia env m s
  | .capoSwapDue => Sys2Proof.Machine.execCapoSwapDue s
  | .capoSwapSkip => Sys2Proof.Machine.execCapoSwapSkip s
  | .partnerSilent down => Sys2Proof.Machine.execPartnerSilent down s
  | .partnerAbsent => Sys2Proof.Machine.execPartnerAbsent s
  | .quorum => Sys2Proof.Machine.execQuorum s
  | .pairResyncDone => Sys2Proof.Machine.execPairResyncDone s
  | .pairStatus p => Sys2Proof.Machine.execPairStatus p s
  | .capoSwap p => Sys2Proof.Machine.execCapoSwap p s
  | .volHome p => Sys2Proof.Machine.execVolHome p s
  | .nrnLaneSpare p => Sys2Proof.Machine.execNrnLaneSpare p s
  | .soleTakeover p => Sys2Proof.Machine.execSoleTakeover p s
  | .channelTraining ch d ref checkOk fullOk hard => Sys2Proof.Machine.execChannelTraining ch d ref checkOk fullOk hard s
  | .zqCalibration => Sys2Proof.Machine.execZqCalibration s
  | .scrub rows => Sys2Proof.Machine.execScrub rows s
  | .dramCe ch row => Sys2Proof.Machine.execDramCe ch row s
  | .dramUe ch addr c => Sys2Proof.Machine.execDramUe ch addr c s
  | .sramUe quad bank e => Sys2Proof.Machine.execSramUe quad bank e s
  | .blockTest quad bank block ok => Sys2Proof.Machine.execBlockTest quad bank block ok s
  | .bgtLapEnd => Sys2Proof.Machine.execBgtLapEnd s
  | .sliceDisable ident data => Sys2Proof.Machine.execSliceDisable ident data s
  | .sliceDrainDone slice => Sys2Proof.Machine.execSliceDrainDone slice s
  | .sliceEnable ident data => Sys2Proof.Machine.execSliceEnable ident data s
  | .memStatus p => Sys2Proof.Machine.execMemStatus p s
  | .sramHealth p => Sys2Proof.Machine.execSramHealth p s
  | .repairModeSet p => Sys2Proof.Machine.execRepairModeSet p s
  | .mccStats p => Sys2Proof.Machine.execMccStats p s
  | .configWrite addr be data => Sys2Proof.Machine.execConfigWrite addr be data s
  | .msixTableWrite addr data => Sys2Proof.Machine.execMsixTableWrite addr data s
  | .completionReceive tag status data => Sys2Proof.Machine.execCompletionReceive tag status data s
  | .completionTimeout tag => Sys2Proof.Machine.execCompletionTimeout tag s
  | .pcieError err => Sys2Proof.Machine.execPcieError err s
  | .endpointReset kind => Sys2Proof.Machine.execEndpointReset kind s
  | .perstRelease => Sys2Proof.Machine.execPerstRelease s
  | .pciStatus p => Sys2Proof.Machine.execPciStatus p s
  | .recordIntake code loc res value data => Sys2Proof.Machine.execRecordIntake code loc res value data s
  | .recordCommit => Sys2Proof.Machine.execRecordCommit s
  | .snapshotRead => Sys2Proof.Machine.execSnapshotRead s
  | .wallEpoch => Sys2Proof.Machine.execWallEpoch s
  | .mirrorProgram count => Sys2Proof.Machine.execMirrorProgram count s
  | .mirrorHeaderWrite => Sys2Proof.Machine.execMirrorHeaderWrite s
  | .mirrorHeaderLoad => Sys2Proof.Machine.execMirrorHeaderLoad s
  | .mirrorLoadDone slots => Sys2Proof.Machine.execMirrorLoadDone slots s
  | .mirrorEraseDone sectors => Sys2Proof.Machine.execMirrorEraseDone sectors s
  | .evrStatus p => Sys2Proof.Machine.execEvrStatus p s
  | .evrRead p => Sys2Proof.Machine.execEvrRead p s
  | .evrRateSet p => Sys2Proof.Machine.execEvrRateSet p s
  | .evrTrigSet p => Sys2Proof.Machine.execEvrTrigSet p s
  | .evrWallSet p => Sys2Proof.Machine.execEvrWallSet p s
  | .evrClearNonce p => Sys2Proof.Machine.execEvrClearNonce p s
  | .evrClear p => Sys2Proof.Machine.execEvrClear p s
  | .updStatus p => Sys2Proof.Machine.execUpdStatus p s
  | .updOpen p => Sys2Proof.Machine.execUpdOpen p s
  | .updData p => Sys2Proof.Machine.execUpdData p s
  | .updClose p => Sys2Proof.Machine.execUpdClose p s
  | .updActivate p => Sys2Proof.Machine.execUpdActivate p s
  | .updCancel p => Sys2Proof.Machine.execUpdCancel p s
  | .licenceSet p => Sys2Proof.Machine.execLicenceSet p s
  | .compStatus p => Sys2Proof.Machine.execCompStatus p s
  | .activateSolo p => Sys2Proof.Machine.execActivateSolo p s
  | .switchTimeout => Sys2Proof.Machine.execSwitchTimeout s
  | .imageWritten => Sys2Proof.Machine.execImageWritten s
  | .stageRetry comp => Sys2Proof.Machine.execStageRetry comp s
  | .settingsStore readBackOk => Sys2Proof.Machine.execSettingsStore readBackOk s
  | .registerWrite ident addr size data => Sys2Proof.Machine.execRegisterWrite ident addr size data s
  | .porNRelease => Sys2Proof.Machine.execPorNRelease s
  | .activePgoodRise feed => Sys2Proof.Machine.execActivePgoodRise feed s
  | .railsFall => Sys2Proof.Machine.execRailsFall s
  | .i3cTargetReset => Sys2Proof.Machine.execI3cTargetReset s
  | .subPortDown port sub => Sys2Proof.Machine.execSubPortDown port sub s
  | .stringDown str laneLost => Sys2Proof.Machine.execStringDown str laneLost s
  | .laneLossOfLock link slot => Sys2Proof.Machine.execLaneLossOfLock link slot s
  | .pcieLinkDown => Sys2Proof.Machine.execPcieLinkDown s
  | .pcieLinkUp speed width flit => Sys2Proof.Machine.execPcieLinkUp speed width flit s
  | .cstatTimeout str => Sys2Proof.Machine.execCstatTimeout str s
  | .drainingTimeout conn => Sys2Proof.Machine.execDrainingTimeout conn s
  | .commitWaitTimeout ident tag => Sys2Proof.Machine.execCommitWaitTimeout ident tag s
  | .transmitRingPost port count => Sys2Proof.Machine.execTransmitRingPost port count s
  | .registerRead ident addr size => Sys2Proof.Machine.execRegisterRead ident addr size s

end Sys2Proof.Machine
end

