-- ==== Sys2Proof/WellFormed.lean ====
section
/-! DEFINITION. Well-formed commands: operands that their interface can carry. A meaning stops with the fault illFormed
on any other. -/

namespace Sys2Proof

/-- A 10-bit code range (R527). -/
def VRange.wf (v : VRange) : Bool := v.lo ≤ v.hi && v.hi < 1024

/-- Four 10-bit samples (R42, R527). -/
def FeedLoss.wf (l : FeedLoss) : Bool :=
  match l with
  | .vsns c1 c2 c3 c4 => c1 < 1024 && c2 < 1024 && c3 < 1024 && c4 < 1024
  | .pgoodLow => true

/-- A mailbox channel (R117), or a queue pair (R130). -/
def PacketSource.wf (p : PacketSource) : Bool :=
  match p with
  | .slotF ch => ch < 64
  | .inband qpid _ => qpid < 2 ^ 20

/-- A flash link, or the Nerryn link (R230, R410). -/
def LinkRef.wf (l : LinkRef) : Bool :=
  match l with
  | .flash k => k < 48
  | .nerryn => true

/-- An access of 1 to 512 bytes within the MBX window (R433). -/
def TunnelAcc.wf (a : TunnelAcc) : Bool :=
  match a with
  | .read off size => 1 ≤ size && size ≤ 512 && off + size ≤ 0x100000
  | .write off bytes => 1 ≤ bytes.length && bytes.length ≤ 512 && off + bytes.length ≤ 0x100000

/-- A command is well formed: quadrants, clusters, links, strings, HDAs, ports, channels and byte counts that exist, and a
packet that carries its row's opcode. -/
def Instr.wf (i : Instr) : Bool :=
  match i with
  | .vddAonRising _ => true
  | .porN => true
  | .cold _ _ => true
  | .warm _ _ => true
  | .mcRestart _ _ => true
  | .warmResetRelease => true
  | .trstN => true
  | .feedTick a b => a.wf && b.wf
  | .feedFailed _ loss => loss.wf
  | .feedResync _ v => v.wf
  | .pgoodRise _ v => v.wf
  | .verifyTimeout _ => true
  | .rearm _ _ => true
  | .swapDue => true
  | .swapSkipped => true
  | .swapNow _ _ => true
  | .swapCheck _ _ aCode bCode => aCode < 1024 && bCode < 1024
  | .holdupOk _ => true
  | .sprintBudgetUpdate _ => true
  | .powerStepUpdate nowW avg1sW => nowW < 512 && avg1sW < 512
  | .thermalStepUpdate temps => temps.length = 20 && temps.all (fun t => t < 256)
  | .thermalTrip sensor tempC => sensor < 20 && tempC < 256
  | .clusterGate q k => q < 4 && k < 8
  | .quadrantGate q => q < 4
  | .gateEntryDone q cluster => q < 4 && (match cluster with | some k => decide (k < 8) | none => true)
  | .clusterWake q k => q < 4 && k < 8
  | .quadrantWake q => q < 4
  | .healthSumUpdate => true
  | .parityError q k => q < 4 && k < 8
  | .swapDrainDone q => q < 4
  | .spareSelfTestDone q _ => q < 4
  | .swapRemap q => q < 4
  | .spareWeeklyTest q _ => q < 4
  | .epochCommit _ _ => true
  | .epochAbandon _ _ => true
  | .retiringBanksFreed => true
  | .stageS0 bootMode => bootMode < 4
  | .stageS1 bad => bad.all (fun x => x.1 < 4 && x.2.1 < 48)
  | .settingsMigration _ => true
  | .stageS2 => true
  | .stageS3 => true
  | .startDeadline => true
  | .x32kOk => true
  | .entReady q => q < 4
  | .deadHead => true
  | .deadLineRepeat => true
  | .ping p => p.opcode = 0x0100
  | .getStatus p => p.opcode = 0x0101
  | .getHealth p => p.opcode = 0x0102
  | .getIdent p => p.opcode = 0x0103
  | .getLoad p => p.opcode = 0x0104
  | .reset p => p.opcode = 0x0110
  | .settingsReset p => p.opcode = 0x0111
  | .openSession p => p.opcode = 0x0601
  | .closeSession p => p.opcode = 0x0602
  | .expertUnlock p => p.opcode = 0x0603
  | .sessionExpire _ => true
  | .clusterSwap p => p.opcode = 0x8120
  | .packetTake src load => src.wf && load ≤ 100
  | .class3Promote _ _ => true
  | .watchdogRestart late failed => late < 1024 && failed < 1024
  | .firmwareRun => true
  | .wdogKick _ core _ => core < 10
  | .slotWrite _ off bytes => 1 ≤ bytes.length && bytes.length ≤ 512 && off < 0x100000
  | .send _ n _ => n < 64
  | .recv _ n => n < 64
  | .wdraw _ n => n < 64
  | .lockRead _ n => n < 64
  | .lockRelease _ n _ => n < 64
  | .dbSet _ n _ => n < 64
  | .createQp p => p.opcode = 0x0701
  | .deleteQp p => p.opcode = 0x0702
  | .resetQp p => p.opcode = 0x0703
  | .qpStatus p => p.opcode = 0x0704
  | .setCoalesce p => p.opcode = 0x0705
  | .getQpStats p => p.opcode = 0x0706
  | .qpCtxRead p => p.opcode = 0x8710
  | .sqTailDoorbell off _ _ => off < 2 ^ 24
  | .cqHeadDoorbell off _ _ => off < 2 ^ 24
  | .sqFetch _ _ => true
  | .contextFetch _ => true
  | .lockGrant _ _ => true
  | .ioRead _ _ => true
  | .ioWrite _ _ _ => true
  | .ioFlush _ _ => true
  | .ioDiscard _ _ => true
  | .ioAbort _ _ => true
  | .readComplete _ _ _ _ => true
  | .coalesceTimer => true
  | .connCreate p => p.opcode = 0x0801
  | .connDestroy p => p.opcode = 0x0802
  | .connStatus p => p.opcode = 0x0803
  | .pathSet p => p.opcode = 0x0804
  | .portAddr p => p.opcode = 0x0805
  | .excRing p => p.opcode = 0x0806
  | .trigAlloc p => p.opcode = 0x0810
  | .trigPost p => p.opcode = 0x0811
  | .trigFree p => p.opcode = 0x0812
  | .trigStatus p => p.opcode = 0x0813
  | .portStatus p => p.opcode = 0x0820
  | .connCtxRead p => p.opcode = 0x8830
  | .frameReceive port sub _ => port < 8 && sub < 4
  | .connContextFetch _ => true
  | .writePacket port _ => port < 8
  | .fencePlace _ _ => true
  | .readReq port _ => port < 8
  | .readResp port _ => port < 8
  | .doorbell port _ => port < 8
  | .trigger port _ => port < 8
  | .ack port _ => port < 8
  | .nak port _ => port < 8
  | .probe port _ => port < 8
  | .ackTimer _ => true
  | .reorderTimeout _ _ => true
  | .retransmitTimeout _ _ => true
  | .keepalive _ _ => true
  | .downPathProbe _ _ => true
  | .connectionLost _ => true
  | .pfcRelease port => port < 8
  | .pfcPauseReceive port sub _ => port < 8 && sub < 4
  | .subPortUp port sub => port < 8 && sub < 4
  | .vrmStampRead _ => true
  | .policySet p => p.opcode = 0x0901
  | .policyGet p => p.opcode = 0x0902
  | .xfStats p => p.opcode = 0x0903
  | .rekeyStart p => p.opcode = 0x0A01
  | .rekeySweepEnd _ => true
  | .rekeyStatus p => p.opcode = 0x0A02
  | .sealKeyExport p => p.opcode = 0x0A03
  | .getKcv p => p.opcode = 0x0A04
  | .rootLoad p _ => p.opcode = 0x8A10
  | .keyDerivationDone cluster _ _ _ _ => cluster < 32
  | .summaryRebuilt => true
  | .healthTestFail test => test.quad < 4
  | .hourlyRetest q _ => q < 4
  | .drbgReseed cluster => cluster < 32
  | .flitReceive link word0 word1 payload fcrc =>
    link.wf && word0 < 2 ^ 16 && word1 < 2 ^ 16 && payload.length = 120 && fcrc < 2 ^ 32
  | .ackseqTimer link => link.wf
  | .flashLinkUp link _ _ => link < 48
  | .laneErrorWindow link _ _ _ _ => link.wf
  | .spareLaneTrained link _ => link.wf
  | .laneSwitch link => link.wf
  | .spareLaneTest link _ => link.wf
  | .bridgeCompletion link _ status _ => link < 48 && status ≤ 8
  | .codewordDecode _ _ _ it _ => it ≤ 24
  | .mapPageFetch _ _ _ _ => true
  | .mapLogFlush => true
  | .mapCommit _ => true
  | .mapCheckpoint => true
  | .mapWarm => true
  | .fineDemote _ _ => true
  | .rebaseSweepEnd _ => true
  | .gcBandSelect q tier => q < 4 && tier < 2
  | .tierMigrate _ _ => true
  | .bandAllocate _ _ use_ _ => use_ < 3 || use_ = 4
  | .ftlStatus p => p.opcode = 0x0B01
  | .tierSet p => p.opcode = 0x0B02
  | .unitInfo p => p.opcode = 0x0B03
  | .purge p => p.opcode = 0x0B04
  | .purgeDone => true
  | .dumpStatus p => p.opcode = 0x0B05
  | .mapPageRead p => p.opcode = 0x8B10
  | .linkStatus p => p.opcode = 0x0C01
  | .moduleIdent p => p.opcode = 0x0C02
  | .laneSpare p => p.opcode = 0x8C10
  | .bridgeRaw p => p.opcode = 0x8C11
  | .dumpFramesDone _ => true
  | .dumpLogDone _ => true
  | .dumpDone _ => true
  | .dumpRestore _ => true
  | .dumpRestored => true
  | .temperatureReport link temp => link < 48 && -128 ≤ temp && temp ≤ 127
  | .temperatureTimeout link => link < 48
  | .loadClassUpdate link _ _ => link < 48
  | .windowClose _ _ _ _ _ _ _ _ _ => true
  | .candidateCommit _ => true
  | .validationPass _ => true
  | .validationFail _ => true
  | .refresh _ _ => true
  | .patrolPace => true
  | .lapEnd => true
  | .dieSwapAgreed _ => true
  | .dieSwapDone _ => true
  | .tunStatus p => p.opcode = 0x0D01
  | .groupHealth p => p.opcode = 0x0D02
  | .moduleWear p => p.opcode = 0x0D03
  | .patrolRestart p => p.opcode = 0x0D04
  | .tuningFreeze p => p.opcode = 0x8D10
  | .dieSwap p => p.opcode = 0x8D11
  | .setWrite p => p.opcode = 0x8D12
  | .stringUp str _ _ _ => str < 96
  | .rsamp str head slot stream first samples fcrc =>
    str < 96 && head < 2 ^ 32 && slot < 256 && stream < 2 ^ 16 && first < 2 ^ 40 && samples.length = 112 && fcrc < 2 ^ 32
  | .ssamp str flit => str < 96 && flit.bytes.length = 128 && flit.wedge.num < 512
  | .cstat str c => str < 96 && -128 ≤ c.temp0 && c.temp0 ≤ 127 && -128 ≤ c.temp1 && c.temp1 ≤ 127
  | .carrierCompletion str _ _ _ _ => str < 96
  | .poorCheck => true
  | .poorClear str => str < 96
  | .runGrant _ => true
  | .runPreempt _ => true
  | .sectorDecode _ it _ mark _ => it ≤ 12 && mark < 3
  | .reallocationDurable _ _ => true
  | .zoneReset _ _ => true
  | .hdaLoadClassUpdate => true
  | .hdaWindowClose hda _ load _ _ _ _ _ _ => hda < 192 && load < 3
  | .hdaSetFlush => true
  | .hdaStatus p => p.opcode = 0x0E01
  | .hdaIdent p => p.opcode = 0x0E02
  | .hdaFormat p => p.opcode = 0x0E03
  | .zoneSets p => p.opcode = 0x0E04
  | .reallocList p => p.opcode = 0x0E05
  | .sampleCapture p => p.opcode = 0x8E10
  | .stringStatus p => p.opcode = 0x1101
  | .carrierIdent p => p.opcode = 0x1102
  | .driveSet p => p.opcode = 0x9110
  | .parkedSout hda => hda < 192
  | .loadRetry hda => hda < 192
  | .loadTimeout hda => hda < 192
  | .trajectoryEnd hda => hda < 192
  | .unloadDone hda => hda < 192
  | .retractPulseEnd hda => hda < 192
  | .spinsync _ => true
  | .syncHoldover => true
  | .spinupGrant hda => hda < 192
  | .alignDone hda => hda < 192
  | .spinupTimeout hda => hda < 192
  | .faultRetry hda => hda < 192
  | .idleSpinDown hda => hda < 192
  | .srvStatus p => p.opcode = 0x0F01
  | .loopProfile p => p.opcode = 0x0F02
  | .loopGet p => p.opcode = 0x0F03
  | .traceArm p => p.opcode = 0x0F04
  | .traceRead p => p.opcode = 0x0F05
  | .loopSetRaw p => p.opcode = 0x8F10
  | .seekTest p => p.opcode = 0x8F11
  | .spinUp p => p.opcode = 0x1001
  | .spinDown p => p.opcode = 0x1002
  | .spinStatus p => p.opcode = 0x1003
  | .phaseSet p => p.opcode = 0x1004
  | .motorSet p => p.opcode = 0x9010
  | .stripeCloseTimeout _ _ _ _ => true
  | .resync _ => true
  | .jointDecode _ _ _ _ _ => true
  | .rebuildStart _ => true
  | .rebuildPace _ _ _ => true
  | .positionRebuilt _ _ => true
  | .copybackBandDone _ _ _ => true
  | .setCreate p => p.opcode = 0x1201
  | .setStatus p => p.opcode = 0x1202
  | .fretRead p => p.opcode = 0x1203
  | .levelSet p => p.opcode = 0x1204
  | .lostList p => p.opcode = 0x1205
  | .replace p => p.opcode = 0x1206
  | .memberFail p => p.opcode = 0x9210
  | .rebuildPause p => p.opcode = 0x9211
  | .volCreate p => p.opcode = 0x1301
  | .volDelete p => p.opcode = 0x1302
  | .volDeleteSweepEnd _ => true
  | .volSet p => p.opcode = 0x1303
  | .volStatus p => p.opcode = 0x1304
  | .snapCreate p => p.opcode = 0x1305
  | .snapReady _ _ => true
  | .snapDelete p => p.opcode = 0x1306
  | .snapSweepEnd _ _ => true
  | .snapList p => p.opcode = 0x1307
  | .replLinkCreate p => p.opcode = 0x1310
  | .replLinkPeer p => p.opcode = 0x1311
  | .replLinkConn p => p.opcode = 0x1312
  | .replLinkDelete p => p.opcode = 0x1313
  | .replBind p => p.opcode = 0x1314
  | .replUnbind p => p.opcode = 0x1315
  | .replCut p => p.opcode = 0x1316
  | .replStatus p => p.opcode = 0x1317
  | .replPromote p => p.opcode = 0x9320
  | .replResync p => p.opcode = 0x9321
  | .epochCut _ => true
  | .applyDone _ => true
  | .replHello _ _ => true
  | .stagedExpire _ => true
  | .lagAlarm _ => true
  | .nerrynTrained _ => true
  | .hello _ _ => true
  | .heartbeat _ _ => true
  | .heartbeatSend => true
  | .mirror _ _ => true
  | .mirrorAck _ _ => true
  | .maplog _ _ => true
  | .propose _ _ _ => true
  | .coordReady _ _ => true
  | .coordCommit _ _ => true
  | .coordRequest _ _ => true
  | .coordGrant _ _ => true
  | .handoff _ _ _ => true
  | .coordRelease _ _ _ => true
  | .coordDepart _ => true
  | .tunnel _ a => a.wf
  | .nrnNotice _ ch => ch < 64
  | .media _ _ => true
  | .capoSwapDue => true
  | .capoSwapSkip => true
  | .partnerSilent _ => true
  | .partnerAbsent => true
  | .quorum => true
  | .pairResyncDone => true
  | .pairStatus p => p.opcode = 0x1401
  | .capoSwap p => p.opcode = 0x1402
  | .volHome p => p.opcode = 0x1403
  | .nrnLaneSpare p => p.opcode = 0x9410
  | .soleTakeover p => p.opcode = 0x9411
  | .channelTraining ch _ _ _ _ _ => ch < 12
  | .zqCalibration => true
  | .scrub rows => rows.all (fun x => x.1 < 12)
  | .dramCe ch _ => ch < 12
  | .dramUe ch addr _ => ch < 12 && addr < 2 ^ 39
  | .sramUe quad bank _ => quad < 4 && bank < 48
  | .blockTest quad bank block _ => quad < 4 && bank < 48 && block < 256
  | .bgtLapEnd => true
  | .sliceDisable _ _ => true
  | .sliceDrainDone slice => slice < 4
  | .sliceEnable _ _ => true
  | .memStatus p => p.opcode = 0x1501
  | .sramHealth p => p.opcode = 0x1502
  | .repairModeSet p => p.opcode = 0x9510
  | .mccStats p => p.opcode = 0x1601
  | .configWrite addr be _ => addr % 4 = 0 && addr < 4096 && be < 16
  | .msixTableWrite addr _ => addr % 4 = 0 && addr < 0x10000
  | .completionReceive _ _ _ => true
  | .completionTimeout _ => true
  | .pcieError _ => true
  | .endpointReset _ => true
  | .perstRelease => true
  | .pciStatus p => p.opcode = 0x1701
  | .recordIntake code loc res value data => code < 65536 && loc < 256 && res < 2 ^ 32 && value < 2 ^ 32 && data.length ≤ 28
  | .recordCommit => true
  | .snapshotRead => true
  | .wallEpoch => true
  | .mirrorProgram _ => true
  | .mirrorHeaderWrite => true
  | .mirrorHeaderLoad => true
  | .mirrorLoadDone _ => true
  | .mirrorEraseDone _ => true
  | .evrStatus p => p.opcode = 0x0401
  | .evrRead p => p.opcode = 0x0402
  | .evrRateSet p => p.opcode = 0x0403
  | .evrTrigSet p => p.opcode = 0x0404
  | .evrWallSet p => p.opcode = 0x0405
  | .evrClearNonce p => p.opcode = 0x0406
  | .evrClear p => p.opcode = 0x0407
  | .updStatus p => p.opcode = 0x1801
  | .updOpen p => p.opcode = 0x1802
  | .updData p => p.opcode = 0x1803
  | .updClose p => p.opcode = 0x1804
  | .updActivate p => p.opcode = 0x1805
  | .updCancel p => p.opcode = 0x1806
  | .licenceSet p => p.opcode = 0x1807
  | .compStatus p => p.opcode = 0x1808
  | .activateSolo p => p.opcode = 0x9810
  | .switchTimeout => true
  | .imageWritten => true
  | .stageRetry _ => true
  | .settingsStore _ => true
  | .registerWrite _ _ size _ => 1 ≤ size && size ≤ 512
  | .porNRelease => true
  | .activePgoodRise _ => true
  | .railsFall => true
  | .i3cTargetReset => true
  | .subPortDown port sub => port < 8 && sub < 4
  | .stringDown str _ => str < 96
  | .laneLossOfLock link _ => link.wf
  | .pcieLinkDown => true
  | .pcieLinkUp speed width flit => 1 ≤ speed && speed ≤ 6 && 1 ≤ width && width ≤ 5 && (speed ≠ 6 || flit)
  | .cstatTimeout str => str < 96
  | .drainingTimeout _ => true
  | .commitWaitTimeout _ _ => true
  | .transmitRingPost port count => port < 8 && count ≤ 1024
  | .registerRead _ _ size => 1 ≤ size && size ≤ 512

end Sys2Proof
end

