-- ==== Sys2Proof/Safety.lean ====
section
/-! DEFINITION. What the statements speak of: a command that completes, and a packet that runs. -/

namespace Sys2Proof.Machine

/-- A command completes: it answers t with every live status field brought up to date. -/
def Answers (i : Instr) (s t : State) : Prop := exec i s = .next t.settle

/-- The state in which a command's effect begins: its packet taken by the intake engine, if it was not yet, and the command
marked as started. -/
def State.begun (s : State) (p : Packet) : State := (s.intake p).markStarted p

/-- The state in which a command that has had its effect waits for a later event to answer it (R100). -/
def State.promised (s : State) (p : Packet) : State := { s with cmd := { s.cmd with later := p :: s.cmd.later } }

/-- A packet command executes when its row comes: the packet is taken, or was taken before; its turn has come and its channel has
room for the reply; it does not wait already, and the complex is not in a restart (R95, R110, R113 to R116, R125). -/
abbrev Executes (s : State) (p : Packet) : Prop :=
  (s.intake p).isTaken p = true ∧ (s.intake p).mayRun p = true ∧ (s.intake p).cmd.inReset = false ∧ (s.intake p).isWaiting p = false

/-- An opcode's row writes shadow banks (R27). -/
def writesShadow (opcode : Nat) : Bool := ((opSpec opcode).map OpSpec.shadow).getD false

/-- A packet command of an opcode executes in this step, and its effect is its own: it is not a dry run and, where the opcode
writes shadow banks, not for a commit and with no commit pending (R95, R99, R100). -/
abbrev Runs (s : State) (p : Packet) (opcode : Nat) : Prop :=
  p.opcode = opcode ∧ Executes s p ∧ p.dryRun = false ∧
  (writesShadow opcode = true → p.commit = false ∧ (s.intake p).on SYS.EPOCH_STS.PEND = false)

/-- Packet idx of a port's ingress buffer is g, of one opcode, for an open connection c whose context is cached and whose
cluster works and serves the port; it fits PMTU, its seal opens to packet p, and with its stamp the newest stamp is l (R170, R176,
R178, R189, R190). -/
abbrev Arrives (s : State) (port idx op : Nat) (g : Ingress) (c : Conn) (b : ConnBind) (p : VrmPkt) (l : Nat) : Prop :=
  port < 8 ∧ (s.port port).ingress[idx]? = some g ∧ g.pkt.op = op ∧ s.conn g.pkt.dconn = some c ∧
  s.connBind g.pkt.dconn = some b ∧ (c.state = 2 ∨ c.state = 4) ∧ b.cluster / 8 = port / 2 ∧ g.pkt.payload.length ≤ b.pmtu ∧
  c.cached = true ∧ s.clusterWorks b.cluster = true ∧ s.checkSeal c b g = .clear p ∧ s.staleCheck c p.stamp = some l

/-- A sequenced packet is new and within the window (R179). -/
abbrev InWindow (c : Conn) (b : ConnBind) (p : VrmPkt) : Prop :=
  (p.psn + 2 ^ 32 - c.rxCum) % 2 ^ 32 < 2 ^ 31 ∧ (p.psn + 2 ^ 32 - c.rxCum) % 2 ^ 32 < b.win ∧ c.ooo.contains p.psn = false

/-- The connection once a packet is heard on it: the newest stamp, the times of last use, the congestion mark. -/
def State.heardConn (s : State) (g : Ingress) (p : VrmPkt) (c : Conn) (l : Nat) : Conn :=
  { c with
    latest := some l, lastRx := s.aon, usedAt := s.aon, ce := c.ce || g.ce,
    paths := c.paths.mapIdx (fun i x => if i = c.pathNamed p.path then { x with newest := p.stamp, lastUse := s.aon } else x) }

/-- The state once the packet is taken out of its buffer and its connection has heard it. -/
def State.heardPacket (s : State) (port idx : Nat) (g : Ingress) (p : VrmPkt) (c : Conn) (l : Nat) : State :=
  (s.dropIngress port idx).setConn (s.heardConn g p c l)

/-- The reception row that takes a buffered packet up, by its type (R176, R177). -/
abbrev ReceivesBy (i : Instr) (port idx : Nat) (p : VrmPkt) : Prop :=
  (p.op = 1 ∧ i = .writePacket port idx) ∨ (p.op = 2 ∧ i = .readReq port idx) ∨ (p.op = 3 ∧ i = .readResp port idx) ∨
  (p.op = 4 ∧ p.kind ≠ 3 ∧ i = .doorbell port idx) ∨ (p.op = 4 ∧ p.kind = 3 ∧ i = .trigger port idx) ∨
  (p.op = 5 ∧ i = .ack port idx) ∨ (p.op = 6 ∧ i = .nak port idx) ∨ (p.op = 7 ∧ i = .probe port idx)

/-- What becomes of a buffered packet of a connection that does not pass every check (R175 to R180, R171). -/
def State.unheard (s : State) (port idx : Nat) (g : Ingress) (c : Conn) (b : ConnBind) : State :=
  let out := s.dropIngress port idx
  if c.state = 3 then out
  else if c.state ≠ 2 ∧ c.state ≠ 4 then out.nakUnknown port g
  else if b.cluster / 8 ≠ port / 2 then out.count VRM.DROP2.MISROUTE 1
  else if b.pmtu < g.pkt.payload.length then out
  else if ¬ c.cached then
    (if c.sram then (if s.clusterWorks b.cluster then s.cacheConn c b.cluster else s)
     else if s.pci.reads.any (fun r => r.kind = 4 && r.id = c.id) then s
     else (s.count VRM.CTX_MISS.COUNT 1).upRead 4 c.id 0 (s.connSlot c.id) 256)
  else if ¬ s.clusterWorks b.cluster then s
  else match s.checkSeal c b g with
  | .waits t => t
  | .dropped => out.count VRM.DROP2.SEAL 1
  | .clear _ => out.count VRM.DROP.STALE 1

/-- A sealed Nerryn message is accepted: the link is trained, intake is not stopped, the message is in order and verifies,
and the partner is not refused (R413, R416). -/
abbrev Accepts (s : State) (env : Seal) : Prop :=
  s.on NRN.STS.UP = true ∧ s.intakeStopped = false ∧ s.sealGood env = true ∧ s.get NRN.PAIR_STS.PARTNER ≠ 2

/-- The state once a message is counted as received. -/
def State.heardMessage (s : State) : State := s.setPair fun p => { p with mseqRx := p.mseqRx + 1, lastRx := s.aon }

/-- Every row that is a command packet (R95), by its constructor. -/
def PacketRow (f : Packet → Instr) : Prop :=
  f = .ping ∨ f = .getStatus ∨ f = .getHealth ∨ f = .getIdent ∨ f = .getLoad ∨ f = .reset ∨ f = .settingsReset ∨
  f = .openSession ∨ f = .closeSession ∨ f = .expertUnlock ∨ f = .clusterSwap ∨ f = .createQp ∨ f = .deleteQp ∨
  f = .resetQp ∨ f = .qpStatus ∨ f = .setCoalesce ∨ f = .getQpStats ∨ f = .qpCtxRead ∨ f = .connCreate ∨
  f = .connDestroy ∨ f = .connStatus ∨ f = .pathSet ∨ f = .portAddr ∨ f = .excRing ∨ f = .trigAlloc ∨ f = .trigPost ∨
  f = .trigFree ∨ f = .trigStatus ∨ f = .portStatus ∨ f = .connCtxRead ∨ f = .policySet ∨ f = .policyGet ∨
  f = .xfStats ∨ f = .rekeyStart ∨ f = .rekeyStatus ∨ f = .sealKeyExport ∨ f = .getKcv ∨ (∃ ok, f = fun p => .rootLoad p ok) ∨ f = .ftlStatus ∨
  f = .tierSet ∨ f = .unitInfo ∨ f = .purge ∨ f = .dumpStatus ∨ f = .mapPageRead ∨ f = .linkStatus ∨
  f = .moduleIdent ∨ f = .laneSpare ∨ f = .bridgeRaw ∨ f = .tunStatus ∨ f = .groupHealth ∨ f = .moduleWear ∨
  f = .patrolRestart ∨ f = .tuningFreeze ∨ f = .dieSwap ∨ f = .setWrite ∨ f = .hdaStatus ∨ f = .hdaIdent ∨
  f = .hdaFormat ∨ f = .zoneSets ∨ f = .reallocList ∨ f = .sampleCapture ∨ f = .stringStatus ∨ f = .carrierIdent ∨
  f = .driveSet ∨ f = .srvStatus ∨ f = .loopProfile ∨ f = .loopGet ∨ f = .traceArm ∨ f = .traceRead ∨
  f = .loopSetRaw ∨ f = .seekTest ∨ f = .spinUp ∨ f = .spinDown ∨ f = .spinStatus ∨ f = .phaseSet ∨ f = .motorSet ∨
  f = .setCreate ∨ f = .setStatus ∨ f = .fretRead ∨ f = .levelSet ∨ f = .lostList ∨ f = .replace ∨ f = .memberFail ∨
  f = .rebuildPause ∨ f = .volCreate ∨ f = .volDelete ∨ f = .volSet ∨ f = .volStatus ∨ f = .snapCreate ∨
  f = .snapDelete ∨ f = .snapList ∨ f = .replLinkCreate ∨ f = .replLinkPeer ∨ f = .replLinkConn ∨
  f = .replLinkDelete ∨ f = .replBind ∨ f = .replUnbind ∨ f = .replCut ∨ f = .replStatus ∨ f = .replPromote ∨
  f = .replResync ∨ f = .pairStatus ∨ f = .capoSwap ∨ f = .volHome ∨ f = .nrnLaneSpare ∨ f = .soleTakeover ∨
  f = .memStatus ∨ f = .sramHealth ∨ f = .repairModeSet ∨ f = .mccStats ∨ f = .pciStatus ∨ f = .evrStatus ∨
  f = .evrRead ∨ f = .evrRateSet ∨ f = .evrTrigSet ∨ f = .evrWallSet ∨ f = .evrClearNonce ∨ f = .evrClear ∨
  f = .updStatus ∨ f = .updOpen ∨ f = .updData ∨ f = .updClose ∨ f = .updActivate ∨ f = .updCancel ∨
  f = .licenceSet ∨ f = .compStatus ∨ f = .activateSolo

/-- The packet rows that write shadow banks, so that FLAGS.COMMIT and PEND concern them (R27, R95). -/
def ShadowRow (f : Packet → Instr) : Prop :=
  f = .createQp ∨ f = .connCreate ∨ f = .pathSet ∨ f = .policySet ∨ f = .rekeyStart ∨ f = .tierSet ∨ f = .setWrite ∨
  f = .loopProfile ∨ f = .loopSetRaw ∨ f = .phaseSet ∨ f = .setCreate ∨ f = .levelSet ∨ f = .volCreate ∨
  f = .volDelete ∨ f = .volSet ∨ f = .replBind ∨ f = .replUnbind ∨ f = .replPromote

/-- The packet rows that only report. -/
def QueryRow (f : Packet → Instr) : Prop :=
  f = .ping ∨ f = .getStatus ∨ f = .getHealth ∨ f = .getIdent ∨ f = .getLoad ∨ f = .qpStatus ∨ f = .getQpStats ∨
  f = .connStatus ∨ f = .portStatus ∨ f = .trigStatus ∨ f = .policyGet ∨ f = .xfStats ∨ f = .rekeyStatus ∨
  f = .getKcv ∨ f = .ftlStatus ∨ f = .unitInfo ∨ f = .dumpStatus ∨ f = .linkStatus ∨ f = .moduleIdent ∨
  f = .tunStatus ∨ f = .groupHealth ∨ f = .moduleWear ∨ f = .hdaStatus ∨ f = .hdaIdent ∨ f = .zoneSets ∨
  f = .reallocList ∨ f = .stringStatus ∨ f = .carrierIdent ∨ f = .srvStatus ∨ f = .loopGet ∨ f = .traceRead ∨
  f = .spinStatus ∨ f = .setStatus ∨ f = .fretRead ∨ f = .lostList ∨ f = .volStatus ∨ f = .snapList ∨
  f = .replStatus ∨ f = .pairStatus ∨ f = .memStatus ∨ f = .sramHealth ∨ f = .mccStats ∨ f = .pciStatus ∨
  f = .evrStatus ∨ f = .evrRead ∨ f = .updStatus

/-- Nothing is left for the end of a command to carry on with: no upstream read, mirror part, request, proposal, band, volume, die
swap, spare zone, rekeying, replication, run, carrier, staging, packet to send, wake, fetch or stamp of an ended job waits. -/
abbrev State.quiet (s : State) : Prop :=
  (∀ r ∈ s.pci.reads, r.issued = true) ∧ s.pair.parts = [] ∧ s.pair.reqs = [] ∧ s.pair.proposed = none ∧ s.pair.queue = [] ∧
  (∀ b ∈ s.nv.media.bands, b.state ≠ 1) ∧ s.pair.leaving = [] ∧ (∀ m ∈ s.nv.media.modules, m.swap = none) ∧
  s.nv.media.spareFill = [] ∧ s.nv.media.rekeys = [] ∧ s.nv.media.repl = [] ∧ s.dp.rlinks = [] ∧ s.dp.runs = [] ∧
  (∀ x ∈ s.hdas.strs, x.leave = false) ∧ s.upd.jobs = [] ∧ s.updState ≠ 3 ∧
  (∀ c ∈ s.vrm.conns, c.sendq = [] ∧ ∀ u ∈ c.unacked, u.lost = false) ∧
  (s.start.reached = 3 → ∀ q < 4, s.pwr.quads.getD q .gated = .awake) ∧
  (∀ cl < 32, s.clusterHasWork cl = true → s.clusterAwake cl = true) ∧
  (∀ q < 4, s.mediaWork q = true → s.pwr.quads.getD q .gated = .awake) ∧
  (∀ b ∈ s.act.qps, (s.qp b.qpid).state = 2 → (s.qp b.qpid).sqHead = (s.qp b.qpid).sqTail) ∧
  (∀ j ∈ s.jobs, s.jobLives j = true)

/-- Set and link numbers are those that have registers. -/
abbrev State.inRange (s : State) : Prop :=
  (∀ r ∈ s.act.sets, r.num < 256) ∧ (∀ m ∈ s.nv.media.modules, m.link < 48)

/-- The fields that the end of a command brings up to date, by bit address: those of fixed registers, of the RDN set
registers, and of the registers of modules, links, ports and pools. -/
def liveBit (b : Nat) : Bool :=
  [PWR.GATE_STS.GATED, PWR.THERM_STS.Q_THROTTLE, PWR.SPRINT_STS.BUDGET_DS, PWR.FEED_STS.HOLDUP_OK, CMD.STS.SESSIONS,
    CMD.STS.EXPERT, EVR.STS.COUNT, EVR.STS.WALL, EVR.STS.ERASING, EVR.STS.MIRROR_LAG, RDN.STS.DEGRADED, RDN.STS.REBUILD,
    RDN.STS.RESYNC, RDN.LOST_STS.PINNED, RDN.LOST_STS.USED, FTL.DUMP_STS.CAP_16M, FTL.DIRTY.BYTES_64K, FTL.STS.WRITE_HELD,
    FTL.STS.SWEEP, XF.DEDUP_STS.FILL_PCT, TUN.HDA_STS.SUSPECT, SPN.ACTIVE.SPINNING, SPN.ACTIVE.ACCEL, SPN.ACTIVE.WAITING,
    NRN.STS.SYNCED, NRN.PAIR_STS.RESYNC_PCT, NRN.LANE_STS.SPARES, NRN.LANE_STS.ACTIVE, NRN.MIRROR.HELD_64M,
    NRN.MIRROR.UNACKED_64K, HQ.LOCK_STS.WAITING, HQ.LOCK_STS.PEAK_USED, HQ.CTX_STS.CACHED, VRM.CTX_STS.CACHED,
    SYS.EPOCH_RET.COUNT, UPD.COMP_OUT.COUNT, UPD.STS.PCT].any (fun f => f.bit = b) ||
  (8 * 0x100100 ≤ b && b < 8 * 0x100500) ||
  (List.range 4).any (fun q => [CLK.Qn_STS.STEP q, CLK.Qn_STS.GATED q, XF.ENT_STS.FAILS q, HRC.POOLn_STS.PAIRS q,
    HRC.POOLn_STS.BUSY q, HRC.POOLn_STS.WAITING q].any (fun f => f.bit = b)) ||
  (List.range 8).any (fun p => (VRM.PORTp_STS.LPI p).bit = b) ||
  (List.range 48).any (fun k => [TUN.MODk_STS.STAGE k, TUN.MODk_STS.DIES_SPARE k, TUN.MODk_STS.IT_MEAN k,
    TUN.MODk_STS.BLOCK_PCT k, TUN.MODk_STS.SUSPECT k, TUN.MODk_WEAR.ERASE_MEAN k, TUN.MODk_WEAR.RETIRED k,
    FLK.LINKk_STS.DUMP_READY k].any (fun f => f.bit = b))

/-- A field shows a number, cut at its largest value. -/
abbrev State.shows (s : State) (f : Fld) (v : Nat) : Prop := s.get f = min (2 ^ f.width - 1) v

/-- The live status fields show the state: sessions, the log, clock steps, gating, holdup, sets, pair, mirror, queues and
contexts. -/
def State.live (s : State) : Prop :=
  s.get PWR.GATE_STS.GATED = gateWord s.pwr.clusters s.pwr.quads ∧
  (∀ q < 4, s.get (CLK.Qn_STS.STEP q) = s.effStep q % 16 ∧ s.get (CLK.Qn_STS.GATED q) = b2n (s.pwr.quads.getD q .gated).isGated) ∧
  s.get PWR.SPRINT_STS.BUDGET_DS = s.pwr.budgetMs / 100 % 2 ^ PWR.SPRINT_STS.BUDGET_DS.width ∧
  s.get PWR.FEED_STS.HOLDUP_OK = b2n s.pwr.holdup ∧
  s.get CMD.STS.SESSIONS = s.cmd.sessions.length % 2 ^ CMD.STS.SESSIONS.width ∧
  s.get CMD.STS.EXPERT = (s.cmd.sessions.filter Session.expert).length % 2 ^ CMD.STS.EXPERT.width ∧
  s.get EVR.STS.COUNT = s.evr.log.length % 2 ^ EVR.STS.COUNT.width ∧
  s.get EVR.STS.WALL = b2n s.evr.wallAt.isSome ∧
  s.get EVR.STS.ERASING = b2n (s.nv.mirror.eraseLeft ≠ 0) ∧
  s.get RDN.STS.DEGRADED = b2n (s.act.sets.any (fun r => r.pstate.any (· ≠ 0))) ∧
  s.get RDN.STS.REBUILD = b2n (!s.nv.media.rebuilds.isEmpty) ∧
  s.get RDN.STS.RESYNC = b2n s.dp.resync ∧
  s.shows RDN.LOST_STS.PINNED (s.nv.media.bands.filter Band.pinned).length ∧
  s.shows RDN.LOST_STS.USED s.nv.media.lost.length ∧
  s.get FTL.STS.SWEEP = b2n (s.dp.sweeps.any (fun x => !x.2.2.2)) ∧
  s.get NRN.STS.SYNCED = b2n (s.get NRN.PAIR_STS.PARTNER = 4) ∧
  s.shows NRN.MIRROR.HELD_64M (s.mirrorHeld / 2 ^ 26) ∧
  s.shows NRN.MIRROR.UNACKED_64K (s.unackedBytes / 2 ^ 16) ∧
  s.shows HQ.LOCK_STS.WAITING (s.hq.locks.filter (fun l => !l.granted)).length ∧
  s.shows HQ.CTX_STS.CACHED (s.hq.qps.filter Qp.cached).length ∧
  s.shows VRM.CTX_STS.CACHED (s.vrm.conns.filter Conn.cached).length ∧
  (∀ q < 4, s.shows (XF.ENT_STS.FAILS q) (s.entFails q).length) ∧
  s.get SYS.EPOCH_RET.COUNT = s.retCount % 2 ^ SYS.EPOCH_RET.COUNT.width

end Sys2Proof.Machine
end

