-- ==== Sys2Proof/Certificates/Slice0/Obligations.lean ====
section
/-! DEFINITION. The statements for the provers, one definition each; OBLIGATIONS.json lists them. -/

open Sys2Proof Sys2Proof.Machine

set_option linter.unusedVariables false

/-- A step of a state with a command at the front of its queue is that command's execution on the state with the queue's rest. The queue is the model's own (log entry 4). -/
def Obligations.StepRunsFrontCommand : Prop :=
  ∀ (c : Instr) (rest : List Instr) (s : State), step { s with pending := c :: rest } = exec c { s with pending := rest }

/-- A step of a state whose queue is empty answers a next state: the device and AON times run on by one microsecond and the live status fields follow. The model's choice (log entry 4). -/
def Obligations.EmptyQueueIdles : Prop :=
  ∀ s : State, s.pending = [] → step s = .next (s.pass Config.us).settle

/-- For every state, a command with well-formed operands answers a next state; a command with operands that its interface cannot carry stops with the fault illFormed, and nothing else ever stops a command. -/
def Obligations.WellFormedCommandsComplete : Prop :=
  ∀ (i : Instr) (s : State), if i.wf = true then ∃ t : State, exec i s = .next t else exec i s = .fault .illFormed

/-- In every state that a step answers, from any state at all, the live status fields show what the state holds: the gated clusters and clock steps, the sprint budget and holdup, the open sessions, the event log, the degraded and rebuilding sets, the lost ranges, the synchronised pair and its mirror, the waiting locks, the cached contexts, the entropy failures, and the work that retiring banks still have. Set and link numbers are those that have registers. -/
def Obligations.LiveStatusAfterEveryStep : Prop :=
  ∀ s t : State, step s = .next t → t.inRange → t.live

/-- The reset state has set and link numbers in range, and its live status fields show what it holds: every cluster gated, no session, an empty log, no set, no partner. -/
def Obligations.LiveStatusAtReset : Prop :=
  State.reset.inRange ∧ State.reset.live

/-- In a state with nothing left to carry on with, the end of a command changes no state but register fields and the clusters' and quadrants' idle times; of the fields, with set and link numbers in range, none but the live status fields. With the exact next states of the other statements this is the frame of every command. -/
def Obligations.QuietStateSettles : Prop :=
  (∀ s : State, s.quiet → s.settle = { s with flds := s.settle.flds, pwr := { s.pwr with clusterIdle := s.settle.pwr.clusterIdle, clusterBusy := s.settle.pwr.clusterBusy, quadIdle := s.settle.pwr.quadIdle, quadBusy := s.settle.pwr.quadBusy } }) ∧ (∀ (s : State) (f : Fld), s.quiet → s.inRange → liveBit f.bit = false → s.settle.get f = s.get f)

/-- For every command packet of every row that is not taken yet and that the intake engine looks at (it has not paused for a restart of the complex, and the packet's channel has room for a reply): if a check of the intake fails, the first failing one's status and DETAIL are the reply, and nothing else happens; no command that is taken changes. -/
def Obligations.FirstFailedCheckAnswered : Prop :=
  ∀ f : Packet → Instr, PacketRow f → ∀ (s : State) (p : Packet) (st d : Nat), (f p).wf = true → s.isTaken p = false → s.intakePaused = false → s.roomFor p = true → s.checkPacket p = some (st, d) → exec (f p) s = .next (s.replyTo p st d []).settle ∧ (s.replyTo p st d []).cmd.taken = s.cmd.taken

/-- For every command packet of every row that is not taken, that the intake engine looks at and that passes the checks: in class 2 or 3, with the class queue full or the load limit passed, BUSY with its DETAIL is the reply, the class's BUSY count is one more, and nothing else happens; in class 0 or 1, with the class queue full, nothing happens at all: the packet stays where it is. -/
def Obligations.OverloadAnsweredBusy : Prop :=
  ∀ f : Packet → Instr, PacketRow f → ∀ (s : State) (p : Packet), (f p).wf = true → s.isTaken p = false → s.intakePaused = false → s.roomFor p = true → s.checkPacket p = none → (s.isBusy p = true → exec (f p) s = .next ((s.count (if p.cls = 2 then CMD.BUSY_CNT.CLASS2 else CMD.BUSY_CNT.CLASS3) 1).replyTo p 1 (s.busyDetail p) []).settle) ∧ (p.cls < 2 → s.classFull p = true → exec (f p) s = .next s.settle)

/-- A command packet of any row whose FLAGS.DRYRUN is 1 and that executes (taken now or before, in its turn) answers some status and DETAIL without data, and has no effect: the next state is the one in which the command began with its reply sent. -/
def Obligations.DryRunHasNoEffect : Prop :=
  ∀ f : Packet → Instr, PacketRow f → ∀ (s : State) (p : Packet), (f p).wf = true → Executes s p → p.dryRun = true → ∃ st d, exec (f p) s = .next ((s.begun p).answer p st d []).settle

/-- A command packet of any row that is taken, now or before, and has not started changes nothing but live status while, with FLAGS.SERIAL, an earlier command of its transport is without a reply, or while an earlier command of its transport and class has not started. -/
def Obligations.SerialWaits : Prop :=
  ∀ f : Packet → Instr, PacketRow f → ∀ (s : State) (p : Packet) (u : State) (x : Taken), (f p).wf = true → u = s.intake p → u.isTaken p = true → (∀ t ∈ u.cmd.taken, t.pkt = p → t.started = false) → x ∈ u.cmd.taken.takeWhile (fun t => t.pkt ≠ p) → transportOf x.pkt.ident = transportOf p.ident → (p.serial = true ∨ x.started = false ∧ (∀ t ∈ u.cmd.taken, t.pkt = p → t.cls = x.cls)) → exec (f p) s = .next u.settle

/-- While PEND is 1, a command of any row that writes shadow banks, executed and not a dry run, leaves the shadow banks as they are: it answers a status of its own that is not SUCCESS (R97); or it waits, with nothing changed but that the command has begun; or, without FLAGS.COMMIT, LATE sets and it answers SUCCESS (R27). -/
def Obligations.PendingCommitBlocksShadow : Prop :=
  ∀ f : Packet → Instr, ShadowRow f → ∀ (s : State) (p : Packet), (f p).wf = true → Executes s p → p.dryRun = false → (s.intake p).on SYS.EPOCH_STS.PEND = true → ∃ t : State, exec (f p) s = .next t.settle ∧ t.shadow = s.shadow ∧ (t = s.begun p ∨ (∃ d data, p.commit = false ∧ t = ((s.begun p).setB SYS.EPOCH_STS.LATE).answer p 0 d data) ∨ ∃ st d data u, st ≠ 0 ∧ t = State.answer u p st d data ∧ u.shadow = s.shadow)

/-- A command of any row that writes shadow banks, with FLAGS.COMMIT, executed, not a dry run and with no commit pending: it answers a status of its own that is not SUCCESS, with the shadow banks as they were; or it requests a commit with itself among the commands that wait for it as one that has written, or among those whose reply comes with an event of their own. -/
def Obligations.CommitFlagWaitsForCommit : Prop :=
  ∀ f : Packet → Instr, ShadowRow f → ∀ (s : State) (p : Packet), (f p).wf = true → Executes s p → p.dryRun = false → p.commit = true → (s.intake p).on SYS.EPOCH_STS.PEND = false → ∃ t : State, exec (f p) s = .next t.settle ∧ ((∃ st d data u, st ≠ 0 ∧ t = State.answer u p st d data ∧ u.shadow = s.shadow) ∨ (∃ (u : State) (w : CommitWait), w.pkt = p ∧ w.wrote = true ∧ t = State.requestCommit { u with cmd := { u.cmd with waits := w :: u.cmd.waits } }) ∨ ∃ u : State, t = (u.promised p).requestCommit)

/-- For every packet of a reporting row, whatever its checks, flags or transport: it completes, and the non-volatile state, the tables of every bank, the internal jobs, the data plane, the pair, the HDAs, the memory, the update, the start, the spare clusters and the two times are as before; only the reply, its transport and read-clear fields may change. -/
def Obligations.QueriesChangeNoData : Prop :=
  ∀ f : Packet → Instr, QueryRow f → ∀ (s : State) (p : Packet), (f p).wf = true → ∃ t : State, exec (f p) s = .next t.settle ∧ t.nv = s.nv ∧ t.act = s.act ∧ t.shadow = s.shadow ∧ t.retiring = s.retiring ∧ t.jobs = s.jobs ∧ t.dp = s.dp ∧ t.pair = s.pair ∧ t.hdas = s.hdas ∧ t.mem = s.mem ∧ t.upd = s.upd ∧ t.start = s.start ∧ t.spares = s.spares ∧ t.aon = s.aon ∧ t.dev = s.dev

/-- A packet that comes and that every other check lets pass, and that carries the TAG of a taken command of the same identity, fails with DUPLICATE_TAG: for every packet row, of a packet that is not one of the taken ones, this is the reply and nothing else happens; the same where the intake engine admits the packet, be it equal to the earlier one byte for byte. Every command that was taken stays taken as it was. -/
def Obligations.DuplicateTagRefused : Prop :=
  ∀ (s : State) (p : Packet) (x : Taken), s.on SYS.START_STS.DEAD = false → x ∈ s.cmd.taken → x.pkt.ident = p.ident → x.pkt.tag = p.tag → State.checkPacket { s with cmd := { s.cmd with taken := [] } } p = none → s.admitPkt p = s.replyTo p 0x000E 0 [] ∧ (s.replyTo p 0x000E 0 []).cmd.taken = s.cmd.taken ∧ ∀ f : Packet → Instr, PacketRow f → (f p).wf = true → s.isTaken p = false → s.cmd.inReset = false → s.roomFor p = true → exec (f p) s = .next (s.replyTo p 0x000E 0 []).settle

/-- For every reply whose fields fit, each field of the table stands at its bytes: status, opcode, tag, data length, target, class, DETAIL, epoch, time and the CRC of bytes 0 to 27 with the data, which follow. The reply that a packet on a free mailbox channel gets has its status, DETAIL and data, the packet's opcode, tag and target, the class it was accepted under, and the epoch and device time when it was formed. -/
def Obligations.ReplyLayout : Prop :=
  (∀ r : Reply, r.status < 2 ^ 16 → r.opcode < 2 ^ 16 → r.tag < 2 ^ 32 → r.data.length ≤ 4096 → r.loc < 256 → r.cls < 256 → r.detail < 2 ^ 32 → r.epoch < 2 ^ 32 → r.time < 2 ^ 64 → fieldAt r.bytes 0 2 = r.status ∧ fieldAt r.bytes 2 2 = r.opcode ∧ fieldAt r.bytes 4 4 = r.tag ∧ fieldAt r.bytes 8 2 = r.data.length ∧ fieldAt r.bytes 10 1 = r.loc ∧ fieldAt r.bytes 11 1 = r.cls ∧ fieldAt r.bytes 12 4 = r.detail ∧ fieldAt r.bytes 16 4 = r.epoch ∧ fieldAt r.bytes 20 8 = r.time ∧ fieldAt r.bytes 28 4 = crc32c (slice r.bytes 0 28 ++ r.data) % 2 ^ 32 ∧ r.bytes.drop 32 = r.data) ∧
  (∀ (s : State) (p : Packet) (st d ch : Nat) (data : List Byte), p.via = .mailbox ch → s.on (MBX.CHn_STS.FULL_B ch) = false → s.cmd.held.find? (fun r => r.channel = some ch) = none → (s.answer p st d data).out.head? = some (.reply { via := p.via, ident := p.ident, status := st, opcode := p.opcode, tag := p.tag, loc := p.loc, cls := p.cls, detail := d, epoch := s.get SYS.EPOCH_NUM.NUM, time := s.dev, data := data, rbuf := p.rbuf }))

/-- For every command packet whose header fields fit their bytes and whose HCRC is that of its header, the packet read from its header's bytes with its HCRC behind them, and its parameters, is the same packet. -/
def Obligations.PacketHeaderRoundTrip : Prop :=
  ∀ p : Packet, p.opcode < 2 ^ 16 → p.flags < 256 → p.loc < 256 → p.tag < 2 ^ 32 → p.plen < 2 ^ 16 → p.hver < 256 → p.rsvd11 < 256 → p.session < 2 ^ 32 → p.pbuf < 2 ^ 64 → p.rbuf < 2 ^ 64 → p.rsvd32.length = 24 → p.pcrc < 2 ^ 32 → p.hcrc < 2 ^ 32 → Packet.ofBytes p.via p.ident p.msgLen (p.headBytes ++ leBytes 4 p.hcrc) p.params = p

/-- A write of 1 to SYS_EPOCH_CTL.ABANDON by an identity that may write it: while PEND is 0 the shadow banks become the active contents; while PEND is 1 nothing changes. A COMMIT in the same write comes first (log entry 13). With the shadow banks, queue pairs and connections created since the last commit, which have no binding any more, are gone (R131, R173). -/
def Obligations.AbandonOverwritesShadow : Prop :=
  ∀ (s : State) (ident : Nat) (data : Word) (u : State), s.reaches ident 0x30 = true → ident = 0 ∨ ident = 2 ∨ ident = 7 → bitAt data.toNat 1 = true → u = (if bitAt data.toNat 0 = true then s.requestCommit else s) → (u.on SYS.EPOCH_STS.PEND = true → exec (.epochAbandon ident data) s = .next u.settle) ∧ (u.on SYS.EPOCH_STS.PEND = false → exec (.epochAbandon ident data) s = .next u.abandonShadow.settle ∧ u.abandonShadow.shadow = u.act ∧ u.abandonShadow.act = u.act ∧ u.abandonShadow.flds = u.flds)

/-- A RESET_QP that runs, for a queue pair number: where the queue pair is ACTIVE or in a fault state (codes 2 to 5) with no command in flight, every head and tail becomes 0, the phase 1, the lost-completion count and the fault cause 0, the queue pair ACTIVE, and ring reads under way for it are dropped; in any other case the reply is REFUSED_STATE, DETAIL 3, and nothing else changes. -/
def Obligations.ResetQpRule : Prop :=
  ∀ (z : State) (p : Packet) (s : State), Runs z p 0x0703 → s = z.begun p → p.u32 0 < 2 ^ 20 → let q := s.qp (p.u32 0); if (2 ≤ q.state ∧ q.state ≤ 5) ∧ s.inflight q.qpid = 0 then exec (.resetQp p) z = .next (((s.setQp { q with state := 2, sqHead := 0, sqTail := 0, cqTail := 0, cqHead := 0, phase := 1, lost := 0, cause := 0 }).stopFetch q.qpid).answer p 0 0 []).settle else exec (.resetQp p) z = .next (s.answer p 0x000F 3 []).settle

/-- The sender's read of WDRAW while FULL is 1 clears FULL and returns WITHDRAWN = 1; while FULL is 0 it returns 0 and changes nothing. After it, the receiver's read of RECV returns VALID = 0, and after the receiver's read of RECV, the sender's read of WDRAW returns 0. For slot B this holds while no further reply waits for the slot, which would fill it again (R125). -/
def Obligations.MailboxWithdrawal : Prop :=
  ∀ (s : State) (ident r n : Nat) (b : Bool), n < 64 → s.reaches ident (chReg ident n 0x20) = true → s.writesSlot ident n = some b → s.readsSlot r n = some b → (b = true → s.cmd.held.find? (fun x => x.channel = some n) = none) →
  if s.on (fullFld n b) = true then ((s.withdraw ident n).1 = 1 ∧ (s.withdraw ident n).2.on (fullFld n b) = false ∧ exec (.wdraw ident n) s = .next ((s.withdraw ident n).2.emit (.readData ident (chReg ident n 0x20) 1)).settle ∧ ((s.withdraw ident n).2.recvMsg r n).1 = 0 ∧ (s.reaches r (chReg r n 0xC) = true → (((s.recvMsg r n).2).withdraw ident n).1 = 0 ∧ 2 ^ 31 ≤ (s.recvMsg r n).1))
  else exec (.wdraw ident n) s = .next (s.emit (.readData ident (chReg ident n 0x20) 0)).settle

/-- The end of a volume's deletion leaves every EPOCH_HWM as it was. A VOL_CREATE that runs for a free number, with right parameters on the head that serves the volume, puts it into the shadow tables with KEY_EPOCH = MIN_EPOCH = EPOCH_HWM + 1. A commit leaves the EPOCH_HWM of every volume at its KEY_EPOCH or above, so that no key epoch in force is ever given to a successor of the number. -/
def Obligations.KeyEpochsOutliveVolumes : Prop :=
  (∀ (s : State) (vol n : Nat), ∃ t : State, exec (.volDeleteSweepEnd vol) s = .next t.settle ∧ t.hwm n = s.hwm n) ∧
  (∀ (z : State) (p : Packet) (s : State) (v : Vol), Runs z p 0x1301 → s = z.begun p → s.vol (p.u16 0) = none → s.shadowVol (p.u16 0) = none → p.u8 2 ≤ 1 → p.u8 3 ≤ 1 → p.u32 4 ≠ 0 → s.ark.isNone = false → v = { num := p.u16 0, readOnly := bitAt (p.u8 3) 0, ownerB := p.u8 2 = 1, size := p.u32 4, quota := p.u32 8, keyEpoch := s.hwm (p.u16 0) + 1, minEpoch := s.hwm (p.u16 0) + 1, agroup := agroupAt p } → s.serves v = true → ∃ t : State, exec (.volCreate p) z = .next (t.answer p 0 0 []).settle ∧ t.shadowVol (p.u16 0) = some v) ∧
  (∀ (s : State) (old : List Vol) (v : Vol), v ∈ s.act.vols → v.keyEpoch ≤ (s.commitKeys old).hwm v.num)

/-- A write of 1 to 512 bytes into an empty mailbox slot, by the identity that may write it, in a quiet state: the bytes that fall into the slot are stored at the slot's own place, every other byte of the slot memory reads as before, and the memory keeps its canonical form. A write at an offset that is in no slot stores nothing. -/
def Obligations.SlotWriteStoresBytes : Prop :=
  ∀ (s : State) (ident off : Nat) (bytes : List Byte), s.quiet → 1 ≤ bytes.length → bytes.length ≤ 512 → off < 0x100000 → ∃ t : State, exec (.slotWrite ident off bytes) s = .next t ∧ (s.cmd.mem.wf = true → t.cmd.mem.wf = true) ∧
  match slotAt off with
  | none => t.cmd.mem = s.cmd.mem
  | some (ch, b, x) => if s.reaches ident (mbxBase ident + off) = true ∧ s.writesSlot ident ch = some b ∧ s.on (fullFld ch b) = false then ∀ a, t.cmd.mem.read a = (if slotBase ch b + x ≤ a ∧ a < slotBase ch b + x + min bytes.length (0x1040 - x) then bytes.getD (a - (slotBase ch b + x)) 0 else s.cmd.mem.read a) else t.cmd.mem = s.cmd.mem

/-- For every register address and bit, in every state whose fields hold no more than their widths: a bit that no field of the register covers is 0 in the register's word, and the word of an address without a register is 0. -/
def Obligations.ReservedBitsReadZero : Prop :=
  ∀ (s : State) (a i : Nat), (∀ fs, regAt a = some fs → ∀ f ∈ fs, s.get (f.at_ a) < 2 ^ f.width) → (∀ fs, regAt a = some fs → ∀ f ∈ fs, ¬ (f.lsb ≤ i ∧ i < f.lsb + f.width)) → (s.word a).testBit i = false

/-- With the operands well formed: at a 1 ms tick a good feed A that is ABSENT, with no feed ACTIVE and B not good, is enabled as active (R41). An ACTIVE feed whose four samples lie outside the window is lost with cause 1 (R42). A FAILED feed good for RESYNC_S goes to verification; a VERIFYING feed whose PGOOD rises within 50 ms with VSNS in the window becomes STANDBY with its failure count cleared, and one whose PGOOD does not rise fails with cause 3 (R44). The active feed's PGOOD within 50 ms ends its proving and the rails are up (R528). Each t is the state before the live status fields are brought up to date. -/
def Obligations.FeedsStartAndVerify : Prop :=
  (∀ (s : State) (a b : VRange) (u : State), (u = s.passTo (s.nextTick Config.ms)) → (a.wf = true) → (b.wf = true) → (u.mayEnable = true) → (u.stayed a = true) → (u.stayed b = false) → (u.feedState .a = fsAbsent) → (u.feedState .b ≠ fsActive) → exec (.feedTick a b) s = .next (State.settle (u.enableActive .a u.aon))) ∧
  (∀ (s : State) (f : FeedId) (c1 c2 c3 c4 : Nat), ((FeedLoss.vsns c1 c2 c3 c4).wf = true) → (s.inWindow c1 = false) → (s.inWindow c2 = false) → (s.inWindow c3 = false) → (s.inWindow c4 = false) → (s.feedState f = fsActive) → exec (.feedFailed f (.vsns c1 c2 c3 c4)) s = .next (State.settle (s.feedLost f 1))) ∧
  (∀ (s : State) (f : FeedId) (v : VRange), (v.wf = true) → (s.feedState f = fsFailed) → (s.stayed v = true) → (s.mayEnable = true) → exec (.feedResync f v) s = .next (State.settle ((s.passTo ((s.feed f).waitSince + max 1 (s.get PWR.FEED_CFG.RESYNC_S) * Config.sec)).enableVerify f))) ∧
  (∀ (s : State) (f : FeedId) (v : VRange), (v.wf = true) → (s.feedState f = fsVerifying) → (s.stayed v = true) → (s.aon ≤ (s.feed f).enAt + 50 * Config.ms) → exec (.pgoodRise f v) s = .next (State.settle ((s.setFeed f { s.feed f with seen := true, fails := 0 }).putFeedState f fsStandby))) ∧
  (∀ (s : State) (f : FeedId), (s.feedState f = fsVerifying) → exec (.verifyTimeout f) s = .next (State.settle ((s.passTo ((s.feed f).enAt + 50 * Config.ms)).failVerify f 3))) ∧
  (∀ (s : State) (f : FeedId), (s.feedState f = fsActive) → ((s.feed f).proving = true) → (s.aon ≤ (s.feed f).enAt + 50 * Config.ms) → exec (.activePgoodRise f) s = .next (State.settle ({ s.setFeed f { s.feed f with seen := true, proving := false, fails := 0 } with pwr := { (s.setFeed f { s.feed f with seen := true, proving := false, fails := 0 }).pwr with rails := true } })))

/-- A write to PWR_FEED_CTL by an identity that may write it, whatever its bits, as the commands REARM and SWAP_NOW bring it: bit 0 rearms feed A and bit 1 feed B, which makes a FENCED feed FAILED and leaves any other as it is (R44); bit 2 then starts a swap where R47 allows it and sets SWAP_REFUSED where it does not. With PERIOD_H not 0, a scheduled swap whose time has come, or that waits, starts if allowed, else waits on (R46, R47); a swap that has waited DEFER_MAX_MIN starts if allowed then, else it is skipped, with a record 0x0203 and the next one scheduled (R47). The swap check, 5 ms after the start, from either feed: with the new feed's PGOOD up and both codes in the window the new feed is ACTIVE, the old one STANDBY, SWAP_BUSY clears, the next swap is scheduled and record 0x0202 written (R48); otherwise the new feed's LO rises and the swap aborts (R49). HOLDUP_OK follows its pin; where it is 1 and the partner is synchronised, host writes without FUA that both write caches hold complete (R20, R52). -/
def Obligations.FeedSwap : Prop :=
  (∀ (s : State) (ident : Nat) (data : Word) (u : State), (s.reaches ident 0x10004 = true) → (ident = 0 ∨ ident = 2 ∨ ident = 4 ∨ ident = 7) → (u = (s.iff (bitAt data.toNat 0) (fun x => x.rearm .a)).iff (bitAt data.toNat 1) (fun x => x.rearm .b)) → exec (.rearm ident data) s = .next (State.settle (if bitAt data.toNat 2 then (if u.swapAllowed then u.beginSwap else u.setB PWR.FEED_STS.SWAP_REFUSED) else u))) ∧
  (∀ (s : State) (ident : Nat) (data : Word) (u : State), (s.reaches ident 0x10004 = true) → (ident = 0 ∨ ident = 2 ∨ ident = 4 ∨ ident = 7) → (u = (s.iff (bitAt data.toNat 0) (fun x => x.rearm .a)).iff (bitAt data.toNat 1) (fun x => x.rearm .b)) → exec (.swapNow ident data) s = .next (State.settle (if bitAt data.toNat 2 then (if u.swapAllowed then u.beginSwap else u.setB PWR.FEED_STS.SWAP_REFUSED) else u))) ∧
  (∀ (s : State) (f : FeedId), s.rearm f = if s.feedState f = fsFenced then (s.setFeed f { s.feed f with fails := 0, waitSince := s.aon }).putFeedState f fsFailed else s) ∧
  (∀ (s : State) (t : Nat), (s.pwr.swapWaitSince = none) → (s.pwr.swapDueAt = some t) → (s.get PWR.SWAP_CFG.PERIOD_H ≠ 0) → exec (.swapDue) s = .next (State.settle (if (s.passTo t).swapAllowed then (s.passTo t).beginSwap else { s.passTo t with pwr := { s.pwr with swapWaitSince := some (s.passTo t).aon, swapDueAt := none } }))) ∧
  (∀ (s : State) (t : Nat), (s.pwr.swapWaitSince = some t) → (s.get PWR.SWAP_CFG.PERIOD_H ≠ 0) → exec (.swapDue) s = .next (State.settle (if s.swapAllowed then s.beginSwap else s))) ∧
  (∀ (s : State) (t : Nat) (u : State), (u = s.passTo (t + s.get PWR.SWAP_CFG.DEFER_MAX_MIN * 60 * Config.sec)) → (s.pwr.swapWaitSince = some t) → (s.get PWR.SWAP_CFG.PERIOD_H ≠ 0) → exec (.swapSkipped) s = .next (State.settle (if u.swapAllowed then u.beginSwap else State.record { u with pwr := { u.pwr with swapWaitSince := none, swapDueAt := u.nextSwapDue } } 0x0203 0 0 0 []))) ∧
  (∀ (s : State) (t aCode bCode : Nat) (aPgood bPgood : Bool) (act : FeedId) (u v : State), (u = s.passTo (t + 5 * Config.ms)) → (v = ((((u.setFeed act { u.feed act with lo := true }).putFeedState act fsStandby).putFeedState act.other fsActive).put PWR.FEED_STS.ACTIVE act.other.num).clrB PWR.FEED_STS.SWAP_BUSY) → (aCode < 1024) → (bCode < 1024) → (s.pwr.swapStart = some (t, act)) → (s.on PWR.FEED_STS.SWAP_BUSY = true) → exec (.swapCheck aPgood bPgood aCode bCode) s = .next (State.settle (if (if act = .a then bPgood else aPgood) = true ∧ u.inWindow aCode = true ∧ u.inWindow bCode = true then State.record { v with pwr := { v.pwr with swapStart := none, swapDueAt := v.nextSwapDue } } 0x0202 0 act.other.num 0 [] else (u.setFeed act.other { u.feed act.other with lo := true }).abortSwap))) ∧
  (∀ (s : State) (level : Bool) (u : State), (u = { s with pwr := { s.pwr with holdup := level } }) → exec (.holdupOk level) s = .next (State.settle (if level = true ∧ u.synced = true then (u.dp.writes.filter (fun w => w.hosts && w.mirrored && !w.fua)).foldl State.completeWrite u else u)))

/-- A budget update, at the 10 ms tick: with the average above the sustained cap the budget falls by 10 ms, with it more than 20 W below the cap it rises by 5 ms at most to its maximum, else it stays; EXHAUSTED sets at 0 and clears once the budget has reached REARM_S; the cap is retargeted (R56, R57). A power-step update, at the 100 µs tick, shows the two readings and SPRINT_STS.ACTIVE; a power above the cap raises the power step by one, at most to 15; a power that has stayed 5 W or more below the cap for 1 ms lowers it by one; else the step stays (R58). A thermal update, at the 1 ms tick: the step of a quadrant rises by one, at most to 15, with a sensor at the throttle threshold; falls by one with every sensor 3 °C or more below it and no fall within 10 ms; else it stays; TJ_MAX_C shows the highest reading (R59). A sensor at 112 °C or above trips, in an update or by itself: both feed enables fall, the quadrant PLLs lose lock, and the trip latches (R61, R79). -/
def Obligations.PowerAndThermalSteps : Prop :=
  (∀ (s : State) (avgW b : Nat) (u v : State), (u = s.passTo (s.nextTick (10 * Config.ms))) → (b = if u.sustW < avgW then u.pwr.budgetMs - 10 else if avgW + 20 < u.sustW then min u.budgetMax (u.pwr.budgetMs + 5) else u.pwr.budgetMs) → (v = { u with pwr := { u.pwr with budgetMs := b } }) → exec (.sprintBudgetUpdate avgW) s = .next (State.settle (State.retarget (if b = 0 then v.setB PWR.SPRINT_STS.EXHAUSTED else if u.get PWR.SPRINT_CFG.REARM_S * 1000 ≤ b then v.clrB PWR.SPRINT_STS.EXHAUSTED else v)))) ∧
  (∀ (s : State) (nowW avgW : Nat) (u : State), (nowW < 512) → (avgW < 512) → (u = State.retarget ((((s.passTo (s.nextTick (100 * Config.us))).put PWR.MEAS.NOW_W nowW).put PWR.MEAS.AVG1S_W avgW).put PWR.SPRINT_STS.ACTIVE (b2n ((s.passTo (s.nextTick (100 * Config.us))).sustW < nowW)))) → exec (.powerStepUpdate nowW avgW) s = .next (State.settle (if u.capNow < nowW * 1000 then { u with pwr := { u.pwr with powerStep := min 15 (u.pwr.powerStep + 1), lowSince := none } } else if u.capNow < nowW * 1000 + 5000 then { u with pwr := { u.pwr with lowSince := none } } else if u.pwr.lowSince.getD u.aon + Config.ms ≤ u.aon then { u with pwr := { u.pwr with powerStep := u.pwr.powerStep - 1, lowSince := some u.aon } } else { u with pwr := { u.pwr with lowSince := some (u.pwr.lowSince.getD u.aon) } }))) ∧
  (∀ (s : State) (temps : List Nat) (u : State), (temps.length = 20) → (temps.all (fun t => t < 256) = true) → (s.pwr.thermStep.length = 4) → (s.pwr.thermFell.length = 4) → (u = s.passTo (s.nextTick Config.ms)) → ∃ t, Answers (.thermalStepUpdate temps) s t ∧ t.get PWR.THERM_STS.TJ_MAX_C = temps.foldl max 0 % 256 ∧ (temps.any (fun x => 112 ≤ x) = true → t.pwr.tripped = true) ∧ ∀ q, q < 4 → t.pwr.thermStep.getD q 0 = (if (quadTemps temps q).any (fun x => min 104 (s.get PWR.THERM_CFG.THROTTLE_C) ≤ x) = true then min 15 (s.pwr.thermStep.getD q 0 + 1) else if (quadTemps temps q).all (fun x => x + 3 ≤ min 104 (s.get PWR.THERM_CFG.THROTTLE_C)) = true ∧ (∀ k, s.pwr.thermFell.getD q none = some k → k + 10 * Config.ms ≤ u.aon) then s.pwr.thermStep.getD q 0 - 1 else s.pwr.thermStep.getD q 0)) ∧
  (∀ (s : State) (sensor tempC : Nat), (sensor < 20) → (112 ≤ tempC) → (tempC < 256) → ∃ t, Answers (.thermalTrip sensor tempC) s t ∧ t.pwr.tripped = true ∧ t.pwr.feedA.en = false ∧ t.pwr.feedB.en = false ∧ ∀ q, q < 4 → t.get (CLK.Qn_STS.LOCK q) = 0)

/-- An awake cluster without work, with CLUSTER_US not 0, enters gating CLUSTER_US after it became idle, and its key slots are zeroised; else nothing happens. An awake quadrant without work that may gate (its carriers parked), with QUAD_MS not 0 and no FORCE_ON, enters gating QUAD_MS after it became idle, once its carriers have been told to sleep; else nothing happens. When entry ends the unit is gated, and where a wake cause came during entry it wakes at once. A wake cause of a cluster in entry is remembered; a gated cluster that is not retired wakes in an awake quadrant, with its DRBG seeded where the quadrant has entropy, and in a gated or entering quadrant it waits for the quadrant, which the cause wakes; after a thermal trip, and for an awake cluster, it does nothing. A wake cause of a quadrant in entry is remembered, and wakes a gated quadrant that is not out of service. -/
def Obligations.GatingAndWake : Prop :=
  (∀ (s : State) (q k : Nat), (q < 4) → (k < 8) → exec (.clusterGate q k) s = .next (State.settle (if s.get PWR.IDLE.CLUSTER_US ≠ 0 ∧ s.clusterHasWork (8 * q + k) = false ∧ s.pwr.clusters.getD (8 * q + k) .gated = .awake then ((s.passTo (s.pwr.clusterIdle.getD (8 * q + k) 0 + s.get PWR.IDLE.CLUSTER_US * Config.us)).setCluster (8 * q + k) (.entering false)).zeroiseKeys (8 * q + k) else s))) ∧
  (∀ (s : State) (q : Nat), (q < 4) → exec (.quadrantGate q) s = .next (State.settle (if s.get PWR.IDLE.QUAD_MS ≠ 0 ∧ s.on (CLK.Qn_CTL.FORCE_ON q) = false ∧ s.quadHasWork q = false ∧ s.quadCanGate q = true ∧ s.pwr.quads.getD q .gated = .awake then ((s.passTo (s.pwr.quadIdle.getD q 0 + s.get PWR.IDLE.QUAD_MS * Config.ms)).sleepCarriers q).setQuad q (.entering false) else s))) ∧
  (∀ (s : State) (q k : Nat) (w : Bool), (q < 4) → (k < 8) → (s.pwr.clusters.getD (8 * q + k) .gated = .entering w) → exec (.gateEntryDone q (some k)) s = .next (State.settle (if w then (s.setCluster (8 * q + k) .gated).wakeCluster (8 * q + k) else s.setCluster (8 * q + k) .gated))) ∧
  (∀ (s : State) (q : Nat) (w : Bool), (q < 4) → (s.pwr.quads.getD q .gated = .entering w) → exec (.gateEntryDone q none) s = .next (State.settle (if w then (s.gateQuad q).wakeQuad q else s.gateQuad q))) ∧
  (∀ (s : State) (q k : Nat) (w : Bool), (q < 4) → (k < 8) → (s.pwr.clusters.getD (8 * q + k) .gated = .entering w) → exec (.clusterWake q k) s = .next (State.settle (s.setCluster (8 * q + k) (.entering true)))) ∧
  (∀ (s : State) (q k : Nat), (q < 4) → (k < 8) → (s.pwr.clusters.getD (8 * q + k) .gated = .gated) → exec (.clusterWake q k) s = .next (State.settle (if s.pwr.tripped = true ∨ s.get (SYS.CLMAP.C q k) = 0xF then s else if s.pwr.quads.getD q .gated = .awake then (s.setCluster (8 * q + k) .awake).iff (s.entReady q) (fun x => x.seed (8 * q + k)) else State.causeWake { s with pwr := { s.pwr with wakeDue := insertNat s.pwr.wakeDue (8 * q + k) } } q))) ∧
  (∀ (s : State) (q k : Nat), (q < 4) → (k < 8) → (s.pwr.clusters.getD (8 * q + k) .gated = .awake) → exec (.clusterWake q k) s = .next (State.settle (s))) ∧
  (∀ (s : State) (q : Nat) (w : Bool), (q < 4) → (s.pwr.quads.getD q .gated = .entering w) → exec (.quadrantWake q) s = .next (State.settle (s.setQuad q (.entering true)))) ∧
  (∀ (s : State) (q : Nat), (q < 4) → (s.pwr.quads.getD q .gated = .gated) → exec (.quadrantWake q) s = .next (State.settle (if s.bit SYS.START_STS.Q_DOWN q then s else s.wakeQuad q))) ∧
  (∀ (s : State) (q : Nat), (q < 4) → (s.pwr.quads.getD q .gated = .awake) → exec (.quadrantWake q) s = .next (State.settle (s)))

/-- A parity error is noted with those of its quadrant of the last 24 h; the 16th of one cluster that is not retired forgets the cluster's errors and triggers a swap, which starts, or waits where one runs (R16, R17). Once no host command runs on the draining cluster, its cached queue-pair and connection contexts are written back and the swap goes on to the self-test, or to the remap of a retirement (R17, R18); a passed self-test goes on to the remap, a failed one retires the spare and is written to the health area. A remap that is due, with no retiring bank and no commit pending, commits (R29). The weekly test is due 7 days after the last; a failed one of a spare that is not used uses it up. A write to SYS_EPOCH_CTL by an identity that may write it, whatever its bits, as the commands COMMIT and ABANDON bring it: bit 0 requests a commit, and bit 1 then, with no commit pending, abandons the shadow banks (R25, R28). Once nothing refers to the retiring banks they are freed, and a commit that waited for that runs (R25, R26). CLUSTER_SWAP of a cluster that is not retired triggers its swap and answers SUCCESS, with DETAIL 1 where another runs in the quadrant (R532). -/
def Obligations.ClusterSparesAndEpochControl : Prop :=
  (∀ (s : State) (q k : Nat) (ts : List (Nat × Nat)) (x : Spare), (q < 4) → (k < 8) → (x = s.spares.getD q {}) → (ts = (k, s.aon) :: x.parity.filter (fun e => s.aon < e.2 + Config.day)) → exec (.parityError q k) s = .next (State.settle (if 16 ≤ (ts.filter (fun e => e.1 = k)).length ∧ s.get (SYS.CLMAP.C q k) ≠ 0xF then (s.setSpare q { x with parity := ts.filter (fun e => e.1 ≠ k) }).swapTrigger q k true else s.setSpare q { x with parity := ts }))) ∧
  (∀ (s : State) (q k : Nat) (retire parity : Bool) (x : Spare) (u : State), (q < 4) → (x = s.spares.getD q {}) → (x.phase = .draining k retire parity) → (∀ c ∈ s.hq.cmds, c.cluster ≠ 8 * q + k) → (u = { s with hq := { s.hq with qps := s.hq.qps.map (fun (p : Qp) => if p.cached = true ∧ s.act.qps.any (fun b => b.qpid = p.qpid ∧ b.cluster = 8 * q + k) = true then { p with cached := false, sram := true } else p) }, vrm := { s.vrm with conns := s.vrm.conns.map (fun (c : Conn) => if c.cached = true ∧ s.act.conns.any (fun b => b.id = c.id ∧ b.cluster = 8 * q + k) = true then { c with cached := false, sram := true } else c) } }) → exec (.swapDrainDone q) s = .next (State.settle (u.setSpare q { x with phase := if retire then .remap k true else .selfTest k }))) ∧
  (∀ (s : State) (q k : Nat) (pass : Bool) (x : Spare), (q < 4) → (x = s.spares.getD q {}) → (x.phase = .selfTest k) → exec (.spareSelfTestDone q pass) s = .next (State.settle (if pass then s.setSpare q { x with phase := .remap k false } else ((s.setSpare q { x with phase := .remap k true }).setB (SYS.SPARE_STS.SPARE_USED q)).healthWrite q))) ∧
  (∀ (s : State) (q : Nat), (q < 4) → exec (.swapRemap q) s = .next (State.settle (if s.remapDue q = true ∧ s.retCount = 0 ∧ s.on SYS.EPOCH_STS.PEND = false then s.commitRemap q else s))) ∧
  (∀ (s : State) (q : Nat) (pass : Bool) (x : Spare) (u v : State), (q < 4) → (x = s.spares.getD q {}) → (u = s.passTo (x.testedAt + 7 * Config.day)) → (v = u.setSpare q { x with testedAt := u.aon }) → exec (.spareWeeklyTest q pass) s = .next (State.settle (if pass = true ∨ v.on (SYS.SPARE_STS.SPARE_USED q) = true then v else (v.setB (SYS.SPARE_STS.SPARE_USED q)).healthWrite q))) ∧
  (∀ (s : State) (ident : Nat) (data : Word) (u : State), (s.reaches ident 0x30 = true) → (ident = 0 ∨ ident = 2 ∨ ident = 7) → (u = if bitAt data.toNat 0 then s.requestCommit else s) → exec (.epochCommit ident data) s = .next (State.settle (if bitAt data.toNat 1 = true ∧ u.on SYS.EPOCH_STS.PEND = false then u.abandonShadow else u))) ∧
  (∀ (s : State) (ident : Nat) (data : Word) (u : State), (s.reaches ident 0x30 = true) → (ident = 0 ∨ ident = 2 ∨ ident = 7) → (u = if bitAt data.toNat 0 then s.requestCommit else s) → exec (.epochAbandon ident data) s = .next (State.settle (if bitAt data.toNat 1 = true ∧ u.on SYS.EPOCH_STS.PEND = false then u.abandonShadow else u))) ∧
  (∀ (s : State) , (s.retCount = 0) → exec (.retiringBanksFreed) s = .next (State.settle (if s.on SYS.EPOCH_STS.WAIT then ({ s with retiring := none }.clrB SYS.EPOCH_STS.WAIT).commitEvent3 else { s with retiring := none }))) ∧
  (∀ (z : State) (p : Packet) (s : State) (q k : Nat), (Runs z p 0x8120) → (s = z.begun p) → (q = bitsAt p.loc 4 2) → (k = bitsAt p.loc 0 3) → (bitsAt p.loc 6 2 = 2) → (s.get (SYS.CLMAP.C q k) ≠ 0xF) → exec (.clusterSwap p) z = .next (State.settle ((s.swapTrigger q k false).answer p 0 (s.get (SYS.SPARE_STS.SWAP_BUSY q)) [])))

/-- VDD_AON rising clears every register field and starts from the cold base, with the head strap read (R83). POR_N starts a cold reset with cause POR_PIN and ends a trip; its release lets the feeds be enabled 20 ms after the later of the two (R41). A cold reset sets its cause, leaves no stage reached, no feed enabled and both enables held at 0 for 20 ms. A write to SYS_RST_CTL by an identity that may write it, whatever its data, as the commands COLD, WARM and MC_RESTART bring it: without the KEY 0xA5C3 in bits 31:16 nothing happens; with it bit 0 starts a cold reset with cause SELF_COLD, else bit 1 a warm reset where none runs, else bit 2 a restart of the complex where no warm reset runs, whose cores are then to be tested (R83, R85, R86, R88, R116). A warm reset ends once its dump has ended (R85). The fall of the rails with neither feed ACTIVE or STANDBY loses all volatile state outside the AON domain, and a feed that is FAILED or VERIFYING is disabled and ABSENT (R50). TRST_N changes nothing the model holds (R83). XTAL32K found sets X32K_OK, from which device time runs (R70). -/
def Obligations.ResetsAndRestart : Prop :=
  (∀ (s : State) (headB : Bool), exec (.vddAonRising headB) s = .next (State.settle (State.coldBase { s with flds := [], nv := { s.nv with headB := headB } }))) ∧
  (∀ (s : State) , exec (.porN) s = .next (State.settle ({ s.coldReset SYS.RST_CAUSE.POR_PIN true with pwr := { (s.coldReset SYS.RST_CAUSE.POR_PIN true).pwr with porN := false } }))) ∧
  (∀ (s : State) (c : Fld) (ends : Bool) (t : State), (c = SYS.RST_CAUSE.POR_PIN ∨ c = SYS.RST_CAUSE.SELF_COLD) → (t = s.coldReset c ends) → t.on c = true ∧ t.start.reached = 0 ∧ t.start.base = none ∧ t.pwr.feedA.en = false ∧ t.pwr.feedB.en = false ∧ t.pwr.holdUntil = t.aon + 20 * Config.ms ∧ t.pwr.tripped = (s.pwr.tripped && !ends)) ∧
  (∀ (s : State) , exec (.porNRelease) s = .next (State.settle (if s.pwr.porN then s else { s with pwr := { s.pwr with porN := true, holdUntil := max s.pwr.holdUntil (s.aon + 20 * Config.ms) } }))) ∧
  (∀ (s : State) (ident : Nat) (data : Word), (s.reaches ident 0x48 = true) → (ident = 0 ∨ ident = 2 ∨ ident = 4 ∨ ident = 7) → exec (.cold ident data) s = .next (State.settle (if data.toNat / 2 ^ 16 ≠ 0xA5C3 then s else if bitAt data.toNat 0 then s.coldReset SYS.RST_CAUSE.SELF_COLD false else if bitAt data.toNat 1 then (if s.start.warm = .none then s.beginWarm else s) else if bitAt data.toNat 2 = true ∧ s.start.warm = .none then { s.holdComplex with cmd := { s.holdComplex.cmd with testDue := true } } else s))) ∧
  (∀ (s : State) (ident : Nat) (data : Word), (s.reaches ident 0x48 = true) → (ident = 0 ∨ ident = 2 ∨ ident = 4 ∨ ident = 7) → exec (.warm ident data) s = .next (State.settle (if data.toNat / 2 ^ 16 ≠ 0xA5C3 then s else if bitAt data.toNat 0 then s.coldReset SYS.RST_CAUSE.SELF_COLD false else if bitAt data.toNat 1 then (if s.start.warm = .none then s.beginWarm else s) else if bitAt data.toNat 2 = true ∧ s.start.warm = .none then { s.holdComplex with cmd := { s.holdComplex.cmd with testDue := true } } else s))) ∧
  (∀ (s : State) (ident : Nat) (data : Word), (s.reaches ident 0x48 = true) → (ident = 0 ∨ ident = 2 ∨ ident = 4 ∨ ident = 7) → exec (.mcRestart ident data) s = .next (State.settle (if data.toNat / 2 ^ 16 ≠ 0xA5C3 then s else if bitAt data.toNat 0 then s.coldReset SYS.RST_CAUSE.SELF_COLD false else if bitAt data.toNat 1 then (if s.start.warm = .none then s.beginWarm else s) else if bitAt data.toNat 2 = true ∧ s.start.warm = .none then { s.holdComplex with cmd := { s.holdComplex.cmd with testDue := true } } else s))) ∧
  (∀ (s : State) , exec (.warmResetRelease) s = .next (State.settle (if s.start.warm = .dumping ∧ s.on FTL.DUMP_STS.RUN = false then s.warmBase else s))) ∧
  (∀ (s : State) (u v w : State), (s.feedState .a ≠ fsActive ∧ s.feedState .a ≠ fsStandby) → (s.feedState .b ≠ fsActive ∧ s.feedState .b ≠ fsStandby) → (s.pwr.rails = true) → (u = s.dropVolatile) → (v = if u.feedState .a = fsFailed ∨ u.feedState .a = fsVerifying then u.disable .a fsAbsent else u) → (w = if v.feedState .b = fsFailed ∨ v.feedState .b = fsVerifying then v.disable .b fsAbsent else v) → exec (.railsFall) s = .next (State.settle ({ w with pwr := { w.pwr with rails := false, drawLimited := false } }))) ∧
  (∀ (s : State) , (s.feedState .a = fsActive ∨ s.feedState .a = fsStandby ∨ s.feedState .b = fsActive ∨ s.feedState .b = fsStandby ∨ s.pwr.rails = false) → exec (.railsFall) s = .next (State.settle (s))) ∧
  (∀ (s : State) , exec (.trstN) s = .next (State.settle (s))) ∧
  (∀ (s : State) , exec (.x32kOk) s = .next (State.settle (s.setB CLK.REF_STS.X32K_OK)))

/-- STAGE_S0 on a head whose start has begun and which is powered takes the image region, reads BOOT_MODE at a cold reset (codes 2 and 3 act as 1), sends the start line, and brings the head to S0; without a valid image the head is dead with cause 1 (R67, R71, R92, R94). STAGE_S1 on a powered head with its rails up that boots normally tests the banks if a cold reset came before, brings it to S1, starts its strings and makes the endpoint ready where PCIE_PERST_N is high; a bank of the spine that fails beyond repair makes the head dead with cause 5 (R78, R80). A newer settings format holds the head at S1 with CFG_NEWER (R91); the same format is loaded and applied; an older one is first written over to the other slot and applied, with a record 0x1806, after an identical read-back (R89). STAGE_S2, its conditions met and a quadrant not out of service, takes the S2 epoch commit after the wake of the serving quadrants (R72, R73); STAGE_S3 wakes every other quadrant not out of service, enters S3 and takes its epoch commit (R75). S2 not reached 10 s after S0 kills the head with cause 2, unless CFG_NEWER or BOOT_MODE holds it (R92); its line repeats every 10 s (R93). 45 s after the start without S3 a record 0x0104 is written once (R75). -/
def Obligations.StagedStart : Prop :=
  (∀ (s : State) (bootMode mode : Nat) (u v w : State), (bootMode < 4) → (s.start.base.isSome = true) → (s.start.reached = 0) → (s.powered = true) → (u = s.takeRegion) → (mode = if u.start.bootRead then u.start.bootMode else min 1 bootMode) → (v = State.setB { u with start := { u.start with reached := 1, s0At := u.aon, bootMode := mode, bootRead := true } } CLK.REF_STS.REF100_OK) → (w = v.emit (uartLine v.startLine)) → exec (.stageS0 bootMode) s = .next (State.settle (if w.imageValid then w else w.die 1))) ∧
  (∀ (s : State) (bad : List (Nat × Nat × Nat)) (tb : State × Bool), (bad.all (fun x => x.1 < 4 && x.2.1 < 48) = true) → (s.start.reached = 1) → (s.start.bootMode = 0) → (s.on SYS.START_STS.DEAD = false) → (s.powered = true) → (s.pwr.rails = true) → (tb = if s.mem.tested then (s, false) else s.testBanks bad) → exec (.stageS1 bad) s = .next (State.settle (if tb.2 then tb.1.die 5 else (State.put { tb.1 with start := { tb.1.start with reached := 2 }, pci := { tb.1.pci with ready := tb.1.pci.perstN } } SYS.START_STS.STAGE 1).startStrings))) ∧
  (∀ (s : State) (ok : Bool) (sl : Slot), (s.start.reached = 2) → (s.start.settingsApplied = false) → (s.on SYS.START_STS.DEAD = false) → (s.cmd.inReset = false) → (s.on SYS.START_STS.CFG_NEWER = false) → (sl = s.slot s.curSlot) → (sl.valid = true ∧ s.nv.image.format < sl.format) → exec (.settingsMigration ok) s = .next (State.settle ((s.setB SYS.START_STS.CFG_NEWER).firmwareRuns.showSlot))) ∧
  (∀ (s : State) (ok : Bool) (sl : Slot) (u : State), (s.start.reached = 2) → (s.start.settingsApplied = false) → (s.on SYS.START_STS.DEAD = false) → (s.cmd.inReset = false) → (s.on SYS.START_STS.CFG_NEWER = false) → (sl = s.slot s.curSlot) → (sl.valid = false ∨ sl.format = s.nv.image.format) → (u = s.firmwareRuns.showSlot.loadStored.loadEvents) → exec (.settingsMigration ok) s = .next (State.settle (State.loadSettings { u with start := { u.start with settingsApplied := true } }))) ∧
  (∀ (s : State) (ok : Bool) (sl : Slot) (u v : State), (s.start.reached = 2) → (s.start.settingsApplied = false) → (s.on SYS.START_STS.DEAD = false) → (s.cmd.inReset = false) → (s.on SYS.START_STS.CFG_NEWER = false) → (sl = s.slot s.curSlot) → (sl.valid = true ∧ sl.format < s.nv.image.format) → (u = (s.writeSlot s.nv.image.format sl.recs ok).firmwareRuns.showSlot) → (v = State.loadSettings { u.loadStored.loadEvents with start := { u.loadStored.loadEvents.start with settingsApplied := true } }) → exec (.settingsMigration ok) s = .next (State.settle (if ok then v.record 0x1806 0 v.nv.image.format 0 [] else u))) ∧
  (∀ (s : State) (q : Nat) (u : State), (s.start.reached = 2) → (s.start.settingsApplied = true) → (s.on CMD.STS.MC_RUN = true) → (s.on SYS.START_STS.DEAD = false) → (s.on EVR.STS.LOADING = false) → (s.powered = true) → (s.ddrTrained = true) → (s.dp.dumpRead = true ∨ s.nv.media.dumpStart = none) → (s.servingQuad = some q) → (u = State.imageArrives (State.put (State.put (State.put { s with start := { s.start with reached := 3 } } SYS.START_STS.STAGE 2) SYS.START_STS.SERVE_Q (2 ^ q)) SYS.STAGE_T.S2_MS s.startMs)) → exec (.stageS2) s = .next (State.settle (u.wakeServing.requestCommit))) ∧
  (∀ (s : State) (u v : State), (s.start.reached = 3) → (s.on SYS.START_STS.DEAD = false) → (s.powered = true) → (s.mapWarm = true) → (s.partnerSettled = true ∨ s.partnerAbsent = true) → (u = State.put (State.put (State.put { s with start := { s.start with reached := 4 }, pwr := { s.pwr with swapDueAt := s.nextSwapDue } } SYS.START_STS.STAGE 3) SYS.STAGE_T.S3_MS s.startMs) SYS.START_STS.PARTNER_ABSENT (b2n s.partnerAbsent)) → (v = [0, 1, 2, 3].foldl (fun (x : State) (q : Nat) => if x.bit SYS.START_STS.Q_DOWN q = true ∨ x.pwr.quads.getD q .gated = Gate.awake then x else x.wakeQuad q) u) → exec (.stageS3) s = .next (State.settle (v.enterS3.requestCommit))) ∧
  (∀ (s : State) (t : Nat) (u : State), (s.start.base = some t) → (u = { s.passTo (t + 45 * Config.sec) with start := { s.start with deadlineTold := true } }) → exec (.startDeadline) s = .next (State.settle (if s.start.reached = 4 ∨ s.start.deadlineTold = true then s else u.record 0x0104 0 (u.get SYS.START_STS.STAGE) 0 []))) ∧
  (∀ (s : State) , exec (.deadHead) s = .next (State.settle (if (s.start.reached = 1 ∨ s.start.reached = 2) ∧ s.start.bootMode = 0 ∧ s.on SYS.START_STS.CFG_NEWER = false ∧ s.on SYS.START_STS.DEAD = false then (s.passTo (s.start.s0At + 10 * Config.sec)).die 2 else s))) ∧
  (∀ (s : State) (u : State), (s.on SYS.START_STS.DEAD = true) → (u = s.passTo (s.start.deadLineAt + 10 * Config.sec)) → exec (.deadLineRepeat) s = .next (State.settle (State.emit { u with start := { u.start with deadLineAt := u.aon } } (uartLine ("HX880 DEAD cause=" ++ decimal (u.get SYS.START_STS.DEAD_CAUSE))))))

/-- For an identity that reaches the window. A slot write by one that may not write the slot is refused (cause 1), into a full slot sets OVF and is refused (cause 2); else its bytes that fall into the slot are stored at the slot's address (R121). SEND by one that may not is refused (cause 1), with the slot full sets OVF and is refused (cause 3), with a length that is not 1 to 4,160 sets OVF; else it fills its slot and rings its receiver's first doorbell (R122). RECV of a full slot that the identity reads answers VALID with the length and empties it; any other RECV reads 0 (R122). WDRAW of a full slot by its sender answers 1 and empties it; any other reads 0 (R124). A LOCK read of a free shared channel by one of its ends makes that end the owner and reads 0; the owner reads 0; any other reader of a shared channel reads the owner, and a LOCK of a channel that is not shared reads 0. The owner's LOCK write frees the channel; any other's is refused (cause 4), on an unbound channel with cause 1 (R126). DB_SET by one that may write a slot sets bits of the other side and notifies: the low half for slot F's writer, the high half for slot B's; any other's is refused (R127). A target reset of the I3C interface frees the locks that the BMC holds (R126). -/
def Obligations.MailboxMessages : Prop :=
  (∀ (s : State) (ident off ch x : Nat) (b : Bool) (bytes : List Byte), (1 ≤ bytes.length) → (bytes.length ≤ 512) → (off < 0x100000) → (slotAt off = some (ch, b, x)) → (s.reaches ident (mbxBase ident + off) = true) → exec (.slotWrite ident off bytes) s = .next (State.settle (if s.writesSlot ident ch ≠ some b then s.mbxRefuse 1 ident ch true else if s.on (fullFld ch b) then (s.setB (MBX.CHn_STS.OVF ch)).mbxRefuse 2 ident ch false else { s with cmd := { s.cmd with mem := s.cmd.mem.writes (slotBase ch b + x) (bytes.take (0x1040 - x)) } }))) ∧
  (∀ (s : State) (ident n : Nat) (data : Word), (n < 64) → (s.reaches ident (chReg ident n 0x8) = true) → (s.writesSlot ident n = none) → exec (.send ident n data) s = .next (State.settle (s.mbxRefuse 1 ident n true))) ∧
  (∀ (s : State) (ident n : Nat) (b : Bool) (data : Word), (n < 64) → (s.reaches ident (chReg ident n 0x8) = true) → (s.writesSlot ident n = some b) → exec (.send ident n data) s = .next (State.settle (if s.on (fullFld n b) then (s.setB (MBX.CHn_STS.OVF n)).mbxRefuse 3 ident n false else if data.toNat % 2 ^ 13 = 0 ∨ 4160 < data.toNat % 2 ^ 13 then s.setB (MBX.CHn_STS.OVF n) else s.fillSlot n b (data.toNat % 2 ^ 13) ident))) ∧
  (∀ (s : State) (ident n : Nat), (n < 64) → (s.reaches ident (chReg ident n 0xC) = true) → exec (.recv ident n) s = .next (State.settle (match s.readsSlot ident n with | some b => if s.on (fullFld n b) then (s.emptySlot n b).emit (.readData ident (chReg ident n 0xC) (2 ^ 31 + s.slotLen n b)) else s.emit (.readData ident (chReg ident n 0xC) 0) | none => s.emit (.readData ident (chReg ident n 0xC) 0)))) ∧
  (∀ (s : State) (ident n : Nat), (n < 64) → (s.reaches ident (chReg ident n 0x20) = true) → exec (.wdraw ident n) s = .next (State.settle (match s.writesSlot ident n with | some b => if s.on (fullFld n b) then (s.emptySlot n b).emit (.readData ident (chReg ident n 0x20) 1) else s.emit (.readData ident (chReg ident n 0x20) 0) | none => s.emit (.readData ident (chReg ident n 0x20) 0)))) ∧
  (∀ (s : State) (ident n o : Nat), (n < 64) → (s.reaches ident (chReg ident n 0x10) = true) → (o = s.get (MBX.CHn_STS.OWNER n)) → exec (.lockRead ident n) s = .next (State.settle (if s.shared n = false then s.emit (.readData ident (chReg ident n 0x10) 0) else if o = 0 ∧ (ident = s.get (MBX.CHn_BIND.END0 n) ∨ ident = s.get (MBX.CHn_BIND.END1 n)) then (s.put (MBX.CHn_STS.OWNER n) ident).emit (.readData ident (chReg ident n 0x10) 0) else s.emit (.readData ident (chReg ident n 0x10) (if o = ident then 0 else o))))) ∧
  (∀ (s : State) (ident n : Nat) (data : Word), (n < 64) → (s.reaches ident (chReg ident n 0x10) = true) → exec (.lockRelease ident n data) s = .next (State.settle (if s.bound n = false then s.mbxRefuse 1 ident n true else if s.shared n = false then s else if s.get (MBX.CHn_STS.OWNER n) = ident ∧ ident ≠ 0 then s.put (MBX.CHn_STS.OWNER n) 0 else s.mbxRefuse 4 ident n true))) ∧
  (∀ (s : State) (ident n : Nat) (data : Word), (n < 64) → (s.reaches ident (chReg ident n 0x14) = true) → exec (.dbSet ident n data) s = .next (State.settle (match s.writesSlot ident n with | none => s.mbxRefuse 1 ident n true | some b => s.ring n (data.toNat &&& (if b then 0xFFFF0000 else 0xFFFF))))) ∧
  (∀ (s : State) , exec (.i3cTargetReset) s = .next (State.settle (s.releaseLocks 4)))

/-- A packet that runs: PING answers nothing more than its status; GET_STATUS, GET_HEALTH and GET_LOAD answer their registers, read with their clear-on-read effect, GET_LOAD with the occupancy of each class queue; GET_IDENT answers SYS_ID, the head word, the serial and the image version (R102). RESET answers first and then starts a warm reset where none runs (1) or restarts the complex (2); any other parameter is refused with BAD_PARAM. SETTINGS_RESET with the serial's low 32 bits (the model's choice of bytes: log entry 157) writes a slot without records; any other parameter is refused. OPEN_SESSION of a barred identity is refused; at the limit it is BUSY, with the time in ms until a session first expires; else it adds a session with a fresh handle and a 16-byte nonce. CLOSE_SESSION ends the session named; EXPERT_UNLOCK with a good signature over the unused nonce by the key named makes the session an expert one, and any other proof is rejected (R105, R106); both refuse without a session. A session expires IDLE_S after its last use. -/
def Obligations.HealthAndSessionCommands : Prop :=
  (∀ (z : State) (p : Packet) (s : State), (Runs z p 0x0100) → (s = z.begun p) → exec (.ping p) z = .next (State.settle (s.answer p 0 0 []))) ∧
  (∀ (z : State) (p : Packet) (s : State), (Runs z p 0x0101) → (s = z.begun p) → exec (.getStatus p) z = .next (State.settle ((s.readRegs [0x40, 0x4C, 0x50, 0x40000]).2.answer p 0 0 (s.readRegs [0x40, 0x4C, 0x50, 0x40000]).1))) ∧
  (∀ (z : State) (p : Packet) (s : State), (Runs z p 0x0102) → (s = z.begun p) → exec (.getHealth p) z = .next (State.settle ((s.readRegs [0x24, 0x28, 0x20, 0x40018]).2.answer p 0 0 (s.readRegs [0x24, 0x28, 0x20, 0x40018]).1))) ∧
  (∀ (z : State) (p : Packet) (s : State), (Runs z p 0x0103) → (s = z.begun p) → exec (.getIdent p) z = .next (State.settle (s.answer p 0 0 (leBytes 4 (s.word 0x0) ++ leBytes 4 (s.word 0x4) ++ slice s.nv.serial 0 16 ++ leBytes 4 s.nv.image.version)))) ∧
  (∀ (z : State) (p : Packet) (s : State), (Runs z p 0x0104) → (s = z.begun p) → exec (.getLoad p) z = .next (State.settle ((s.readRegs [0x40004, 0x4001C]).2.answer p 0 0 ((s.readRegs [0x40004, 0x4001C]).1 ++ s.occupancy)))) ∧
  (∀ (z : State) (p : Packet) (s : State), (Runs z p 0x0110) → (s = z.begun p) → exec (.reset p) z = .next (State.settle (if p.u32 0 = 1 then (if (s.answer p 0 0 []).start.warm = WarmPhase.none then (s.answer p 0 0 []).beginWarm else s.answer p 0 0 []) else if p.u32 0 = 2 then (s.answer p 0 0 []).mcRestart else s.answer p 0x000A 0 []))) ∧
  (∀ (z : State) (p : Packet) (s : State), (Runs z p 0x0111) → (s = z.begun p) → exec (.settingsReset p) z = .next (State.settle (if p.u32 0 = leNat (s.nv.serial.take 4) then (s.writeSlot s.nv.image.format [] true).answer p 0 0 [] else s.answer p 0x000A 0 []))) ∧
  (∀ (z : State) (p : Packet) (s : State), (Runs z p 0x0601) → (s = z.begun p) → (s.cmd.barred.any (fun b => b.1 = p.ident ∧ s.aon < b.2) = true) → exec (.openSession p) z = .next (State.settle (s.answer p 0x000C 0 []))) ∧
  (∀ (z : State) (p : Packet) (s : State) (first : Nat), (Runs z p 0x0601) → (s = z.begun p) → (s.cmd.barred.any (fun b => b.1 = p.ident ∧ s.aon < b.2) = false) → (s.maxSess ≤ s.cmd.sessions.length) → (first = (s.cmd.sessions.map (fun x => x.lastUse + s.idleNs)).foldl min (s.aon + s.idleNs)) → exec (.openSession p) z = .next (State.settle (s.answer p 0x0001 ((first - s.aon + Config.ms - 1) / Config.ms) []))) ∧
  (∀ (z : State) (p : Packet) (s : State), (Runs z p 0x0601) → (s = z.begun p) → (s.cmd.barred.any (fun b => b.1 = p.ident ∧ s.aon < b.2) = false) → (s.cmd.sessions.length < s.maxSess) → ∃ h nonce, h = freshNat (s.draw.1 % 2 ^ 32) (s.cmd.sessions.map Session.handle) ∧ nonce = (s.draw.2.drbg 16).1 ∧ exec (.openSession p) z = .next (State.settle (State.answer { (s.draw.2.drbg 16).2 with cmd := { (s.draw.2.drbg 16).2.cmd with sessions := (s.draw.2.drbg 16).2.cmd.sessions ++ [{ handle := h, owner := p.ident, nonce := nonce, lastUse := (s.draw.2.drbg 16).2.aon }] } } p 0 0 (leBytes 4 h ++ nonce)))) ∧
  (∀ (z : State) (p : Packet) (s : State), (Runs z p 0x0602) → (s = z.begun p) → exec (.closeSession p) z = .next (State.settle (match s.session p with | some x => (s.endSession x.handle).answer p 0 0 [] | none => s.answer p 0x000D 0 []))) ∧
  (∀ (z : State) (p : Packet) (s : State) (x : Session) (key : Option (List Byte)), (Runs z p 0x0603) → (s = z.begun p) → (s.session p = some x) → (p.u8 0 ≤ 7) → (p.u8 1 = 0) → (p.u8 2 = 0) → (p.u8 3 = 0) → (key = (s.nv.image.expertKeys[p.u8 0]?).filter (fun k => k.any (· ≠ 0))) → exec (.expertUnlock p) z = .next (State.settle (if (key.map (fun k => Config.ecdsaP256 k (x.nonce ++ slice s.nv.serial 0 16 ++ leBytes 4 x.handle ++ leBytes 1 p.ident) (slice p.params 4 64))).getD false = true ∧ x.nonceUsed = false then (s.putSession { x with expert := true, nonceUsed := true }).answer p 0 0 [] else (s.rejectProof x).st.answer p (s.rejectProof x).status (s.rejectProof x).detail []))) ∧
  (∀ (z : State) (p : Packet) (s : State) (x : Session), (Runs z p 0x0603) → (s = z.begun p) → (s.session p = some x) → (7 < p.u8 0 ∨ p.u8 1 ≠ 0 ∨ p.u8 2 ≠ 0 ∨ p.u8 3 ≠ 0) → exec (.expertUnlock p) z = .next (State.settle (s.answer p 0x000A (if 7 < p.u8 0 then 0 else if p.u8 1 ≠ 0 then 1 else if p.u8 2 ≠ 0 then 2 else 3) []))) ∧
  (∀ (z : State) (p : Packet) (s : State), (Runs z p 0x0603) → (s = z.begun p) → (s.session p = none) → exec (.expertUnlock p) z = .next (State.settle (s.answer p 0x000D 0 []))) ∧
  (∀ (s : State) (x : Session), s.rejectProof x = if 2 ≤ x.fails then { st := { s.endSession x.handle with cmd := { (s.endSession x.handle).cmd with barred := (x.owner, s.aon + 60 * Config.sec) :: s.cmd.barred } }, status := 0x000C } else { st := s.putSession { x with fails := x.fails + 1 }, status := 0x000C, detail := 3 - (x.fails + 1) }) ∧
  (∀ (s : State) (h : Nat), exec (.sessionExpire h) s = .next (State.settle (match s.cmd.sessions.find? (fun y => y.handle = h) with | none => s | some x => (s.passTo (x.lastUse + s.idleNs)).endSession h)))

/-- PACKET_TAKE, unless the intake has paused for a restart, notes the load and its peak and takes the packet of slot F, or of a slot of an in-band queue pair, as R114 and R109 say. A class-3 command that has not started is promoted 10 s after it was taken (R115). A command that has written and waits for its commit answers 4 s after it was taken, with bit 31 of DETAIL set; one that still waits for PEND to read 0 answers REFUSED_STATE, DETAIL 2 (R95). The watchdog, enabled with the complex running and no warm reset under way, restarts it when the last of the cores named, all of them enabled, is overdue: it counts the restart, shows every enabled core that is overdue then as late, holds the complex, fails the cores whose self-test fails and looks at the third restart within 60 s (R116 to R118). When the firmware of a head that is not dead runs again, every command without a reply is owed RESTARTED, with DETAIL 1 where it has had its effect; after a commanded restart the cores have been tested first (R116), those that fail being a free choice (log entry 14). A kick of a core by a management core is noted (R116). A settings store writes the records that are due and clears them once it has read back intact (R522). -/
def Obligations.IntakeWatchdogAndStore : Prop :=
  (∀ (s : State) (src : PacketSource) (load : Nat) (u : State), (load ≤ 100) → (match src with | .slotF ch => ch < 64 | .inband qpid _ => qpid < 2 ^ 20) → (u = (s.put CMD.LOAD.LOAD_PCT load).put CMD.LOAD.PEAK_PCT (max load (s.get CMD.LOAD.PEAK_PCT))) → exec (.packetTake src load) s = .next (State.settle (if s.intakePaused then s else match src with | .slotF ch => u.takeSlot ch | .inband qpid slot => u.takeInband qpid slot))) ∧
  (∀ (s : State) (ident tag : Nat) (t : Taken), (s.cmd.taken.find? (fun x => x.pkt.ident = ident ∧ x.pkt.tag = tag ∧ x.cls = 3 ∧ x.started = false) = some t) → exec (.class3Promote ident tag) s = .next (State.settle ({ s.passTo (t.at_ + 10 * Config.sec) with cmd := { s.cmd with taken := s.cmd.taken.map (fun x => if x.pkt.ident = ident ∧ x.pkt.tag = tag ∧ x.cls = 3 ∧ x.started = false then { x with promoted := true } else x) } }))) ∧
  (∀ (s : State) (ident tag : Nat) (t : Taken) (w : CommitWait), (s.cmd.taken.find? (fun t => t.pkt.ident = ident ∧ t.pkt.tag = tag) = some t) → (s.cmd.waits.find? (fun w => w.pkt = t.pkt) = some w) → exec (.commitWaitTimeout ident tag) s = .next (State.settle (State.answer { s.passTo (t.at_ + 4 * Config.sec) with cmd := { s.cmd with waits := s.cmd.waits.filter (fun x => x.pkt ≠ t.pkt) } } w.pkt 0 (w.detail % 2 ^ 31 + 2 ^ 31) w.data))) ∧
  (∀ (s : State) (ident tag : Nat) (t : Taken), (s.cmd.taken.find? (fun t => t.pkt.ident = ident ∧ t.pkt.tag = tag) = some t) → (s.cmd.waits.find? (fun w => w.pkt = t.pkt) = none) → exec (.commitWaitTimeout ident tag) s = .next (State.settle (if t.started = true ∧ t.pkt.commit = true ∧ writesShadow t.pkt.opcode = true ∧ s.on SYS.EPOCH_STS.PEND = true then (s.passTo (t.at_ + 4 * Config.sec)).answer t.pkt 0x000F 2 [] else s))) ∧
  (∀ (s : State) (late failed overdue : Nat) (cores : List Nat) (u v : State) (rs : List (Nat × Nat)), (late < 1024) → (failed < 1024) → (cores = (List.range 10).filter (fun i => bitAt late i)) → (s.on CMD.WDOG_CFG.EN = true) → (s.on CMD.STS.MC_RUN = true) → (cores ≠ []) → (s.start.warm = .none) → (cores.all (fun i => s.bit CMD.CORE_STS.ENABLED i) = true) → (u = s.passTo ((cores.map (fun i => s.cmd.kicks.getD i 0 + s.periodNs)).foldl max 0)) → (overdue = (((List.range 10).filter (fun i => u.bit CMD.CORE_STS.ENABLED i && decide (u.cmd.kicks.getD i 0 + u.periodNs ≤ u.aon))).map (2 ^ ·)).sum) → (rs = (u.aon, overdue) :: u.cmd.restarts.filter (fun r => u.aon < r.1 + 60 * Config.sec)) → (v = (State.put (State.put { u with cmd := { u.cmd with restarts := rs } } CMD.WDOG_STS.LATE_CORES overdue) CMD.WDOG_STS.WINDOW_CNT (min 3 rs.length)).setB SYS.RST_CAUSE.MC_WDOG) → exec (.watchdogRestart late failed) s = .next (State.settle ((v.holdComplex.selfTestCores failed).thirdRestart))) ∧
  (∀ (s : State) (u : State), (s.cmd.inReset = true) → (u = if s.cmd.testDue then s.draw.2.selfTestCores (s.draw.1 % 1024) else s) → exec (.firmwareRun) s = .next (State.settle (if u.on SYS.START_STS.DEAD then { u with cmd := { u.cmd with inReset := false, testDue := false } } else u.firmwareRuns.oweAll (fun t => (0x0010, b2n (u.firmwareRuns.isWaiting t.pkt)))))) ∧
  (∀ (s : State) (core : Nat) (data : Word), (core < 10) → (s.on CMD.STS.MC_RUN = true) → exec (.wdogKick 0 core data) s = .next (State.settle ({ s with cmd := { s.cmd with kicks := s.cmd.kicks.set core s.aon } }))) ∧
  (∀ (s : State) (ident core : Nat) (data : Word), (core < 10) → (ident ≠ 0 ∨ s.on CMD.STS.MC_RUN = false) → exec (.wdogKick ident core data) s = .next (State.settle (s))) ∧
  (∀ (s : State) (ok : Bool) (recs : List (List Nat × List Nat)) (u : State), (recs = storedFlds.filterMap (fun e => if s.start.storeDue.contains e.1 then some (e.1, e.2.map (fun f => s.get f)) else none)) → (u = s.storeSettings recs ok) → (s.start.storeDue ≠ []) → (s.on CMD.STS.MC_RUN = true) → exec (.settingsStore ok) s = .next (State.settle (if ok then { u with start := { u.start with storeDue := [] } } else u)))

/-- A record is posted (R30). The registers that the group at the head names are read without side effect, once (R481). A group whose registers are read, once the mirror header is loaded, leaves the queue: it enters the log with its snapshots, and LOG_FULL closes it; a full log or one without room for the group drops and counts it (R483, R526). When WALL_MS wraps, with wall time set, WALL_EPOCH is written (R479). The mirror takes the next records of the log, oldest first, as many as asked for, as there are, and as have a slot that is erased; its header is written within a second; before S0 the header is loaded and, unless the log is full, POWER_UP appended; the slots loaded are counted and LOADING clears with the last, and erased sectors count down (R484, R485, R487). -/
def Obligations.EventRecorder : Prop :=
  (∀ (s : State) (code loc res value : Nat) (data : List Byte), (code < 65536) → (loc < 256) → (res < 2 ^ 32) → (value < 2 ^ 32) → (data.length ≤ 28) → exec (.recordIntake code loc res value data) s = .next (State.settle (s.record code loc res value data))) ∧
  (∀ (s : State) (g : Group) (rest : List Group), (s.evr.intake = g :: rest) → (g.offs ≠ []) → (g.vals = none) → exec (.snapshotRead) s = .next (State.settle ({ s with evr := { s.evr with intake := { g with vals := some (g.offs.map s.word) } :: rest } }))) ∧
  (∀ (s : State) (g : Group) (rest : List Group) (u : State), (s.evr.intake = g :: rest) → (g.offs = [] ∨ g.vals.isSome = true) → (s.on EVR.STS.LOADING = false ∨ s.evr.log ≠ []) → (u = { s with evr := { s.evr with intake := rest } }) → exec (.recordCommit) s = .next (State.settle (if u.on EVR.STS.FULL = true ∨ 65535 < u.evr.log.length + g.size then u.count EVR.DROPPED.COUNT g.size else ((g.head :: g.snaps).foldl State.append u).closeLog))) ∧
  (∀ (s : State) , (s.evr.wallAt.isSome = true) → (s.on CLK.REF_STS.X32K_OK = true) → exec (.wallEpoch) s = .next (State.settle ((s.pass ((2 ^ 32 - s.wallMs) * Config.ms)).wallEpoch))) ∧
  (∀ (s : State) (count m n : Nat), (s.on EVR.STS.LOADING = false) → (m = s.get EVR.MIRROR.MIRRORED) → (n = ((List.range (min count (s.evr.log.length - m))).takeWhile (fun i => s.mirrorFree (m + i))).length) → exec (.mirrorProgram count) s = .next (State.settle (State.put { s with nv := { s.nv with mirror := { s.nv.mirror with recs := (((s.evr.log.reverse).drop m).take n).reverse ++ s.nv.mirror.recs } } } EVR.MIRROR.MIRRORED (m + n)))) ∧
  (∀ (s : State) , (s.on EVR.STS.LOADING = false) → exec (.mirrorHeaderWrite) s = .next (State.settle ((s.passTo (s.evr.headerAt + Config.sec)).writeHeader))) ∧
  (∀ (s : State) (m : Mirror) (u v : State), (s.nv.mirror = m) → (s.start.reached = 0) → (s.on EVR.STS.LOADING = true) → (s.evr.toLoad = 0) → (s.evr.log = []) → (u = (((s.put EVR.LOG.LOG m.log).put EVR.STS.FULL (b2n m.full)).put EVR.DROPPED.COUNT m.dropped).put EVR.MIRROR.MIRRORED m.count) → (v = { u with evr := { u.evr with log := m.recs.drop (m.recs.length - m.count), wallHi := m.wallHi, loaded := 0, toLoad := m.count } }) → exec (.mirrorHeaderLoad) s = .next (State.settle (if m.full then v else State.closeLog (v.append { time := v.dev, wall := 0, code := 0x0106, loc := 0, flags := 0, res := 0, value := v.word 0x4C })))) ∧
  (∀ (s : State) (slots n : Nat) (u : State), (s.on EVR.STS.LOADING = true) → (n = min s.evr.toLoad (max slots s.evr.loaded)) → (u = { s with evr := { s.evr with loaded := n } }) → exec (.mirrorLoadDone slots) s = .next (State.settle (if n = s.evr.toLoad then u.clrB EVR.STS.LOADING else u))) ∧
  (∀ (s : State) (n : Nat), exec (.mirrorEraseDone n) s = .next (State.settle ({ s with nv := { s.nv with mirror := { s.nv.mirror with eraseLeft := s.nv.mirror.eraseLeft - n } } })))

/-- A packet that runs: EVR_STATUS answers its registers and the wall time. EVR_READ by an identity that READ_IDS does not name is denied with DETAIL 3; a count that is not 1 to 63, or a reserved field, is refused; else it answers the count and the bytes of the slots asked for. EVR_RATE_SET gives a code its own rate and burst. EVR_TRIG_SET of a trigger above 31, with more than 16 registers, a reserved field or a length that does not fit is refused; else it puts the trigger in its place, and n = 0 frees it; both are stored in the settings. EVR_WALL_SET sets the wall clock and records WALL_SET. EVR_CLEAR_NONCE answers a fresh nonce. EVR_CLEAR is BUSY (0x0401) while old sectors are erased; with a nonce outstanding and a good signature over it by the key named it clears the log, and any attempt uses the nonce up. -/
def Obligations.RecorderCommands : Prop :=
  (∀ (z : State) (p : Packet) (s : State), (Runs z p 0x0401) → (s = z.begun p) → exec (.evrStatus p) z = .next (State.settle ((s.readRegs [0x30000, 0x30004, 0x30008, 0x3000C, 0x30018]).2.answer p 0 0 ((s.readRegs [0x30000, 0x30004, 0x30008, 0x3000C, 0x30018]).1 ++ leBytes 8 s.wallFull)))) ∧
  (∀ (z : State) (p : Packet) (s : State) (n : Nat), (Runs z p 0x0402) → (s = z.begun p) → (n = min (p.u32 0 + p.u16 4) s.evr.log.length - p.u32 0) → exec (.evrRead p) z = .next (State.settle (if s.bit EVR.CFG.READ_IDS p.ident = false then s.answer p 0x000C 3 [] else if p.u16 4 = 0 ∨ 63 < p.u16 4 then s.answer p 0x000A 4 [] else if p.u16 6 ≠ 0 then s.answer p 0x000A 6 [] else s.answer p 0 0 (leBytes 4 n ++ (List.range n).flatMap (fun i => s.slotBytes (p.u32 0 + i)))))) ∧
  (∀ (z : State) (p : Packet) (s : State) (u : State), (Runs z p 0x0403) → (s = z.begun p) → (u = { s with evr := { s.evr with buckets := { s.bucket (p.u16 0) with own := some (p.u8 2, p.u8 3) } :: s.evr.buckets.filter (fun x => x.code ≠ (s.bucket (p.u16 0)).code) } }) → exec (.evrRateSet p) z = .next (State.settle ((u.storeSettings [([6, 0, (s.bucket (p.u16 0)).code], [p.u8 2, p.u8 3])] true).answer p 0 0 []))) ∧
  (∀ (z : State) (p : Packet) (s : State) (t : Trig) (u : State), (Runs z p 0x0404) → (s = z.begun p) → (t = { num := p.u8 0, code := p.u16 2, mask := p.u16 4, offs := (List.range (p.u8 1)).map (fun i => p.u32 (8 + 4 * i)) }) → (u = { s with evr := { s.evr with trigs := s.evr.trigs.filter (fun x => x.num < p.u8 0) ++ (if p.u8 1 = 0 then [] else [t]) ++ s.evr.trigs.filter (fun x => p.u8 0 < x.num) } }) → exec (.evrTrigSet p) z = .next (State.settle (if 31 < p.u8 0 then s.answer p 0x000A 0 [] else if 16 < p.u8 1 then s.answer p 0x000A 1 [] else if p.u16 6 ≠ 0 then s.answer p 0x000A 6 [] else if p.plen ≠ 8 + 4 * p.u8 1 then s.answer p 0x0007 (8 + 4 * p.u8 1) [] else (u.storeSettings [([6, 1, p.u8 0], if p.u8 1 = 0 then [] else t.code :: t.mask :: t.offs)] true).answer p 0 0 []))) ∧
  (∀ (z : State) (p : Packet) (s : State), (Runs z p 0x0405) → (s = z.begun p) → exec (.evrWallSet p) z = .next (State.settle ((State.postRecord { s with evr := { s.evr with wallAt := some (p.u64 0, s.dev), wallHi := p.u64 0 / 2 ^ 32 } } 0x0404 0 0 0 (leBytes 8 (p.u64 0))).answer p 0 0 []))) ∧
  (∀ (z : State) (p : Packet) (s : State), (Runs z p 0x0406) → (s = z.begun p) → exec (.evrClearNonce p) z = .next (State.settle (State.answer { (s.drbg 16).2 with evr := { (s.drbg 16).2.evr with nonce := some (s.drbg 16).1 } } p 0 0 (s.drbg 16).1))) ∧
  (∀ (z : State) (p : Packet) (s : State), (Runs z p 0x0407) → (s = z.begun p) → (s.nv.mirror.eraseLeft ≠ 0) → exec (.evrClear p) z = .next (State.settle (s.answer p 0x0401 s.nv.mirror.eraseLeft []))) ∧
  (∀ (z : State) (p : Packet) (s : State), (Runs z p 0x0407) → (s = z.begun p) → (s.nv.mirror.eraseLeft = 0) → (7 < p.u8 0 ∨ p.u8 1 ≠ 0 ∨ p.u8 2 ≠ 0 ∨ p.u8 3 ≠ 0) → exec (.evrClear p) z = .next (State.settle (s.answer p 0x000A (if 7 < p.u8 0 then 0 else if p.u8 1 ≠ 0 then 1 else if p.u8 2 ≠ 0 then 2 else 3) []))) ∧
  (∀ (z : State) (p : Packet) (s : State) (n : List Byte) (key : Option (List Byte)) (u : State), (Runs z p 0x0407) → (s = z.begun p) → (s.nv.mirror.eraseLeft = 0) → (p.u8 0 ≤ 7) → (p.u8 1 = 0) → (p.u8 2 = 0) → (p.u8 3 = 0) → (s.evr.nonce = some n) → (key = (s.nv.image.expertKeys[p.u8 0]?).filter (fun k => k.any (· ≠ 0))) → (u = { s with evr := { s.evr with nonce := none } }) → exec (.evrClear p) z = .next (State.settle (if (key.map (fun k => Config.ecdsaP256 k (ascii "EVRC" ++ n ++ slice s.nv.serial 0 16 ++ leBytes 2 (s.get EVR.LOG.LOG)) (slice p.params 4 64))).getD false then (u.clearLog p.ident (p.u8 0)).answer p 0 0 [] else u.answer p 0x000C 0 []))) ∧
  (∀ (z : State) (p : Packet) (s : State), (Runs z p 0x0407) → (s = z.begun p) → (s.nv.mirror.eraseLeft = 0) → (p.u8 0 ≤ 7) → (p.u8 1 = 0) → (p.u8 2 = 0) → (p.u8 3 = 0) → (s.evr.nonce = none) → exec (.evrClear p) z = .next (State.settle (s.answer p 0x000C 0 [])))

/-- With the link up and the endpoint ready, a configuration write changes the enabled writable bits of its dword (those of R463 and R464), clears the enabled write-1-to-clear bits and keeps the rest, except that a power state other than D0 and D3hot leaves the dword, and requests that may then flow are sent; a function-level reset (bit 15 of dword 78h) resets the endpoint instead (R466, R475); without link or readiness nothing happens. An MSI-X table write by a reachable host below 8000h sets one dword of the vector's entry, address bits 1:0 clear, and pending vectors that may then be sent are sent; above it or without a reachable host it has no effect (R465, R467). A completion that answers no outstanding read is unexpected; a successful one gives its read the data, unless a context's CRC fails (cause 5), or sends the transmit-ring frame it holds; the others fail it with cause 2, 3 or 4 (R469). A completion timeout passes to the read's due time and fails it with cause 1 (R468). A correctable error sets its AER bit and counts; an uncorrectable one sets its bit and acts by its severity, a poisoned write sets POISON_WR too (R471). A function-level reset clears the endpoint's registers and keeps the link; a hot reset and PERST# also take the link down. PERST# release, link up (not on a dead head) and link down set pin, link and PCI_LINK_STS (R80, R461, R531). PCI_STATUS answers six registers (R477). The bit positions are the PCI family's (log entry 7). -/
def Obligations.EndpointAndUpstreamReads : Prop :=
  (∀ (s : State) (addr be : Nat) (data : Word) (old new v : Nat), (addr % 4 = 0) → (addr < 4096) → (be < 16) → (s.pci.ready = true) → (s.pci.linkUp = true) → (old = s.cfgRead addr) → (new = (old - (old &&& ((cfgMask addr).1 &&& beMask be))) ||| (data.toNat &&& beMask be &&& (cfgMask addr).1)) → (v = new - (new &&& (data.toNat &&& beMask be &&& (cfgMask addr).2))) → exec (.configWrite addr be data) s = .next (State.settle (if addr = 0x78 ∧ bitAt (data.toNat &&& beMask be) 15 = true then s.endpointReset true else (s.cfgPut addr (if addr = 0x44 ∧ (v % 4 = 1 ∨ v % 4 = 2) then old else v)).resume))) ∧
  (∀ (s : State) (addr be : Nat) (data : Word), (addr % 4 = 0) → (addr < 4096) → (be < 16) → (s.pci.ready = false ∨ s.pci.linkUp = false) → exec (.configWrite addr be data) s = .next (State.settle (s))) ∧
  (∀ (s : State) (addr : Nat) (data : Word) (e x : MsixEntry), (addr % 4 = 0) → (addr < 0x10000) → (e = s.msixEntry (addr / 16)) → (x = if addr % 16 = 0 then { e with lo := data.toNat - data.toNat % 4 } else if addr % 16 = 4 then { e with hi := data.toNat } else if addr % 16 = 8 then { e with data := data.toNat } else { e with mask := bitAt data.toNat 0 }) → exec (.msixTableWrite addr data) s = .next (State.settle (if s.hostReaches = true ∧ addr < 0x8000 then State.flushVectors { s with pci := { s.pci with table := putEntry s.pci.table x } } else s))) ∧
  (∀ (s : State) (tag : Nat) (st : CplStatus) (data : CplData), (s.pci.reads.find? (fun r => r.tag = tag ∧ r.issued ∧ ¬ r.arrived) = none) → exec (.completionReceive tag st data) s = .next (State.settle (s.uncorrectable 16))) ∧
  (∀ (s : State) (tag : Nat) (st : CplStatus) (data : CplData) (r : URead), (s.pci.reads.find? (fun r => r.tag = tag ∧ r.issued ∧ ¬ r.arrived) = some r) → exec (.completionReceive tag st data) s = .next (State.settle (match st with | .unsupported => s.failRead r 2 | .aborted => s.failRead r 3 | .poisoned => (s.failRead r 4).uncorrectable 12 | .ok => if (r.kind = 3 ∨ r.kind = 4) ∧ data.ctxCrcOk = false then s.failRead r 5 else if r.kind = 6 then s.txArrived r (slice data.bytes 0 r.len) else { s with pci := { s.pci with reads := s.pci.reads.map (fun x => if x.tag = tag then { x with arrived := true, data := slice data.bytes 0 r.len } else x) } }))) ∧
  (∀ (s : State) (tag t : Nat) (r : URead), (s.pci.reads.find? (fun r => r.tag = tag ∧ r.issued ∧ ¬ r.arrived) = some r) → (s.cto = some t) → exec (.completionTimeout tag) s = .next (State.settle (((s.passTo (r.at_ + t)).failRead r 1).uncorrectable 14))) ∧
  (∀ (s : State) (err : AerError), exec (.pcieError err) s = .next (State.settle (match err.uncorrBit with | none => (s.cfgPut 0x110 (s.cfgRead 0x110 ||| 2 ^ err.corrBit)).count PCI.CORR_CNT.COUNT 1 | some bit => if err = .poisonedWrite then (s.uncorrectable bit).setB PCI.STS.POISON_WR else s.uncorrectable bit))) ∧
  (∀ (s : State) , exec (.endpointReset .functionLevel) s = .next (State.settle (s.endpointReset true))) ∧
  (∀ (s : State) , exec (.endpointReset .hot) s = .next (State.settle ({ s.endpointReset false with pci := { (s.endpointReset false).pci with linkUp := false } }))) ∧
  (∀ (s : State) , exec (.endpointReset .perst) s = .next (State.settle ({ s.endpointReset false with pci := { (s.endpointReset false).pci with linkUp := false, perstN := false, ready := false } }))) ∧
  (∀ (s : State) , exec (.perstRelease) s = .next (State.settle ({ s.setB CLK.REF_STS.PCIE_REF_OK with pci := { s.pci with perstN := true, ready := s.pci.ready || decide (2 ≤ s.start.reached) } }))) ∧
  (∀ (s : State) (speed width : Nat) (flit : Bool), (1 ≤ speed ∧ speed ≤ 6) → (1 ≤ width ∧ width ≤ 5) → (speed = 6 → flit = true) → exec (.pcieLinkUp speed width flit) s = .next (State.settle (if s.pci.perstN = true ∧ 2 ≤ s.start.reached ∧ s.on SYS.START_STS.DEAD = false then State.resume { ((s.put PCI.LINK_STS.SPEED speed).put PCI.LINK_STS.WIDTH width).put PCI.LINK_STS.FLIT (b2n flit) with pci := { s.pci with linkUp := true } } else s))) ∧
  (∀ (s : State) , exec (.pcieLinkDown) s = .next (State.settle ({ ((s.put PCI.LINK_STS.SPEED 0).put PCI.LINK_STS.WIDTH 0).put PCI.LINK_STS.FLIT 0 with pci := { s.pci with linkUp := false } }))) ∧
  (∀ (z : State) (p : Packet) (s : State), (Runs z p 0x1701) → (s = z.begun p) → exec (.pciStatus p) z = .next (State.settle ((s.readRegs [0x150000, 0x150008, 0x15000C, 0x150010, 0x150014, 0x150018]).2.answer p 0 0 (s.readRegs [0x150000, 0x150008, 0x15000C, 0x150010, 0x150014, 0x150018]).1)))

/-- A read of 1 to 512 bytes acts on each 32-bit register it touches, low address first, and gives its identity each value, zero where the path does not reach the register (R465, R514). A write into a mailbox slot is a slot write of its bytes (R121); elsewhere a write of 32 aligned bits writes its register, one of 64 aligned bits the low half first; another width or alignment is ignored, and recorded where a register that is reached and not fused off is there (R465). A register that is reached, not fused off, outside the mailbox windows and without a row of its own is written field by field (R515): RW and RWL fields take the data, W1C fields lose the bits written as 1; a field the identity may not write (cause 2) or that is locked (cause 1) keeps its value, and the first cause of a field that would have changed is recorded (R523, R524). A write to an HDA's phase offset that would change it goes to the shadow table, unless a commit is pending (R521). VRM_STAMP read answers its low half and latches the high half (R189). An accepted tunnelled read sends back each word of a channel bound to identity 5, and 0 for others; a tunnelled write to such a channel acts as identity 5's (R433). From stage S2 the two health summaries follow their parts (R34). -/
def Obligations.RegisterAccesses : Prop :=
  (∀ (s : State) (ident addr size : Nat), (1 ≤ size) → (size ≤ 512) → exec (.registerRead ident addr size) s = .next (State.settle (((List.range ((addr + size + 3) / 4 - addr / 4)).map (fun i => 4 * (addr / 4 + i))).foldl (fun (t : State) a => (t.regRead ident a).2.emit (.readData ident a (t.regRead ident a).1)) s))) ∧
  (∀ (s : State) (ident addr : Nat), (s.reaches ident addr = false) → s.regRead ident addr = (0, s)) ∧
  (∀ (s : State) (ident addr size data : Nat), (1 ≤ size) → (size ≤ 512) → exec (.registerWrite ident addr size data) s = .next (State.settle (if mbxAddr addr = true ∧ (slotAt (mbxOff addr)).isSome = true then (if s.reaches ident addr then s.slotWrite ident (mbxOff addr) (leBytes size data) else s) else if size = 4 ∧ addr % 4 = 0 then s.regWrite ident addr (data % 2 ^ 32) else if size = 8 ∧ addr % 8 = 0 then (s.regWrite ident addr (data % 2 ^ 32)).regWrite ident (addr + 4) (data / 2 ^ 32 % 2 ^ 32) else s.badWrite ident addr size))) ∧
  (∀ (s : State) (ident addr size a : Nat), (mbxAddr addr = false) → ((((List.range ((addr + size + 3) / 4 - addr / 4)).map (fun i => 4 * (addr / 4 + i))).find? (fun x => s.reaches ident x && !s.fusedOff x && (regAt (mapAddr x)).isSome)) = some a) → (mbxAddr a = false) → s.badWrite ident addr size = s.refuse 3 ident a) ∧
  (∀ (s : State) (ident addr data : Nat) (w : Nat × State), (data < 2 ^ 32) → (mbxAddr addr = false) → (¬ [0x30, 0x48, 0x10004, 0x140000].contains addr) → (idxIn addr 0xE0400 4 192 = none) → (s.reaches ident addr = true) → (s.fusedOff addr = false) → (w = s.writeFields addr data (fun f => if mayWrite ident addr f = false then 2 else if f.acc = .rwl ∧ s.locked addr = true then 1 else 0)) → s.regWrite ident addr data = if w.1 = 0 then s.afterWrite w.2 addr else (s.afterWrite w.2 addr).refuse w.1 ident addr) ∧
  (∀ (s : State) (f : FDesc) (addr v : Nat), s.writeField f addr v = match f.acc with | .rw => s.put (f.at_ addr) v | .rwl => s.put (f.at_ addr) v | .w1c => s.put (f.at_ addr) (s.get (f.at_ addr) &&& (2 ^ f.width - 1 - v)) | .wo => s | .ro => s | .rc => s) ∧
  (∀ (s : State) (ident h data : Nat), (h < 192) → ([0, 2, 7].contains ident = true) → (s.reaches ident (0xE0400 + 4 * h) = true) → (s.fusedOff (0xE0400 + 4 * h) = false) → (bitsAt data 0 13 ≠ s.phaseShown h) → s.regWrite ident (0xE0400 + 4 * h) data = if s.on SYS.EPOCH_STS.PEND then (s.setB SYS.EPOCH_STS.LATE).refuse 4 ident (0xE0400 + 4 * h) else { s with shadow := { s.shadow with phases := (h, bitsAt data 0 13) :: s.shadow.phases.filter (fun x => x.1 ≠ h) } }) ∧
  (∀ (s : State) (ident : Nat), exec (.vrmStampRead ident) s = .next (State.settle (if s.reaches ident 0x60020 then (s.put VRM.STAMP_HI.HI (s.stamp / 2 ^ 32)).emit (.readData ident 0x60020 (s.stamp % 2 ^ 32)) else s.emit (.readData ident 0x60020 0)))) ∧
  (∀ (s : State) (env : Seal) (off size : Nat), (Accepts s env) → (1 ≤ size) → (size ≤ 512) → (off + size ≤ 0x100000) → exec (.tunnel env (.read off size)) s = .next (State.settle (((List.range ((0x200000 + off + size + 3) / 4 - (0x200000 + off) / 4)).map (fun i => 4 * ((0x200000 + off) / 4 + i))).foldl (fun (t : State) w => if t.tunnelled (mbxOff w) then (t.regRead 5 w).2.sendNrn 6 1 [w - 0x200000, (t.regRead 5 w).1] [] else t.sendNrn 6 1 [w - 0x200000, 0] []) s.heardMessage))) ∧
  (∀ (s : State) (env : Seal) (off : Nat) (bytes : List Byte), (Accepts s env) → (1 ≤ bytes.length) → (bytes.length ≤ 512) → (off + bytes.length ≤ 0x100000) → (s.heardMessage.tunnelled off = true) → exec (.tunnel env (.write off bytes)) s = .next (State.settle (s.heardMessage.writeRange 5 (0x200000 + off) bytes.length (leNat bytes)))) ∧
  (∀ (s : State) (a b c : State), (a = ((s.put SYS.HEALTH_SUM0.SRAM s.sramPct).put SYS.HEALTH_SUM0.SERDES s.serdesPct).put SYS.HEALTH_SUM0.CORE (50 * s.get CMD.CORE_STS.SPARES)) → (b = a.put SYS.HEALTH_SUM0.CLUSTER (if [0, 1, 2, 3].all (fun q => !a.on (SYS.SPARE_STS.SPARE_USED q)) then 100 else 0)) → (c = (b.put SYS.HEALTH_SUM1.HDA_SECT b.hdaPct).put SYS.HEALTH_SUM1.DECL (lowest (b.act.sets.map b.declPct))) → (3 ≤ s.start.reached) → exec (.healthSumUpdate) s = .next (State.settle ((c.put SYS.HEALTH_SUM1.NAND_DIE (lowest (c.nv.media.modules.map Module.diePct))).put SYS.HEALTH_SUM1.NAND_BLOCK (lowest (c.nv.media.modules.map Module.blockPct)))))

/-- A packet that runs. CREATE_QP with a bad parameter answers BAD_PARAM with its offset, or BAD_TARGET for a CLUSTER code against the table; with no room REFUSED_STATE 3; else it binds the pair in the shadow tables and makes its context PENDING and cached (R131). DELETE_QP of a pair makes it DRAINING and stops its fetching (R134). RESET_QP of a pair without commands in flight makes it ACTIVE with empty rings (R135). QP_STATUS, GET_QP_STATS and QP_CTX_READ answer it. SET_COALESCE checks its fields, signals what is pending, and sets the coalescing at once. QPIDs of 2^20 and above are BAD_PARAM. A doorbell of a reachable host of at least 4 bytes at the right place, of a host pair that takes doorbells, sets its SQ tail or CQ head and lets fetching go on; any other is counted as ignored (R136). FETCH for a cluster, of an ACTIVE I/O pair of it at its turn, the cluster working, takes the entries that a ring read brought, up to the weight, what is there and the ring's end, and the next fetch starts; else nothing happens (R139). A context brought from the spill area is cached and fetching starts (R140). The coalescing timer sends the interrupts of pairs whose time has come (R160). Log entries 2, 144 and 160 to 163 name the choices this rests on. -/
def Obligations.QueuePairCommands : Prop :=
  (∀ (z : State) (p : Packet) (s : State), (Runs z p 0x0701) → (s = z.begun p) → exec (.createQp p) z = .next (State.settle ((match s.qpParamBad p with | some off => if off = 6 ∧ ¬ locOk (p.u8 6) = true then s.answer p 0x0005 0 [] else s.answer p 0x000A off [] | none => if p.u8 4 = 1 ∧ 64 ≤ (s.shadow.qps.filter (fun b => b.typ = 1)).length then s.answer p 0x000F 3 [] else (match s.qpCluster p with | none => s.answer p 0x000F 3 [] | some cl => if ¬ s.on HQ.SPILL_LO.EN = true ∧ 2048 ≤ s.qpCount cl then s.answer p 0x000F 3 [] else ((State.setQp { s with shadow := { s.shadow with qps := insertBind s.shadow.qps { qpid := p.u32 0, typ := p.u8 4, location := p.u8 5, cluster := cl, home := cl, weight := p.u8 7, sqLog2 := p.u16 8, cqLog2 := p.u16 10, conn := p.u32 12, sqBase := p.u64 16, cqBase := p.u64 24, sqKey := p.u32 32, cqKey := p.u32 36, vector := p.u16 40, accessGroup := p.u16 48 } } } { qpid := p.u32 0, state := 1, aggCount := p.u8 42, aggTime := max 1 (p.u16 44), cqFlags := p.u8 46, vector := p.u16 40, usedAt := s.aon }).cacheQp (p.u32 0) cl).answer p 0 0 []))))) ∧
  (∀ (z : State) (p : Packet) (s : State), (Runs z p 0x0702) → (s = z.begun p) → exec (.deleteQp p) z = .next (State.settle (if 2 ^ 20 ≤ p.u32 0 then s.answer p 0x000A 0 [] else if (s.qp (p.u32 0)).state = 0 ∨ (s.qp (p.u32 0)).state = 6 then s.answer p 0x000F 3 [] else ((s.setQp { s.qp (p.u32 0) with state := 6, drainFaulted := (s.qp (p.u32 0)).state = 4 }).stopFetch (p.u32 0)).answer p 0 0 []))) ∧
  (∀ (z : State) (p : Packet) (s : State), (Runs z p 0x0703) → (s = z.begun p) → exec (.resetQp p) z = .next (State.settle (if 2 ^ 20 ≤ p.u32 0 then s.answer p 0x000A 0 [] else if (s.qp (p.u32 0)).state < 2 ∨ 5 < (s.qp (p.u32 0)).state ∨ s.inflight (p.u32 0) ≠ 0 then s.answer p 0x000F 3 [] else ((s.setQp { s.qp (p.u32 0) with state := 2, sqHead := 0, sqTail := 0, cqTail := 0, cqHead := 0, phase := 1, lost := 0, cause := 0 }).stopFetch (p.u32 0)).answer p 0 0 []))) ∧
  (∀ (z : State) (p : Packet) (s : State) (q : Qp), (Runs z p 0x0704) → (s = z.begun p) → (q = s.qp (p.u32 0)) → exec (.qpStatus p) z = .next (State.settle (if 2 ^ 20 ≤ p.u32 0 then s.answer p 0x000A 0 [] else s.answer p 0 0 (leBytes 1 q.state ++ leBytes 1 ((((s.qpBind (p.u32 0)).map QpBind.cluster).map (fun c => locCluster (c / 8) (c % 8))).getD 0) ++ leBytes 2 0 ++ leBytes 2 q.sqHead ++ leBytes 2 q.sqTail ++ leBytes 2 q.cqTail ++ leBytes 2 q.cqHead ++ leBytes 4 (s.inflight (p.u32 0)) ++ leBytes 4 q.lost ++ leBytes 1 q.cause ++ leBytes 3 0)))) ∧
  (∀ (z : State) (p : Packet) (s : State) (u : State), (Runs z p 0x0705) → (s = z.begun p) → (u = if (s.qp (p.u32 0)).pend ≠ 0 then s.signalCq (p.u32 0) else s) → exec (.setCoalesce p) z = .next (State.settle (if 2 ^ 20 ≤ p.u32 0 ∨ (s.qp (p.u32 0)).state = 0 then s.answer p 0x000A 0 [] else if ((s.qpBindNew (p.u32 0)).map QpBind.isHost).getD true = true ∧ 2048 ≤ p.u16 4 then s.answer p 0x000A 4 [] else if p.u8 7 ≠ 0 then s.answer p 0x000A 7 [] else if 4 ≤ p.u8 10 then s.answer p 0x000A 10 [] else if p.u8 11 ≠ 0 then s.answer p 0x000A 11 [] else (u.setQp { u.qp (p.u32 0) with aggCount := p.u8 6, aggTime := max 1 (p.u16 8), cqFlags := p.u8 10, vector := p.u16 4 }).answer p 0 0 []))) ∧
  (∀ (z : State) (p : Packet) (s : State) (q : Qp), (Runs z p 0x0706) → (s = z.begun p) → (q = s.qp (p.u32 0)) → exec (.getQpStats p) z = .next (State.settle (if 2 ^ 20 ≤ p.u32 0 then s.answer p 0x000A 0 [] else s.answer p 0 0 ([q.commands, q.bytesRead, q.bytesWritten, q.lockWaits, q.ctxMisses].flatMap (leBytes 8))))) ∧
  (∀ (z : State) (p : Packet) (s : State), (Runs z p 0x8710) → (s = z.begun p) → exec (.qpCtxRead p) z = .next (State.settle (if 2 ^ 20 ≤ p.u32 0 then s.answer p 0x000A 0 [] else (s.freeBytes 128).2.answer p 0 0 (s.freeBytes 128).1))) ∧
  (∀ (s : State) (off size data : Nat) (q : Qp), (off < 2 ^ 24) → (q = s.qp (off / 16)) → exec (.sqTailDoorbell off size data) s = .next (State.settle (if s.hostReaches = false then s else if 4 ≤ size ∧ off % 16 = 0 ∧ ((s.qpBindNew (off / 16)).map QpBind.isHost).getD false = true ∧ q.takesDoorbell = true then s.ringSq (off / 16) (data % 2 ^ 16) else if q.state ≠ 0 then s.setQp { q with ignored := q.ignored + 1 } else s))) ∧
  (∀ (s : State) (off size data : Nat) (q : Qp), (off < 2 ^ 24) → (q = s.qp (off / 16)) → exec (.cqHeadDoorbell off size data) s = .next (State.settle (if s.hostReaches = false then s else if 4 ≤ size ∧ off % 16 = 4 ∧ ((s.qpBindNew (off / 16)).map QpBind.isHost).getD false = true ∧ q.takesDoorbell = true then (s.ringCq (off / 16) (data % 2 ^ 16)).startFetch (off / 16) else if q.state ≠ 0 then s.setQp { q with ignored := q.ignored + 1 } else s))) ∧
  (∀ (s : State) (cluster qpid : Nat), (s.qpBind qpid = none) → exec (.sqFetch cluster qpid) s = .next (State.settle (s))) ∧
  (∀ (s : State) (cluster qpid n : Nat) (b : QpBind), (s.qpBind qpid = some b) → (n = min (min 32 (if b.weight = 0 then 8 else b.weight)) (min (((s.qp qpid).sqTail + 2 ^ b.sqLog2 - (s.qp qpid).sqHead) % 2 ^ b.sqLog2) (2 ^ b.sqLog2 - (s.qp qpid).sqHead))) → exec (.sqFetch cluster qpid) s = .next (State.settle (if b.cluster ≠ cluster ∨ b.typ ≠ 0 ∨ (s.qp qpid).state ≠ 2 ∨ s.halted = true ∨ ¬ s.clusterWorks b.cluster = true ∨ ¬ s.hasTurn b = true then s else (match s.ringData b with | none => s | some ring => (State.takeEntries { s.dropFetch b with hq := { (s.dropFetch b).hq with turns := (s.dropFetch b).hq.turns.set b.cluster qpid } } b n (entriesOf ring)).startFetch qpid)))) ∧
  (∀ (s : State) (qpid : Nat), exec (.contextFetch qpid) s = .next (State.settle ((match s.qpBindNew qpid, s.pci.reads.find? (fun r => r.kind = 3 ∧ r.id = qpid ∧ r.arrived) with | some b, some r => ((s.dropRead r.tag).cacheQp qpid b.cluster).startFetch qpid | _, _ => s)))) ∧
  (∀ (s : State) (u : State), (u = s.passTo (s.nextTick Config.us)) → exec (.coalesceTimer) s = .next (State.settle ((u.hq.qps.filter (fun q => q.pend ≠ 0 && bitAt q.cqFlags 0 && decide (q.aggTime * Config.us ≤ u.aon - q.firstAt))).foldl (fun (s : State) q => s.signalCq q.qpid) u)))

/-- A lock that holds an entry and that no earlier request keeps back is granted, and its command may run (R152). A command in flight on an awake cluster of a head that does not halt begins where it has not yet (access check, then its lock), and once it is ready its body runs; else nothing happens (R158). READ asks for its scatter list, then for the map pages not at hand, then for the keys its cluster lacks; with all of them it marks its units read, walks its pages and reads its frames (R249). Once no frame is outstanding READ_COMPLETE ends with TRANSFER_ERROR where the transfer failed; else it sends the frames that failed and were not yet reconstructed to redundancy, ends at the first lost block with 0x070A or the first that still fails its check with 0x070B, recorded, and else counts the bytes, places the blocks and completes with 0 (R149, R193, R207). WRITE asks for its scatter list and payload, then for the keys, and once they are here transforms the blocks into frames, storing RAW those whose coded form fails its verification, and puts a write into the cache (R193, R205, R20). A list that does not add up ends either with BAD_PARAM 36. FLUSH closes the stripes of the writes it covers and completes once they are durable (R153). DISCARD enters those of its blocks that a free choice names (R155; R262 leaves it free). ABORT of a READ, or of a command not yet running, ends it with 0x0701 and answers 0; of another that runs it answers 1; of one not there 2; of an ABORT BAD_PARAM 48 (log entry 48). -/
def Obligations.QueueEntryCommands : Prop :=
  (∀ (s : State) (qpid cid : Nat), (s.hq.locks.find? (fun l => l.qpid = qpid ∧ l.cid = cid) = none) → exec (.lockGrant qpid cid) s = .next (State.settle (s))) ∧
  (∀ (s : State) (qpid cid : Nat) (l : LockReq) (u : State), (s.hq.locks.find? (fun l => l.qpid = qpid ∧ l.cid = cid) = some l) → (u = { s with hq := { s.hq with locks := s.hq.locks.map (fun (x : LockReq) => if x.qpid = qpid ∧ x.cid = cid then { x with granted := true } else x) } }) → exec (.lockGrant qpid cid) s = .next (State.settle (if l.granted = true ∨ ¬ grantable (s.hq.locks.takeWhile (fun x => ¬ (x.qpid = qpid ∧ x.cid = cid))) l = true then s else (match s.hcmd qpid cid with | some c => if c.phase = .locking then u.setPhase qpid cid .ready else u | none => u)))) ∧
  (∀ (s : State) (qpid cid : Nat) (faulty : List Nat), (∀ c, s.hcmd qpid cid = some c → s.halted = true ∨ s.clusterAwake c.cluster = false ∨ ¬ [1, 2, 3, 4].contains c.sub.opcode = true) → exec (.ioRead qpid cid) s = .next s.settle ∧ exec (.ioWrite qpid cid faulty) s = .next s.settle ∧ exec (.ioFlush qpid cid) s = .next s.settle ∧ exec (.ioDiscard qpid cid) s = .next s.settle) ∧
  (∀ (s : State) (qpid cid : Nat) (faulty : List Nat) (c : HCmd) (t : State), (s.hcmd qpid cid = some c) → (s.halted = false) → (s.clusterAwake c.cluster = true) → (t = if c.phase = .fetched then s.beginCmd c else s) → (∀ d, t.hcmd qpid cid = some d → d.phase ≠ .ready) → (c.sub.opcode = 1 → exec (.ioRead qpid cid) s = .next t.settle) ∧ (c.sub.opcode = 2 → exec (.ioWrite qpid cid faulty) s = .next t.settle) ∧ (c.sub.opcode = 3 → exec (.ioFlush qpid cid) s = .next t.settle) ∧ (c.sub.opcode = 4 → exec (.ioDiscard qpid cid) s = .next t.settle)) ∧
  (∀ (s : State) (qpid cid : Nat) (c d : HCmd) (t : State) (v : Vol), (s.hcmd qpid cid = some c) → (c.sub.opcode = 1) → (s.halted = false) → (s.clusterAwake c.cluster = true) → (t = if c.phase = .fetched then s.beginCmd c else s) → (t.hcmd qpid cid = some d) → (d.phase = .ready) → ((t.tablesOf d.epoch).vol d.sub.volume = some v) → exec (.ioRead qpid cid) s = .next (State.settle ((let u := ((t.qpBind qpid).map (fun b => t.askList b d.sub)).getD t; let pages := ((List.range d.sub.nblk).map (fun i => (d.sub.slba + i) / 1024 / 512)).eraseDups; let miss := pages.filter (fun p => ¬ u.pageHere d.sub.volume p); let frames := ((u.cmdBlocks d.sub (u.imageGen v d.sub.snap)).filterMap (fun b => match b with | .frame f _ => some f | _ => none)).eraseDups; let lack := ((frames.map (fun f => (1, f.vol, f.epoch, 0))).eraseDups).filter (fun k => ¬ u.hasKey d.cluster k); if ¬ miss.isEmpty = true then miss.foldl (fun (s : State) p => s.fetchPage d.sub.volume p) u else if ¬ frames.isEmpty = true ∧ ¬ u.entReady (d.cluster / 8) = true then u else if ¬ lack.isEmpty = true then lack.foldl (fun (s : State) k => s.wantKey d.cluster k) u else frames.foldl (fun (s : State) f => s.readFrame qpid cid 0 f) ((pages.foldl (fun (s : State) _ => s.walk d.cluster false) ((((List.range d.sub.nblk).map (fun i => (d.sub.slba + i) / 1024)).eraseDups).foldl (fun (s : State) n => if s.nv.media.units.any (fun x => x.vol = d.sub.volume && x.unit = n) then s.setUnit { s.unit d.sub.volume n with readAt := s.aon, reads := s.aon :: (s.unit d.sub.volume n).reads.filter (fun a => s.aon < a + Config.day) } else s) u)).setPhase qpid cid .running))))) ∧
  (∀ (s : State) (qpid cid : Nat) (here : Bool) (odd : List FrameSeen), (s.qpBind qpid = none ∨ ∀ c, s.hcmd qpid cid = some c → c.sub.opcode ≠ 1 ∨ c.phase ≠ .running ∨ s.clusterAwake c.cluster = false ∨ s.dp.reads.any (fun r => r.qpid = qpid && r.cid = cid) = true) → exec (.readComplete qpid cid here odd) s = .next (State.settle (s))) ∧
  (∀ (s : State) (qpid cid : Nat) (here : Bool) (odd : List FrameSeen) (c : HCmd) (b : QpBind), (s.hcmd qpid cid = some c) → (s.qpBind qpid = some b) → (c.sub.opcode = 1) → (c.phase = .running) → (s.clusterAwake c.cluster = true) → (s.dp.reads.any (fun r => r.qpid = qpid && r.cid = cid) = false) → ((s.tablesOf c.epoch).vol c.sub.volume = none ∨ s.pieces b c.sub = none ∨ (∃ list, s.pieces b c.sub = some list ∧ piecesFit c.sub list = false) ∨ here = false) → exec (.readComplete qpid cid here odd) s = .next (State.settle (if (s.tablesOf c.epoch).vol c.sub.volume = none then s.endCmd qpid cid 0x0705 0 false else (match s.pieces b c.sub with | none => s.askList b c.sub | some list => if piecesFit c.sub list = false then s.endCmd qpid cid 0x000A 36 false else s.endCmd qpid cid 0x070C 0 false)))) ∧
  (∀ (s : State) (qpid cid : Nat) (odd : List FrameSeen) (c : HCmd) (b : QpBind) (v : Vol) (g : Option Nat) (list : List (Nat × Nat × Nat)) (frames again : List SFrame) (lost bad : Option Nat) (u w : State), (s.hcmd qpid cid = some c) → (s.qpBind qpid = some b) → (c.sub.opcode = 1) → (c.phase = .running) → (s.clusterAwake c.cluster = true) → (s.dp.reads.any (fun r => r.qpid = qpid && r.cid = cid) = false) → ((s.tablesOf c.epoch).vol c.sub.volume = some v) → (s.pieces b c.sub = some list) → (piecesFit c.sub list = true) → (g = s.imageGen v c.sub.snap) → (frames = ((List.range c.sub.nblk).filterMap (fun i => match s.lookup c.sub.volume g (c.sub.slba + i) with | .frame f _ => some f | _ => none)).eraseDups) → (u = frames.foldl (fun (s : State) f => s.masked c.cluster f.body.length) s) → (again = frames.filter (fun f => failing c odd f && !c.rebuilt.contains f.serial)) → (lost = (List.range c.sub.nblk).find? (fun i => match s.lookup c.sub.volume g (c.sub.slba + i) with | .lost => true | .frame f _ => c.lost.contains f.serial | _ => false)) → (bad = (List.range c.sub.nblk).find? (fun i => match s.lookup c.sub.volume g (c.sub.slba + i) with | .frame f k => blockFails c odd f k | _ => false)) → (w = (let x := u.setB XF.STS.CHECK_FAIL; if x.on XF.CHECK_ERR.VALID = true then x else ((x.put XF.CHECK_ERR.VALID 1).put XF.CHECK_ERR.LOC (locCluster (c.cluster / 8) (c.cluster % 8))).put XF.CHECK_ERR.VOLUME c.sub.volume)) → exec (.readComplete qpid cid true odd) s = .next (State.settle (if ¬ again.isEmpty = true then again.foldl (fun (s : State) f => s.askRebuild qpid cid f) u else (match lost, bad with | some i, _ => u.returnRead b c g list 0x070A i i | none, some i => (w.record 0x0902 (locCluster (c.cluster / 8) (c.cluster % 8)) c.sub.volume i []).returnRead b c g list 0x070B i i | none, none => (u.setQp { u.qp qpid with bytesRead := (u.qp qpid).bytesRead + 4096 * c.sub.nblk }).returnRead b c g list 0 0 c.sub.nblk)))) ∧
  (∀ (s : State) (b : QpBind) (c : HCmd) (g : Option Nat) (list : List (Nat × Nat × Nat)) (st res n : Nat), (b.isHost = true) → s.returnRead b c g list st res n = ((scatter list (s.readBlocks c.sub.volume g c.sub.slba n).1).foldl (fun (s : State) x => if x.2.2 = [] then s else s.emit (.hostData x.1 x.2.2)) (s.readBlocks c.sub.volume g c.sub.slba n).2).endCmd c.qpid c.sub.cid st res c.recovered) ∧
  (∀ (s : State) (qpid cid : Nat) (faulty : List Nat) (c d : HCmd) (t u : State) (b : QpBind) (v : Vol), (s.hcmd qpid cid = some c) → (c.sub.opcode = 2) → (s.halted = false) → (s.clusterAwake c.cluster = true) → (t = if c.phase = .fetched then s.beginCmd c else s) → (t.hcmd qpid cid = some d) → (d.phase = .ready) → (t.qpBind qpid = some b) → ((t.tablesOf d.epoch).vol d.sub.volume = some v) → (u = t.askList b d.sub) → exec (.ioWrite qpid cid faulty) s = .next (State.settle ((match u.pieces b d.sub with | none => u | some ps => if ¬ piecesFit d.sub ps = true then u.endCmd qpid cid 0x000A 36 false else (let k := u.pullPayload b d.sub ps; match k.payload b d.sub ps with | none => k | some payload => (let p := (k.tablesOf d.epoch).policy v.num; let chunks := cutChunks p.bits [] (blocksOf d.sub.nblk payload); let lack := (k.writeKeys v p chunks).filter (fun x => ¬ k.hasKey d.cluster x); if ¬ k.entReady (d.cluster / 8) = true then k else if ¬ lack.isEmpty = true then lack.foldl (fun (s : State) x => s.wantKey d.cluster x) k else (let x := (k.dropPayload b cid).transform d p v.keyEpoch faulty 0 true d.sub.slba chunks; let y := x.1.foldl (fun (s : State) f => s.masked d.cluster f.body.length) x.2.2.2; (y.setPhase qpid cid .running).addJob { id := 0, kind := .write, qpid := qpid, cid := cid, vol := v.num, slba := d.sub.slba, nblk := d.sub.nblk, fua := bitAt d.sub.flags 1, epoch := d.epoch, vgen := v.vgen, gset := v.gset, frames := x.1, dups := x.2.1, blocks := x.2.2.1, through := !y.admitsDirty, at_ := y.aon }))))))) ∧
  (∀ (s : State) (qpid cid : Nat) (c d : HCmd) (t u : State), (s.hcmd qpid cid = some c) → (c.sub.opcode = 3) → (s.halted = false) → (s.clusterAwake c.cluster = true) → (t = if c.phase = .fetched then s.beginCmd c else s) → (t.hcmd qpid cid = some d) → (d.phase = .ready) → (u = d.covers.foldl (fun (s : State) id => match s.wjob id with | some w => s.closeFor w | none => s) (t.setPhase qpid cid .running)) → exec (.ioFlush qpid cid) s = .next (State.settle ((u.setDp fun x => { x with flushes := x.flushes ++ [(qpid, cid, d.covers)] }).endFlushes))) ∧
  (∀ (s : State) (qpid cid : Nat) (c d : HCmd) (t : State) (v : Vol), (s.hcmd qpid cid = some c) → (c.sub.opcode = 4) → (s.halted = false) → (s.clusterAwake c.cluster = true) → (t = if c.phase = .fetched then s.beginCmd c else s) → (t.hcmd qpid cid = some d) → (d.phase = .ready) → ((t.tablesOf d.epoch).vol d.sub.volume = some v) → exec (.ioDiscard qpid cid) s = .next (State.settle ((State.setPhase { t with free := t.free + d.sub.nblk } qpid cid .running).addJob { id := 0, kind := .discard, qpid := qpid, cid := cid, vol := v.num, slba := d.sub.slba, nblk := d.sub.nblk, epoch := d.epoch, vgen := v.vgen, gset := v.gset, frames := [], blocks := ((List.range d.sub.nblk).filter (fun i => Config.freeValue (t.free + i) % 2 = 1)).map (fun i => (d.sub.slba + i, BlkRef.discarded)), at_ := t.aon }))) ∧
  (∀ (s : State) (qpid cid : Nat) (c : HCmd) (tq tc : Nat), (s.hcmd qpid cid = some c) → (tq = bitsAt c.sub.arg 0 20) → (tc = bitsAt c.sub.arg 36 16) → exec (.ioAbort qpid cid) s = .next (State.settle (if c.sub.opcode ≠ 8 then s else (match s.hcmd tq tc with | none => s.endCmd qpid cid 0 2 false | some t => if t.sub.opcode = 8 then s.endCmd qpid cid 0x000A 48 false else if t.sub.opcode = 1 ∨ t.phase ≠ .running then ((State.endCmd (match s.qpBind tq with | some b => s.dropPayload b tc | none => s) tq tc 0x0701 0 false).setB HQ.STS.ABRT).endCmd qpid cid 0 0 false else s.endCmd qpid cid 0 1 false)))) ∧
  (∀ (s : State) (qpid cid : Nat), (s.hcmd qpid cid = none) → exec (.ioAbort qpid cid) s = .next (State.settle (s)))

/-- A packet that runs. POLICY_SET of a volume that this head serves, its fields in range, puts a policy into the shadow table; POLICY_GET answers the one in force (R228); XF_STATS the six sums over a cluster, or over a quadrant's clusters. REKEY_START of a served volume whose sweep is over writes the next KEY_EPOCH into the shadow table and its reply waits for the commit; a running sweep answers 0x0A06 with what is left. REKEY_STATUS answers both epochs, the mark and what is left. A sweep with no frame and no index page of a lower epoch left or to come ends (R216). ROOT_LOAD of an empty root with the right check value loads it, or marks it bad where the fuses do not read back; a bad root, a loaded one and a wrong check value are refused (R209). SEAL_KEY_EXPORT needs bit 31 of the label and a fleet root, and counts (R222); GET_KCV answers both check values. A derivation asked for enters the cluster's key slots and is counted; a SEALGEN key waits for the connection's key; an epoch below MIN_EPOCH or a missing root only drops the wish (R213, R215). The summary is rebuilt once, from S3 on, with the entries it lacks. A health test that fails by its cut-offs takes its source to RETEST, the third in an hour to BORROW or STARVED; ENT_READY from START or RETEST of an awake quadrant makes it READY and seeds its clusters, and so does an hourly retest passed in BORROW or STARVED (R224, R225). A reseed due takes the quadrant's own seed or a borrowed one; with neither ENT_READY clears (R223). -/
def Obligations.TransformAndKeyCommands : Prop :=
  (∀ (z : State) (p : Packet) (s : State), (Runs z p 0x0901) → (s = z.begun p) → exec (.policySet p) z = .next (State.settle ((match s.shadowVol (p.u16 0) with | none => s.answer p 0x0901 0 [] | some v => if ¬ s.serves v = true then s.answer p 0x1301 (1 - s.headNo) [] else if 8 ≤ p.u8 2 ∨ bitsAt (p.u8 2) 1 2 = 3 then s.answer p 0x000A 2 [] else if 4 < p.u8 3 then s.answer p 0x000A 3 [] else if 16 < p.u8 4 then s.answer p 0x000A 4 [] else (match (List.range 11).find? (fun i => p.u8 (5 + i) ≠ 0) with | some i => s.answer p 0x000A (5 + i) [] | none => State.answer { s with shadow := { s.shadow with policies := { num := p.u16 0, flags := p.u8 2, chunkBits := p.u8 3, minGain := p.u8 4 } :: s.shadow.policies.filter (fun y => y.num ≠ p.u16 0) } } p 0 0 []))))) ∧
  (∀ (z : State) (p : Packet) (s : State), (Runs z p 0x0902) → (s = z.begun p) → exec (.policyGet p) z = .next (State.settle (if s.vol (p.u16 0) = none then s.answer p 0x0901 0 [] else s.answer p 0 0 (let x := s.act.policy (p.u16 0); leBytes 2 x.num ++ leBytes 1 x.flags ++ leBytes 1 x.chunkBits ++ leBytes 1 x.minGain ++ List.replicate 11 0)))) ∧
  (∀ (z : State) (p : Packet) (s : State), (Runs z p 0x0903) → (s = z.begun p) → exec (.xfStats p) z = .next (State.settle (if bitsAt p.loc 6 2 = 0 then s.answer p 0x0005 0 [] else s.answer p 0 0 ((List.range 6).flatMap (fun i => leBytes 8 (((if bitsAt p.loc 6 2 = 2 then [8 * bitsAt p.loc 4 2 + bitsAt p.loc 0 3] else (List.range 8).map (8 * bitsAt p.loc 4 2 + ·)).map (fun c => (s.cipher c).stats.getD i 0)).sum)))))) ∧
  (∀ (z : State) (p : Packet) (s : State), (Runs z p 0x0A01) → (s = z.begun p) → exec (.rekeyStart p) z = .next (State.settle ((match s.shadowVol (p.u16 0) with | none => s.answer p 0x0901 0 [] | some v => if ¬ s.serves v = true then s.answer p 0x1301 (1 - s.headNo) [] else (match s.nv.media.rekeys.find? (fun k => k.vol = p.u16 0 && !k.ended) with | some k => s.answer p 0x0A06 (min 0xFFFFFFFF (s.rekeyLeft k)) [] | none => if v.keyEpoch = 0xFFFFFFFF then s.answer p 0x0A07 0 [] else (let u := s.setShadowVol { v with keyEpoch := v.keyEpoch + 1 }; State.promised { u with cmd := { u.cmd with waits := { pkt := p, cls := p.cls, at_ := u.aon, wrote := true, detail := 0, data := [] } :: u.cmd.waits } } p)))))) ∧
  (∀ (s : State) (vol : Nat), exec (.rekeySweepEnd vol) s = .next (State.settle ((match s.nv.media.rekeys.find? (fun k => k.vol = vol) with | some k => if s.rekeyLeft k ≠ 0 ∨ s.nv.media.ipages.any (fun p => p.vol = vol && decide (p.epoch < k.epoch)) = true ∨ s.oldWriters vol k.epoch = true then s else s.media fun m => { m with rekeys := m.rekeys.map (fun x => if x.vol = vol then { x with ended := true } else x) } | none => s)))) ∧
  (∀ (z : State) (p : Packet) (s : State), (Runs z p 0x0A02) → (s = z.begun p) → exec (.rekeyStatus p) z = .next (State.settle ((match s.vol (p.u16 0) with | none => s.answer p 0x0901 0 [] | some v => s.answer p 0 0 (leBytes 4 v.keyEpoch ++ leBytes 4 v.minEpoch ++ leBytes 4 (s.hwm v.num) ++ leBytes 8 (((s.nv.media.rekeys.find? (fun k => k.vol = v.num)).map s.rekeyLeft).getD 0)))))) ∧
  (∀ (z : State) (p : Packet) (s : State) (ok : Bool) (old : Option (List Byte)) (bad : Bool), (Runs z p 0x8A10) → (s = z.begun p) → (old = if p.u8 0 = 0 then s.nv.roots.ark else s.nv.roots.frk) → (bad = if p.u8 0 = 0 then s.nv.roots.arkBad else s.nv.roots.frkBad) → exec (.rootLoad p ok) z = .next (State.settle (if 1 < p.u8 0 then s.answer p 0x000A 0 [] else (match (List.range 3).find? (fun i => p.u8 (1 + i) ≠ 0) with | some i => s.answer p 0x000A (1 + i) [] | none => if bad = true then s.answer p 0x0A01 (p.u8 0) [] else if old ≠ none then s.answer p 0x0A02 (p.u8 0) [] else if kcv (some (slice p.params 4 32)) ≠ slice p.params 36 4 then s.answer p 0x0A03 0 [] else if ok = true then (State.showRoots { s with nv := { s.nv with roots := if p.u8 0 = 0 then { s.nv.roots with ark := some (slice p.params 4 32), arkBad := false } else { s.nv.roots with frk := some (slice p.params 4 32), frkBad := false } } }).answer p 0 0 [] else (State.showRoots { s with nv := { s.nv with roots := if p.u8 0 = 0 then { s.nv.roots with ark := none, arkBad := true } else { s.nv.roots with frk := none, frkBad := true } } }).answer p 0x0A04 (p.u8 0) [])))) ∧
  (∀ (z : State) (p : Packet) (s : State), (Runs z p 0x0A03) → (s = z.begun p) → exec (.sealKeyExport p) z = .next (State.settle (if ¬ bitAt (p.u32 0) 31 = true then s.answer p 0x0A05 0 [] else if s.frk = none then s.answer p 0x0A01 1 [] else ((s.count KDF.DERIVE_CNT.COUNT 1).count KDF.EXPORT_CNT.COUNT 1).answer p 0 0 (s.sealKey (p.u32 0))))) ∧
  (∀ (z : State) (p : Packet) (s : State), (Runs z p 0x0A04) → (s = z.begun p) → exec (.getKcv p) z = .next (State.settle (s.answer p 0 0 (kcv s.nv.roots.ark ++ kcv s.nv.roots.frk)))) ∧
  (∀ (s : State) (cluster purpose vol epoch label : Nat) (k : Nat × Nat × Nat × Nat) (u : State), (cluster < 32) → (k = (purpose, vol, epoch, label)) → (u = s.setCipher cluster { s.cipher cluster with wanted := (s.cipher cluster).wanted.erase k }) → exec (.keyDerivationDone cluster purpose vol epoch label) s = .next (State.settle (if ¬ (s.cipher cluster).wanted.contains k = true then s else if purpose = 5 ∧ ¬ s.hasKey cluster (4, 0, 0, label) = true then s.wantSeal cluster label epoch else if ((purpose = 1 ∨ purpose = 2) ∧ epoch < ((s.vol vol).map Vol.minEpoch).getD 0) ∨ s.deriveRoot cluster k = none then u else ((s.setCipher cluster { s.cipher cluster with wanted := (s.cipher cluster).wanted.erase k, slots := (k :: (s.cipher cluster).slots).take 64 }).masked cluster 24).count KDF.DERIVE_CNT.COUNT 1))) ∧
  (∀ (s : State) (lack : List SFrame), (lack = s.nv.media.frames.filter (fun f => match f.sumEntry s.summaryGib with | some e => !s.dp.summary.contains e | none => false)) → exec (.summaryRebuilt) s = .next (State.settle (if s.start.reached < 4 ∨ s.on XF.DEDUP_STS.REBUILT = true then s else (lack.foldl State.addSummary s).setB XF.DEDUP_STS.REBUILT))) ∧
  (∀ (s : State) (q : Nat) (obs : HealthObs) (u : State), (q < 4) → (u = ((s.setEnt q { s.ent q with fails := s.aon :: s.entFails q, retestAt := s.aon }).latchClaim q).put (XF.ENT_STS.STATE q) 2) → exec (.healthTestFail ⟨q, obs⟩) s = .next (State.settle (if 3 ≤ s.get (XF.ENT_STS.STATE q) ∨ HealthFails (s.ent q).claim obs = false then s else (if 3 ≤ (s.entFails q).length + 1 then u.enterEnt q (if u.anyReady then 3 else 4) else u.enterEnt q 2).lendEntropy))) ∧
  (∀ (s : State) (q : Nat), (q < 4) → exec (.entReady q) s = .next (State.settle (if (s.get (XF.ENT_STS.STATE q) = 0 ∨ s.get (XF.ENT_STS.STATE q) = 2) ∧ s.pwr.quads.getD q .gated = Gate.awake then (((s.put (XF.ENT_STS.STATE q) 1).putBit SYS.START_STS.ENT_READY q true).seedQuad q).lendEntropy else s))) ∧
  (∀ (s : State) (q : Nat) (pass : Bool) (u : State), (q < 4) → (u = (s.passTo ((s.ent q).retestAt + Config.hour)).latchClaim q) → exec (.hourlyRetest q pass) s = .next (State.settle (if s.get (XF.ENT_STS.STATE q) ≠ 3 ∧ s.get (XF.ENT_STS.STATE q) ≠ 4 then s else if pass = true then ((((u.setEnt q { u.ent q with retestAt := u.aon }).put (XF.ENT_STS.STATE q) 1).putBit SYS.START_STS.ENT_READY q true).seedQuad q).lendEntropy else u.setEnt q { u.ent q with fails := u.aon :: u.entFails q, retestAt := u.aon }))) ∧
  (∀ (s : State) (cluster : Nat) (u : State), (cluster < 32) → (u = s.passTo ((s.cipher cluster).reseedAt s.aon)) → exec (.drbgReseed cluster) s = .next (State.settle (if s.get (XF.ENT_STS.STATE (cluster / 8)) = 1 ∨ s.get (XF.ENT_STS.STATE (cluster / 8)) = 3 ∧ u.anyReady = true then u.seed cluster else u.putBit SYS.START_STS.ENT_READY (cluster / 8) false)))

/-- A packet that runs. CONN_CREATE checks its fields in the order of the text, BAD_TARGET for a CLUSTER code against the table; a connection number in use answers its state, no room or no cluster NO_ROOM, a dry sealed port its code; else it binds the connection in the shadow tables and makes it PENDING, on the named cluster or the least loaded one of its first path's quadrant (R170, R172). CONN_DESTROY of one that a queue pair or triggered entry uses is REFUSED_STATE; else it makes it DRAINING, or leaves it LOST, with its waiting packets discarded (R174). PATH_SET puts a path set into the shadow tables (R170). CONN_STATUS (zeros for an unused number), CONN_CTX_READ (free bytes, log entry 2) and PORT_STATUS answer. PORT_ADDR sets or removes one local address; EXC_RING sets the exception rings and starts them at entry 0 (R166, R167). TRIG_ALLOC makes a tag with counter 0, TRIG_POST adds an entry with a fresh handle and carries it out if it is due already, TRIG_FREE removes the tag, TRIG_STATUS answers its counter and its entries (R187, R188). Each names the status and DETAIL of every refusal. -/
def Obligations.ConnectionCommands : Prop :=
  (∀ (z : State) (p : Packet) (s : State), (Runs z p 0x0801) → (s = z.begun p) → exec (.connCreate p) z = .next (State.settle (
    let id := p.u32 0; let n := p.u8 9; let flags := p.u8 11
    let es := (List.range n).map (fun i => pathAt p (64 + 32 * i))
    let named := s.clusterAt (p.u8 8)
    let quad := if p.u8 8 = 0 then none else named.map (· / 8)
    let room := fun cl => s.on VRM.SPILL_LO.EN || s.connCount cl < 2048
    let chosen := if p.u8 8 = 0 then
        leastOf s.connCount ((s.liveClusters ((es.headD default).port / 2)).filter (fun c => room c))
      else named
    if p.plen < 64 then s.answer p 0x0007 (64 + 32 * 16) []
    else if 2 ^ 20 ≤ id then s.answer p 0x000A 0 []
    else if 2 ^ 20 ≤ p.u32 4 then s.answer p 0x000A 4 []
    else if p.u8 8 ≠ 0 ∧ ¬ locOk (p.u8 8) then s.answer p 0x0005 0 []
    else if p.u8 8 ≠ 0 ∧ named.isNone then s.answer p 0x000A 8 []
    else if n = 0 ∨ 16 < n then s.answer p 0x000A 9 []
    else if p.plen ≠ 64 + 32 * n then s.answer p 0x0007 (64 + 32 * n) []
    else if p.u8 10 < 10 ∨ 13 < p.u8 10 then s.answer p 0x000A 10 []
    else if 8 ≤ flags then s.answer p 0x000A 11 []
    else if p.u16 20 < 64 ∨ 4096 < p.u16 20 then s.answer p 0x000A 20 []
    else if p.u16 22 ≠ 0 then s.answer p 0x000A 22 []
    else if bitAt flags 0 ∧ s.frk.isNone then s.answer p 0x000A 11 []
    else if ¬ bitAt flags 0 ∧ p.u32 24 ≠ 0 then s.answer p 0x000A 24 []
    else if bitAt flags 0 ∧ s.shadow.conns.any (fun b => bitAt b.flags 0 && b.label = p.u32 24) then s.answer p 0x000A 24 []
    else match (List.range 36).find? (fun i => p.u8 (28 + i) ≠ 0) with
    | some i => s.answer p 0x000A (28 + i) []
    | none =>
      match s.pathsBad p 64 n (bitAt flags 1) quad with
      | some (st, d) => s.answer p st d []
      | none =>
        match s.conn id with
        | some c => s.answer p 0x0801 c.state []
        | none =>
          if ¬ s.on VRM.SPILL_LO.EN ∧ 65536 ≤ s.shadow.conns.length then s.answer p 0x0802 0 [] else
          match chosen with
          | none => s.answer p 0x0802 0 []
          | some cl =>
            if ¬ room cl then s.answer p 0x0802 0 [] else
            match s.dryPort p es with
            | some d => s.answer p 0x0806 d []
            | none =>
              let b : ConnBind :=
                { id := id, peer := p.u32 4, cluster := cl, pmtu := 2 ^ p.u8 10, flags := flags, txPsn := p.u32 12,
                  rxPsn := p.u32 16, win := p.u16 20, label := p.u32 24, paths := es }
              let s := { s with shadow := { s.shadow with conns := s.shadow.conns ++ [b] } }
              ((s.setConn { newConn b s.aon with cached := decide (((s.vrm.conns.filter Conn.cached).filter (fun c =>
                  s.shadow.conns.any (fun x => x.id = c.id ∧ x.cluster = cl))).length < 2048) }).answer p 0 0 [])))) ∧
  (∀ (z : State) (p : Packet) (s : State), (Runs z p 0x0802) → (s = z.begun p) → exec (.connDestroy p) z = .next (State.settle (
    let id := p.u32 0
    match s.conn id with
    | none => s.answer p 0x000A 0 []
    | some c =>
      let used := (s.act.qps ++ s.shadow.qps).any (fun b => b.location ≠ 0 && b.conn = id) ||
        s.vrm.tags.any (fun t => t.entries.any (fun e => e.conn = id))
      if used then s.answer p 0x000F 3 []
      else ((s.setConn { c with state := if c.state = 3 then 3 else 4, destroyAt := some s.aon, sendq := [] }).answer p 0 0 [])))) ∧
  (∀ (z : State) (p : Packet) (s : State), (Runs z p 0x0803) → (s = z.begun p) → exec (.connStatus p) z = .next (State.settle (
    match s.conn (p.u32 0) with
    | none => if 2 ^ 20 ≤ p.u32 0 then s.answer p 0x000A 0 [] else s.answer p 0 0 (List.replicate 20 0)
    | some c =>
      let up := ((c.paths.filter (fun x => x.sets.contains c.pathSet && x.up)).map (fun x => 2 ^ x.wire)).sum
      s.answer p 0 0 (leBytes 1 c.state ++ leBytes 2 up ++ [0] ++ leBytes 4 c.txPsn ++ leBytes 4 c.rxCum ++ leBytes 4 c.retrans ++
        leBytes 4 c.unacked.length)))) ∧
  (∀ (z : State) (p : Packet) (s : State), (Runs z p 0x0804) → (s = z.begun p) → exec (.pathSet p) z = .next (State.settle (
    let id := p.u32 0; let n := p.u8 4
    match s.shadow.conns.find? (fun b => b.id = id) with
    | none => s.answer p 0x000A 0 []
    | some b =>
      if n = 0 ∨ 16 < n then s.answer p 0x000A 4 []
      else if fieldAt p.params 5 3 ≠ 0 then s.answer p 0x000A 5 []
      else if p.plen ≠ 8 + 32 * n then s.answer p 0x0007 (8 + 32 * n) []
      else match s.pathsBad p 8 n (bitAt b.flags 1) (some (b.cluster / 8)) with
      | some (st, d) => s.answer p st d []
      | none =>
        let es := (List.range n).map (fun i => pathAt p (8 + 32 * i))
        match s.dryPort p es with
        | some d => s.answer p 0x0806 d []
        | none => (({ s with shadow := { s.shadow with conns := s.shadow.conns.map (fun x =>
            if x.id = id then { x with paths := es } else x) } } : State).answer p 0 0 [])))) ∧
  (∀ (z : State) (p : Packet) (s : State), (Runs z p 0x0805) → (s = z.begun p) → exec (.portAddr p) z = .next (State.settle (
    let port := p.u8 0; let i := p.u8 1; let f := p.u8 2
    if 7 < port then s.answer p 0x000A 0 []
    else if ¬ s.portEnabled port then s.answer p 0x0004 port []
    else if 7 < i then s.answer p 0x000A 1 []
    else if 4 ≤ f then s.answer p 0x000A 2 []
    else if p.u8 3 ≠ 0 then s.answer p 0x000A 3 []
    else
      let x := s.port port
      let rest := x.addrs.filter (fun a => a.1 ≠ i)
      let a := (i, bitAt f 1, if bitAt f 1 then fieldAt p.params 4 16 else fieldAt p.params 4 4)
      ((s.setPort port { x with addrs := if bitAt f 0 then a :: rest else rest }).answer p 0 0 [])))) ∧
  (∀ (z : State) (p : Packet) (s : State), (Runs z p 0x0806) → (s = z.begun p) → exec (.excRing p) z = .next (State.settle (
    let port := p.u8 0
    if 7 < port then s.answer p 0x000A 0 []
    else if ¬ s.portEnabled port then s.answer p 0x0004 port []
    else if fieldAt p.params 1 3 ≠ 0 then s.answer p 0x000A 1 []
    else if p.u64 4 % 4096 ≠ 0 then s.answer p 0x000A 4 []
    else if p.u64 12 % 4096 ≠ 0 then s.answer p 0x000A 12 []
    else if p.u8 20 < 4 ∨ 10 < p.u8 20 then s.answer p 0x000A 20 []
    else if fieldAt p.params 21 3 ≠ 0 then s.answer p 0x000A 21 []
    else ((s.setPort port { s.port port with exc := some (p.u64 4, p.u64 12, p.u8 20), rxIdx := 0, txIdx := 0 }).answer p 0 0 [])))) ∧
  (∀ (z : State) (p : Packet) (s : State), (Runs z p 0x0820) → (s = z.begun p) → exec (.portStatus p) z = .next (State.settle (
    let port := p.u8 0; let x := s.port port
    if 7 < port then s.answer p 0x000A 0 []
    else if ¬ s.portEnabled port then s.answer p 0x0004 port []
    else if fieldAt p.params 1 3 ≠ 0 then s.answer p 0x000A 1 []
    else s.answer p 0 0 (leBytes 4 (s.word (0x60044 + 8 * port)) ++ leBytes 8 x.framesIn ++ leBytes 8 x.framesOut ++
      leBytes 8 x.fecCorr ++ leBytes 8 x.fecUncorr)))) ∧
  (∀ (z : State) (p : Packet) (s : State), (Runs z p 0x8830) → (s = z.begun p) → exec (.connCtxRead p) z = .next (State.settle (
    match s.conn (p.u32 0) with
    | none => s.answer p 0x000A 0 []
    | some _ =>
      let (bs, s) := s.freeBytes 256
      ((s).answer p 0 0 bs)))) ∧
  (∀ (z : State) (p : Packet) (s : State), (Runs z p 0x0810) → (s = z.begun p) → exec (.trigAlloc p) z = .next (State.settle (
    match s.clusterAt (p.u8 4) with
    | none => if locOk (p.u8 4) then s.answer p 0x000A 4 [] else s.answer p 0x0005 0 []
    | some cl =>
      if fieldAt p.params 5 3 ≠ 0 then s.answer p 0x000A 5 []
      else if (s.tagOf (p.u32 0)).isSome then s.answer p 0x000A 0 []
      else if 65536 ≤ s.vrm.tags.length then s.answer p 0x0804 0 []
      else (({ s with vrm := { s.vrm with tags := s.vrm.tags ++ [{ tag := p.u32 0, cluster := cl }] } } : State).answer p 0 0 [])))) ∧
  (∀ (z : State) (p : Packet) (s : State), (Runs z p 0x0811) → (s = z.begun p) → exec (.trigPost p) z = .next (State.settle (
    let total := (s.vrm.tags.map (fun t => t.entries.length)).sum
    if p.plen ≠ 48 then s.answer p 0x0007 48 [] else
    match s.tagOf (p.u32 0) with
    | none => s.answer p 0x0805 0 []
    | some t =>
      let own := ((s.vrm.tags.filter (fun x => x.cluster = t.cluster)).map (fun x => x.entries.length)).sum
      if (s.conn (p.u32 8)).isNone then s.answer p 0x000A 8 []
      else if p.u8 12 < 1 ∨ 3 < p.u8 12 then s.answer p 0x000A 12 []
      else if 4 ≤ p.u8 13 then s.answer p 0x000A 13 []
      else if p.u16 14 ≠ 0 then s.answer p 0x000A 14 []
      else if p.u8 12 ≠ 3 ∧ ¬ s.vrm.keys.any (fun k => k.handle = p.u64 16) then s.answer p 0x000A 16 []
      else if p.u8 12 = 3 ∧ p.u32 36 ≠ 0 then s.answer p 0x000A 36 []
      else if 131072 ≤ total ∨ 4096 ≤ own then s.answer p 0x0804 0 []
      else
        let (f, s) := s.draw
        let h := freshNat (f % 2 ^ 32) (s.vrm.tags.flatMap (fun t => t.entries.map TrigEntry.handle))
        let e : TrigEntry :=
          { handle := h, thresh := p.u32 4, conn := p.u32 8, action := p.u8 12, aflags := p.u8 13, localH := p.u64 16,
            remote := p.u64 24, rkey := p.u32 32, len := p.u32 36, rtag := p.u32 40, step := p.u32 44 }
        (((s.setTag { t with entries := t.entries ++ [e] }).fireDue t.tag e).answer p 0 0 (leBytes 4 h))))) ∧
  (∀ (z : State) (p : Packet) (s : State), (Runs z p 0x0812) → (s = z.begun p) → exec (.trigFree p) z = .next (State.settle (
    if (s.tagOf (p.u32 0)).isNone then s.answer p 0x0805 0 []
    else (({ s with vrm := { s.vrm with tags := s.vrm.tags.filter (fun t => t.tag ≠ p.u32 0) } } : State).answer p 0 0 [])))) ∧
  (∀ (z : State) (p : Packet) (s : State), (Runs z p 0x0813) → (s = z.begun p) → exec (.trigStatus p) z = .next (State.settle (
    match s.tagOf (p.u32 0) with
    | none => s.answer p 0x0805 0 []
    | some t => s.answer p 0 0 (leBytes 4 t.counter ++ leBytes 2 t.entries.length ++ leBytes 2 t.fired))))

/-- A frame on an UP sub-port counts, with the corrections of its FEC. A MAC control frame, one that lower layers drop, one above the port's MTU or not for its address is dropped; one that is no VRM packet for a local address goes to the exception ring (R167); a VRM packet with a bad VCRC is counted MISROUTE, one of a reserved type or with a length its type does not have dropped, one without room counted NOBUF; any other waits in the ingress buffer, with a PFC pause once the buffer passes its threshold (R166, R168, R176). The pause is released 1 MiB below the threshold. A received pause stops its sub-port, and its release sends what waited (R168). A sub-port comes UP on an enabled port of a serving quadrant of a head from S2 on that is not dead, and lets waiting packets go; it goes down with its pause cleared and what waited behind it lost (R73, R169). Transmit ring entries are read upstream in order (R167). A context that has been brought in is cached, in place of the least recently used when the cluster is full (R171). Everything else changes nothing. -/
def Obligations.PortAndContextEvents : Prop :=
  (∀ (s : State) (port sub : Nat) (f : Frame), (port < 8) → (sub < 4) → exec (.frameReceive port sub f) s = .next (State.settle (
    let raw := f.bytes.drop f.udpAt
    if ¬ s.bit (VRM.PORTp_STS.UP port) sub ∨ s.intakeStopped then s else
      let x := s.port port
      let s := s.setPort port { x with
        framesIn := x.framesIn + 1, fecCorr := x.fecCorr + f.fecCorr, fecUncorr := x.fecUncorr + f.fecUncorr }
      let x := s.port port
      if f.macControl ∨ f.dropped ∨ s.mtu port < f.len ∨ ¬ f.toMe then s
      else if ¬ s.frameIsVrm port f then s.toException port sub f
      else if ¬ vcrcGood raw then s.count VRM.DROP2.MISROUTE 1
      else if (VrmPkt.ofBytes raw).op = 0 ∨ 8 ≤ (VrmPkt.ofBytes raw).op ∨ ¬ (VrmPkt.ofBytes raw).lenFits then s
      else if 8 * 2 ^ 20 < x.fill + f.len then s.count VRM.DROP.NOBUF 1
      else
        let g : Ingress :=
          { raw := raw, sub := sub, srcMac := f.srcMac, vlan := f.vlan, ipv6 := f.ipv6, srcIp := f.srcIp, dstIp := f.dstIp
            sport := f.sport, size := f.len, ce := f.ce }
        let x := { x with ingress := x.ingress ++ [g] }
        let pause := s.on (VRM.PORTp_CFG.PFC_EN port) && decide (s.xoff port < x.fill) && !x.pfcSent
        (s.setPort port { x with pfcSent := x.pfcSent || pause }).iff pause (·.emit (.pfc port true))))) ∧
  (∀ (s : State) (port : Nat), (port < 8) → exec (.pfcRelease port) s = .next (State.settle (
    let x := s.port port
    if x.pfcSent ∧ x.fill + 2 ^ 20 < s.xoff port then
      (s.setPort port { x with pfcSent := false }).emit (.pfc port false) else s))) ∧
  (∀ (s : State) (port sub : Nat) (pause : Bool), (port < 8) → (sub < 4) → exec (.pfcPauseReceive port sub pause) s = .next (State.settle (
    if s.on (VRM.PORTp_CFG.PFC_EN port) ∧ s.bit (VRM.PORTp_STS.UP port) sub then
        let s := s.putBit (VRM.PORTp_STS.PAUSED port) sub pause
        if pause then s else (s.unstall port sub).kickAll
      else s))) ∧
  (∀ (s : State) (port sub : Nat), (port < 8) → (sub < 4) → exec (.subPortUp port sub) s = .next (State.settle (
    let ok := s.portEnabled port && s.on (VRM.PORTp_CFG.EN port) && sub < subPorts (s.get (VRM.PORTp_CFG.MODE port)) &&
      3 ≤ s.start.reached && s.quadServes (port / 2) && !s.bit SYS.START_STS.Q_DOWN (port / 2) && !s.on SYS.START_STS.DEAD
    if ok then
        (s.putBit (VRM.PORTp_STS.UP port) sub true).kickAll
      else s))) ∧
  (∀ (s : State) (port sub : Nat), (port < 8) → (sub < 4) → exec (.subPortDown port sub) s = .next (State.settle (
    let x := s.port port
    ((s.setPort port { x with stalled := x.stalled.filter (fun y => y.1 ≠ sub) }).putBit
      (VRM.PORTp_STS.UP port) sub false).putBit (VRM.PORTp_STS.PAUSED port) sub false))) ∧
  (∀ (s : State) (port count : Nat), (port < 8) → (count ≤ 1024) → exec (.transmitRingPost port count) s = .next (State.settle (
    match (s.port port).exc with
      | none => s
      | some (_, tx, log2) =>
        (List.range count).foldl (fun (s : State) _ =>
          let x := s.port port
          (s.setPort port { x with txIdx := (x.txIdx + 1) % 2 ^ log2 }).upRead 6 port 0 (tx + 16 * x.txIdx) 16) s))) ∧
  (∀ (s : State) (conn : Nat), exec (.connContextFetch conn) s = .next (State.settle (
    match s.conn conn, s.connBind conn, s.pci.reads.find? (fun r => r.kind = 4 ∧ r.id = conn ∧ r.arrived) with
      | some c, some b, some r => (s.dropRead r.tag).cacheConn c b.cluster
      | _, _, _ => s)))

/-- A row whose packet is not in the buffer changes nothing. A packet for no connection here is answered with CONN_UNKNOWN. One whose connection, quadrant, length, context, cluster, seal or stamp does not pass is dropped, counted or left waiting as the first failing check says (R171, R175, R178). One that passes is heard. A sequenced packet (WRITE, READ_REQ, READ_RESP, SEND) that is old or already received is acknowledged again, one beyond the window only heard (R179); one new and in its window acts: a WRITE under a good key is placed and counts as received, a FENCE write is held until the rest of its transfer is placed (R177, R184); a READ_REQ of 1 byte to 16 MiB under a good key sends the region's bytes back in packets; a READ_RESP of a pull places its bytes; a DOORBELL of a client queue pair of the connection sets its CQ head and SQ tail, or is counted as ignored (R186); a TRIGGER counts its tag or is held (R188); each refused one is NAKed with its code and counts as received. A held FENCE whose transfer is placed takes its effect. A PROBE is acknowledged on its path. An ACK takes the packets it covers off, grows their paths' windows, ends a PROBE and lets waiting packets and notices go (R180 to R183); a NAK of kind 5 loses the connection (R175), another takes the packet named off and ends what it belongs to (R190). -/
def Obligations.PacketReception : Prop :=
  (∀ (s : State) (i : Instr) (port idx : Nat), (port < 8) → (i ∈ [Instr.writePacket port idx, .readReq port idx, .readResp port idx, .doorbell port idx, .trigger port idx, .ack port idx, .nak port idx, .probe port idx]) → (∀ g, (s.port port).ingress[idx]? = some g → ¬ ReceivesBy i port idx g.pkt) → exec i s = .next s.settle) ∧
  (∀ (s : State) (i : Instr) (port idx : Nat) (g : Ingress), (port < 8) → ((s.port port).ingress[idx]? = some g) → (ReceivesBy i port idx g.pkt) → (s.conn g.pkt.dconn = none ∨ s.connBind g.pkt.dconn = none) → exec i s = .next ((s.dropIngress port idx).nakUnknown port g).settle) ∧
  (∀ (s : State) (i : Instr) (port idx : Nat) (g : Ingress) (c : Conn) (b : ConnBind), (port < 8) → ((s.port port).ingress[idx]? = some g) → (ReceivesBy i port idx g.pkt) → (s.conn g.pkt.dconn = some c) → (s.connBind g.pkt.dconn = some b) → (∀ p l, ¬ Arrives s port idx g.pkt.op g c b p l) → exec i s = .next (s.unheard port idx g c b).settle) ∧
  (∀ (s : State) (i : Instr) (port idx : Nat) (g : Ingress) (c : Conn) (b : ConnBind) (p : VrmPkt) (l : Nat), (Arrives s port idx g.pkt.op g c b p l) → (ReceivesBy i port idx g.pkt) → (g.pkt.op ≤ 4) → (¬ InWindow c b p) → exec i s = .next (if 2 ^ 31 ≤ (p.psn + 2 ^ 32 - c.rxCum) % 2 ^ 32 ∨ c.ooo.contains p.psn then (s.heardPacket port idx g p c l).sendAck c.id p.path else s.heardPacket port idx g p c l).settle) ∧
  (∀ (s : State) (port idx : Nat) (g : Ingress) (c : Conn) (b : ConnBind) (p : VrmPkt) (l : Nat) (u : State), (Arrives s port idx 1 g c b p l) → (InWindow c b p) → (u = s.heardPacket port idx g p c l) → exec (.writePacket port idx) s = .next (State.settle ((match u.keyBad p.key p.addr p.len with | some code => u.nakSeq c.id p code | none => if bitAt p.flags 2 then u.holdFence c.id p else ((u.place p).countPlaced c.id p.xfer p.psn).markRx c.id p false)))) ∧
  (∀ (s : State) (conn xfer : Nat), exec (.fencePlace conn xfer) s = .next (State.settle (
    match s.conn conn with
      | none => s
      | some c =>
        match c.fences.find? (fun p => p.xfer = xfer) with
        | none => s
        | some p =>
          if (c.placed.filter (fun x => x.1 = xfer)).length + 1 < p.xcnt then s else
          let s := s.setConn { c with fences := c.fences.filter (fun x => x.psn ≠ p.psn), placed := dropPlaced xfer (p.xcnt - 1) c.placed }
          if p.op = 1 then ((s.place p).markRx conn p true).slotPlaced conn p.addr p.len
          else if (s.tagOf p.tag).isSome then (s.markRx conn p true).countTrigger p.tag
          else (s.setB VRM.STS.TRIG_MISS).nakSeq conn p 4))) ∧
  (∀ (s : State) (port idx : Nat) (g : Ingress) (c : Conn) (b : ConnBind) (p : VrmPkt) (l : Nat) (u : State) (cuts : List (Nat × List Byte)), (Arrives s port idx 2 g c b p l) → (InWindow c b p) → (u = s.heardPacket port idx g p c l) → (cuts = cutBytes b.pmtu (u.vrm.land.reads p.addr p.len)) → exec (.readReq port idx) s = .next (State.settle (if p.len = 0 ∨ 2 ^ 24 < p.len then u.nakSeq c.id p 2 else (match u.keyBad p.key p.addr p.len with | some code => u.nakSeq c.id p code | none => (u.markRx c.id p false).vrmSend c.id (cuts.mapIdx (fun i x => ({ op := 3, flags := xferFlags i cuts.length, dconn := 0, xfer := p.xfer, len := x.2.length, addr := x.1, payload := x.2 } : VrmPkt))))))) ∧
  (∀ (s : State) (port idx : Nat) (g : Ingress) (c : Conn) (b : ConnBind) (p : VrmPkt) (l : Nat) (u : State) (k : Conn), (Arrives s port idx 3 g c b p l) → (InWindow c b p) → (u = s.heardPacket port idx g p c l) → (k = s.heardConn g p c l) → exec (.readResp port idx) s = .next (State.settle ((match c.pulls.find? (fun x => x.xfer = p.xfer ∧ x.placed < x.len) with | none => u.nakSeq c.id p 3 | some x => if x.len < p.addr + p.len then u.nakSeq c.id p 2 else (let y : Pull := { x with placed := x.placed + p.len, data := if x.kind = 8 ∨ x.kind = 9 then [] else x.data.writes p.addr (p.payload.take p.len) }; let t := u.setConn { k with pulls := k.pulls.flatMap (fun z => if z.xfer = x.xfer then (if (decide (x.len ≤ x.placed + p.len) && (x.kind = 8 || x.kind = 9)) = true then [] else [y]) else [z]) }; State.markRx (if x.dest = 0 then t else { t with vrm := { t.vrm with land := t.vrm.land.writes (x.dest + p.addr) (p.payload.take p.len) } }) c.id p false))))) ∧
  (∀ (s : State) (port idx : Nat) (g : Ingress) (c : Conn) (b : ConnBind) (p : VrmPkt) (l : Nat) (u : State), (Arrives s port idx 4 g c b p l) → (InWindow c b p) → (u = s.heardPacket port idx g p c l) → (g.pkt.kind ≠ 3) → exec (.doorbell port idx) s = .next (State.settle ((match u.qpBindNew p.tag with | some x => if p.kind = 1 ∧ x.location ≠ 0 ∧ x.conn = c.id then (let t := u.markRx c.id p false; if (t.qp x.qpid).takesDoorbell then (t.ringCq x.qpid (p.arg / 2 ^ 16)).ringSq x.qpid (p.arg % 2 ^ 16) else t.setQp { t.qp x.qpid with ignored := (t.qp x.qpid).ignored + 1 }) else u.nakSeq c.id p 3 | none => u.nakSeq c.id p 3)))) ∧
  (∀ (s : State) (port idx : Nat) (g : Ingress) (c : Conn) (b : ConnBind) (p : VrmPkt) (l : Nat) (u : State), (Arrives s port idx 4 g c b p l) → (InWindow c b p) → (u = s.heardPacket port idx g p c l) → (g.pkt.kind = 3) → exec (.trigger port idx) s = .next (State.settle (if bitAt p.flags 2 then u.holdFence c.id p else if (u.tagOf p.tag).isNone then (u.setB VRM.STS.TRIG_MISS).nakSeq c.id p 4 else (u.markRx c.id p false).countTrigger p.tag))) ∧
  (∀ (s : State) (port idx : Nat) (g : Ingress) (c : Conn) (b : ConnBind) (p : VrmPkt) (l : Nat) (u : State), (Arrives s port idx 7 g c b p l) → (u = s.heardPacket port idx g p c l) → exec (.probe port idx) s = .next (State.settle (u.sendAck c.id p.path))) ∧
  (∀ (s : State) (port idx : Nat) (g : Ingress) (c : Conn) (b : ConnBind) (p : VrmPkt) (l : Nat) (u : State) (k : Conn), (Arrives s port idx 5 g c b p l) → (u = s.heardPacket port idx g p c l) → (k = s.heardConn g p c l) → exec (.ack port idx) s = .next (State.settle (
    let s := u
    let c := k
    let ece := bitAt p.flags 5
    let isAcked := fun (u : Unacked) => decide (u.pkt.psn ≠ p.psn) && !psnLater u.pkt.psn p.psn || sackMarks p.psn p.payload u.pkt.psn
    let acked := c.unacked.filter isAcked
    let bytesOn : Nat → Nat := fun i => ((acked.filter (fun u => u.path = i)).map (fun u => max 1 u.pkt.payload.length)).sum
    let newestOn : Nat → Nat := fun i => ((acked.filter (fun u => u.path = i)).map (fun u => u.order + 1)).foldl max 0
    let paths := c.paths.mapIdx (fun i x =>
      let x := if bytesOn i = 0 then x else x.onAck b.pmtu s.aon (bytesOn i) ece
      if i ≠ c.pathNamed p.path then x else
      let x := x.onSample ((s.stamp + 2 ^ 40 - p.addr % 2 ^ 40) % 2 ^ 40)
      if x.probeOut then { x with probeOut := false, unanswered := 0, timeouts := 0, up := true } else { x with unanswered := 0 })
    let unacked := (c.unacked.filter (fun u => ¬ isAcked u)).map (fun u =>
      if u.laterAcked.isNone && decide (u.order + 1 < newestOn u.path) then { u with laterAcked := some s.aon } else u)
    let cq := c.cqWrites.filter (fun w => ¬ acked.any (fun u => u.pkt.psn = w.2))
    ((s.setConn ({ c with paths := paths, unacked := unacked, cqWrites := cq } : Conn).prune).kick c.id).sendNotices c.id))) ∧
  (∀ (s : State) (port idx : Nat) (g : Ingress) (c : Conn) (b : ConnBind) (p : VrmPkt) (l : Nat) (u : State) (k : Conn), (Arrives s port idx 6 g c b p l) → (u = s.heardPacket port idx g p c l) → (k = s.heardConn g p c l) → exec (.nak port idx) s = .next (State.settle (
    let s := u
    let c := k
    if p.kind = 5 then s.loseConn c.id else
    match c.unacked.find? (fun u => u.pkt.psn = p.psn) with
    | none => s
    | some u =>
      let c := { c with unacked := c.unacked.filter (fun x => x.pkt.psn ≠ u.pkt.psn) }
      let s := s.setConn c
      if u.pkt.op = 1 then s.nakWrite c u
      else if u.pkt.op = 2 then
        match c.pulls.find? (fun x => x.xfer = u.pkt.xfer) with
        | none => s
        | some pl =>
          let s := s.setConn { c with pulls := c.pulls.filter (fun x => x.xfer ≠ pl.xfer) }
          if pl.kind = 1 then (if (s.qp pl.id).state = 2 then s.qpFault pl.id 1 3 else s)
          else if pl.kind = 2 then s.endPull pl.id pl.ref
          else if pl.kind = 7 then s.failInband pl.id pl.ref
          else s
      else s)))

/-- Time passes to the event's due time. The acknowledgement timer acknowledges on the path last heard (R180). The reordering time of a packet that later ones have overtaken retransmits it (R181). A retransmission timeout of a path's first packet not yet lost sets the path's window to one packet and counts; the third in a row takes the path down; the packet is sent again (R181, R183). Keepalive probes an idle path that is up, and the third unanswered one takes it down; a path that is down is probed every 100 ms. An OPEN connection with every path down for LOSS_MS is lost (R182); a DRAINING one that has drained so long closes at the next commit (R174). Where no such connection, packet or path is there, nothing changes. -/
def Obligations.ConnectionTimers : Prop :=
  (∀ (s : State) (conn : Nat), exec (.ackTimer conn) s = .next (State.settle (
    match s.conn conn with
      | some c =>
        match c.ackSince with
        | some t => (s.passTo (t + max 1 (s.get VRM.CFG.ACK_US) * Config.us)).sendAck conn
            ((c.paths.findIdx? (fun p => p.lastUse = c.lastRx)).getD 0)
        | none => s
      | none => s))) ∧
  (∀ (s : State) (conn psn : Nat), exec (.reorderTimeout conn psn) s = .next (State.settle (
    match s.conn conn with
      | none => s
      | some c =>
        match (c.unacked.find? (fun u => u.pkt.psn = psn)).bind Unacked.laterAcked with
        | none => s
        | some t => (s.passTo (t + max 1 (s.get VRM.CFG.REORDER_US) * Config.us)).retransmit conn psn))) ∧
  (∀ (s : State) (conn path : Nat), exec (.retransmitTimeout conn path) s = .next (State.settle (
    match s.conn conn, s.connBind conn with
      | some c, some b =>
        match c.unacked.find? (fun u => u.path = path && !u.lost), c.paths[path]? with
        | some u, some x =>
          let s := s.passTo (u.sentAt + x.rto)
          let n := x.timeouts + 1
          let c := { c with paths := c.paths.mapIdx (fun j y => if j = path then { y with cwnd := b.pmtu, timeouts := n } else y) }
          let s := (s.setConn c).iff (3 ≤ n) (·.pathDown conn path)
          s.retransmit conn u.pkt.psn
        | _, _ => s
      | _, _ => s))) ∧
  (∀ (s : State) (conn path : Nat), exec (.keepalive conn path) s = .next (State.settle (
    match s.conn conn with
      | none => s
      | some c =>
        match c.paths[path]? with
        | none => s
        | some x =>
          if ¬ x.up ∨ (c.state ≠ 2 ∧ c.state ≠ 4) then s else
          let s := s.passTo (x.lastUse + s.keepaliveNs)
          let n := if x.probeOut then x.unanswered + 1 else 0
          let s := s.setConn { c with paths := c.paths.mapIdx (fun j y => if j = path then { y with unanswered := n } else y) }
          if 3 ≤ n then s.pathDown conn path else s.sendProbe conn path))) ∧
  (∀ (s : State) (conn path : Nat), exec (.downPathProbe conn path) s = .next (State.settle (
    match s.conn conn with
      | none => s
      | some c =>
        match c.paths[path]? with
        | none => s
        | some x =>
          if x.up ∨ (c.state ≠ 2 ∧ c.state ≠ 4) then s
          else (s.passTo (x.probeAt + 100 * Config.ms)).sendProbe conn path))) ∧
  (∀ (s : State) (conn : Nat), exec (.connectionLost conn) s = .next (State.settle (
    match s.conn conn with
      | none => s
      | some c =>
        if c.state ≠ 2 ∨ c.paths.any Path.up then s
        else (s.passTo (c.lastRx + s.lossNs)).loseConn conn))) ∧
  (∀ (s : State) (conn : Nat), exec (.drainingTimeout conn) s = .next (State.settle (
    match s.conn conn with
      | none => s
      | some c =>
        match c.destroyAt with
        | some t => if c.state = 4 then (s.passTo (t + s.lossNs)).setConn { c with closeDue := true } else s
        | none => s)))

/-- On an UP link a flit of 128 bytes that is in order with a good FCRC is taken, releases what it acknowledges, a TYPE 4 one asking for a replay, and the 64th since returns ACKSEQ; another flit is discarded with a NAK (R231, R232). The ACKSEQ timer returns it after 1 µs. A window of an active lane counts its errors; one that passes its threshold begins sparing, and the lane is checked; so is one that loses lock (R233, R234). A trained spare may switch; one that fails is out and its lane checked; the switch gives its flit slot to the spare lane, which a record notes on a flash link. The spare test, every TEST_DAYS days, takes out the spares that fail (R235). From S2 an enabled link of a living head that trains is fenced and UP, at one lane or two, with the module its IDENT names known, or stays down where its geometry is bad; three failed trainings take it down (R237, R240). LINK_STATUS, MODULE_IDENT, LANE_SPARE and BRIDGE_RAW answer NOT_PRESENT for a link fused off and act on an UP one; BRIDGE_RAW's reply waits for its completion. A completion ends the bridge command of its tag. Elsewhere nothing changes. -/
def Obligations.FlashLinksAndLanes : Prop :=
  (∀ (s : State) (link : LinkRef) (word0 word1 : Nat) (payload : List Byte) (fcrc : Nat), (link.ok = true) → (word0 < 2 ^ 16) → (word1 < 2 ^ 16) → (payload.length = 120) → (fcrc < 2 ^ 32) → exec (.flitReceive link word0 word1 payload fcrc) s = .next (State.settle (
    let k := link.idx
    let x := s.flink k
    let bytes := leBytes 2 word0 ++ leBytes 2 word1 ++ payload ++ leBytes 4 fcrc
    if ¬ s.refUp link then s
      else if ¬ flitGood bytes ∨ flitSeq bytes ≠ x.rxSeq then s.sendFlit k 4
      else
        let s := s.setFlink k ({ x with rxSeq := (x.rxSeq + 1) % 1024, rxSince := x.rxSince + 1 }.ack (flitAck bytes))
        let s := if flitTyp bytes = 4 then (s.replay link).retrainStuck link else s
        if 64 ≤ (s.flink k).rxSince then s.sendFlit k 0 else s))) ∧
  (∀ (s : State) (link : LinkRef), (link.ok = true) → exec (.ackseqTimer link) s = .next (State.settle (
    if ¬ s.refUp link then s else
      let s := s.passTo ((s.flink link.idx).ackAt + Config.us)
      (s.sendFlit link.idx 0).retrainStuck link))) ∧
  (∀ (s : State) (link : LinkRef) (slot uncorr corr symbols : Nat), (link.ok = true) → exec (.laneErrorWindow link slot uncorr corr symbols) s = .next (State.settle (
    if ¬ s.refUp link ∨ ¬ s.slotActive link slot then s else
      let s := match link with
        | .flash k => (s.count (FLK.LINKk_CORR.COUNT k) corr).count (FLK.LINKk_UNCORR.COUNT k) uncorr
        | .nerryn => s
      let (thr, ser) := s.laneThr link
      let s := s.noteLane link slot uncorr
      let s := if thr ≤ uncorr ∨ symbols < corr * 2 ^ ser then s.startSparing link slot else s
      s.checkLane link slot))) ∧
  (∀ (s : State) (link : LinkRef) (slot : Nat), (link.ok = true) → exec (.laneLossOfLock link slot) s = .next (State.settle (
    if ¬ s.refUp link ∨ ¬ s.slotActive link slot then s
      else (s.noteLane link slot (2 ^ 32)).checkLane link slot))) ∧
  (∀ (s : State) (link : LinkRef) (ok : Bool), (link.ok = true) → exec (.spareLaneTrained link ok) s = .next (State.settle (
    match link with
      | .flash k =>
        let x := s.flink k
        match x.swapSlot with
        | none => s
        | some slot =>
          if x.switchReady then s
          else if ok then s.setFlink k { x with switchReady := true }
          else ((s.put (FLK.LINKk_STS.SPARE k) 3).setFlink k { x with swapSlot := none }).checkLane link slot
      | .nerryn =>
        match s.pair.swap with
        | none => s
        | some (slot, lane, ready) =>
          if ready then s
          else if ok then s.setPair fun p => { p with swap := some (slot, lane, true) }
          else
            let s := s.setPair fun p => { p with swap := none, spares := p.spares.filter (· ≠ lane) }
            ((s.putBit NRN.LANE_STS.FAILED lane true).nrnLane lane).checkLane link slot))) ∧
  (∀ (s : State) (link : LinkRef), (link.ok = true) → exec (.laneSwitch link) s = .next (State.settle (
    match link with
      | .flash k =>
        let x := s.flink k
        match x.swapSlot with
        | none => s
        | some slot =>
          if ¬ x.switchReady then s else
          let f := if slot = 0 then FLK.LINKk_STS.LANE0 k else FLK.LINKk_STS.LANE1 k
          let old := s.get f
          let s := s.setFlink k { x with swapSlot := none, switchReady := false, winUncorr := x.winUncorr.filter (fun w => w.1 ≠ slot) }
          let s := ((s.put f (s.get (FLK.LINKk_STS.DARK k))).put (FLK.LINKk_STS.DARK k) old).put (FLK.LINKk_STS.SPARE k) 2
          s.record 0x0C01 0 k 0 []
      | .nerryn =>
        match s.pair.swap with
        | none => s
        | some (slot, lane, ready) =>
          if ¬ ready then s else
          let old := s.pair.slots.getD slot 0
          let x := s.flink 48
          let s := (s.setFlink 48 { x with winUncorr := x.winUncorr.filter (fun w => w.1 ≠ slot) }).setPair fun p => { p with
            swap := none, slots := p.slots.set slot lane, spares := p.spares.filter (· ≠ lane) }
          (s.putBit NRN.LANE_STS.FAILED old true).nrnLane old))) ∧
  (∀ (s : State) (link : LinkRef) (failed : List Nat), (link.ok = true) → exec (.spareLaneTest link failed) s = .next (State.settle (
    let x := s.flink link.idx
      let due := x.testedAt + max 1 (s.get FLK.CFG.TEST_DAYS) * Config.day
      match link with
      | .flash k =>
        if ¬ s.refUp link ∨ s.get (FLK.LINKk_STS.SPARE k) ≠ 0 then s else
        let s := s.passTo (due + 100 * Config.ms)
        let s := s.setFlink k { x with testedAt := due }
        if failed.contains (s.get (FLK.LINKk_STS.DARK k)) then s.put (FLK.LINKk_STS.SPARE k) 3 else s
      | .nerryn =>
        if ¬ s.refUp link ∨ s.pair.swap.isSome then s else
        let s := s.passTo (due + 100 * Config.ms)
        let s := s.setFlink 48 { x with testedAt := due }
        let bad := s.pair.spares.filter failed.contains
        let s := s.setPair fun p => { p with spares := p.spares.filter (fun l => ¬ bad.contains l) }
        bad.foldl (fun (s : State) l => (s.putBit NRN.LANE_STS.FAILED l true).nrnLane l) s))) ∧
  (∀ (s : State) (link : Nat) (trained : Bool) (ident : Ident), (link < 48) → exec (.flashLinkUp link trained ident) s = .next (State.settle (
    if s.start.reached < 2 ∨ s.on SYS.START_STS.DEAD ∨ ¬ s.linkEnabled link ∨ 2 ≤ s.get (FLK.LINKk_STS.STATE link) then s else
      let x := s.flink link
      if ¬ trained then
        if x.retrains + 1 < 3 then s.setFlink link { x with retrains := x.retrains + 1 }
        else (s.setFlink link { x with retrains := 0 }).linkDown link
      else
        let up := if s.get (FLK.LINKk_STS.LANE1 link) = 3 then 3 else 2
        let s := s.setFlink link { x with retrains := 0, replays := 0, training := false }
        if x.training then (s.flashTo link up).replay (.flash link) else
        let s := (s.emit (.bridge link x.nextTag 6 [] [])).setFlink link { s.flink link with nextTag := (x.nextTag + 1) % 2 ^ 16 }
        if s.badGeom ident then (s.setB (FLK.LINKk_STS.BAD_GEOM link)).flashTo link 0 else
        let s := (s.clrB (FLK.LINKk_STS.BAD_GEOM link)).setFlink link { s.flink link with ident := some ident }
        let s := ((s.put (FLK.LINKk_STS.DIES link) ident.dies).setB (FLK.LINKk_STS.FENCED link)).flashTo link up
        let s := match s.module link with
          | some m => if m.ident.serial = ident.serial then s.setModule { m with ident := ident } else s.setModule (s.firstModule link ident)
          | none => s.setModule (s.firstModule link ident)
        s.joinComp (0x100 + link) ident.bridgeFw))) ∧
  (∀ (s : State) (link tag status : Nat) (data : List Byte), (link < 48) → (status ≤ 8) → exec (.bridgeCompletion link tag status data) s = .next (State.settle (
    match s.dp.brs.find? (fun c => c.link = link ∧ c.tag = tag) with
      | none => s
      | some c => (s.setDp fun d => { d with brs := d.brs.filter (· ≠ c) }).bridgeDone c status data))) ∧
  (∀ (z : State) (p : Packet) (s : State), (Runs z p 0x0C01) → (s = z.begun p) → exec (.linkStatus p) z = .next (State.settle (
    if 48 ≤ p.u8 0 then s.answer p 0x000A 0 [] else
    match (List.range 3).find? (fun i => p.u8 (1 + i) ≠ 0) with
    | some i => s.answer p 0x000A (1 + i) []
    | none => (
      if ¬ s.linkEnabled (p.u8 0) then s.answer p 0x0004 (p.u8 0) [] else
        let a := 0xA0100 + 0x10 * p.u8 0
        let (bs, s) := s.readRegs [a, a + 4, a + 8, a + 12]
        s.answer p 0 0 bs)))) ∧
  (∀ (z : State) (p : Packet) (s : State), (Runs z p 0x0C02) → (s = z.begun p) → exec (.moduleIdent p) z = .next (State.settle (
    if 48 ≤ p.u8 0 then s.answer p 0x000A 0 [] else
    match (List.range 3).find? (fun i => p.u8 (1 + i) ≠ 0) with
    | some i => s.answer p 0x000A (1 + i) []
    | none => (
      if ¬ s.linkEnabled (p.u8 0) then s.answer p 0x0004 (p.u8 0) [] else
        match s.linkUp (p.u8 0), (s.flink (p.u8 0)).ident with
          | true, some x => s.answer p 0 0 (slice x.raw 0 64)
          | _, _ => s.answer p 0x0C01 (p.u8 0) [])))) ∧
  (∀ (z : State) (p : Packet) (s : State), (Runs z p 0x8C10) → (s = z.begun p) → exec (.laneSpare p) z = .next (State.settle (
    let k := p.u8 0
    if 48 ≤ k then s.answer p 0x000A 0 []
    else if 2 ≤ p.u8 1 then s.answer p 0x000A 1 []
    else if p.u8 2 ≠ 0 then s.answer p 0x000A 2 []
    else if p.u8 3 ≠ 0 then s.answer p 0x000A 3 []
    else (
      if ¬ s.linkEnabled k then s.answer p 0x0004 k [] else
        if ¬ s.linkUp k then s.answer p 0x0C01 k []
          else if ¬ s.slotActive (.flash k) (p.u8 1) then s.answer p 0x000A 1 []
          else if s.get (FLK.LINKk_STS.SPARE k) ≠ 0 then s.answer p 0x0C02 k []
          else (s.startSparing (.flash k) (p.u8 1)).answer p 0 0 [])))) ∧
  (∀ (z : State) (p : Packet) (s : State), (Runs z p 0x8C11) → (s = z.begun p) → exec (.bridgeRaw p) z = .next (State.settle (
    let k := p.u8 0
    if 48 ≤ k then s.answer p 0x000A 0 [] else
    match (List.range 3).find? (fun i => p.u8 (1 + i) ≠ 0) with
    | some i => s.answer p 0x000A (1 + i) []
    | none => (
      if ¬ s.linkEnabled k then s.answer p 0x0004 k [] else
        if ¬ s.linkUp k then s.answer p 0x0C01 k [] else
        ((s.sendBridge k 0 [] (slice p.params 4 120) (.raw p)).promised p)))))

/-- A map page not in DRAM is loaded from S2 on: one from the host region once its read is here and its CRC-32C and header fit, else that copy is given up; one from the map store as it is (R251, R252). The log flush, 1 ms after the last one or at 4 MiB of log (a free choice: log entry 65), makes the record of every placed write durable (R253); a write that may commit takes effect in the map; the checkpoint stores the changed pages and keeps the list of pages in DRAM; after a start, the dump read, its pages are loaded and the map is warm (R254). A fine unit without writes for DEMOTE_H hours, or the least recently written one over the budget, becomes large at once (R248); a rebase sweep that has ended asks for a commit (R256). Below GC_START_PCT the FULL band of the highest score is relocated (R259, R260); a large unit of an AUTO volume moves to the HDA tier after COOL_DAYS, or back when WARM_READS reads came in a day (R261); a zone that may be opened and has the lowest mean of erases becomes an open band of the newest version (R242). PURGE closes and relocates garbage and is over once every band of it is erased; TIER_SET of a served volume, its fields right, changes its tier in the shadow table; FTL_STATUS, UNIT_INFO, MAP_PAGE_READ and DUMP_STATUS answer; each wrong parameter is answered by its offset or status. Elsewhere nothing changes. -/
def Obligations.MapAndBandCommands : Prop :=
  (∀ (s : State) (vol page : Nat) (fromHost crcOk : Bool), exec (.mapPageFetch vol page fromHost crcOk) s = .next (State.settle (
    let p := s.page vol page
    if p.dram ∨ s.start.reached < 3 then s
      else if fromHost then
        match s.pci.reads.find? (fun r => r.kind = 5 ∧ r.id = vol ∧ r.ref = page ∧ r.arrived) with
        | none => s
        | some r =>
          let s := s.dropRead r.tag
          if crcOk && decide (crc32c r.data = p.crc) then s.loadPage vol page false else s.hostPageBad vol page
      else if p.host.isSome ∨ ¬ crcOk then s
      else s.loadPage vol page false))) ∧
  (∀ (s : State) , exec (.mapLogFlush) s = .next (State.settle (
    if s.start.reached < 4 ∨ s.halted then s else
      let (n, s) := s.draw
      let s := if n % 2 = 1 then s else s.passTo (s.dp.flushedAt + Config.ms)
      let s := s.setDp fun d => { d with
        flushedAt := s.aon
        writes := d.writes.map (fun w => { w with durable := w.durable || w.frames.all (fun f => f.band.isSome) }) }
      s.flushMoved.flushRegions))) ∧
  (∀ (s : State) (id : Nat), exec (.mapCommit id) s = .next (State.settle (
    match s.wjob id with
      | none => s
      | some w =>
        if ¬ s.mayCommit w ∨ s.halted ∨ w.kind = .apply then s else
        let units := s.commitUnits w
        let s := s.commitJob w
        let s := ((units.map (fun u => (u.1, u.2 / 512))).eraseDups).foldl (fun (s : State) u =>
          let (c, s) := (s.loadPage u.1 u.2 true).draw
          s.walk (c % 32) true) s
        let s := (s.storeUnits units).setDp fun d => { d with restored := d.restored.filter (· ≠ id) }
        s.purgeStep.startSweeps))) ∧
  (∀ (s : State) , exec (.mapCheckpoint) s = .next (State.settle (
    if s.start.reached < 4 then s else
      let s := (s.dp.pages.filter (fun p => p.dirty)).foldl (fun (s : State) p => s.emit (.mapStore (s.pageBytes p.vol p.page))) s
      let s := s.setDp fun d => { d with pages := d.pages.map (fun p => { p with dirty := false }) }
      s.media fun m => { m with ckpt := (s.dp.pages.filter (fun p => p.dram)).map (fun p => (p.vol, p.page)) }))) ∧
  (∀ (s : State) , exec (.mapWarm) s = .next (State.settle (
    if s.start.reached < 3 ∨ s.on FTL.STS.MAP_WARM ∨ s.on SYS.START_STS.DEAD ∨
        ¬ s.dp.dumpRead ∧ s.nv.media.dumpStart.isSome then s else
      let s := s.nv.media.ckpt.foldl (fun (s : State) p => s.loadPage p.1 p.2 false) s
      s.setB FTL.STS.MAP_WARM))) ∧
  (∀ (s : State) (vol unit : Nat), exec (.fineDemote vol unit) s = .next (State.settle (
    let u := s.unit vol unit
    match u.live with
      | none => s
      | some v =>
        if v.kind ≠ 2 then s else
        let lru := s.overBudget && s.fineUnits.all (fun x => decide (u.wroteAt ≤ x.wroteAt))
        let s := if lru then s else s.passTo (u.wroteAt + max 1 (s.get FTL.FINE_CFG.DEMOTE_H) * Config.hour)
        let (p, s) := s.draw
        ((s.setUnit { u with live := some { v with kind := 1, fine := [], ptr := p % 2 ^ 37 } }).loadPage vol (unit / 512) true).storeUnits
          [(vol, unit)]))) ∧
  (∀ (s : State) (vol : Nat), exec (.rebaseSweepEnd vol) s = .next (State.settle (
    if s.dp.sweeps.any (fun x => x.1 = vol && !x.2.2.2) then
        (s.setDp fun d => { d with sweeps := d.sweeps.map (fun x => if x.1 = vol then (x.1, x.2.1, x.2.2.1, true) else x) }).requestCommit
      else s))) ∧
  (∀ (s : State) (q tier : Nat), (q < 4) → (tier < 2) → exec (.gcBandSelect q tier) s = .next (State.settle (
    let full := s.nv.media.bands.filter (fun b => b.state = 2 && !b.pinned && !b.theirs &&
        (match s.rset b.set with
          | some r => r.quad = q && r.tier = tier
          | none => false))
      let best := full.foldl (fun (o : Option Band) b => match o with
        | some x => if s.scoresOver b x then some b else o
        | none => some b) none
      match best with
      | some b => if s.freePct q tier < s.gcStart ∧ ¬ s.halted then s.relocateBand b else s
      | none => s))) ∧
  (∀ (s : State) (vol unit : Nat), exec (.tierMigrate vol unit) s = .next (State.settle (
    match s.vol vol, (s.unit vol unit).live with
      | some v, some x =>
        if v.tier ≠ 2 ∨ x.kind ≠ 1 ∨ s.halted then s else
        let u := s.unit vol unit
        let fs := s.nv.media.frames.filter (fun f => x.names f.serial)
        let cool := if v.coolDays = 0 then 14 else v.coolDays
        let warm := if v.warmReads = 0 then 8 else v.warmReads
        let hot := decide (warm ≤ (u.reads.filter (fun t => s.aon < t + Config.day)).length)
        let last := if u.readAt = 0 then u.wroteAt else u.readAt
        let onHda := fs.filter (fun f => s.frameTier f = some 1)
        if ¬ onHda.isEmpty then
          (if hot then onHda.foldl (fun (s : State) f => s.relocate f false true) s else s)
        else if s.act.sets.any (fun r => r.tier = 1) then
          fs.foldl (fun (s : State) f => s.relocate f false true) (s.passTo (last + cool * Config.day))
        else s
      | _, _ => s))) ∧
  (∀ (s : State) (set zone use_ level : Nat), (use_ < 3 || use_ = 4) → exec (.bandAllocate set zone use_ level) s = .next (State.settle (
    match s.rset set with
      | none => s
      | some r =>
        let cand := s.openable r level
        let mine := s.zoneErases r zone
        if s.start.reached < 4 ∨ s.halted ∨ s.noAlloc r ∨ level = 0 ∨ r.pmax < level ∨ use_ = 4 ∧ (r.tier ≠ 0 ∨ level ≠ r.pmax) ∨ ¬ cand.contains zone ∨
            cand.any (fun z => meanBelow 0 (s.zoneErases r z) mine) then s else
        let s := (s.nv.media.bands.filter (fun b => b.set = set && b.state = 1 && b.use_ = use_ && b.level = level && !b.theirs)).foldl
          State.closeBand s
        let s := s.setPair fun p => { p with granted := p.granted.filter (fun g => ¬ (g.1 = set ∧ g.2.2 = zone)) }
        let b : Band := { set := set, zone := zone, state := if use_ = 4 then 4 else 1, use_ := use_, ver := (r.vers.headD default).ver, level := level,
                          lastWrite := s.aon, dirty := aheadRegions r (s.ahead - 1) 0 [] }
        (((s.ownZones b).askBands set level).levelWear r).relocateOldest))) ∧
  (∀ (z : State) (p : Packet) (s : State), (Runs z p 0x0B04) → (s = z.begun p) → exec (.purge p) z = .next (State.settle (
    if s.dp.purge.isSome then s.answer p 0x0B02 0 [] else
    let bands := s.garbageBands
    let s := s.setDp fun d => { d with purge := some (bands.map (fun b => (b.set, b.zone))) }
    let s := bands.foldl (fun (s : State) b =>
      let s := if b.state = 1 then s.closeBand b else s
      match s.band b.set b.zone with
      | some b => s.relocateBand b
      | none => s) s
    s.purgeStep.answer p 0 0 []))) ∧
  (∀ (s : State) , exec (.purgeDone) s = .next (State.settle (if s.dp.purge = some [] then s.setDp fun d => { d with purge := none } else s))) ∧
  (∀ (z : State) (p : Packet) (s : State), (Runs z p 0x0B01) → (s = z.begun p) → exec (.ftlStatus p) z = .next (State.settle (
    if bitsAt p.loc 6 2 ≠ 1 then s.answer p 0x0005 0 [] else
    let q := bitsAt p.loc 4 2
    let inQ := fun (b : Band) => ((s.rset b.set).map (fun r => decide (r.quad = q))).getD false
    let n := fun (st : Nat) => (s.nv.media.bands.filter (fun b => inQ b && b.state = st)).length
    s.answer p 0 0 (leBytes 1 (s.freePct q 0) ++ leBytes 1 (s.freePct q 1) ++ leBytes 4 (n 2) ++ leBytes 4 (n 3) ++
      leBytes 4 ((s.poolBands q 0).1 + (s.poolBands q 1).1) ++ leBytes 2 0)))) ∧
  (∀ (z : State) (p : Packet) (s : State), (Runs z p 0x0B02) → (s = z.begun p) → exec (.tierSet p) z = .next (State.settle (
    match s.shadowVol (p.u16 0) with
    | none => s.answer p 0x000A 0 []
    | some v =>
      if ¬ s.serves v then s.answer p 0x1301 (1 - s.headNo) []
      else if 3 ≤ p.u8 2 then s.answer p 0x000A 2 []
      else if p.u8 3 ≠ 0 then s.answer p 0x000A 3 []
      else if p.u8 2 < 2 ∧ ¬ s.act.sets.any (fun r => r.tier = p.u8 2) then s.answer p 0x0B03 (p.u8 2) []
      else (s.setShadowVol { v with tier := p.u8 2, coolDays := p.u16 4, warmReads := p.u16 6 }).answer p 0 0 []))) ∧
  (∀ (z : State) (p : Packet) (s : State), (Runs z p 0x0B03) → (s = z.begun p) → exec (.unitInfo p) z = .next (State.settle (
    match s.vol (p.u16 0) with
    | none => s.answer p 0x000A 0 []
    | some v =>
      if p.u16 2 ≠ 0 ∧ (s.snap v.num (p.u16 2)).isNone then s.answer p 0x000A 2 []
      else if v.size ≤ p.u64 4 then s.answer p 0x000A 4 []
      else
        let x := (s.unit v.num (p.u64 4)).pick (s.imageGen v (p.u16 2))
        let n := (x.map (fun x => ((x.blocks.filterMap (fun b => match b.2 with
          | .frame f _ => some f
          | .discarded => none)).eraseDups).length)).getD 0
        s.answer p 0 0 (leBytes 8 ((x.map Version.entry).getD 0) ++ leBytes 2 n ++ leBytes 1 (b2n ((x.map Version.kind).getD 0 = 2)) ++ leBytes 1 0)))) ∧
  (∀ (z : State) (p : Packet) (s : State), (Runs z p 0x0B05) → (s = z.begun p) → exec (.dumpStatus p) z = .next (State.settle (
    let (bs, s) := s.readRegs [0x90020, 0x90024]
    s.answer p 0 0 (bs ++ leBytes 4 s.nv.media.dumpSeq)))) ∧
  (∀ (z : State) (p : Packet) (s : State), (Runs z p 0x8B10) → (s = z.begun p) → exec (.mapPageRead p) z = .next (State.settle (
    match s.vol (p.u16 0) with
    | none => s.answer p 0x000A 0 []
    | some v =>
      if p.u8 2 ≠ 0 then s.answer p 0x000A 2 []
      else if p.u8 3 ≠ 0 then s.answer p 0x000A 3 []
      else if v.size ≤ 512 * p.u32 4 then s.answer p 0x000A 4 []
      else s.answer p 0 0 (s.pageBytes v.num (p.u32 4)))))

/-- While a dump runs, at the given time after its trigger (a choice of the run): the dirty writes get their shares on the ready modules up to the room they have, a partner's write that finds no room being lost, once a warm reset has parked or handed over the HDAs (R85); then every ready module's dump record, with the sequence number, the module count and the bytes it took, is programmed; then RUN falls, DONE rises with the time in 10 µs, and a warm reset's dump fences this head's port (R533). Between S1 and S2 of a living head, once: the records of the modules that read intact name the writes to restore; with every one there DONE shows the time, else the dump is INCOMPLETE with a record and the shares on the others are kept as missing (R267). Once every restored write has committed after S3 and nothing is missing, the dump zones used are erased, the others become current and RESTORED is set. In every other state these rows change nothing. -/
def Obligations.DumpSequence : Prop :=
  (∀ (s : State) (ns : Nat), exec (.dumpFramesDone ns) s = .next (State.settle (
    let waits := s.start.warm = .dumping ∧ (List.range 192).any (fun h => s.drives h && 1 ≤ s.srvState h && s.srvState h ≤ 5)
    if ¬ s.on FTL.DUMP_STS.RUN ∨ s.dp.dumpPhase ≠ 1 ∨ waits then s else
      let s := s.passTo (s.dp.dumpAt + ns)
      let room := min (2 ^ 34) ((s.dumpModules.map s.dumpRate).sum * 287000)
      let (s, left) := s.dumpShares room s.dumpJobs
      let s := (left.filter WJob.adopted).foldl (fun (s : State) w => s.loseWrite w.vol w.slba w.nblk) s
      s.setDp fun d => { d with dumpPhase := 2 }))) ∧
  (∀ (s : State) (ns : Nat), exec (.dumpLogDone ns) s = .next (State.settle (
    if ¬ s.on FTL.DUMP_STS.RUN ∨ s.dp.dumpPhase ≠ 2 then s else
      let s := s.passTo (s.dp.dumpAt + ns)
      let s := s.setDp fun d => { d with dumpPhase := 3 }
      let t := (s.aon - s.dp.dumpAt) / (10 * Config.us)
      match s.nv.media.dumpStart with
      | none => s
      | some (seq, ms) =>
        let recs := s.dumpModules.map (fun k => ({
          link := k, seq := seq, modules := ms.length, time := t
          bytes := ((s.nv.media.dumped.filter (fun x => x.1 = k)).map (fun x => x.2.bytes)).sum } : DumpRec))
        let s := s.media fun m => { m with dumpRecs := recs }
        recs.foldl (fun (s : State) r => s.dumpProgram r.link (s.dumpRecord r)) s))) ∧
  (∀ (s : State) (ns : Nat), exec (.dumpDone ns) s = .next (State.settle (
    if ¬ s.on FTL.DUMP_STS.RUN ∨ s.dp.dumpPhase ≠ 3 then s else
      let t := (s.aon - s.dp.dumpAt) / (10 * Config.us)
      let t := ((s.nv.media.dumpRecs.head?).map DumpRec.time).getD t
      let s := s.passTo (s.dp.dumpAt + ns)
      let s := ((s.clrB FTL.DUMP_STS.RUN).setB FTL.DUMP_STS.DONE).put FTL.DUMP_STS.LAST_10US (min 0xFFFF t)
      let s := s.setDp fun d => { d with dumpPhase := 4 }
      if s.start.warm = .dumping then s.fenceSelf else s))) ∧
  (∀ (s : State) (intact : List Nat), exec (.dumpRestore intact) s = .next (State.settle (
    if s.start.reached ≠ 2 ∨ s.dp.dumpRead ∨ s.on SYS.START_STS.DEAD then s else
      let s := s.setDp fun d => { d with dumpRead := true }
      match s.nv.media.dumpStart with
      | none => s
      | some (seq, ms) =>
        let ok := fun (k : Nat) => intact.contains k && s.nv.media.dumpRecs.any (fun r => r.link = k && r.seq = seq)
        let s := if ms.all ok then
            (s.setB FTL.DUMP_STS.DONE).put FTL.DUMP_STS.LAST_10US (min 0xFFFF (((s.nv.media.dumpRecs.head?).map DumpRec.time).getD 0))
          else (s.setB FTL.DUMP_STS.INCOMPLETE).record 0x0B02 0 seq 0 []
        let all := s.nv.media.dumped
        let s := ((all.filter (fun x => ok x.1)).map Prod.snd).foldl State.restoreJob s
        let s := s.setPair fun p => { p with missing := (all.filter (fun x => !ok x.1)).map Prod.snd }
        if ms.all ok then s.setDp fun d => { d with resync := false } else s))) ∧
  (∀ (s : State) , exec (.dumpRestored) s = .next (State.settle (
    if s.start.reached < 4 ∨ ¬ s.dp.dumpRead ∨ ¬ s.dp.restored.isEmpty ∨ ¬ s.pair.missing.isEmpty ∨
        s.on FTL.DUMP_STS.RESTORED ∨ s.nv.media.dumpStart.isNone ∨ s.halted then s else
      let used := s.nv.media.dumpUsed
      let s := used.foldl (fun (s : State) k => match s.module k with
        | some m => m.dumpDies.foldl (fun (s : State) d =>
            s.sendBridge k 3 [d, 2 ^ m.ident.planes - 1, s.dumpBlock m] [] .other) s
        | none => s) s
      let s := s.media fun m => { m with
        dumpZone := used.foldl (fun z k => fldSet z k (1 - (fldFind z k).getD 0) 0) m.dumpZone
        dumpUsed := [], dumpStart := none, dumpRecs := [], dumped := [] }
      s.setB FTL.DUMP_STS.RESTORED)))

/-- A codeword of a job whose read has returned leaves its job, counted in the group's set where its step is the first; one that decodes ends its part, one that fails marks its band and goes to its next step, or to joint decoding after the seventh (R277, R283). A temperature report (R273) stays until 1 s after it and spoils windows it is too far from; the load class follows bandwidth and depth over 100 ms. A full window that is not spoilt, frozen or in a restart renews IT0 where no offset moves and else makes a candidate (R278); candidates are committed together (R279), and a validation passes or fails its set (R281). A FULL flash band marked, or FULL for RET_DAYS days, is refreshed and relocated (R284). The patrol takes what its pace and shares allow, shows LAP_PCT and records a lap 10 % late; an ended lap starts the next (R287 to R289). A die swap that is agreed places its position on the spare die, every band in use keeping the old one; once the last has moved the old die is retired with a record (R291). TUN_STATUS, GROUP_HEALTH and MODULE_WEAR (free bytes beyond the die map, log entry 2) answer; PATROL_RESTART starts a lap; TUNING_FREEZE puts FROZEN; DIE_SWAP retires a die where a spare is left and no swap runs; SET_WRITE writes a VALID set into the shadow table and asks for a commit. Each wrong parameter, fused-off link, missing module or state is answered by its status. Elsewhere nothing changes. -/
def Obligations.TuningAndPatrol : Prop :=
  (∀ (s : State) (job page cw it : Nat) (ok : Bool), (it ≤ 24) → exec (.codewordDecode job page cw it ok) s = .next (State.settle (
    match s.rjob job with
      | none => s
      | some j =>
        match j.cws.find? (fun c => c.page = page ∧ c.idx = cw ∧ c.here), s.jobGroup j page, s.band j.band.1 j.band.2 with
        | some c, some (m, die, plane), some b =>
          let key := blockKey j.pos die plane
          let s := if c.step ≠ 1 then s else
            match s.tset m.link die plane c.ret c.load with
            | some t =>
              let t := t.decoded (s.flink m.link).temp c.used it ok
              let s := s.setTset t
              if t.cur.state = .valid ∧ 256 * s.get TUN.WEAR_CFG.WEAR_IT ≤ t.cur.itMean then s.raiseStage m.link 1 else s
            | none => s
          let left := j.cws.filter (fun x => ¬ (x.page = page ∧ x.idx = cw))
          if ok then
            let hot := j.patrol && decide (s.get TUN.DIST_CFG.REFRESH_IT < 8 * it)
            let s := if hot then (match s.band j.band.1 j.band.2 with
              | some b => s.setBand { b with marked := true }
              | none => s) else s
            let j := { j with cws := left, itSum := j.itSum + it, itN := j.itN + 1 }
            let s := (s.setRead j).endRead job
            if left.isEmpty ∧ j.patrol then s.patrolled j m die plane else s
          else
            let s := s.setBand { b with marked := true }
            if c.step < 7 then
              (s.setRead { j with cws := left }).readPages j m b [(page, 2 ^ cw)] (c.step + 1)
            else ((s.setRead { j with cws := left }).noteJoint m die plane j.band.1 j.band.2 key).toJoint job (page * 16384 + 4096 * cw)
        | _, _, _ => s))) ∧
  (∀ (s : State) (link : Nat) (temp : Int), (link < 48) → (-128 ≤ temp) → (temp ≤ 127) → exec (.temperatureReport link temp) s = .next (State.settle (
    let s := s.setFlink link { s.flink link with temp := some temp, tempAt := s.aon }
      let tol := max 1 (s.get TUN.VAL_CFG.TEMP_TOL_C)
      let far := fun (t : TSet) => t.link = link && decide (0 < t.winCw) && (match t.winTemp with
        | some w => decide (tol < tempGap temp w)
        | none => false)
      (s.act.tuning.filter far).foldl (fun (s : State) t => s.setTset { t with winBad := true }) s))) ∧
  (∀ (s : State) (link : Nat), (link < 48) → exec (.temperatureTimeout link) s = .next (State.settle (
    let x := s.flink link
      if x.temp.isNone then s else (s.passTo (x.tempAt + Config.sec)).setFlink link { x with temp := none }))) ∧
  (∀ (s : State) (link bw qd : Nat), (link < 48) → exec (.loadClassUpdate link bw qd) s = .next (State.settle (
    let s := s.passTo (s.nextTick (100 * Config.ms))
      let full := s.get TUN.LOAD_CFG.FULL_BW_PCT
      let light := min full (s.get TUN.LOAD_CFG.LIGHT_BW_PCT)
      let c := if full ≤ bw ∨ s.get TUN.LOAD_CFG.FULL_QD ≤ qd then 2
        else if bw < light ∧ qd < s.get TUN.LOAD_CFG.LIGHT_QD then 0 else 1
      s.setFlink link { s.flink link with load := c, bw := bw }))) ∧
  (∀ (s : State) (link die plane ret load : Nat) (hi lo : List Nat) (temp : Int) (bw : Nat), exec (.windowClose link die plane ret load hi lo temp bw) s = .next (State.settle (
    match s.act.tuning.find? (fun t => t.link = link ∧ t.die = die ∧ t.plane = plane ∧ t.ret = ret ∧ t.load = load),
        s.module link with
      | some t, some m =>
        if t.winCw < s.calLen then s else
        let shut : TSet := { t with winCw := 0, winIt := 0, winTemp := none, winBad := false }
        let s := s.setTset shut
        if t.winBad ∨ s.cmd.inReset ∨ s.on TUN.STS.FROZEN then s else
        let levels := 2 ^ m.ident.bpc - 1
        let mv := s.moves hi lo levels
        if mv.all (· = 0) then s.setTset { shut with cur := { shut.cur with it0 := t.winIt / t.winCw } }
        else
          let offs := (List.range 17).map (fun j =>
            clamp127 (t.cur.offs.getD j 0 + (if j < levels then mv.getD j 0 else if j < 15 then 0 else Config.softMove mv (j - 15))))
          let c : TSet := { shut with cur := { t.cur with offs := offs, tagTemp := temp, tagBw := bw, state := .candidate } }
          s.setDp fun d => { d with cands := putTset d.cands c }
      | _, _ => s))) ∧
  (∀ (s : State) (hda : Bool), exec (.candidateCommit hda) s = .next (State.settle (if hda then s.commitHsets else s.commitSets))) ∧
  (∀ (s : State) (t : SetRef), exec (.validationPass t) s = .next (State.settle (
    match t with
      | .group link die plane ret load => s.passSet link die plane ret load
      | .zone hda zone load => s.passHset hda zone load))) ∧
  (∀ (s : State) (t : SetRef), exec (.validationFail t) s = .next (State.settle (
    match t with
      | .group link die plane ret load => s.failSet link die plane ret load
      | .zone hda zone load => s.failHset hda zone load))) ∧
  (∀ (s : State) (set zone : Nat), exec (.refresh set zone) s = .next (State.settle (
    match s.rset set, s.band set zone with
      | some r, some b =>
        let days := s.get TUN.DIST_CFG.RET_DAYS
        if r.tier ≠ 0 ∨ b.state ≠ 2 ∨ b.pinned ∨ b.theirs ∨ ¬ b.marked ∧ days = 0 ∨ s.halted then s else
        let s := if b.marked then s else s.passTo (b.fullAt + days * Config.day)
        let s := (s.bandMembers b).foldl (fun (s : State) c => match s.module (memberNo c) with
          | some m =>
            let blks := (List.range m.dieMap.length).flatMap (fun d =>
              (List.range m.ident.planes).map (fun p => (m.dieAt zone d, p, zone)))
            s.setModule { m with refreshed := (m.refreshed ++ blks).eraseDups }
          | none => s) s
        s.relocateBand b
      | _, _ => s))) ∧
  (∀ (s : State) , exec (.patrolPace) s = .next (State.settle (
    if s.start.reached < 4 ∨ ¬ s.on TUN.PAT_CFG.EN ∨ s.cmd.inReset ∨ s.halted then s else
      let s := s.passTo (s.nextTick (10 * Config.sec))
      let s := if s.dp.lapAt = 0 then s.newLap else s
      let gone := s.aon - s.dp.lapAt
      let left := lapBytes s.dp.lapLeft
      let secs := max 1 ((s.lapNs - gone) / Config.sec)
      let behind := fun (pct : Nat) => decide (s.dp.lapAll * s.lapNs * pct < (s.dp.lapAll * gone - (s.dp.lapAll - left) * s.lapNs) * 100)
      let slow := behind 5
      let may := fun (s : State) (x : Nat × Nat × Nat) =>
        let q := memberQuad x.1
        let awake := slow || !(s.pwr.quads.getD q .gated).isGated
        if memberIsModule x.1 then
          let k := memberNo x.1
          let rate := if s.get (FLK.LINKk_STS.STATE k) = 2 then 24700000000 else 12350000000
          let busy := ((s.dp.reads.filter (fun j => j.patrol && j.code = x.1)).map (fun j => j.cws.length * 4096)).sum
          awake && s.linkUp k && decide (busy < rate * max 1 (s.get TUN.PAT_CFG.SHARE_PCT) / 100 * 10)
        else
          let under := ((s.dp.runs.filter (fun r => r.cls = 3 && !r.write && r.hda / 48 = q)).map HdaRun.hda).eraseDups
          awake && s.memberReadable x.1 && !under.contains (memberNo x.1) && decide (under.length < min 16 (s.get TUN.PAT_CFG.HDA_STREAMS))
      let s := s.patrolTake may (s.dp.lapCredit + left * 10 / secs) s.dp.lapLeft
      let pct := if s.dp.lapAll = 0 then 100 else 100 * (s.dp.lapAll - lapBytes s.dp.lapLeft) / s.dp.lapAll
      let s := s.put TUN.PAT_STS.LAP_PCT pct
      if behind 10 ∧ ¬ s.on TUN.PAT_STS.LATE then s.patLate else s))) ∧
  (∀ (s : State) , exec (.lapEnd) s = .next (State.settle (
    if s.start.reached < 4 ∨ ¬ s.on TUN.PAT_CFG.EN ∨ s.cmd.inReset ∨ ¬ s.dp.lapLeft.isEmpty ∨ s.dp.lapAt = 0 ∨
        s.dp.reads.any RdJob.patrol then s else
      let due := s.dp.lapAt + s.lapNs
      let late := decide (due + s.lapNs / 10 < s.aon)
      let onTime := decide (s.aon ≤ due)
      let s := (s.passTo due).count TUN.PAT_STS.LAPS 1
      let s := if late ∧ ¬ s.on TUN.PAT_STS.LATE then s.patLate else s
      (s.iff onTime (·.clrB TUN.PAT_STS.LATE)).newLap))) ∧
  (∀ (s : State) (link : Nat), exec (.dieSwapAgreed link) s = .next (State.settle (
    match s.module link with
      | none => s
      | some m => match m.swap with
        | some (pos, die, old, _) =>
          if ¬ m.agreed then s else
          let zones := s.zonesOf (0x4000 + link)
          s.setModule { m with
            agreed := false, swap := some (pos, die, old, zones), dieMap := m.dieMap.set pos die
            oldDie := zones.map (fun z => (z, pos, old)) ++ m.oldDie }
        | none => s))) ∧
  (∀ (s : State) (link : Nat), exec (.dieSwapDone link) s = .next (State.settle (
    match s.module link with
      | none => s
      | some m => match m.swap with
        | some (pos, die, old, zones) =>
          if m.agreed ∨ m.dieMap.getD pos pos ≠ die ∨ ¬ zones.isEmpty ∨ s.halted then s else
          let m' := { m with
            swap := none
            retiredDies := m.retiredDies ++ [old], spareDies := m.spareDies - 1 }
          let s := (s.setModule m').record 0x0D02 0 link pos []
          if m'.spareDies = 0 then s.raiseStage link 3 else s
        | none => s))) ∧
  (∀ (z : State) (p : Packet) (s : State), (Runs z p 0x0D01) → (s = z.begun p) → exec (.tunStatus p) z = .next (State.settle (
    let (bs, s) := s.readRegs [0xB0000, 0xB001C]
    s.answer p 0 0 (bs ++ leBytes 4 (s.setsIn .suspect) ++ leBytes 4 (s.setsIn .valid))))) ∧
  (∀ (z : State) (p : Packet) (s : State), (Runs z p 0x0D02) → (s = z.begun p) → exec (.groupHealth p) z = .next (State.settle (
    match s.groupBad (p.u8 0) (p.u8 1) (p.u8 2), s.module (p.u8 0) with
    | some (st, d), _ => s.answer p st d []
    | none, none => s.answer p 0x0C01 (p.u8 0) []
    | none, some m =>
      if p.u8 3 ≠ 0 then s.answer p 0x000A 3 [] else
      let one := fun (ret load : Nat) =>
        let t := s.tset (p.u8 0) (p.u8 1) (p.u8 2) ret load
        let v := (t.map TSet.cur).getD { offs := [] }
        leBytes 1 (stateCode t) ++ leBytes 1 (min 255 (v.itMean / 256)) ++ sByte v.tagTemp ++ leBytes 1 v.tagBw
      let sets := [0, 1, 2].flatMap (fun r => [0, 1, 2].flatMap (fun l => one r l))
      let gone := (m.retired.filter (fun x => x.1 = p.u8 1 ∧ x.2.1 = p.u8 2)).length
      s.answer p 0 0 (sets ++ leBytes 2 (m.spareLeft (p.u8 1) (p.u8 2)) ++ leBytes 2 m.eraseMean ++ leBytes 2 gone ++ leBytes 2 0)))) ∧
  (∀ (z : State) (p : Packet) (s : State), (Runs z p 0x0D03) → (s = z.begun p) → exec (.moduleWear p) z = .next (State.settle (
    if 48 ≤ p.u8 0 then s.answer p 0x000A 0 [] else
    match (List.range 3).find? (fun i => p.u8 (1 + i) ≠ 0) with
    | some i => s.answer p 0x000A (1 + i) []
    | none => (
      if ¬ s.linkEnabled (p.u8 0) then s.answer p 0x0004 (p.u8 0) [] else
        let a := 0xB0100 + 8 * p.u8 0
        let (bs, s) := s.readRegs [a, a + 4]
        let map := ((s.module (p.u8 0)).map Module.dieMap).getD []
        let (rest, s) := s.freeBytes (64 - map.length)
        s.answer p 0 0 (bs ++ (map.take 64).flatMap (leBytes 1) ++ rest))))) ∧
  (∀ (z : State) (p : Packet) (s : State), (Runs z p 0x0D04) → (s = z.begun p) → exec (.patrolRestart p) z = .next (State.settle (s.newLap.answer p 0 0 []))) ∧
  (∀ (z : State) (p : Packet) (s : State), (Runs z p 0x8D10) → (s = z.begun p) → exec (.tuningFreeze p) z = .next (State.settle (
    if 2 ≤ p.u8 0 then s.answer p 0x000A 0 [] else
    match (List.range 3).find? (fun i => p.u8 (1 + i) ≠ 0) with
    | some i => s.answer p 0x000A (1 + i) []
    | none => (s.put TUN.STS.FROZEN (p.u8 0)).answer p 0 0 []))) ∧
  (∀ (z : State) (p : Packet) (s : State), (Runs z p 0x8D11) → (s = z.begun p) → exec (.dieSwap p) z = .next (State.settle (
    if 48 ≤ p.u8 0 then s.answer p 0x000A 0 [] else (
      if ¬ s.linkEnabled (p.u8 0) then s.answer p 0x0004 (p.u8 0) [] else
        match s.module (p.u8 0) with
        | none => s.answer p 0x0C01 (p.u8 0) []
        | some m =>
          if m.dieMap.length ≤ p.u8 1 then s.answer p 0x000A 1 []
          else if p.u8 2 ≠ 0 then s.answer p 0x000A 2 []
          else if p.u8 3 ≠ 0 then s.answer p 0x000A 3 []
          else match m.swap with
          | some (_, _, _, zones) => s.answer p 0x0D02 (min 0xFFFFFFFF (if zones.isEmpty then (s.zonesOf (0x4000 + p.u8 0)).length else zones.length)) []
          | none =>
            if m.spareDies = 0 then s.answer p 0x0D01 (p.u8 0) []
            else (s.retireDie (p.u8 0) (m.dieMap.getD (p.u8 1) 0)).answer p 0 0 [])))) ∧
  (∀ (z : State) (p : Packet) (s : State), (Runs z p 0x8D12) → (s = z.begun p) → exec (.setWrite p) z = .next (State.settle (
    match s.groupBad (p.u8 0) (p.u8 1) (p.u8 2) with
    | some (st, d) => s.answer p st d []
    | none =>
      if 3 ≤ p.u8 3 then s.answer p 0x000A 3 []
      else if 3 ≤ p.u8 4 then s.answer p 0x000A 4 []
      else match ([5, 6, 7, 25, 26, 27].find? (fun i => p.u8 i ≠ 0)) with
      | some i => s.answer p 0x000A i []
      | none =>
        if s.on TUN.STS.FROZEN then s.answer p 0x0D04 0 [] else
        let x := s.flink (p.u8 0)
        let v : TuneVals :=
          { offs := (slice p.params 8 17).map BitVec.toInt, tagTemp := x.temp.getD 0, tagBw := x.bw }
        let t : TSet := { link := p.u8 0, die := p.u8 1, plane := p.u8 2, ret := p.u8 3, load := p.u8 4, cur := v }
        let s := { s with shadow := { s.shadow with tuning := putTset s.shadow.tuning t } }
        ((if p.commit then s else s.requestCommit).answer p 0 0 []))))

/-- A gathering stripe of an open band closes CLOSE_MS after its oldest frame, with the rows before it (R368). At a start every dirty region's stripes are checked: those named incomplete or wrong, issued and not done, or issued with a FAILED position are void (R371). A joint decode that ends within its limits gives its column back and repairs what had failed; else it is counted as a failure, sets LOST for an HDA set, and the column is lost, unless the frame had only failed its check; a void stripe's column is only done (R374). A rebuild begins for each FAILING or FAILED position without one; every second it moves strips at its rate, REBUILD_LATE showing that the rate wanted is above its cap; a position with nothing left to move is proposed REBUILT, with a record (R377 to R381, R389); a band copied back leaves the rebuild's list, and after the last one the position is proposed ACTIVE. On the capo SET_CREATE, REPLACE and MEMBER_FAIL check their fields and propose the change of the set; elsewhere they name the capo; LEVEL_SET of a served volume changes its level in the shadow table; SET_STATUS, FRET_READ and LOST_LIST answer; REBUILD_PAUSE pauses or resumes a set's rebuild. Each wrong parameter or state is answered by its status. Elsewhere nothing changes. -/
def Obligations.RedundancyCommands : Prop :=
  (∀ (s : State) (set zone row stripe : Nat), exec (.stripeCloseTimeout set zone row stripe) s = .next (State.settle (
    match s.rset set, s.band set zone with
      | some r, some b => match r.version b.ver with
        | none => s
        | some v => match s.gatherSince r v b row stripe with
          | none => s
          | some at_ =>
            if b.state ≠ 1 ∨ b.issued.contains (row, stripe) ∨ s.halted then s else
            let s := s.passTo (at_ + max 1 (s.get RDN.GATHER_CFG.CLOSE_MS) * Config.ms)
            (List.range (row + 1)).foldl (fun (s : State) i => (List.range (r.stripes v)).foldl (fun (s : State) t =>
              if i < row ∨ t = stripe then s.closeStripe set zone i t else s) s) s
      | _, _ => s))) ∧
  (∀ (s : State) (bad : List (Nat × Nat × Nat × Nat)), exec (.resync bad) s = .next (State.settle (
    if ¬ s.dp.resync ∨ s.start.reached < 4 then s else
      let one := fun (s : State) (b : Band) => match s.rset b.set with
        | none => s
        | some r => match r.version b.ver with
          | none => s
          | some v =>
            let rows := (b.dirty.flatMap (fun g => (List.range 64).map (64 * g + ·))).filter (· < r.rows)
            rows.foldl (fun (s : State) row => (List.range (r.stripes v)).foldl (fun (s : State) t =>
              let hole := (stripeOf r v row t).any (fun p => r.pstate.getD p 0 = 2)
              let cut := b.issued.contains (row, t) && !b.done_.contains (row, t)
              if bad.contains (b.set, b.zone, row, t) ∨ b.issued.contains (row, t) ∧ hole ∨ cut then s.voidStripe b.set b.zone row t
              else s) s) s
      let s := (s.nv.media.bands.filter (fun b => b.state = 1 || b.state = 2)).foldl one s
      s.setDp fun d => { d with resync := false }))) ∧
  (∀ (s : State) (job row col : Nat) (failed : List Nat) (run : JointRun), exec (.jointDecode job row col failed run) s = .next (State.settle (
    match s.rjob job with
      | none => s
      | some j =>
        match j.joint.find? (fun c => c.row = row ∧ c.col = col) with
        | none => s
        | some c =>
          match s.rset c.set, s.band c.set c.zone with
          | some r, some b => match r.version b.ver, (r.version b.ver).bind (fun v => slotOf r v row c.pos) with
            | some v, some (t, _) =>
              if s.dp.resync ∧ b.dirty.contains (row / 64) then s
              else if b.void.contains (row, t) then (s.setRead { j with joint := j.joint.filter (· ≠ c) }).endRead job
              else
                let s := (s.setRead { j with joint := j.joint.filter (· ≠ c) }).endRead job
                let ps := stripeOf r v row t
                let absent := ps.filter (fun p => (s.stripPlace r c.zone row p).isNone)
                let own := fun (p : Nat) => decide (p = c.pos) || failed.contains p
                let open_ := ps.filter (fun p => own p && !absent.contains p)
                let good := jointOutcome b.level (min 3 (s.get RDN.JSD_CFG.EXTRA)) absent.length (absent.length + open_.length)
                  (run.ok && decide (run.its ≤ s.jsdLimits.1 ∧ run.stall < s.jsdLimits.2 ∨ absent.length + open_.length < b.level))
                if good then
                  let s := s.count RDN.JSD_OK.COUNT 1
                  let s := s.markJob j false
                  open_.foldl (fun (s : State) p => s.repairColumn r c p) s
                else
                  let s := s.count RDN.JSD_FAIL.COUNT 1
                  let s := if r.tier = 1 then s.setB HRC.STS.LOST else s
                  let s := s.markJob j true
                  if j.check then s else
                  s.loseColumn (if b.level < absent.length then 1 else 2) c (absent ++ open_)
            | _, _ => (s.setRead { j with joint := j.joint.filter (· ≠ c) }).endRead job
          | _, _ => (s.setRead { j with joint := j.joint.filter (· ≠ c) }).endRead job))) ∧
  (∀ (s : State) (set : Nat), exec (.rebuildStart set) s = .next (State.settle (
    match s.rset set with
      | none => s
      | some r =>
        if s.start.reached < 4 ∨ s.cmd.inReset then s else
        let new := (List.range r.members.length).filter (fun p => (r.pstate.getD p 0 = 1 || r.pstate.getD p 0 = 2) &&
          !s.nv.media.rebuilds.any (fun x => x.set = set && x.pos = p))
        let add := fun (s : State) (p : Nat) =>
          let n := ((s.toMove r p).map (fun y => s.moveCost r p y.1)).sum
          s.media fun m => { m with rebuilds := m.rebuilds ++
            [{ set := set, pos := p, copy := false, startAt := s.aon, left := n, total := n, started := true }] }
        new.foldl add s))) ∧
  (∀ (s : State) (set : Nat) (host : List (Nat × Nat)) (bad : List (Nat × Nat × Nat)), exec (.rebuildPace set host bad) s = .next (State.settle (
    match s.rset set with
      | none => s
      | some r =>
        if s.start.reached < 4 ∨ (s.rebuilding set).isEmpty ∨ s.cmd.inReset ∨ s.halted then s else
        let s := s.passTo (s.nextTick Config.sec)
        let q := s.rebuildQueue r
        let crit := q.any (fun x => s.levelAt set x.2.1 ≤ (s.missingOf r x.2.1 x.2.2.1 x.2.2.2).length)
        let cap := s.rebuildCap r ((q.head?.map (fun x => x.2.1)).getD 0) (if crit then s.critPct else s.sharePct) host
        let began := ((s.rebuilding set).map Rebuild.startAt).foldl min s.aon
        let want := s.leftToRead r / max 1 (max 1 (s.get RDN.REBUILD_CFG.TARGET_H) * 3600 - (s.aon - began) / Config.sec)
        let rate := min cap (max want (s.get RDN.REBUILD_MIN.MIN_MBPS * 1000000))
        let s := if cap < want then s.setB RDN.STS.REBUILD_LATE else s
        let s := s.rebuildStep r bad rate q
        s.media fun m => { m with rebuilds := m.rebuilds.map (fun x => if x.set = set ∧ ¬ x.copy then { x with rate := rate } else x) }))) ∧
  (∀ (s : State) (set pos : Nat), exec (.positionRebuilt set pos) s = .next (State.settle (
    match s.rset set with
      | none => s
      | some r =>
        if ¬ (s.rebuilding set).any (fun x => x.pos = pos) ∨ ¬ (s.toMove r pos).isEmpty ∨
            s.dp.moving.any (fun x => x.strip.set = set && x.strip.pos = pos) then s else
        let s := s.media fun m => { m with rebuilds := m.rebuilds.filter (fun x => ¬ (x.set = set ∧ x.pos = pos)) }
        let st := r.pstate.getD pos 0
        if st = 1 ∨ st = 2 then (s.record 0x1202 (locQuad r.quad) set pos []).propose (.position set pos 3) else s))) ∧
  (∀ (s : State) (set pos zone : Nat), exec (.copybackBandDone set pos zone) s = .next (State.settle (
    match s.rset set, s.nv.media.rebuilds.find? (fun x => x.set = set ∧ x.pos = pos ∧ x.copy) with
      | some r, some x =>
        if ¬ x.bands.contains zone ∨ r.pstate.getD pos 0 ≠ 4 ∨ s.halted then s else
        let s := match s.band set zone with
          | some b => s.copyZone r b pos
          | none => s
        let x := { x with bands := x.bands.filter (· ≠ zone) }
        let s := s.media fun m => { m with
          strips := m.strips.filter (fun y => ¬ (y.set = set ∧ y.zone = zone ∧ y.pos = pos))
          rebuilds := x :: m.rebuilds.filter (fun y => ¬ (y.set = set ∧ y.pos = pos ∧ y.copy)) }
        if ¬ x.bands.isEmpty then s else
        (s.media fun m => { m with rebuilds := m.rebuilds.filter (fun y => ¬ (y.set = set ∧ y.pos = pos ∧ y.copy)) }).propose
          (.position set pos 0)
      | _, _ => s))) ∧
  (∀ (z : State) (p : Packet) (s : State), (Runs z p 0x1201) → (s = z.begun p) → exec (.setCreate p) z = .next (State.settle (
    let ms := (List.range (p.u8 3)).map (fun i => p.u16 (16 + 2 * i))
    let zone := (s.memberZones (ms.headD 0)).2
    if ¬ s.isCapo then s.answer p 0x1201 s.capoHead []
    else match geometryBad p with
    | some off => s.answer p 0x1202 off []
    | none =>
      match (List.range 7).find? (fun i => p.u8 (9 + i) ≠ 0) with
      | some i => s.answer p 0x000A (9 + i) []
      | none =>
        if (s.shadowSet (p.u8 0)).isSome then s.answer p 0x1202 0 []
        else match memberBad (p.u8 1) (p.u8 2) ms, s.memberBusy ms with
        | some off, _ => s.answer p 0x1202 off []
        | none, some c => s.answer p 0x1203 c []
        | none, none =>
          if zone % 2 ^ p.u8 6 ≠ 0 then s.answer p 0x1202 6 []
          else if (s.memberZones (ms.headD 0)).1 ≤ p.u16 7 then s.answer p 0x1202 7 []
          else (s.propose (.create (p.u8 0) (p.u8 1) (p.u8 2) (p.u8 4) (p.u8 5) (p.u8 6) (p.u16 7) ms)).answer p 0 0 []))) ∧
  (∀ (z : State) (p : Packet) (s : State), (Runs z p 0x1202) → (s = z.begun p) → exec (.setStatus p) z = .next (State.settle (
    match (List.range 3).find? (fun i => p.u8 (1 + i) ≠ 0), s.rset (p.u8 0) with
    | some i, _ => s.answer p 0x000A (1 + i) []
    | none, none => s.answer p 0x1204 (p.u8 0) []
    | none, some r =>
      let (bs, s) := s.readRegs [0x100100 + 4 * r.num]
      let left := s.leftToRead r
      let rate := ((s.rebuilding r.num).map Rebuild.rate).foldl max 0
      s.answer p 0 0 (bs ++ leBytes 8 left ++ leBytes 4 (min 0xFFFFFFFF (if rate = 0 then 0 else left / rate)) ++
        leBytes 4 ((s.nv.media.lost.filter (fun l => l.set = r.num && l.kind ≠ 3)).length) ++
        (List.range 64).flatMap (fun i => leBytes 1 (r.pstate.getD i 0)))))) ∧
  (∀ (z : State) (p : Packet) (s : State), (Runs z p 0x1203) → (s = z.begun p) → exec (.fretRead p) z = .next (State.settle (
    if p.u8 2 ≠ 0 then s.answer p 0x000A 2 []
    else if 2 ≤ p.u8 3 then s.answer p 0x000A 3 []
    else match s.rset (p.u8 0) with
    | none => s.answer p 0x1204 (p.u8 0) []
    | some r => match r.version (p.u8 1) with
      | none => s.answer p 0x1204 (p.u8 0) []
      | some v => s.answer p 0 0 (if p.u8 3 = 0 then (r.verBytes v).take 4096 else slice (r.verBytes v) 4096 256)))) ∧
  (∀ (z : State) (p : Packet) (s : State), (Runs z p 0x1204) → (s = z.begun p) → exec (.levelSet p) z = .next (State.settle (
    match s.shadowVol (p.u16 0) with
    | none => s.answer p 0x000A 0 []
    | some v =>
      if ¬ s.serves v then s.answer p 0x1301 (1 - s.headNo) []
      else if p.u8 2 = 0 ∨ 3 < p.u8 2 then s.answer p 0x000A 2 []
      else if p.u8 3 ≠ 0 then s.answer p 0x000A 3 []
      else (s.setShadowVol { v with level := p.u8 2 }).answer p 0 0 []))) ∧
  (∀ (z : State) (p : Packet) (s : State), (Runs z p 0x1205) → (s = z.begun p) → exec (.lostList p) z = .next (State.settle (s.answer p 0 0 (leBytes 4 s.nv.media.lost.length ++ ((s.nv.media.lost.drop (p.u32 0)).take 127).flatMap Lost.bytes)))) ∧
  (∀ (z : State) (p : Packet) (s : State), (Runs z p 0x1206) → (s = z.begun p) → exec (.replace p) z = .next (State.settle (
    let code := p.u16 2
    if ¬ s.isCapo then s.answer p 0x1201 s.capoHead [] else
    match s.posCheck (p.u8 0) (p.u8 1) with
    | .error e => s.answer p e.1 e.2 []
    | .ok r =>
      let st := r.pstate.getD (p.u8 1) 0
      let z := s.memberZones code
      let tierOk := memberIsModule code = (r.tier = 0) && memberQuad code = r.quad
      if st ≠ 2 ∧ st ≠ 3 then s.answer p 0x1205 st []
      else if (r.member (p.u8 1) ≠ code && s.shadow.sets.any (fun x => x.members.contains code)) || z.1 = 0 || z.2 ≠ r.zoneSize || !tierOk then
        s.answer p 0x1203 code []
      else if 8 ≤ (s.liveVers r).length then s.answer p 0x1206 r.num []
      else (s.propose (.replace r.num (p.u8 1) code)).answer p 0 0 []))) ∧
  (∀ (z : State) (p : Packet) (s : State), (Runs z p 0x9210) → (s = z.begun p) → exec (.memberFail p) z = .next (State.settle (
    if ¬ s.isCapo then s.answer p 0x1201 s.capoHead [] else
    match s.posCheck (p.u8 0) (p.u8 1) with
    | .error e => s.answer p e.1 e.2 []
    | .ok r =>
      let st := r.pstate.getD (p.u8 1) 0
      let want := if p.u8 2 = 0 then 2 else 1
      let ok := st = 0 || want = 2 && (st = 1 || st = 4)
      if 2 ≤ p.u8 2 then s.answer p 0x000A 2 []
      else if p.u8 3 ≠ 0 then s.answer p 0x000A 3 []
      else if ¬ ok then s.answer p 0x1205 st []
      else if st = 0 ∧ 8 ≤ (s.liveVers r).length then s.answer p 0x1206 r.num []
      else (s.failPosition r.num (p.u8 1) want).answer p 0 0 []))) ∧
  (∀ (z : State) (p : Packet) (s : State), (Runs z p 0x9211) → (s = z.begun p) → exec (.rebuildPause p) z = .next (State.settle (
    match s.rset (p.u8 0) with
    | none => s.answer p 0x1204 (p.u8 0) []
    | some r =>
      if 2 ≤ p.u8 1 then s.answer p 0x000A 1 []
      else if p.u8 2 ≠ 0 then s.answer p 0x000A 2 []
      else if p.u8 3 ≠ 0 then s.answer p 0x000A 3 []
      else (s.setDp fun d => { d with
        paused := if p.u8 1 = 1 then insertNat d.paused r.num else d.paused.filter (· ≠ r.num) }).answer p 0 0 [])))

/-- A message is accepted while the link is UP and intake runs, in order, with the epoch's seal good, and unless it is HELLO or HEARTBEAT only from a partner that is not REFUSED: it counts as received and acts; a bad one is dropped (R413, R416). HELLO with a cause to refuse makes the partner REFUSED with a record; else it is SYNCING, and the writes of this head are mirrored or this head returns (R416, R432). HEARTBEAT is kept. With the partner SYNCING or SYNCED a MIRROR part enters the mirror region or waits for space (R417); MIRROR_ACK marks its writes mirrored and, with the partner SYNCED and holdup, completes those that need not wait for their media (R20, R52). MAPLOG records take effect. PROPOSE at the other head is answered; READY makes the capo commit and tell the partner, COMMIT makes this head commit (R421). A REQUEST is served, or waits while the complex restarts; GRANT brings bands or the activation (R422); HANDOFF makes a synced head capo, and one in STANDBY serves. RELEASE brings a moving volume, whose mirror entries become its own, or hands a carrier over; DEPART of a SYNCED partner starts the takeover (R431); a notice rings the complex; replication's media messages are handed on. -/
def Obligations.PairMessages : Prop :=
  (∀ (s : State) (env : Seal) (always : Bool) (f : State → State), s.receive env always f = if s.on NRN.STS.UP = false ∨ s.intakeStopped = true then s else if s.sealGood env = false then s.dropMessage else if always = true ∨ s.get NRN.PAIR_STS.PARTNER ≠ 2 then f s.heardMessage else s.heardMessage) ∧
  (∀ (s : State) (env : Seal) (always : Bool) (f : State → State), (Accepts s env) → s.receive env always f = f s.heardMessage) ∧
  (∀ (s : State) (env : Seal) (h : Hello), exec (.hello env h) s = .next (State.settle (
    s.receive env true fun s =>
      let s := s.setPair fun p => { p with hello := some h }
      match s.refuseCause h with
      | some c =>
        (((s.put NRN.PAIR_STS.PARTNER 2).put NRN.PAIR_STS.REFUSE_CAUSE c).setB NRN.STS.REFUSED).record 0x1401 0 c 0 []
      | none =>
        let s := s.put NRN.PAIR_STS.REFUSE_CAUSE 0
        if s.synced then s else
        let back := s.comesBack h
        let s := (s.put NRN.PAIR_STS.PARTNER 3).setPair fun p => { p with returning := back }
        if ¬ back then s.mirrorAll else
        let s := ((s.put NRN.PAIR_VER.VER h.pairVer).clrB NRN.PAIR_STS.CAPO).setPair fun p => { p with missing := [] }
        s.setDp fun d => { d with writes := d.writes.filter (fun w => !d.restored.contains w.id), restored := [] }))) ∧
  (∀ (s : State) (env : Seal) (b : Beat), exec (.heartbeat env b) s = .next (State.settle (
    s.receive env true fun s =>
      let s := s.setPair fun p => { p with beat := b }
      let s := if s.isCapo then s else s.put NRN.PAIR_STS.SWAP_BUSY (b2n b.pairSwap)
      s.mirrorAll))) ∧
  (∀ (s : State) (env : Seal) (m : MirPart), exec (.mirror env m) s = .next (State.settle (
    s.receive env false fun s =>
      if ¬ s.synced ∧ s.get NRN.PAIR_STS.PARTNER ≠ 3 then s else s.placePart m))) ∧
  (∀ (s : State) (env : Seal) (ids : List Nat), exec (.mirrorAck env ids) s = .next (State.settle (
    s.receive env false fun s =>
      ids.foldl (fun (s : State) id => match s.mirJob id with
        | some w =>
          if ¬ w.sent then s else
          let s := s.setWjob { w with mirrored := true }
          if s.synced ∧ s.pwr.holdup ∧ ¬ w.fua ∧ ¬ w.through then s.completeWrite { w with mirrored := true } else s
        | none => s) s))) ∧
  (∀ (s : State) (env : Seal) (recs : List LogRec), exec (.maplog env recs) s = .next (State.settle (s.receive env false fun s => recs.foldl State.shipRec s))) ∧
  (∀ (s : State) (env : Seal) (ver : Nat) (c : PairChange), exec (.propose env ver c) s = .next (State.settle (
    s.receive env false fun s =>
      if s.isCapo ∨ ¬ s.synced then s else (s.setPair fun p => { p with proposed := some (ver, c) }).answerProposal))) ∧
  (∀ (s : State) (env : Seal) (ver : Nat), exec (.coordReady env ver) s = .next (State.settle (
    s.receive env false fun s =>
      match s.pair.proposal with
      | some (v, c) =>
        if v ≠ ver ∨ ¬ s.isCapo then s else
        let s := (s.setPair fun p => { p with proposal := none }).commitChange ver c
        (s.sendNrn 5 2 [ver] []).nextProposal
      | none => s))) ∧
  (∀ (s : State) (env : Seal) (ver : Nat), exec (.coordCommit env ver) s = .next (State.settle (
    s.receive env false fun s =>
      match s.pair.accepted with
      | some (v, c) => if v ≠ ver then s else (s.setPair fun p => { p with accepted := none }).commitChange ver c
      | none => s))) ∧
  (∀ (s : State) (env : Seal) (r : PairReq), exec (.coordRequest env r) s = .next (State.settle (
    s.receive env false fun s =>
      if s.cmd.inReset then s.setPair fun p => { p with reqs := p.reqs ++ [r] } else s.serveRequest r))) ∧
  (∀ (s : State) (env : Seal) (g : PairGrant), exec (.coordGrant env g) s = .next (State.settle (
    s.receive env false fun s =>
      match g with
      | .bands set level zones => s.setPair fun p => { p with
          granted := p.granted ++ zones.map (fun z => (set, level, z)), asked := p.asked.filter (· ≠ (set, level)) }
      | .activation => s.grantCame))) ∧
  (∀ (s : State) (env : Seal) (ver : Nat) (queue : List PairChange), exec (.handoff env ver queue) s = .next (State.settle (
    s.receive env false fun s =>
      if s.isCapo ∨ ¬ s.synced then s else
      let s := ((s.put NRN.PAIR_VER.VER ver).clrB NRN.PAIR_STS.SWAP_BUSY).setPair fun p => { p with queue := queue }
      let s := (s.capoChanged true).record 0x1402 0 s.headNo 0 []
      if s.get NRN.PAIR_STS.ROLE = 3 then
        (s.put NRN.PAIR_STS.ROLE roleServing).setPair fun p => { p with coming := s.homeOf (s.on SYS.HEAD.HEAD_B) }
      else s))) ∧
  (∀ (s : State) (env : Seal) (carrier : Bool) (num : Nat), exec (.coordRelease env carrier num) s = .next (State.settle (
    s.receive env false fun s =>
      if carrier then (if num < 96 ∧ 2 ≤ s.get (STR.STRING_STS.STATE num) then
        (s.setStr num { s.str num with handed := true }).claim num false none else s)
      else if ¬ s.pair.coming.contains num then s else
      let s := (s.pair.mirror.filter (fun m => m.vol = num && m.whole)).foldl (fun (s : State) m => s.adopt true m) s
      ((s.setPair fun p => { p with coming := p.coming.filter (· ≠ num) }).answerMoves num).renewLinks))) ∧
  (∀ (s : State) (env : Seal), exec (.coordDepart env) s = .next (State.settle (
    s.receive env false fun s =>
      if s.get NRN.PAIR_STS.ROLE = 0 ∨ s.isolated ∨ ¬ s.synced then s else
      (s.put NRN.PAIR_STS.PARTNER 5).partnerEnds.takeOver))) ∧
  (∀ (s : State) (env : Seal) (ch : Nat), (ch < 64) → exec (.nrnNotice env ch) s = .next (State.settle (s.receive env false fun s => s.emit (.notify 0 ch)))) ∧
  (∀ (s : State) (env : Seal) (m : MediaMsg), exec (.media env m) s = .next (State.settle (
    s.receive env false fun s =>
      match m with
      | .read job hda zone sector count cls soft =>
        if 192 ≤ hda ∨ 3 < cls then s else s.askRun hda cls zone sector count false [] (.partner job soft)
      | .answer job what _ _ sector count =>
        match s.rjob job with
        | none => s
        | some _ =>
          if what = 3 then s else
          let s := if what = 0 then s else (List.range count).foldl (fun (s : State) i => s.toJoint job (4096 * (sector + i))) s
          match s.rjob job with
          | some j => if what = 1 then s else (s.setRead { j with open_ := j.open_ - 1 }).endRead job
          | none => s
      | .records part last =>
        let bytes := s.pair.handing ++ part
        let s := s.setPair fun p => { p with handing := if last then [] else bytes }
        if ¬ last then s else match readRec bytes with
        | some r => if r.typ = 4 then s else s.stage r bytes
        | none => s
      | .commit vol epoch total frames => s.takeCommit vol epoch total frames true
      | .note link remote kind epoch => match s.rlink link with
        | some l => s.replNote l remote kind epoch
        | none => s)))

/-- NERRYN_TRAINED, from S2 on a living head, stores the next key epoch before anything sealed, starts the message counters again and sends HELLO (R413, R414, R416). HEARTBEAT_SEND sends this head's state one beat after the last. A capo swap that is due runs, or waits while something keeps it back; one that has waited DEFER_MAX_MIN is skipped with CAPO_SKIP and a record (R425); with PERIOD_H 0 nothing happens. A partner that trains no more or from which nothing comes for HB_MISS beats is SILENT, one never seen is absent, and either starts a quorum (R426); with more than half of the modules fenced this head takes over, else it is ISOLATED (R427, R428). Once every write is mirrored both heads are SYNCED: roles, the capo, fences and bands follow (R432). PAIR_STATUS answers; CAPO_SWAP swaps, its reply coming at event 3; VOL_HOME on the capo proposes the new home, its reply waiting for the move while both heads serve; NRN_LANE_SPARE starts sparing; SOLE_TAKEOVER takes over without a quorum unless the partner lives. Each wrong parameter or state is answered by its status. The partner's map log is free (log entry 192); the serial's low 32 bits and the free code of the skip's record are the model's choices (log entries 157 and 158). -/
def Obligations.PairEventsAndCommands : Prop :=
  (∀ (s : State) (mark : Nat), exec (.nerrynTrained mark) s = .next (State.settle (
    if s.start.reached < 2 ∨ s.on SYS.START_STS.DEAD then s else
      let again := s.on NRN.STS.UP
      let e := (max s.nv.keyMark mark + 1) % 2 ^ 32
      let s := (({ s with nv := { s.nv with keyMark := e } } : State).storeSettings [([0x0008], [e])] true).put NRN.KEY_EPOCH.EPOCH e
      let s := s.setFlink 48 { s.flink 48 with training := false, replays := 0, retrains := 0 }
      let s := s.setPair fun p => { p with
        mseqTx := 0, mseqRx := 0, drops := [], lastRx := s.aon, beatAt := s.aon
        slots := if again ∨ ¬ p.slots.isEmpty then p.slots else List.range 16 }
      let s := if again ∧ (s.synced ∨ s.get NRN.PAIR_STS.PARTNER = 3) then s else s.put NRN.PAIR_STS.PARTNER 1
      (s.setB NRN.STS.UP).sendHello))) ∧
  (∀ (s : State) , exec (.heartbeatSend) s = .next (State.settle (
    if ¬ s.on NRN.STS.UP then s else
      let s := s.passTo (s.pair.beatAt + s.beatNs)
      let s := s.setPair fun p => { p with beatAt := s.aon }
      (s.sendNrn 1 0 [s.get SYS.START_STS.STAGE, s.get NRN.PAIR_STS.ROLE, s.get NRN.PAIR_STS.CAPO, s.get PWR.FEED_STS.SWAP_BUSY,
        s.get NRN.PAIR_STS.SWAP_BUSY, s.get NRN.PAIR_VER.VER, s.mirrorFreeBytes] []).goOnCapo))) ∧
  (∀ (s : State) , exec (.capoSwapDue) s = .next (State.settle (
    if ¬ s.isCapo ∨ s.cmd.inReset then s else
      match s.pair.swapWaitSince, s.pair.swapDueAt with
      | some _, _ =>
        if s.get NRN.CAPO_CFG.PERIOD_H = 0 then s else if s.swapBlocked.isNone then s.capoSwap else s
      | none, some t =>
        if s.get NRN.CAPO_CFG.PERIOD_H = 0 then s else
        let s := s.passTo t
        if s.swapBlocked.isNone then s.capoSwap
        else s.setPair fun p => { p with swapWaitSince := some s.aon, swapDueAt := none }
      | none, none => s))) ∧
  (∀ (s : State) , exec (.capoSwapSkip) s = .next (State.settle (
    match s.pair.swapWaitSince with
      | none => s
      | some t =>
        if ¬ s.isCapo ∨ s.cmd.inReset ∨ s.get NRN.CAPO_CFG.PERIOD_H = 0 then s else
        let s := s.passTo (t + s.get NRN.CAPO_CFG.DEFER_MAX_MIN * 60 * Config.sec)
        if s.swapBlocked.isNone then s.capoSwap else
        let s := s.setPair fun p => { p with swapWaitSince := none, swapDueAt := s.nextCapoDue }
        let (n, s) := s.draw
        (s.setB NRN.STS.CAPO_SKIP).record (n % 2 ^ 16) 0 0 0 []))) ∧
  (∀ (s : State) (down : Bool), exec (.partnerSilent down) s = .next (State.settle (
    let st := s.get NRN.PAIR_STS.PARTNER
      if ¬ (st = 3 ∨ st = 4 ∨ st = 1 ∧ s.on NRN.STS.UP) ∨ s.halted ∨ s.pair.quorum.isSome then s else
      let s := if down then s.nrnDown else s
      if s.on NRN.STS.UP ∧ (s.flink 48).training then s else
      let s := if s.on NRN.STS.UP then s.passTo (s.pair.lastRx + max 3 (s.get NRN.CFG.HB_MISS) * s.beatNs) else s
      (s.put NRN.PAIR_STS.PARTNER 5).updSilent.startQuorum false))) ∧
  (∀ (s : State) , exec (.partnerAbsent) s = .next (State.settle (
    let st := s.get NRN.PAIR_STS.PARTNER
      if s.start.reached < 3 ∨ s.halted ∨ s.pair.quorum.isSome ∨ s.get NRN.PAIR_STS.ROLE ≠ 0 then s
      else if st = 2 then s.startQuorum true
      else if st ≤ 1 ∧ ¬ s.on NRN.STS.UP then
        (s.passTo (s.pair.s1At + max 1 (s.get NRN.CAPO_CFG.ABSENT_S) * Config.sec)).startQuorum true
      else s))) ∧
  (∀ (s : State) , exec (.quorum) s = .next (State.settle (
    match s.pair.quorum with
      | none => s
      | some q =>
        let won := decide (q.modules.length < 2 * q.wins.length)
        let s := if won ∨ q.waiting = 0 then s else s.passTo (q.at_ + 2 * Config.ms)
        let s := s.setPair fun p => { p with quorum := none }
        if won then s.unfenceSelf.takeOver else (s.isolate q.wins).endCapoSwap))) ∧
  (∀ (s : State) , exec (.pairResyncDone) s = .next (State.settle (
    let open_ := s.dp.writes.any (fun w => (match w.kind with
      | .reloc _ => false
      | _ => !w.through) && !w.mirrored)
    if s.get NRN.PAIR_STS.PARTNER ≠ 3 ∨ ¬ s.on NRN.STS.UP ∨ s.halted ∧ ¬ s.isolated ∨
        s.get NRN.PAIR_STS.ROLE = roleSurvivor ∧ open_ then s else
      let back := s.pair.returning
      let s := s.iff back State.takePair
      let s := (s.put NRN.PAIR_STS.PARTNER 4).partnerEnds.setPair fun p => { p with returning := false, downThere := [] }
      let s := if back then s.put NRN.PAIR_STS.ROLE 3
        else if s.get NRN.PAIR_STS.ROLE = 0 ∧ ¬ s.isCapo then s.capoChanged (!s.on SYS.HEAD.HEAD_B) else s
      let s := s.settleMissing
      let open_ := (List.range 48).filter (fun k => s.linkUp k && !s.on (FLK.LINKk_STS.FENCED k))
      let s := open_.foldl (fun (s : State) k => s.sendBridge k 7 [1, 0] [] (.fence true false)) s
      if s.isCapo then s else
      (s.act.sets.flatMap (fun r => (List.range r.pmax).map (fun l => (r.num, l + 1)))).foldl (fun (s : State) x => s.askBands x.1 x.2) s))) ∧
  (∀ (z : State) (p : Packet) (s : State), (Runs z p 0x1401) → (s = z.begun p) → exec (.pairStatus p) z = .next (State.settle (
    let (bs, s) := s.readRegs [0x120008, 0x120010, 0x120014, 0x120018, 0x12001C]
    s.answer p 0 0 (bs ++ leBytes 8 s.pair.capoAt)))) ∧
  (∀ (z : State) (p : Packet) (s : State), (Runs z p 0x1402) → (s = z.begun p) → exec (.capoSwap p) z = .next (State.settle (
    if ¬ s.isCapo then s.answer p 0x1401 s.capoHead []
    else match s.swapBlocked with
    | some n => s.answer p 0x1403 n []
    | none => ((s.capoSwap.setPair fun x => { x with swapPackets := x.swapPackets ++ [p] }).promised p)))) ∧
  (∀ (z : State) (p : Packet) (s : State), (Runs z p 0x1403) → (s = z.begun p) → exec (.volHome p) z = .next (State.settle (
    if 2 ≤ p.u8 2 then s.answer p 0x000A 2 []
    else if p.u8 3 ≠ 0 then s.answer p 0x000A 3 []
    else if ¬ s.isCapo then s.answer p 0x1401 s.capoHead []
    else match s.vol (p.u16 0) with
    | none => s.answer p 0x000A 0 []
    | some v =>
      if ¬ s.synced then s.answer p 0x1402 (s.get NRN.PAIR_STS.PARTNER) []
      else if v.ownerB = decide (p.u8 2 = 1) then s.answer p 0 0 []
      else if s.get NRN.PAIR_STS.ROLE ≠ roleServing then (s.propose (.home v.num (p.u8 2 = 1))).answer p 0 0 []
      else
        let s := s.setPair fun x => { x with moveWaits := x.moveWaits ++ [(v.num, p)] }
        ((s.propose (.home v.num (p.u8 2 = 1))).promised p)))) ∧
  (∀ (z : State) (p : Packet) (s : State), (Runs z p 0x9410) → (s = z.begun p) → exec (.nrnLaneSpare p) z = .next (State.settle (
    match (List.range 3).find? (fun i => p.u8 (1 + i) ≠ 0) with
    | some i => s.answer p 0x000A (1 + i) []
    | none =>
      if ¬ s.slotActive .nerryn (p.u8 0) then s.answer p 0x000A 0 []
      else if s.pair.swap.isSome ∨ s.pair.spares.isEmpty then s.answer p 0x1404 0 []
      else (s.startSparing .nerryn (p.u8 0)).answer p 0 0 []))) ∧
  (∀ (z : State) (p : Packet) (s : State), (Runs z p 0x9411) → (s = z.begun p) → exec (.soleTakeover p) z = .next (State.settle (
    let live := s.on NRN.STS.UP ∧ s.aon < s.pair.lastRx + max 3 (s.get NRN.CFG.HB_MISS) * s.beatNs
    let wrong : Bool := match s.pair.hello with
      | some h => fieldAt h.serial 0 4 ≠ p.u32 0
      | none => false
    if live then s.answer p 0x1405 0 []
    else if wrong then s.answer p 0x000A 0 []
    else
      let s := if s.get NRN.PAIR_STS.PARTNER = 0 then s else s.put NRN.PAIR_STS.PARTNER 5
      ((s.setPair fun x => { x with quorum := none }).unfenceSelf.takeOver).answer p 0 0 [])))

/-- VOL_CREATE of a free number on the head that would serve it, with an attachment root loaded, puts the volume into the shadow tables with the key epoch after its high-water mark and the default policy (R392); a number in use answers its state. On the head that serves the volume VOL_SET changes what it names, SIZE_UNITS never shrinking (R393); VOL_DELETE of an unbound one makes it DELETING in both banks at once, ships it to the partner, and the end of its sweep, no write of it left, frees its number and everything it held (R394). SNAP_CREATE takes the lowest free number unless a generation sweep runs, and its reply waits; the snapshot is READY once no write of an earlier epoch is left, and the reply is sent (R397); SNAP_DELETE of a READY one not held makes it DELETING, and the end of its sweep, no command on it running, frees it (R398). VOL_STATUS and SNAP_LIST answer, SNAP_LIST's entries by number from the first (log entry 82). The other head answers SNP_NOT_OWNER, an unknown or DELETING volume SNP_NO_VOLUME, a wrong parameter its offset. A sweep's end of what is not DELETING changes nothing. -/
def Obligations.VolumeAndSnapshotCommands : Prop :=
  (∀ (z : State) (p : Packet) (s : State), (Runs z p 0x1301) → (s = z.begun p) → exec (.volCreate p) z = .next (State.settle (
    let n := p.u16 0
    let old := match s.vol n with
      | some v => some v
      | none => s.shadowVol n
    if 1 < p.u8 2 then s.answer p 0x000A 2 []
    else if 1 < p.u8 3 then s.answer p 0x000A 3 []
    else if p.u32 4 = 0 then s.answer p 0x000A 4 []
    else match old with
    | some v => s.answer p 0x1302 v.state []
    | none =>
      let e := s.hwm n + 1
      let v : Vol := { num := n, readOnly := bitAt (p.u8 3) 0, ownerB := p.u8 2 = 1, size := p.u32 4, quota := p.u32 8,
                       keyEpoch := e, minEpoch := e, agroup := agroupAt p }
      if s.ark.isNone then s.answer p 0x0A01 0 []
      else if ¬ s.serves v then s.answer p 0x1301 (1 - s.headNo) []
      else
        let s := { s with shadow := { s.shadow with
          vols := putVol s.shadow.vols v, policies := s.shadow.policies.filter (fun x => x.num ≠ n) } }
        s.answer p 0 0 []))) ∧
  (∀ (z : State) (p : Packet) (s : State), (Runs z p 0x1303) → (s = z.begun p) → exec (.volSet p) z = .next (State.settle (
    if 1 < p.u8 3 then s.answer p 0x000A 3 [] else
    (
      match s.shadowVol (p.u16 0) with
      | none => s.answer p 0x1303 0 []
      | some v =>
        if v.state ≠ 1 then s.answer p 0x1303 0 [] else if ¬ s.serves v then s.answer p 0x1301 (1 - s.headNo) [] else
        if p.u32 4 < v.size then s.answer p 0x000A 4 []
        else (s.setShadowVol { v with readOnly := bitAt (p.u8 3) 0, size := p.u32 4, quota := p.u32 8, agroup := agroupAt p }).answer p 0 0 [])))) ∧
  (∀ (z : State) (p : Packet) (s : State), (Runs z p 0x1302) → (s = z.begun p) → exec (.volDelete p) z = .next (State.settle (
    (
      match rsvdBad p 2 2 with
      | some o => s.answer p 0x000A o []
      | none =>
        (
          match s.shadowVol (p.u16 0) with
          | none => s.answer p 0x1303 0 []
          | some v =>
            if v.state ≠ 1 then s.answer p 0x1303 0 [] else if ¬ s.serves v then s.answer p 0x1301 (1 - s.headNo) [] else
            if v.link ≠ 0xFFFF then s.answer p 0x1306 v.link []
            else ((s.bothVol v.num fun x => { x with state := 2 }).saveTables.shipVolume v.num).answer p 0 0 []))))) ∧
  (∀ (s : State) (vol : Nat), exec (.volDeleteSweepEnd vol) s = .next (State.settle (
    match s.vol vol with
      | none => s
      | some v =>
        if v.state ≠ 2 ∨ s.dp.writes.any (fun w => w.vol = vol) then s else
        let cut := fun (t : Tables) => { t with
          vols := t.vols.filter (fun x => x.num ≠ vol), policies := t.policies.filter (fun x => x.num ≠ vol) }
        (({ s with act := cut s.act, shadow := cut s.shadow } : State).dropVolume vol).saveTables.shipVolume vol))) ∧
  (∀ (z : State) (p : Packet) (s : State), (Runs z p 0x1304) → (s = z.begun p) → exec (.volStatus p) z = .next (State.settle (
    (
      match rsvdBad p 2 2 with
      | some o => s.answer p 0x000A o []
      | none =>
        match s.vol (p.u16 0) with
        | none => s.answer p 0x1303 0 []
        | some v =>
          let kept := ((s.nv.media.units.filter (fun u => u.vol = v.num)).map (fun u => u.kept.length)).sum
          s.answer p 0 0 (s.volBytes v ++ leBytes 8 (s.storedBytes v.num) ++ leBytes 8 kept))))) ∧
  (∀ (z : State) (p : Packet) (s : State), (Runs z p 0x1305) → (s = z.begun p) → exec (.snapCreate p) z = .next (State.settle (
    (
      match rsvdBad p 2 2 with
      | some o => s.answer p 0x000A o []
      | none =>
        (
          match s.shadowVol (p.u16 0) with
          | none => s.answer p 0x1303 0 []
          | some v =>
            if v.state ≠ 1 then s.answer p 0x1303 0 [] else if ¬ s.serves v then s.answer p 0x1301 (1 - s.headNo) [] else
            match s.freeSnap v.num with
            | none => s.answer p 0x1304 0 []
            | some n =>
              if (s.vol v.num).isNone then s.answer p 0x1303 0 []
              else if s.genSweep v then s.answer p 0x0B01 (s.unswept v.num) []
              else ((s.newSnap v n false (some p)).promised p)))))) ∧
  (∀ (s : State) (vol snap : Nat), exec (.snapReady vol snap) s = .next (State.settle (
    match s.snap vol snap with
      | none => s
      | some x =>
        match x.since with
        | none => s
        | some n =>
          if x.state ≠ 1 ∨ s.olderWrites vol n then s else
          let s := (s.setSnap vol snap fun y => { y with state := 2, created := s.dev, asked := none }).shipSnap vol snap
          match x.asked with
          | some p => s.answerLater p 0 0 (leBytes 2 snap ++ [0, 0] ++ leBytes 4 x.gen)
          | none => s))) ∧
  (∀ (z : State) (p : Packet) (s : State), (Runs z p 0x1306) → (s = z.begun p) → exec (.snapDelete p) z = .next (State.settle (
    (
      match s.shadowVol (p.u16 0) with
      | none => s.answer p 0x1303 0 []
      | some v =>
        if v.state ≠ 1 then s.answer p 0x1303 0 [] else if ¬ s.serves v then s.answer p 0x1301 (1 - s.headNo) [] else
        match s.snap v.num (p.u16 2) with
        | none => s.answer p 0x1303 0 []
        | some x =>
          if x.state ≠ 2 then s.answer p 0x1303 0 []
          else if x.held then s.answer p 0x1305 x.num []
          else ((s.setSnap v.num x.num fun y => { y with state := 3 }).shipSnap v.num x.num).answer p 0 0 [])))) ∧
  (∀ (s : State) (vol snap : Nat), exec (.snapSweepEnd vol snap) s = .next (State.settle (
    match s.snap vol snap with
      | none => s
      | some x =>
        if x.state ≠ 3 ∨ s.hq.cmds.any (fun c => c.sub.volume = vol && c.sub.snap = snap && c.phase ≠ .fetched) then s else
        let s := (s.sweepKept vol).storePages s
        ((s.media fun m => { m with snaps := m.snaps.filter (fun y => ¬ (y.vol = vol ∧ y.num = snap)) }).freeReclaimed).shipSnap vol snap))) ∧
  (∀ (z : State) (p : Packet) (s : State), (Runs z p 0x1307) → (s = z.begun p) → exec (.snapList p) z = .next (State.settle (
    let vol := p.u16 0; let first := p.u16 2
    if (s.vol vol).isNone then s.answer p 0x1303 0 []
    else if first = 0 ∨ 16384 < first then s.answer p 0x000A 2 []
    else
      let top := ((s.snapsOf vol).map Snap.num).foldl max 0
      let n := min 255 (top + 1 - first)
      s.answer p 0 0 (leBytes 4 n ++ (List.range n).flatMap (fun i =>
        ((s.snap vol (first + i)).map Snap.bytes).getD (List.replicate 16 0))))))

/-- REPL_LINK_CREATE over an open sealed connection that fits issues a key for a landing region and a tag, their numbers free values, and makes the link (R399, R400); REPL_LINK_PEER notes the peer's region and starts the link; REPL_LINK_CONN gives a link that is neither HELLO nor UP another connection; REPL_LINK_DELETE of one without volumes revokes its key and tag and clears its status. On the head that serves the volume REPL_BIND binds an unbound one in the shadow table and ships the binding, a source asking for its first epoch and the commit, a target only if it is empty; REPL_UNBIND ends the binding; REPL_CUT asks for an epoch where none but a STALLED one is in flight (R401, R405); REPL_PROMOTE makes a target whose link is DOWN, or which is STALLED, a plain volume (R407); REPL_RESYNC starts the binding again at epoch 1 (R406). REPL_STATUS answers, its lag before the first applied epoch a free value. EPOCH_CUT asks EPOCH_S after the last APPLIED; an apply that cannot be done stalls the volume and tells the source, one that can enters the epoch in one map commit with a REPL snapshot (R401, R403 to R405); a HELLO heard on a link that is not DOWN waits for the firmware; staged records expire KEEP_H after the last one while the link is not UP; LAG is set once a volume's lag passes LAG_S (R409). Each wrong parameter or state is answered by its status; elsewhere nothing changes. -/
def Obligations.ReplicationCommands : Prop :=
  (∀ (z : State) (p : Packet) (s : State), (Runs z p 0x1310) → (s = z.begun p) → exec (.replLinkCreate p) z = .next (State.settle (
    let n := p.u16 0; let target : Bool := p.u8 2 = 1; let conn := p.u32 4; let mib := p.u16 8
    if 255 < n then s.answer p 0x000A 0 []
    else if 1 < p.u8 2 then s.answer p 0x000A 2 []
    else if p.u8 3 ≠ 0 then s.answer p 0x000A 3 []
    else if mib < 16 ∨ 4096 < mib then s.answer p 0x000A 8 []
    else (
      match rsvdBad p 10 2 with
      | some o => s.answer p 0x000A o []
      | none =>
        if 256 ≤ s.dp.rlinks.length then s.answer p 0x1304 0 [] else
        match s.rlink n with
        | some _ => s.answer p 0x1307 (s.get (SNP.LINKl_STS.STATE n)) []
        | none =>
          if ¬ s.linkConnOk conn target then s.answer p 0x000A 4 []
          else if 65536 ≤ s.vrm.tags.length then s.answer p 0x0804 0 []
          else
            let c := s.get SNP.CFG.SLOT_LOG2
            let log2 := if 20 ≤ c ∧ c ≤ 24 then c else 22
            let (f, s) := s.draw
            let (g, s) := s.draw
            let (h, s) := s.draw
            let key := freshNat (f % 2 ^ 32) (s.vrm.keys.map IssuedKey.key)
            let place := freshNat (g % 2 ^ 16) (s.vrm.keys.map (fun k => k.base / 2 ^ 32))
            let tag := freshNat (h % 2 ^ 32) (s.vrm.tags.map Tag.tag)
            let l : RLink := { num := n, target := target, conn := conn, mib := mib, slotLog2 := log2, key := key, base := place * 2 ^ 32,
                               tag := tag }
            let k : IssuedKey := { key := key, handle := place, base := l.base, len := mib * 2 ^ 20, link := n }
            let s := { s with vrm := { s.vrm with
              keys := s.vrm.keys ++ [k], tags := s.vrm.tags ++ [({ tag := tag, cluster := s.connCluster conn } : Tag)] } }
            (s.setDp fun d => { d with rlinks := d.rlinks ++ [l] }).answer p 0 0 (leBytes 1 (b2n target) ++ leBytes 1 log2 ++ leBytes 2 n ++ leBytes 4 key ++ leBytes 8 l.base ++ leBytes 4 tag ++
                leBytes 2 l.slots ++ List.replicate 10 0))))) ∧
  (∀ (z : State) (p : Packet) (s : State), (Runs z p 0x1311) → (s = z.begun p) → exec (.replLinkPeer p) z = .next (State.settle (
    (
      match rsvdBad p 2 2 with
      | some o => s.answer p 0x000A o []
      | none =>
        match s.rlink (p.u16 0) with
        | none => s.answer p 0x1307 0 []
        | some l =>
          if 1 < p.u8 4 then s.answer p 0x000A 4 []
          else if p.u8 5 < 20 ∨ 24 < p.u8 5 then s.answer p 0x000A 5 []
          else if p.u16 6 ≠ l.num then s.answer p 0x000A 6 []
          else (
            match rsvdBad p 26 10 with
            | some o => s.answer p 0x000A o []
            | none =>
              let l := { l with peer := some { slotLog2 := p.u8 5, key := p.u32 8, addr := p.u64 12, tag := p.u32 20, slots := p.u16 24 } }
              (s.startLink l).answer p 0 0 []))))) ∧
  (∀ (z : State) (p : Packet) (s : State), (Runs z p 0x1312) → (s = z.begun p) → exec (.replLinkConn p) z = .next (State.settle (
    (
      match rsvdBad p 2 2 with
      | some o => s.answer p 0x000A o []
      | none =>
        match s.rlink (p.u16 0) with
        | none => s.answer p 0x1307 0 []
        | some l =>
          if l.state = 2 ∨ l.state = 3 then s.answer p 0x1307 (s.get (SNP.LINKl_STS.STATE l.num)) []
          else if ¬ s.linkConnOk (p.u32 4) l.target then s.answer p 0x000A 4 []
          else
            let l := { l with conn := p.u32 4 }
            let s := { s with vrm := { s.vrm with tags := s.vrm.tags.map (fun (t : Tag) =>
              if t.tag = l.tag then { t with cluster := s.connCluster l.conn } else t) } }
            (if l.peer.isSome then s.startLink l else s.setRlink l).answer p 0 0 [])))) ∧
  (∀ (z : State) (p : Packet) (s : State), (Runs z p 0x1313) → (s = z.begun p) → exec (.replLinkDelete p) z = .next (State.settle (
    (
      match rsvdBad p 2 2 with
      | some o => s.answer p 0x000A o []
      | none =>
        match s.rlink (p.u16 0) with
        | none => s.answer p 0x1307 0 []
        | some l =>
          if (s.act.vols ++ s.shadow.vols).any (fun v => v.link = l.num) then s.answer p 0x1306 l.num [] else
          let s := { s with vrm := { s.vrm with
            keys := s.vrm.keys.filter (fun k => k.key ≠ l.key), tags := s.vrm.tags.filter (fun t => t.tag ≠ l.tag)
            land := s.vrm.land.filter (fun c => ¬ (l.base ≤ c.1 ∧ c.1 < l.base + 2 ^ 32)) } }
          let s := s.setDp fun d => { d with rlinks := d.rlinks.filter (fun x => x.num ≠ l.num) }
          let s := [SNP.LINKl_STS.STATE l.num, SNP.LINKl_STS.ROLE l.num, SNP.LINKl_STS.VOLUMES l.num, SNP.LINKl_STS.SLOTS_FREE l.num].foldl
            (fun (s : State) f => s.put f 0) s
          s.answer p 0 0 [])))) ∧
  (∀ (z : State) (p : Packet) (s : State), (Runs z p 0x1314) → (s = z.begun p) → exec (.replBind p) z = .next (State.settle (
    let target : Bool := p.u8 6 = 1
    if 1 < p.u8 6 then s.answer p 0x000A 6 []
    else if p.u8 7 ≠ 0 then s.answer p 0x000A 7 []
    else (
      match s.shadowVol (p.u16 0) with
      | none => s.answer p 0x1303 0 []
      | some v =>
        if v.state ≠ 1 then s.answer p 0x1303 0 [] else if ¬ s.serves v then s.answer p 0x1301 (1 - s.headNo) [] else
        if v.link ≠ 0xFFFF then s.answer p 0x1306 v.link [] else
        match s.rlink (p.u16 2) with
        | none => s.answer p 0x1307 0 []
        | some l =>
          let mapped := s.nv.media.units.any (fun u => u.vol = v.num && u.live.isSome)
          if l.target ≠ target then s.answer p 0x000A 6 []
          else if target ∧ (mapped ∨ ¬ (s.snapsOf v.num).isEmpty) then s.answer p 0x1308 0 []
          else
            let e := p.u32 8
            let b : Repl := { vol := v.num, link := l.num, target := target, epochS := if e = 0 then 60 else e, asked := !target,
                              appliedAt := s.aon }
            let s := (s.setShadowVol { v with link := l.num, remote := p.u16 4, replica := target }).media fun m => { m with
              repl := b :: m.repl.filter (fun x => x.vol ≠ v.num), staged := m.staged.filter (fun t => t.vol ≠ v.num) }
            ((if target then id else State.requestCommit) (((s.ship 9 [b.vol, b.link, b2n b.target, b.epochS, 0, 0, 0] [])).answer p 0 0 [])))))) ∧
  (∀ (z : State) (p : Packet) (s : State), (Runs z p 0x1315) → (s = z.begun p) → exec (.replUnbind p) z = .next (State.settle (
    (
      match rsvdBad p 2 2 with
      | some o => s.answer p 0x000A o []
      | none =>
        (
          match s.shadowVol (p.u16 0) with
          | none => s.answer p 0x1303 0 []
          | some v =>
            if v.state ≠ 1 then s.answer p 0x1303 0 [] else if ¬ s.serves v then s.answer p 0x1301 (1 - s.headNo) [] else
            match s.nv.media.repl.find? (fun b => b.vol = v.num) with
            | none => s.answer p 0x1307 0 []
            | some b =>
              if v.link = 0xFFFF then s.answer p 0x1307 0 []
              else ((s.setShadowVol { v with link := 0xFFFF, remote := 0, replica := false }).dropRepl b).answer p 0 0 []))))) ∧
  (∀ (z : State) (p : Packet) (s : State), (Runs z p 0x1316) → (s = z.begun p) → exec (.replCut p) z = .next (State.settle (
    (
      match rsvdBad p 2 2 with
      | some o => s.answer p 0x000A o []
      | none =>
        (
          match s.shadowVol (p.u16 0) with
          | none => s.answer p 0x1303 0 []
          | some v =>
            if v.state ≠ 1 then s.answer p 0x1303 0 [] else if ¬ s.serves v then s.answer p 0x1301 (1 - s.headNo) [] else
            match s.repl v.num with
            | none => s.answer p 0x1307 0 []
            | some b =>
              if b.target ∨ b.state = 3 ∨ (b.epoch ≠ 0 ∧ b.state = 0) then s.answer p 0x1307 (s.get (SNP.LINKl_STS.STATE b.link)) []
              else if s.genSweep v then s.answer p 0x0B01 (s.unswept v.num) []
              else
                let s := if b.epoch ≠ 0 then s.freeSnapshot v.num b.snap else s
                (s.setRepl { b with state := 0, epoch := 0, snap := none, total := none, next := 0, sent := [], commitSent := false, asked := true }).answer p 0 0 (leBytes 4 (b.applied + 1))))))) ∧
  (∀ (z : State) (p : Packet) (s : State), (Runs z p 0x1317) → (s = z.begun p) → exec (.replStatus p) z = .next (State.settle (
    (
      match rsvdBad p 2 2 with
      | some o => s.answer p 0x000A o []
      | none =>
        if (s.vol (p.u16 0)).isNone then s.answer p 0x1303 0 [] else
        match s.repl (p.u16 0) with
        | none => s.answer p 0x1307 0 []
        | some b =>
          let (f, s) := s.draw
          let lag := if b.applied = 0 ∨ b.target then f else (s.dev - b.baseCut) / Config.ms
          let st := if b.state = 2 then 4 else if b.state = 3 then 5 else s.get (SNP.LINKl_STS.STATE b.link)
          let left := (b.total.getD 0) - (b.next - b.sent.length)
          s.answer p 0 0 (leBytes 4 b.epoch ++ leBytes 4 b.applied ++ leBytes 4 lag ++ leBytes 4 left ++ leBytes 1 st ++ leBytes 3 0))))) ∧
  (∀ (z : State) (p : Packet) (s : State), (Runs z p 0x9320) → (s = z.begun p) → exec (.replPromote p) z = .next (State.settle (
    (
      match rsvdBad p 2 2 with
      | some o => s.answer p 0x000A o []
      | none =>
        (
          match s.shadowVol (p.u16 0) with
          | none => s.answer p 0x1303 0 []
          | some v =>
            if v.state ≠ 1 then s.answer p 0x1303 0 [] else if ¬ s.serves v then s.answer p 0x1301 (1 - s.headNo) [] else
            match s.repl v.num with
            | none => s.answer p 0x1307 0 []
            | some b =>
              let down := ((s.rlink b.link).map RLink.state).getD 1 = 1
              if ¬ b.target ∨ ¬ (down ∨ b.state = 2) then s.answer p 0x1307 (s.get (SNP.LINKl_STS.STATE b.link)) [] else
              let s := s.dropRepl b
              let s := s.bothVol v.num fun x => { x with replica := false, link := 0xFFFF, remote := 0 }
              (s.saveTables.shipVolume v.num).answer p 0 0 []))))) ∧
  (∀ (z : State) (p : Packet) (s : State), (Runs z p 0x9321) → (s = z.begun p) → exec (.replResync p) z = .next (State.settle (
    (
      match rsvdBad p 2 2 with
      | some o => s.answer p 0x000A o []
      | none =>
        (
          match s.shadowVol (p.u16 0) with
          | none => s.answer p 0x1303 0 []
          | some v =>
            if v.state ≠ 1 then s.answer p 0x1303 0 [] else if ¬ s.serves v then s.answer p 0x1301 (1 - s.headNo) [] else
            match s.repl v.num with
            | none => s.answer p 0x1307 0 []
            | some b =>
              (((s.dropRepl b).setRepl { vol := b.vol, link := b.link, target := b.target, epochS := b.epochS, asked := !b.target,
                                          appliedAt := s.aon }).shipRepl v.num).answer p 0 0 []))))) ∧
  (∀ (s : State) (vol : Nat), exec (.epochCut vol) s = .next (State.settle (
    match s.repl vol with
      | none => s
      | some b =>
        if b.target ∨ b.epoch ≠ 0 ∨ b.state ≠ 0 ∨ b.asked ∨ ¬ s.complexRuns then s
        else (s.passTo (b.appliedAt + b.epochS * Config.sec)).setRepl { b with asked := true }))) ∧
  (∀ (s : State) (vol : Nat), exec (.applyDone vol) s = .next (State.settle (
    match s.repl vol, s.vol vol with
      | some b, some v =>
        match b.job, b.commit, s.freeSnap vol with
        | some (id, bad), some (e, _, _), num =>
          let full := decide (v.quota ≠ 0) && decide (v.quota * 2 ^ 30 ≤ s.storedBytes vol)
          if bad ∨ full ∨ ¬ s.tierOpen v.writeTier ∨ num.isNone then
            let s := s.dropStaged b
            let s := (s.setRepl { b with state := 2, job := none, commit := none }).setB SNP.STS.STALLED
            s.tellSource b v.remote 2 e
          else match s.wjob id with
          | none => s
          | some w =>
            if ¬ s.mayCommit w ∨ s.halted then s else
            let s := if e = 1 then s.media fun m => { m with units := m.units.map (fun u => if u.vol = vol then { u with live := none } else u) } else s
            let pages := ((s.commitUnits w).map (fun u => (u.1, u.2 / 512))).eraseDups
            let s := pages.foldl (fun (s : State) u => s.loadPage u.1 u.2 true) (s.commitJob w)
            let x : Snap := { vol := vol, num := num.getD 0, gen := v.vgen, state := 2, held := true, repl := true, created := s.dev }
            let s := s.media fun m => { m with
              snaps := m.snaps ++ [x], staged := m.staged.filter (fun t => ¬ (t.vol = vol ∧ t.epoch = e)) }
            let s := s.bothVol vol fun y => { y with vgen := (y.vgen + 1) % 2 ^ 24 }
            let s := s.setRepl { b with applied := e, job := none, commit := none, state := 0, baseCut := s.dev }
            (((s.keepTwo vol).saveTables.shipVolume vol).shipRepl vol).tellSource b v.remote 1 e
        | _, _, _ => s
      | _, _ => s))) ∧
  (∀ (s : State) (link : Nat) (h : ReplHello), exec (.replHello link h) s = .next (State.settle (
    match s.rlink link with
      | none => s
      | some l =>
        if (l.state ≠ 2 ∧ l.state ≠ 3) ∨ ((s.conn l.conn).map Conn.state).getD 0 ≠ 2 then s
        else s.setRlink { l with heard := l.heard ++ [h] }))) ∧
  (∀ (s : State) (vol : Nat), exec (.stagedExpire vol) s = .next (State.settle (
    match s.nv.media.staged.filter (fun t => t.vol = vol), s.repl vol with
      | t :: ts, some b =>
        if b.job.isSome ∨ ((s.rlink b.link).map RLink.state).getD 1 = 3 then s else
        let last := (t :: ts).foldl (fun m x => max m x.at_) 0
        (s.passTo (last + max 1 (s.get SNP.CFG.KEEP_H) * Config.hour)).media fun m => { m with
          staged := m.staged.filter (fun x => x.vol ≠ vol) }
      | _, _ => s))) ∧
  (∀ (s : State) (vol : Nat), exec (.lagAlarm vol) s = .next (State.settle (
    match s.repl vol with
      | none => s
      | some b =>
        let lim := s.get SNP.CFG.LAG_S
        if b.target ∨ b.applied = 0 ∨ lim = 0 ∨ b.lagTold then s else
        ((s.pass (b.baseCut + lim * Config.sec + 1 - s.dev)).setRepl { b with lagTold := true }).setB SNP.STS.LAG)))

/-- A good SSAMP flit on a string that is up counts with the real-time flits; one in spindle form updates the rotor's phase error and speed (R351), one with samples of wedge n adds its part to the window of wedge n, and the window's last part, or a part of another wedge, ends the window: the loop of the slot takes the wedge (R307, R333). A spoilt flit, one of another TYPE, one on a string that is not up and one after a thermal trip have no other effect. A parked or retracting slot of a carrier this head drives sends the hold value every 16.28 µs (R332). The heads load again 100 ms after they parked from LOST, while the slot is parked, spinning and driven; a load that takes 0.5 s retracts; the trajectory's end starts SETTLE on the target in LOW range and takes up a waiting block; an unload ends PARKED; RET_MS after a retract the heads are PARKED, from LOST with the reload set (R343 to R347). SRV_STATUS, LOOP_PROFILE, LOOP_GET, TRACE_ARM, TRACE_READ, LOOP_SET_RAW and SEEK_TEST act as Table 10 says, each wrong parameter or state answered by its status: LOOP_PROFILE and LOOP_SET_RAW put the block into the shadow table of the named HDAs; TRACE_ARM arms the trace of the quadrant, at once with trigger 0; SEEK_TEST asks for a class-3 run and its reply waits. Elsewhere nothing changes. -/
def Obligations.HeadsAndServoTimers : Prop :=
  (∀ (s : State) (str : Nat) (flit : SsampFlit), (str < 96) → (flit.bytes.length = 128) → (flit.wedge.num < 512) → exec (.ssamp str flit) s = .next (State.settle (
    let bytes := flit.bytes
    if s.pwr.tripped ∨ s.get (STR.STRING_STS.STATE str) ≠ 2 ∨ otherTyp 7 bytes then s else
      let s := s.rtArrive str bytes
      if ¬ flitGood bytes then s else
      let h := 2 * str + fieldAt bytes 4 1 / 128
      let num := fieldAt bytes 5 2
      if num = 0xFFFF then
        let s := s.rotorAt h flit.rotor
        if s.srvState h = 8 then s.setServo h { s.servo h with good := 0 } else s
      else if num < 512 then s.wedgePart h (bitsAt (fieldAt bytes 4 1) 1 2) num (fieldAt bytes 7 4) flit.wedge
      else s))) ∧
  (∀ (s : State) (hda : Nat), (hda < 192) → exec (.parkedSout hda) s = .next (State.settle (
    let st := s.srvState hda
      let up := s.get (STR.STRING_STS.STATE (hda / 2)) = 2
      if s.pwr.tripped ∨ ¬ up then s
      else if s.drives hda ∧ (st = 0 ∨ st = 6 ∨ st = 7) then
        let s := s.pass 16276
        s.sout hda 0xFFFF Config.holdOut true false (st ≠ 0) false
      else if ¬ s.drives hda ∧ st = 15 then
        (s.pass 16276).soutOff hda
      else s))) ∧
  (∀ (s : State) (hda : Nat), (hda < 192) → exec (.loadRetry hda) s = .next (State.settle (
    match (s.servo hda).reloadAt with
      | none => s
      | some t =>
        let s := s.passTo t
        if s.srvState hda = 0 ∧ s.spinning hda ∧ s.drives hda then (s.setServo hda { s.servo hda with reloadAt := none }).load hda else s))) ∧
  (∀ (s : State) (hda : Nat), (hda < 192) → exec (.loadTimeout hda) s = .next (State.settle (if s.srvState hda = 1 then (s.passTo ((s.servo hda).since + 500 * Config.ms)).servoTo hda 6 else s))) ∧
  (∀ (s : State) (hda : Nat), (hda < 192) → exec (.trajectoryEnd hda) s = .next (State.settle (
    match (s.servo hda).seek with
      | some k =>
        if s.srvState hda ≠ 3 then s else
        let s := s.servoTo hda 4
        (s.setServo hda { s.servo hda with r := k.toY, ff := 0, range := false, pes := [] }).takeBlock hda
      | none => s))) ∧
  (∀ (s : State) (hda : Nat), (hda < 192) → exec (.unloadDone hda) s = .next (State.settle (if s.srvState hda = 5 then s.parked hda else s))) ∧
  (∀ (s : State) (hda : Nat), (hda < 192) → exec (.retractPulseEnd hda) s = .next (State.settle (
    let st := s.srvState hda
      if st ≠ 6 ∧ st ≠ 7 then s else
      let s := (s.passTo ((s.servo hda).since + min 255 (max 1 Config.retractMs) * Config.ms)).parked hda
      if st = 7 then s.setServo hda { s.servo hda with reloadAt := some (s.aon + 100 * Config.ms) } else s))) ∧
  (∀ (z : State) (p : Packet) (s : State), (Runs z p 0x0F01) → (s = z.begun p) → exec (.srvStatus p) z = .next (State.settle (
    (
      match rsvdByte p [1, 2, 3] with
      | some o => s.answer p 0x000A o []
      | none =>
        (
          match s.hdaRefused (p.u8 0) with
          | some (st, d) => s.answer p st d []
          | none =>
            let h := p.u8 0
            let x := s.servo h
            let (w, s) := s.readRegs [0xD0100 + 4 * h]
            s.answer p 0 0 (w ++ leBytes 2 (min 65535 (s.pesRms h)) ++ leBytes 2 (s.pesPeak h) ++ leBytes 4 x.misses ++ leBytes 4 x.dlMisses ++
              leBytes 4 x.osc)))))) ∧
  (∀ (z : State) (p : Packet) (s : State), (Runs z p 0x0F02) → (s = z.begun p) → exec (.loopProfile p) z = .next (State.settle (
    let go := fun (s : State) =>
      if 3 < p.u8 1 then s.answer p 0x000A 1 []
      else if 25 < (signed8 (p.u8 2)).natAbs then s.answer p 0x000A 2 []
      else
        let new := (s.named (p.u8 0)).map (fun h =>
          (h, mkBlock (((s.hdaIdent h).map HdaIdent.model).getD []) (p.u8 1) (p.u8 2)))
        ({ s with shadow := { s.shadow with loops := putLoops s.shadow.loops new } } : State).answer p 0 0 []
    (
      match rsvdByte p [3] with
      | some o => s.answer p 0x000A o []
      | none =>
        if p.u8 0 = 0xFF then go s else (
          match s.hdaRefused (p.u8 0) with
          | some (st, d) => s.answer p st d []
          | none =>
            go s))))) ∧
  (∀ (z : State) (p : Packet) (s : State), (Runs z p 0x0F03) → (s = z.begun p) → exec (.loopGet p) z = .next (State.settle (
    (
      match rsvdByte p [1, 2, 3] with
      | some o => s.answer p 0x000A o []
      | none =>
        (
          match s.hdaRefused (p.u8 0) with
          | some (st, d) => s.answer p st d []
          | none =>
            let b := (s.servo (p.u8 0)).block
            s.answer p 0 0 (slice (if b.isEmpty then (s.loopEntry (p.u8 0)).2 else b) 0 64)))))) ∧
  (∀ (z : State) (p : Packet) (s : State), (Runs z p 0x0F04) → (s = z.begun p) → exec (.traceArm p) z = .next (State.settle (
    match locQuadrant p with
    | none => s.answer p 0x0005 0 []
    | some q => (
      match rsvdByte p [10, 11] with
      | some o => s.answer p 0x000A o []
      | none =>
        (
          match s.hdaRefused (p.u8 0) with
          | some (st, d) => s.answer p st d []
          | none =>
            let h := p.u8 0
            let nodes := [1, 2, 3, 4].map p.u8
            let bad := [1, 2, 3, 4].find? (fun o => 14 < p.u8 o ∧ p.u8 o ≠ 0xFF)
            if h / 48 ≠ q then s.answer p 0x000A 0 []
            else if bad.isSome then s.answer p 0x000A (bad.getD 1) []
            else if nodes.all (· = 0xFF) then s.answer p 0x000A 1 []
            else if 7 < p.u8 5 then s.answer p 0x000A 5 []
            else if 8 < p.u8 8 then s.answer p 0x000A 8 []
            else if (s.trace q).armed then s.answer p 0x0F02 q []
            else if ¬ s.drives h ∧ s.srvState h ≠ 8 then s.answer p 0x0F01 (h / 2) []
            else
              let t : Trace := { hda := h, nodes := nodes.filter (· ≠ 0xFF), trig := p.u8 5, level := Int.ofNat (p.u16 6),
                                 pre := p.u8 8, decim := max 1 (p.u8 9) }
              let s := (s.setTrace q t).showTrace q
              (if p.u8 5 = 0 then s.traceTrig h 0 else s).answer p 0 0 []))))) ∧
  (∀ (z : State) (p : Packet) (s : State), (Runs z p 0x0F05) → (s = z.begun p) → exec (.traceRead p) z = .next (State.settle (
    match locQuadrant p with
    | none => s.answer p 0x0005 0 []
    | some q =>
      let l := (((s.trace q).buf.reverse).drop (p.u32 0)).take 2048
      s.answer p 0 0 (l.flatMap (fun x => leBytes 2 (BitVec.ofInt 16 x).toNat))))) ∧
  (∀ (z : State) (p : Packet) (s : State), (Runs z p 0x8F10) → (s = z.begun p) → exec (.loopSetRaw p) z = .next (State.settle (
    let b := slice p.params 4 64
    let go := fun (s : State) => match blockBad b with
      | some off => s.answer p 0x0F03 off []
      | none => ({ s with shadow := { s.shadow with
          loops := putLoops s.shadow.loops ((s.named (p.u8 0)).map (fun h => (h, b))) } } : State).answer p 0 0 []
    (
      match rsvdByte p [1, 2, 3] with
      | some o => s.answer p 0x000A o []
      | none =>
        if p.u8 0 = 0xFF then go s else (
          match s.hdaRefused (p.u8 0) with
          | some (st, d) => s.answer p st d []
          | none =>
            go s))))) ∧
  (∀ (z : State) (p : Packet) (s : State), (Runs z p 0x8F11) → (s = z.begun p) → exec (.seekTest p) z = .next (State.settle (
    (
      match rsvdByte p [2, 3] with
      | some o => s.answer p 0x000A o []
      | none =>
        (
          match s.hdaRefused (p.u8 0) with
          | some (st, d) => s.answer p st d []
          | none =>
            let h := p.u8 0
            match s.hdaIdent h with
            | none => s.answer p 0x0E01 h []
            | some i =>
              if ¬ s.drives h then s.answer p 0x0F01 (h / 2) []
              else if s.spnState h = 10 ∨ s.hdaState h = 6 then s.answer p 0x1002 h []
              else if i.heads ≤ p.u8 1 then s.answer p 0x000A 1 []
              else if i.stroke ≤ p.u32 4 then s.answer p 0x000A 4 []
              else ((s.askRun h 3 0 0 0 false [] (.seekTest p (p.u8 1) (p.u32 4))).promised p))))))

/-- With EN = 1, the first SPINSYNC edge begins; a later one within ±0.1 % of one to four nominal periods gives the period, makes STATE tracking and lets FREE spindles synchronise again; another is counted as rejected; an edge past or before stage S1 changes nothing more than time; after four nominal periods without one, or with EN = 0, the tracking is over: STATE holdover with a period and none without, LOCKED spindles FREE (R352). The spin-up that is first in class order and age starts when fewer than MAX_SPINUP start and no halt is in force, after the stagger, with the carrier's switch unless it turns fast enough, and the other slot's wait is shown (R353, R354, R356). ALIGN ends in ACCEL; 12 s with the switch end in FAULT, counted and recorded; after 10 s it is retried once, and a second FAULT ends the HDA (R355). With IDLE_MIN minutes set, a spindle this head drives without runs for that long unloads and brakes, while the complex runs (R356, R358). SPIN_UP of any class asks for a spin-up and SPIN_DOWN unloads and brakes, 0x1001 where this head does not drive the carrier and 0x1002 where the spindle is FAILED; SPIN_STATUS answers; PHASE_SET puts the phase of the named HDAs into the shadow table; MOTOR_SET stores the pole pairs in the settings block. Each wrong parameter is answered by its offset; elsewhere nothing changes. -/
def Obligations.SpindleEventsAndCommands : Prop :=
  (∀ (s : State) (stamp : Nat), exec (.spinsync stamp) s = .next (State.settle (
    if stamp < s.dev then s else
      let s := s.pass (stamp - s.dev)
      let t := stamp / 2 * 2
      if ¬ s.on SPN.SYNC_CFG.EN ∨ s.pwr.tripped ∨ s.start.reached < 1 then s else
      match s.hdas.edge with
      | none => s.setHdas fun d => { d with edge := some t, ref := t }
      | some e =>
        match s.syncMultiple (t - e) with
        | none => s.count SPN.SYNC_STS.REJECTED 1
        | some m =>
          let s := (s.setHdas fun d => { d with edge := some t, ref := t, period := some ((t - e) / m) }).put SPN.SYNC_STS.STATE 1
          (List.range 192).foldl (fun (s : State) h => if s.spnState h = 6 then
            (s.setSpin h { s.spin h with inside := 0, beyond := 0 }).spinTo h 4 else s) s))) ∧
  (∀ (s : State) , exec (.syncHoldover) s = .next (State.settle (
    match s.hdas.edge with
      | none => s
      | some e => if s.on SPN.SYNC_CFG.EN then (s.pass (e + 4 * s.syncNominal - s.dev)).syncLost else s.syncLost))) ∧
  (∀ (s : State) (hda : Nat), (hda < 192) → exec (.spinupGrant hda) s = .next (State.settle (
    let most := min 48 (max 1 (s.get SPN.CFG.MAX_SPINUP))
      if ¬ s.mayStart hda ∨ most ≤ s.starting ∨ s.halted ∨
          (List.range 192).any (fun h => h ≠ hda && s.mayStart h && spinBefore (s.spin h) (s.spin hda)) then s else
      let s := s.passTo (match s.hdas.lastSpinUp with
        | some t => t + s.get SPN.CFG.STAGGER_10MS * (10 * Config.ms)
        | none => s.aon)
      let needs := s.needsSwitch hda
      let p := s.spin hda
      let s := s.setSpin hda { p with switch := needs, grantAt := s.aon, spinUps := p.spinUps + 1, halved := false }
      let s := (s.setHdas fun d => { d with lastSpinUp := some s.aon }).clrB (SPN.HDAh_STS.SW_WAIT hda)
      let s := if ¬ needs then s.toSync hda else s.spinTo hda (if p.recapture ∧ 1000 ≤ p.speed then 3 else 2)
      if needs ∧ s.spnState (otherSlot hda) = 1 then (s.setB (SPN.HDAh_STS.SW_WAIT (otherSlot hda))).setB SPN.STS.SW_WAIT else s))) ∧
  (∀ (s : State) (hda : Nat), (hda < 192) → exec (.alignDone hda) s = .next (State.settle (if s.spnState hda = 2 then s.spinTo hda 3 else s))) ∧
  (∀ (s : State) (hda : Nat), (hda < 192) → exec (.spinupTimeout hda) s = .next (State.settle (
    if s.spnState hda ≠ 2 ∧ s.spnState hda ≠ 3 then s else
      let s := s.passTo ((s.spin hda).grantAt + 12 * Config.sec)
      let s := (s.freeSwitch hda).spinTo hda 9
      let s := s.setSpin hda { s.spin hda with faultAt := s.aon, fails := (s.spin hda).fails + 1 }
      (s.setB SPN.STS.SPINUP_FAIL).record 0x1001 0 hda 0 []))) ∧
  (∀ (s : State) (hda : Nat), (hda < 192) → exec (.faultRetry hda) s = .next (State.settle (
    if s.spnState hda ≠ 9 then s else
      let p := s.spin hda
      if p.retried then (s.spinTo hda 10).hdaFailed hda else
      let s := s.passTo (p.faultAt + 10 * Config.sec)
      let s := (s.setSpin hda { s.spin hda with retried := true, askedAt := s.aon, recapture := true }).spinTo hda 1
      if (s.spin (otherSlot hda)).switch then (s.setB (SPN.HDAh_STS.SW_WAIT hda)).setB SPN.STS.SW_WAIT else s))) ∧
  (∀ (s : State) (hda : Nat), (hda < 192) → exec (.idleSpinDown hda) s = .next (State.settle (
    let m := s.get SPN.CFG.IDLE_MIN
      if m = 0 ∨ ¬ s.drives hda ∨ ¬ s.spinning hda ∨ s.cmd.inReset ∨ s.dp.runs.any (fun r => r.hda = hda) then s
      else (s.passTo ((s.spin hda).lastRun + m * 60 * Config.sec)).unload hda true))) ∧
  (∀ (z : State) (p : Packet) (s : State), (Runs z p 0x1001) → (s = z.begun p) → exec (.spinUp p) z = .next (State.settle (
    (
      match rsvdByte p [2, 3] with
      | some o => s.answer p 0x000A o []
      | none =>
        (
          match s.hdaRefused (p.u8 0) with
          | some (st, d) => s.answer p st d []
          | none =>
            let h := p.u8 0
            if 3 < p.u8 1 then s.answer p 0x000A 1 []
            else if ¬ s.drives h then s.answer p 0x1001 (h / 2) []
            else if s.spnState h = 10 then s.answer p 0x1002 h []
            else (s.askSpin h (p.u8 1)).answer p 0 0 []))))) ∧
  (∀ (z : State) (p : Packet) (s : State), (Runs z p 0x1002) → (s = z.begun p) → exec (.spinDown p) z = .next (State.settle (
    (
      match rsvdByte p [1, 2, 3] with
      | some o => s.answer p 0x000A o []
      | none =>
        (
          match s.hdaRefused (p.u8 0) with
          | some (st, d) => s.answer p st d []
          | none =>
            let h := p.u8 0
            if ¬ s.drives h then s.answer p 0x1001 (h / 2) []
            else if s.spnState h = 10 then s.answer p 0x1002 h []
            else (s.unload h true).answer p 0 0 []))))) ∧
  (∀ (z : State) (p : Packet) (s : State), (Runs z p 0x1003) → (s = z.begun p) → exec (.spinStatus p) z = .next (State.settle (
    (
      match rsvdByte p [1, 2, 3] with
      | some o => s.answer p 0x000A o []
      | none =>
        (
          match s.hdaRefused (p.u8 0) with
          | some (st, d) => s.answer p st d []
          | none =>
            let h := p.u8 0
            let x := s.spin h
            let ns := x.spinNs + (if s.spinning h then s.aon - x.spinAt else 0)
            let (w, s) := s.readRegs [0xE0100 + 4 * h]
            s.answer p 0 0 (w ++ leBytes 4 x.spinUps ++ leBytes 4 x.fails ++ leBytes 4 (ns / Config.sec))))))) ∧
  (∀ (z : State) (p : Packet) (s : State), (Runs z p 0x1004) → (s = z.begun p) → exec (.phaseSet p) z = .next (State.settle (
    let go := fun (s : State) =>
      if 8191 < p.u16 2 then s.answer p 0x000A 2 []
      else
        let hs := s.named (p.u8 0)
        ({ s with shadow := { s.shadow with
          phases := hs.map (fun h => (h, p.u16 2)) ++ s.shadow.phases.filter (fun x => ¬ hs.contains x.1) } } : State).answer p 0 0 []
    (
      match rsvdByte p [1] with
      | some o => s.answer p 0x000A o []
      | none =>
        if p.u8 0 = 0xFF then go s else (
          match s.hdaRefused (p.u8 0) with
          | some (st, d) => s.answer p st d []
          | none =>
            go s))))) ∧
  (∀ (z : State) (p : Packet) (s : State), (Runs z p 0x9010) → (s = z.begun p) → exec (.motorSet p) z = .next (State.settle (
    (
      match rsvdByte p [2, 3] with
      | some o => s.answer p 0x000A o []
      | none =>
        (
          match s.hdaRefused (p.u8 0) with
          | some (st, d) => s.answer p st d []
          | none =>
            (s.storeSettings [([0x0007, p.u8 0], [p.u8 1])] true).answer p 0 0 [])))))

/-- At stage S2 or later an enabled string that trains is UP with what IDENT and the system zones hold, its slots' HDAs adopted and a refused one recorded; a lane loss or a third failed retraining takes it DOWN, else it retrains (R300). A CSTAT on an UP string shows temperatures and the other head's drive, counts missed deadlines, tells more than DL_THR of them in a second once, marks open windows whose temperature has moved too far, and takes the drive away where the carrier retracted or this head is not its driver (R302, R324). One second without it puts its sets out of context. Each second counts lost flits towards POOR: the tenth bad second in a row sets and records it, and while the partner is SYNCED the drive of that carrier is proposed to move where it can; 60 s below the threshold clear it (R300). A completion ends the carrier command of its tag: a stage's goes to the update, a query's is answered, with 0x180C unless OK, any other acts on what it ended. STRING_STATUS answers the string's registers and CARRIER_IDENT an UP string's IDENT, 0x1101 where it is not UP; DRIVE_SET asks the carrier for a release or a claim and its reply waits, refused where the string is not UP, where it does not drive or already leaves it, and for a claim before its carrier has joined (R357). Each wrong parameter is answered by its offset; elsewhere nothing changes. -/
def Obligations.StringsAndCarriers : Prop :=
  (∀ (s : State) (str : Nat) (ident : CarrierIdent) (found0 found1 : HdaFound), (str < 96) → exec (.stringUp str ident found0 found1) s = .next (State.settle (
    if s.start.reached < 2 ∨ s.on SYS.START_STS.DEAD ∨ ¬ s.stringEnabled str ∨ s.get (STR.STRING_STS.STATE str) = 2 then s
      else (s.stringUp str ident found0 found1).joinComp (0x200 + str) ident.fw))) ∧
  (∀ (s : State) (str : Nat) (laneLost : Bool), (str < 96) → exec (.stringDown str laneLost) s = .next (State.settle (
    if s.get (STR.STRING_STS.STATE str) = 0 then s else
      let n := (s.str str).retrains + 1
      let s := s.setStr str { s.str str with retrains := n }
      if laneLost ∨ 3 ≤ n then s.stringDown str else s.stringTo str 1))) ∧
  (∀ (s : State) (str : Nat) (c : Cstat), (str < 96) → (-128 ≤ c.temp0) → (c.temp0 ≤ 127) → (-128 ≤ c.temp1) → (c.temp1 ≤ 127) → exec (.cstat str c) s = .next (State.settle (
    if s.get (STR.STRING_STS.STATE str) ≠ 2 then s else
      let byte := fun (t : Int) => (BitVec.ofInt 8 t).toNat
      let s := (s.put (STR.STRING_STS.TEMP0_C str) (byte c.temp0)).put (STR.STRING_STS.TEMP1_C str) (byte c.temp1)
      let s := s.put (STR.STRING_STS.OTHER_DRIVES str) (b2n c.otherDrives)
      let n := c.deadlines0 + c.deadlines1
      let x := s.str str
      let new := x.dlSince + Config.sec ≤ s.aon
      let sum := (if new then 0 else x.dlMisses) + n
      let excess := decide (max 1 (s.get SRV.CFG.DL_THR) < sum)
      let told := !new && x.dlTold
      let s := s.setStr str { x with
        cstatAt := s.aon, fresh := true, dlMisses := sum, dlSince := if new then s.aon else x.dlSince, dlTold := told || excess }
      let s := s.count SRV.DL_CNT.COUNT n
      let add := fun (s : State) (h m : Nat) => s.setServo h { s.servo h with dlMisses := (s.servo h).dlMisses + m }
      let s := add (add s (2 * str) c.deadlines0) (2 * str + 1) c.deadlines1
      let s := if excess ∧ ¬ told then (s.setB SRV.STS.DL_MISS).record 0x0F03 0 str 0 [] else s
      let far := fun (t : HSet) => t.hda / 2 = str && decide (0 < t.winCw) && (match t.winTemp, s.hdaTemp t.hda with
        | some w, some z => decide (max 1 (s.get TUN.HDA_VAL.TEMP_TOL_C) < tempGap z w)
        | _, _ => false)
      let s := (s.act.hsets.filter far).foldl (fun (s : State) t => s.setHset { t with winBad := true }) s
      let s := if c.retracted then (s.setB (STR.STRING_STS.RETRACTED str)).setStr str { s.str str with handed := false } else s
      let s := if c.retracted ∨ ¬ c.driver then s.driveLost str else s
      (s.showDriver str).listen str))) ∧
  (∀ (s : State) (str : Nat), (str < 96) → exec (.cstatTimeout str) s = .next (State.settle (
    let x := s.str str
      if x.fresh then (s.passTo (x.cstatAt + Config.sec)).setStr str { x with fresh := false } else s))) ∧
  (∀ (s : State) , exec (.poorCheck) s = .next (State.settle (
    let s := s.passTo (s.nextTick Config.sec)
      let thr := max 1 (s.get STR.CFG.RT_LOSS_THR)
      (List.range 96).foldl (fun (s : State) k =>
        let x := s.str k
        let bad := thr ≤ x.rtLost - x.lostAt
        let s := s.setStr k { x with
          lostAt := x.rtLost, badSecs := if bad then x.badSecs + 1 else 0, goodSecs := if bad then 0 else x.goodSecs + 1 }
        if bad ∧ 9 ≤ x.badSecs ∧ ¬ s.on (STR.STRING_STS.POOR k) then
          let s := (s.setB (STR.STRING_STS.POOR k)).record 0x1101 0 k 0 []
          if s.synced ∧ s.on (STR.STRING_STS.DRIVER k) ∧ ¬ s.pair.downThere.contains (hdaCode (2 * k)) then
            s.propose (.drive k (s.headNo = 0)) else s
        else s) s))) ∧
  (∀ (s : State) (str : Nat), (str < 96) → exec (.poorClear str) s = .next (State.settle (if 60 ≤ (s.str str).goodSecs then s.clrB (STR.STRING_STS.POOR str) else s))) ∧
  (∀ (s : State) (str tag : Nat) (st : CarStatus) (gates : Nat) (vers : List Nat), (str < 96) → exec (.carrierCompletion str tag st gates vers) s = .next (State.settle (
    match s.hdas.cmds.find? (fun c => c.str = str ∧ c.tag = tag) with
      | none => s
      | some c =>
        let s := s.setHdas fun d => { d with cmds := d.cmds.filter (· ≠ c) }
        match c.use_ with
        | .stage sub off => s.stageDone (0x200 + str) sub off (carCode st) vers
        | .version p =>
          if st = .ok then (s.setCompVer (0x200 + str) (vers.getD 0 0)).answerLater p 0 0
            ((List.range 3).flatMap (fun i => leBytes 4 (vers.getD i 0)))
          else s.answerLater p 0x180C (0x200 + str) []
        | _ => s.carrierDone c st gates))) ∧
  (∀ (z : State) (p : Packet) (s : State), (Runs z p 0x1101) → (s = z.begun p) → exec (.stringStatus p) z = .next (State.settle (
    (
      match rsvdByte p [1, 2, 3] with
      | some o => s.answer p 0x000A o []
      | none =>
        (
          let k := p.u8 0
          if 96 ≤ k then s.answer p 0x000A 0 [] else if ¬ s.stringEnabled k then s.answer p 0x0004 k [] else
            let b := 0xF0100 + 16 * k
            let (bs, s) := s.readRegs [b, b + 4, b + 8, b + 12]
            s.answer p 0 0 bs))))) ∧
  (∀ (z : State) (p : Packet) (s : State), (Runs z p 0x1102) → (s = z.begun p) → exec (.carrierIdent p) z = .next (State.settle (
    (
      match rsvdByte p [1, 2, 3] with
      | some o => s.answer p 0x000A o []
      | none =>
        (
          let k := p.u8 0
          if 96 ≤ k then s.answer p 0x000A 0 [] else if ¬ s.stringEnabled k then s.answer p 0x0004 k [] else
            match s.get (STR.STRING_STS.STATE k), (s.str k).ident with
            | 2, some c => s.answer p 0 0 (slice c.serial 0 16 ++ leBytes 4 c.fw ++ leBytes 1 (b2n c.slot0.isSome + 2 * b2n c.slot1.isSome) ++ [0, 0, 0])
            | _, _ => s.answer p 0x1101 k []))))) ∧
  (∀ (z : State) (p : Packet) (s : State), (Runs z p 0x9110) → (s = z.begun p) → exec (.driveSet p) z = .next (State.settle (
    (
      match rsvdByte p [2, 3] with
      | some o => s.answer p 0x000A o []
      | none =>
        (
          let k := p.u8 0
          if 96 ≤ k then s.answer p 0x000A 0 [] else if ¬ s.stringEnabled k then s.answer p 0x0004 k [] else
            if 2 < p.u8 1 then s.answer p 0x000A 1 []
            else if s.get (STR.STRING_STS.STATE k) ≠ 2 then s.answer p 0x1101 k []
            else if p.u8 1 = 0 then
              if ¬ s.on (STR.STRING_STS.DRIVER k) ∨ (s.str k).leave then s.answer p 0x0E02 k []
              else ((s.askRelease k (some p)).promised p)
            else if ¬ (s.str k).joined then s.answer p 0x000F 3 []
            else ((s.claim k (p.u8 1 = 2) (some p)).promised p))))))

/-- Good RSAMP flits of a run with a pair gather at their place in its buffer, a gap filled with zeros; beyond 2^20 samples the run overruns (R307, R314). A grantable run gets a pair when one is free for it, in class order (R313), and yields it, after RUN_MS or at once for class 3, while a run of a higher class waits. A sector decoded gives its bytes to the run and goes on, with a reallocation after step 4 or later; one that fails goes to step 3, is read again, and then to step 6; after an overrun the stream starts again from the sector; a capture answers with its samples (R319, R329). A reallocation that is durable enters the table, is counted and is shipped (R321, R323). A zone reset puts the write pointer to 0 and adds 1 to the write pass, once no reallocation of the zone is held (R318). Load classes follow the granted pairs and PES every 100 ms (R324); an open window too short stays, a closed one gives a candidate unless it is spoilt, the complex is in reset or tuning is frozen (R326); changed sets are flushed each hour (R328). HDA_STATUS, HDA_IDENT, HDA_FORMAT of an HDA this head drives whose serial is given and that holds no bands, ZONE_SETS (free bytes for a set the zone lacks), REALLOC_LIST and SAMPLE_CAPTURE, whose reply waits, act as their table says. Each wrong parameter or state is answered by its status; elsewhere nothing changes. -/
def Obligations.CentralReadChannel : Prop :=
  (∀ (s : State) (str head slot stream first : Nat) (samples : List Byte) (fcrc : Nat), (str < 96) → (head < 2 ^ 32) → (slot < 256) → (stream < 2 ^ 16) → (first < 2 ^ 40) → (samples.length = 112) → (fcrc < 2 ^ 32) → exec (.rsamp str head slot stream first samples fcrc) s = .next (State.settle (
    let bytes := leBytes 4 head ++ leBytes 1 slot ++ leBytes 2 stream ++ leBytes 5 first ++ samples ++ leBytes 4 fcrc
    if s.get (STR.STRING_STS.STATE str) ≠ 2 ∨ otherTyp 6 bytes then s else
      let s := s.rtArrive str bytes
      if ¬ flitGood bytes then s else
      let h := 2 * str + slot / 128
      match s.dp.runs.find? (fun r => r.hda = h && !r.write && r.pairAt.isSome && r.id % 65536 = stream) with
      | none => s
      | some r =>
        if ¬ s.drives h ∨ r.overrun ∨ first < r.base + r.samples.length then s else
        let gap := List.replicate (first - (r.base + r.samples.length)) (0 : Byte)
        let all := r.samples ++ gap ++ samples
        if 2 ^ 20 < all.length then (s.setRun { r with overrun := true }).setB HRC.STS.OVERRUN
        else s.setRun { r with samples := all }))) ∧
  (∀ (s : State) (run : Nat), exec (.runGrant run) s = .next (State.settle (
    match s.hrun run with
      | none => s
      | some r =>
        let q := r.hda / 48
        let ahead := (s.dp.runs.filter (fun x => x.hda / 48 = q && s.grantable x && x.before r)).length
        if ¬ s.grantable r ∨ s.poolPairs q ≤ s.poolBusy q + ahead then s else
        let (t, s) := s.chooseHset (s.runEpoch r) r.hda r.zone
        let used := (t.map (fun t => t.cur.state)).getD .valid
        let r := { r with pairAt := some s.aon, yield_ := false, overrun := false, step := if used = .suspect then 2 else 1, revs := 0
                          load := (t.map HSet.load).getD 1, used := used }
        let s := (s.setRun r).setSpin r.hda { s.spin r.hda with lastRun := s.aon }
        s.startStream r))) ∧
  (∀ (s : State) (run : Nat), exec (.runPreempt run) s = .next (State.settle (
    match s.hrun run with
      | none => s
      | some r =>
        match r.pairAt with
        | none => s
        | some t =>
          if ¬ s.dp.runs.any (fun x => x.hda / 48 = r.hda / 48 && s.grantable x && x.cls < r.cls) then s else
          let s := if r.cls = 3 then s else s.passTo (t + max 1 (s.get HRC.POOL_CFG.RUN_MS) * Config.ms)
          s.setRun { r with yield_ := true }))) ∧
  (∀ (s : State) (run it : Nat) (tag : Option Nat) (mark used : Nat), (it ≤ 12) → (mark < 3) → exec (.sectorDecode run it tag mark used) s = .next (State.settle (
    match s.hrun run with
      | none => s
      | some r =>
        if r.pairAt.isNone ∨ r.write ∨ s.srvState r.hda ≠ 2 then s else
        let first := r.step ≤ 2
        let s := if first ∧ mark = 1 then s.count (HRC.HDAh_STS.SM1_MISS r.hda) 1 else s
        let x := r.sector + r.done_
        match r.use_ with
        | .capture p off => (s.finishRead r).answerLater p 0 0 (slice r.samples off 4096)
        | _ =>
        if r.overrun then
          let r := { r with overrun := false, step := if r.used = .suspect then 2 else 1 }
          ((s.count HRC.OVERRUN_CNT.COUNT 1).setRun r).startStream r
        else
          let o := s.sectorOf r.hda r.zone x
          let ok := !(first && mark = 2) && decide (it ≤ s.mostIt r) && tag.any (fun t => bitsAt t 30 34 = o.1 * 262144 + o.2)
          let s := if ¬ first then s else match s.hset r.hda r.zone r.load with
            | some t => s.setHset (t.decoded (s.hdaTemp r.hda) r.used it ok)
            | none => s
          if ok then
            let s := if 4 ≤ r.step then s.realloc r.hda (o.1 * 262144 + o.2) (s.sectorBytes r.hda r.zone x) else s
            s.nextSector r used
          else if r.step ≤ 2 then s.setRun { r with step := 3 }
          else if r.step = 3 ∨ r.step = 4 then s.reread r used
          else s.sectorStep6 r used))) ∧
  (∀ (s : State) (hda sector : Nat), exec (.reallocationDurable hda sector) s = .next (State.settle (
    match s.hdaMedia hda, s.hdas.held.find? (fun e => e.1 = hda ∧ e.2.1 = sector) with
      | some m, some e =>
        let busy := s.dp.runs.any (fun r => match r.use_ with
          | .realloc h x _ => h = hda && x = sector
          | _ => false)
        if busy then s else
        let m' := { m with realloc := m.realloc.filter (fun x => x.1 ≠ sector) ++ [(sector, e.2.2, s.dev / Config.ms % 2 ^ 32)] }
        let s := (s.setHdaMedia m').setHdas fun d => { d with held := d.held.filter (fun x => ¬ (x.1 = hda ∧ x.2.1 = sector)) }
        ((((s.setB HRC.STS.REALLOC).count HRC.REALLOC_CNT.COUNT 1).ship 4 [hda, sector, e.2.2] []).showHda hda).nextRealloc (hda / 48)
      | _, _ => s))) ∧
  (∀ (s : State) (hda zone : Nat), exec (.zoneReset hda zone) s = .next (State.settle (
    match s.hdaMedia hda, s.nv.media.bands.find? (fun b => b.zone = zone && b.resets.contains hda) with
      | some m, some b =>
        if s.hdas.held.any (fun e => e.1 = hda && e.2.1 / 262144 = zone) then s else
        let s := s.setHdaMedia { m with
          wptr := listPut m.wptr zone 0, pass := listPut m.pass zone ((listGet m.pass zone + 1) % 2 ^ 24) }
        (s.setBand { b with resets := b.resets.filter (· ≠ hda) }).ownDone b.set b.zone
      | _, _ => s))) ∧
  (∀ (s : State) , exec (.hdaLoadClassUpdate) s = .next (State.settle (
    let s := s.passTo (s.nextTick (100 * Config.ms))
      let full := s.get TUN.HDA_LOAD.FULL_STREAMS
      let light := min full (s.get TUN.HDA_LOAD.LIGHT_STREAMS)
      let cls := fun (h : Nat) =>
        let n := s.poolBusy (h / 48)
        let pes := s.pesRms h
        if full ≤ n ∨ s.get TUN.HDA_LOAD.PES_FULL ≤ pes then 2
        else if n < light ∧ pes < s.get TUN.HDA_LOAD.PES_LIGHT then 0 else 1
      s.setHdas fun d => { d with loads := ((List.range 192).filter (fun h => 2 ≤ s.hdaState h)).map (fun h => (h, cls h)) }))) ∧
  (∀ (s : State) (hda zone load : Nat) (gf gt np : List Int) (clr : Nat) (temp : Int) (bw : Nat), (hda < 192) → (load < 3) → exec (.hdaWindowClose hda zone load gf gt np clr temp bw) s = .next (State.settle (
    match s.hset hda zone load, s.hdaIdent hda with
      | some t, some i =>
        if t.winCw < max 128 (s.get TUN.HDA_CAL.CAL_SECT) then s else
        let shut : HSet := { t with winCw := 0, winIt := 0, winTemp := none, winBad := false }
        let s := s.setHset shut
        if t.winBad ∨ s.cmd.inReset ∨ s.on TUN.STS.FROZEN then s else
        let n := t.winCw * 2 ^ s.get TUN.HDA_CAL.MU_LOG2
        let tol := max 1 (s.get TUN.HDA_VAL.TEMP_TOL_C)
        let like := s.act.hsets.filter (fun x => x.hda = hda && decide (0 < x.cur.windows) && decide (tempGap temp x.cur.tagTemp ≤ tol) &&
          !(x.zone = zone && x.load = load))
        let goal := median (clr :: like.map (fun x => x.cur.clr))
        let step := Int.ofNat (max 1 (s.get TUN.HDA_CAL.HEAT_STEP))
        let move := clampInt step (roundDiv (Int.ofNat clr - Int.ofNat goal) 16)
        let top := Int.ofNat i.heatMax - Int.ofNat (i.entry zone).heatDef
        let heat := sat8 (min top (t.cur.heat + move))
        let s := if top < t.cur.heat + move then s.setB TUN.HDA_STS.HEAT_CLAMP else s
        let v : HVals := { t.cur with
          eq := (List.range 16).map (fun k => sat8 (t.cur.eq.getD k 0 - roundDiv (gf.getD k 0) n))
          tgt := (List.range 4).map (fun k => sat8 (t.cur.tgt.getD k 0 + roundDiv (gt.getD k 0) n))
          np := (List.range 24).map (fun k => sat8 (Config.npFit np k))
          heat := heat, tagTemp := temp, tagBw := bw, clr := clr, windows := t.cur.windows + 1, state := .candidate }
        s.setHdas fun d => { d with cands := putHset d.cands { shut with cur := v } }
      | _, _ => s))) ∧
  (∀ (s : State) , exec (.hdaSetFlush) s = .next (State.settle (
    let s := s.passTo (s.hdas.flushAt + Config.hour)
      let s := (s.hdas.changed.filter s.drives).foldl State.flushSets s
      s.setHdas fun d => { d with flushAt := s.aon }))) ∧
  (∀ (z : State) (p : Packet) (s : State), (Runs z p 0x0E01) → (s = z.begun p) → exec (.hdaStatus p) z = .next (State.settle (
    (
      match rsvdByte p [1, 2, 3] with
      | some o => s.answer p 0x000A o []
      | none =>
        (
          match s.hdaRefused (p.u8 0) with
          | some (st, d) => s.answer p st d []
          | none =>
            let h := p.u8 0
            let (w, s) := s.readRegs [0xC0100 + 4 * h]
            match s.hdaMedia h with
            | some m => s.answer p 0 0 (w ++ leBytes 4 m.realloc.length ++ leBytes 4 (s.freeSpares m) ++ leBytes 4 m.step6)
            | none => s.answer p 0x0E01 h []))))) ∧
  (∀ (z : State) (p : Packet) (s : State), (Runs z p 0x0E02) → (s = z.begun p) → exec (.hdaIdent p) z = .next (State.settle (
    (
      match rsvdByte p [1, 2, 3] with
      | some o => s.answer p 0x000A o []
      | none =>
        (
          match s.hdaRefused (p.u8 0) with
          | some (st, d) => s.answer p st d []
          | none =>
            match s.hdaIdent (p.u8 0) with
            | some i => s.answer p 0 0 (identBytes i)
            | none => s.answer p 0x0E01 (p.u8 0) []))))) ∧
  (∀ (z : State) (p : Packet) (s : State), (Runs z p 0x0E03) → (s = z.begun p) → exec (.hdaFormat p) z = .next (State.settle (
    (
      match rsvdByte p [1, 2, 3] with
      | some o => s.answer p 0x000A o []
      | none =>
        (
          match s.hdaRefused (p.u8 0) with
          | some (st, d) => s.answer p st d []
          | none =>
            let h := p.u8 0
            match s.hdaMedia h with
            | none => s.answer p 0x0E01 h []
            | some m =>
              if ¬ s.drives h then s.answer p 0x0E02 (h / 2) []
              else if fieldAt m.ident.serial 0 4 ≠ p.u32 4 then s.answer p 0x000A 4 []
              else if 0 < s.hdaBands h then s.answer p 0x0E03 (min (2 ^ 32 - 1) (s.hdaBands h)) []
              else
                let s := s.setHdaMedia { m with
                  formatted := true, realloc := [], wptr := [], sets := [], step6 := 0, step6At := [], formats := m.formats + 1 }
                let drop := fun (t : Tables) => ({ t with hsets := t.hsets.filter (fun x => x.hda ≠ h) } : Tables)
                let s := { s with act := drop s.act, shadow := drop s.shadow }
                let s := s.setHdas fun d => { d with held := d.held.filter (fun e => e.1 ≠ h), queued := d.queued.filter (fun e => e.1 ≠ h)
                                                     cands := d.cands.filter (fun t => t.hda ≠ h)
                                                     changed := d.changed.filter (· ≠ h) }
                s.showHdas.answer p 0 0 []))))) ∧
  (∀ (z : State) (p : Packet) (s : State), (Runs z p 0x0E04) → (s = z.begun p) → exec (.zoneSets p) z = .next (State.settle (
    (
      match rsvdByte p [1, 2, 3] with
      | some o => s.answer p 0x000A o []
      | none =>
        (
          match s.hdaRefused (p.u8 0) with
          | some (st, d) => s.answer p st d []
          | none =>
            let h := p.u8 0
            match s.hdaIdent h with
            | none => s.answer p 0x0E01 h []
            | some i =>
              if ¬ s.drives h then s.answer p 0x0E02 (h / 2) []
              else if allZones i ≤ p.u32 4 then s.answer p 0x0E04 0 []
              else
                let (bs, s) := [0, 1, 2].foldl (fun (a : List Byte × State) l => match a.2.hset h (p.u32 4) l with
                  | some t => (a.1 ++ t.bytes, a.2)
                  | none => let (f, s) := a.2.freeBytes 64; (a.1 ++ f, s)) ([], s)
                s.answer p 0 0 bs))))) ∧
  (∀ (z : State) (p : Packet) (s : State), (Runs z p 0x0E05) → (s = z.begun p) → exec (.reallocList p) z = .next (State.settle (
    (
      match rsvdByte p [1, 2, 3] with
      | some o => s.answer p 0x000A o []
      | none =>
        (
          match s.hdaRefused (p.u8 0) with
          | some (st, d) => s.answer p st d []
          | none =>
            match s.hdaMedia (p.u8 0) with
            | none => s.answer p 0x0E01 (p.u8 0) []
            | some m => s.answer p 0 0 (leBytes 4 m.realloc.length ++
                ((m.realloc.drop (p.u32 4)).take 255).flatMap (fun e => leBytes 8 e.1 ++ leBytes 4 e.2.1 ++ leBytes 4 e.2.2))))))) ∧
  (∀ (z : State) (p : Packet) (s : State), (Runs z p 0x8E10) → (s = z.begun p) → exec (.sampleCapture p) z = .next (State.settle (
    (
      match rsvdByte p [1, 2, 3] with
      | some o => s.answer p 0x000A o []
      | none =>
        (
          match s.hdaRefused (p.u8 0) with
          | some (st, d) => s.answer p st d []
          | none =>
            let h := p.u8 0
            match s.hdaIdent h with
            | none => s.answer p 0x0E01 h []
            | some i =>
              if ¬ s.drives h then s.answer p 0x0E02 (h / 2) []
              else if allZones i ≤ p.u32 4 ∨ 262144 ≤ p.u32 8 then s.answer p 0x0E04 0 []
              else if 35360 < p.u32 12 + 4096 then s.answer p 0x000A 12 []
              else ((s.askRun h 3 (p.u32 4) (p.u32 8) 1 false [] (.capture p (p.u32 12))).promised p))))))

/-- Between stage S2's settings and stage S3, a channel of supported modules like those of channel 0 trains once, from cached results that check or by the full training, showing rate, type, usable size and whether the results were cached, and its due soft repairs become permanent where a spare row is left (R437 to R440, R442); when no channel of a quadrant trains the quadrant is out of service, and with no quadrant left the head is dead with cause 3 (R92). On a trained channel a corrected error counts, and PPR_CE of one row in a day enter a soft repair (R442); scrubbing visits all DRAM every SCRUB_H hours (R441); an uncorrectable one is counted, recorded and kept in MEM_ERR if that is free, and a dirty line of the slice replaces what the line held, else it is recovered by what it was (R443). A corrected SRAM error counts towards its column's repair (R452); of a context it is a parity error of its cluster and the pair or connection is lost, of a line of the metadata cache the line goes and a dirty one's map is rebuilt, any other resets the complex for banks 45 to 47 (R445). The background test counts blocks, takes a failing block out of use, on the spare blocks while there are some (R450), and once every block was tested ends the lap, telling one more than a tenth late (R451). ZQ calibration takes 128 ms of time and changes nothing else. Elsewhere nothing changes. -/
def Obligations.DramAndSramEvents : Prop :=
  (∀ (s : State) (ch : Nat) (d ref : Dimm) (checkOk fullOk : Bool) (hard : List Nat), (ch < 12) → exec (.channelTraining ch d ref checkOk fullOk hard) s = .next (State.settle (
    if s.start.reached ≠ 2 ∨ ¬ s.start.settingsApplied ∨ s.on SYS.START_STS.DEAD ∨ (s.chan ch).tried then s else
      let q := ch / 3
      let t := if dimmAlike d ref then dimmType d else none
      let rate := min ((t.map Prod.snd).getD 0) (s.forced MEM.CFG.RATE_CAP)
      let rec_ := rate :: d.spd.map (fun b => b.toNat)
      let cached := decide (s.setting [0x0003, ch] = some rec_) && checkOk
      let ok := t.isSome && (cached || fullOk)
      let first := !((List.range 3).any (fun i => (s.chan (3 * q + i)).tried))
      let s := s.setChan ch { s.chan ch with tried := true, trained := ok }
      let s := if ok ∧ ¬ cached then s.storeSettings [([0x0003, ch], rec_)] true else s
      let s := if ¬ ok then s else
        let s := (s.putBit (MEM.Qn_STS.TRAINED q) (ch % 3) true).put (MEM.Qn_STS.RATE q) rate
        let s := s.put (MEM.Qn_STS.TYPE q) ((t.map Prod.fst).getD 0)
        s.put (MEM.Qn_STS.USABLE_GIB q) (min 512 (3 * d.gib))
      let s := s.put (MEM.Qn_STS.CACHED_RESULTS q) (b2n (cached && (first || s.on (MEM.Qn_STS.CACHED_RESULTS q))))
      let due := s.pprList.filter (fun x => x / 2 ^ 32 = ch)
      let s := if due.isEmpty then s else
        (s.storeSettings [([0x0004, 1], s.pprList.filter (fun x => x / 2 ^ 32 ≠ ch))] true).count MEM.PPR_STS.HARD
          (due.filter (fun x => hard.contains (x % 2 ^ 32))).length
      if (List.range 3).all (fun i => (s.chan (3 * q + i)).tried) ∧ s.get (MEM.Qn_STS.TRAINED q) ≠ 7 then
        let s := s.quadDown q 1
        if [0, 1, 2, 3].all (fun n => s.bit SYS.START_STS.Q_DOWN n) then s.die 3 else s
      else s))) ∧
  (∀ (s : State) , exec (.zqCalibration) s = .next (State.settle (if s.mem.chans.any Chan.trained then s.passTo (s.nextTick (128 * Config.ms)) else s))) ∧
  (∀ (s : State) (rows : List (Nat × Nat)), (rows.all (fun x => x.1 < 12)) → exec (.scrub rows) s = .next (State.settle (
    if ¬ s.mem.chans.any Chan.trained then s else
      let s := s.passTo (s.mem.scrubAt + max 1 (s.get MEM.CFG.SCRUB_H) * Config.hour)
      let s := s.setMem fun m => { m with scrubAt := s.aon }
      (rows.filter (fun x => (s.chan x.1).trained)).foldl (fun (s : State) x => s.dramCe x.1 x.2) s))) ∧
  (∀ (s : State) (ch row : Nat), (ch < 12) → exec (.dramCe ch row) s = .next (State.settle (if (s.chan ch).trained then s.dramCe ch row else s))) ∧
  (∀ (s : State) (ch addr : Nat) (c : UeContent), (ch < 12) → (addr < 2 ^ 39) → exec (.dramUe ch addr c) s = .next (State.settle (
    if ¬ (s.chan ch).trained then s else
      let s := (s.setB MEM.STS.UE).count (MEM.CHc_ERR.UE ch) 1
      let s := if s.on MEM.ERR.VALID then s else
        ((s.setB MEM.ERR.VALID).put MEM.ERR.CHANNEL ch).put MEM.ERR.ADDR_16K (addr / 16384)
      let s := s.record 0x1501 0 ch 0 []
      let q := ch / 3
      let x := s.mcc q
      match x.find (addr / 128) with
      | some l =>
        if l.dirty then (s.setMcc q { x with lines := x.lines.map (fun y => if y = l then { y with dirty := false } else y) }).count
          (MCC.Qn_WB.COUNT q) 1
        else (s.setMcc q { x with lines := x.lines.filter (· ≠ l) }).recoverUe c
      | none => s.recoverUe c))) ∧
  (∀ (s : State) (quad bank : Nat) (e : SramErr), (quad < 4) → (bank < 48) → exec (.sramUe quad bank e) s = .next (State.settle (
    match e with
      | .single col => s.columnCe (48 * quad + bank) col
      | .context cluster qp num =>
        let s := s.setB MEM.STS.UE_SRAM
        let s := s.parityError (cluster / 8 % 4) (cluster % 8)
        if qp then (if (s.qp num).state = 2 ∨ (s.qp num).state = 1 then s.qpFault num 6 3 else s) else s.loseConn num
      | .cacheLine addr lost =>
        let s := s.setB MEM.STS.UE_SRAM
        let x := s.mcc quad
        (match x.find addr with
        | some l =>
          let s := s.setMcc quad { x with lines := x.lines.filter (· ≠ l) }
          if l.dirty then s.rebuildMap lost else s
        | none => s)
      | .other =>
        let s := s.setB MEM.STS.UE_SRAM
        if bank < 45 then s else
        let (n, s) := s.draw
        (s.record (n % 2 ^ 16) 0 (64 * quad + bank) 0 []).mcRestart))) ∧
  (∀ (s : State) (quad bank block : Nat) (ok : Bool), (quad < 4) → (bank < 48) → (block < 256) → exec (.blockTest quad bank block ok) s = .next (State.settle (
    let i := 48 * quad + bank
      let b := s.bank i
      let awake := s.pwr.quads.getD quad .gated = .awake
      if ¬ b.bgt ∨ ¬ s.on MEM.BGT_CFG.EN ∨ bank < 45 ∧ ¬ awake then s else
      let s := s.setMem fun m => { m with lapDone := m.lapDone + 1 }
      let s := s.put MEM.BGT_STS.LAP_PCT (min 100 (100 * s.mem.lapDone / (256 * s.bgtBanks)))
      if ok then s
      else if b.spared.length < 8 then
        ((s.setBank i { b with spared := b.spared ++ [block] }).setB MEM.STS.BLOCK_SPARED).record 0x1502 0 (64 * quad + bank) 0 []
      else
        let s := s.setBank i { b with gone := insertNat b.gone block }
        { s with nv := { s.nv with bistOnce := insertNat s.nv.bistOnce i } }))) ∧
  (∀ (s : State) , exec (.bgtLapEnd) s = .next (State.settle (
    if s.mem.lapDone < 256 * s.bgtBanks ∨ s.bgtBanks = 0 then s else
      let due := max 1 (s.get MEM.BGT_CFG.PERIOD_H) * Config.hour
      let late := 11 * due < 10 * (s.aon - s.mem.lapAt)
      let s := (s.count MEM.BGT_STS.LAPS 1).put MEM.BGT_STS.LAP_PCT 0
      let s := s.setMem fun m => { m with lapAt := s.aon, lapDone := 0 }
      if late then
        let (n, s) := s.draw
        (s.setB MEM.BGT_STS.LATE).record (n % 2 ^ 16) 0 0 0 []
      else s)))

/-- A write of MCC_CTL by an identity that may write it sets the prefetch fields and enables or begins to drain each slice by its EN bit; from an identity that does not reach the register it changes nothing, and from another that would change the register it is refused and recorded (R514). A slice that has drained has its dirty lines written back and counted, every line invalid, and is DISABLED unless EN is 1 again. MEM_STATUS, SRAM_HEALTH, MCC_STATS and REPAIR_MODE_SET answer for a quadrant in service: MCC_STATS clears the prefetch register it read; SRAM_HEALTH gives each bank's test mode and spare columns left; REPAIR_MODE_SET of a bank below 48 and a mode 0 or 1 holds the modes of all banks in the settings block until the next cold reset (R449). Each wrong parameter is answered by its offset and a quadrant out of service as Table 7 says. -/
def Obligations.SlicesAndMemoryCommands : Prop :=
  (∀ (s : State) (ident : Nat) (data : Word), exec (.sliceDisable ident data) s = .next (State.settle (s.mccWrite ident data))) ∧
  (∀ (s : State) (ident : Nat) (data : Word), exec (.sliceEnable ident data) s = .next (State.settle (s.mccWrite ident data))) ∧
  (∀ (s : State) (slice : Nat), (slice < 4) → exec (.sliceDrainDone slice) s = .next (State.settle (
    if ¬ s.mccDraining slice then s else
      let x := s.mcc slice
      let s := (s.count (MCC.Qn_WB.COUNT slice) (x.lines.filter MccLine.dirty).length).setMcc slice { x with lines := [] }
      (s.putBit MCC.STS.DRAINING slice false).putBit MCC.STS.DISABLED slice (!s.bit MCC.CTL.EN slice)))) ∧
  (∀ (z : State) (p : Packet) (s : State), (Runs z p 0x1501) → (s = z.begun p) → exec (.memStatus p) z = .next (State.settle (
    (
      match locQuadrant p with
      | none => s.answer p 0x0005 0 []
      | some q =>
        if s.bit SYS.START_STS.Q_DOWN q then s.answer p 0x1501 q [] else
        let c := 0x130080 + 12 * q
        let (bs, s) := s.readRegs [0x130020 + 4 * q, c, c + 4, c + 8, 0x13000C]
        s.answer p 0 0 bs)))) ∧
  (∀ (z : State) (p : Packet) (s : State), (Runs z p 0x1502) → (s = z.begun p) → exec (.sramHealth p) z = .next (State.settle (
    (
      match locQuadrant p with
      | none => s.answer p 0x0005 0 []
      | some q =>
        if s.bit SYS.START_STS.Q_DOWN q then s.answer p 0x1501 q [] else
        s.answer p 0 0 ((List.range 48).flatMap (fun b =>
          leBytes 1 (b2n (s.bank (48 * q + b)).bgt) ++ leBytes 1 (s.sparesLeft (48 * q + b)))))))) ∧
  (∀ (z : State) (p : Packet) (s : State), (Runs z p 0x9510) → (s = z.begun p) → exec (.repairModeSet p) z = .next (State.settle (
    (
      match rsvdByte p [2, 3] with
      | some o => s.answer p 0x000A o []
      | none =>
        (
          match locQuadrant p with
          | none => s.answer p 0x0005 0 []
          | some q =>
            if s.bit SYS.START_STS.Q_DOWN q then s.answer p 0x1501 q [] else
            if 48 ≤ p.u8 0 then s.answer p 0x000A 0 []
            else if 1 < p.u8 1 then s.answer p 0x000A 1 []
            else
              let mode := fun (i : Nat) => if i = 48 * q + p.u8 0 then p.u8 1 = 1 else s.bankMode i
              let ws := (List.range 4).map (fun n => ((List.range 48).map (fun b => if mode (48 * n + b) then 2 ^ b else 0)).sum)
              (s.storeSettings [([0x0004, 0], ws)] true).answer p 0 0 []))))) ∧
  (∀ (z : State) (p : Packet) (s : State), (Runs z p 0x1601) → (s = z.begun p) → exec (.mccStats p) z = .next (State.settle (
    (
      match locQuadrant p with
      | none => s.answer p 0x0005 0 []
      | some q =>
        if s.bit SYS.START_STS.Q_DOWN q then s.answer p 0x1501 q [] else
        let b := 0x140010 + 16 * q
        let used := s.get (MCC.Qn_PF.USED q)
        let waste := s.get (MCC.Qn_PF.WASTE q)
        let (bs, s) := s.readRegs [b, b + 4, b + 8]
        let s := s.clearRc (b + 12)
        let w := fun (i : Nat) => fieldAt bs (4 * i) 4
        s.answer p 0 0 (leBytes 8 (w 0) ++ leBytes 8 (w 1) ++ leBytes 8 (w 2) ++ leBytes 8 used ++ leBytes 8 waste)))))

/-- UPD_OPEN of a header that passes checks 1 to 6 opens the image for loading, with LOAD_VER 0, and a waiting UPD_ACTIVATE ends with 0x1807; the first check that fails gives its status: 0x1801 with the offset, 0x1802 signature, 0x1803 type, 0x1804 unit, 0x1805 floor, 0x1806 manifest, its DETAIL a free value for a missing entry (R493). UPD_DATA within the body, its reserved field zero, places its bytes in LOADING; UPD_CLOSE discards the image when the body's digest, its key (log entry 155) or a component's digest is wrong, and else leaves it LOADED with LOAD_VER its version (R494); UPD_CANCEL discards what is not idle (R505, R506). Each answers 0x1809 while an activation runs. UPD_ACTIVATE starts the activation on the capo unless the grant is given away or a component blocks it; on the other head it asks for the capo's grant and its reply waits (R498); ACTIVATE_SOLO with the unit's serial (log entry 157) starts it without partner and grant. UPD_STATUS answers the registers, COMP_STATUS of an enabled component that is up sends QUERY and its reply waits, 0x180C where it is not up (R496), and LICENCE_SET stores a licence whose signature verifies, else 0x180F. Each wrong parameter is answered by its offset. -/
def Obligations.UpdateCommands : Prop :=
  (∀ (z : State) (p : Packet) (s : State), (Runs z p 0x1801) → (s = z.begun p) → exec (.updStatus p) z = .next (State.settle (
    let (bs, s) := s.readRegs [0x160000, 0x160004, 0x160008, 0x16000C, 0x160010, 0x160014]
    s.answer p 0 0 bs))) ∧
  (∀ (z : State) (p : Packet) (s : State), (Runs z p 0x1802) → (s = z.begun p) → exec (.updOpen p) z = .next (State.settle (
    let h := slice p.params 0 4096
    let im := parseImage h
    if s.updBusy then s.answer p 0x1809 s.updState []
    else match headerFails h with
    | some off => s.answer p 0x1801 off []
    | none =>
      if ¬ s.signatureGood h then s.answer p 0x1802 (fieldAt h 5 1) []
      else if ¬ s.typeFits im then s.answer p 0x1803 (s.word 0 % 2 ^ 16) []
      else if ¬ s.unitFits im then s.answer p 0x1804 0 []
      else if ¬ s.floorAccepts im.version then s.answer p 0x1805 s.updFloor []
      else match manifestFails im with
      | some i =>
        if i < im.comps.length then s.answer p 0x1806 (96 + 64 * i) [] else
        let (n, s) := s.draw
        s.answer p 0x1806 (n % 2 ^ 32) []
      | none =>
        let s := s.endAsked 0x1807 1
        ((((s.setUpd fun u => { u with image := some im, placed := 0 }).updTo 1).put UPD.LOAD_VER.VER 0).answer p 0 0 [])))) ∧
  (∀ (z : State) (p : Packet) (s : State), (Runs z p 0x1803) → (s = z.begun p) → exec (.updData p) z = .next (State.settle (
    match s.upd.image with
    | none => s.answer p 0x000F 3 []
    | some im =>
      let data := (p.params.drop 8).take (p.plen - 8)
      if s.updBusy then s.answer p 0x1809 s.updState []
      else if s.updState ≠ 1 then s.answer p 0x000F 3 []
      else if im.bodyLen < p.u32 0 + data.length then s.answer p 0x000A 0 []
      else if p.u32 4 ≠ 0 then s.answer p 0x000A 4 []
      else ((s.setUpd fun u => { u with image := some { im with body := (p.u32 0, data) :: im.body }, placed := u.placed + data.length }).answer p 0 0 [])))) ∧
  (∀ (z : State) (p : Packet) (s : State), (Runs z p 0x1804) → (s = z.begun p) → exec (.updClose p) z = .next (State.settle (
    match s.upd.image with
    | none => s.answer p 0x000F 3 []
    | some im =>
      if s.updBusy then s.answer p 0x1809 s.updState []
      else if s.updState ≠ 1 then s.answer p 0x000F 3 []
      else if Config.sha 384 (im.bytes 0 im.bodyLen) ≠ im.bodyDigest then ((s.dropImage).answer p 0x1808 0xFF [])
      else if ¬ s.bodyKeyGood im then ((s.dropImage).answer p 0x1802 (fieldAt im.header 5 1) [])
      else match (List.range im.comps.length).find? (fun i =>
          let c := im.comps.getD i default
          Config.sha 256 (im.bytes c.offset c.length) ≠ c.digest) with
      | some i => ((s.dropImage).answer p 0x1808 i [])
      | none => (((s.updTo 2).put UPD.LOAD_VER.VER im.version).answer p 0 0 [])))) ∧
  (∀ (z : State) (p : Packet) (s : State), (Runs z p 0x1805) → (s = z.begun p) → exec (.updActivate p) z = .next (State.settle (
    match s.activateBlocked false with
    | some (st, d) => s.answer p st d []
    | none =>
      if s.isCapo then
        if s.upd.given then s.answer p 0x180A (s.get NRN.PAIR_STS.PARTNER) []
        else match s.compsBlocked with
        | some (st, d) => s.answer p st d []
        | none => (((s.setUpd fun u => { u with granted := true }).startActivation).answer p 0 0 [])
      else if s.upd.asked.isSome then s.answer p 0x000F 3 []
      else (((s.setUpd fun u => { u with asked := some p }).sendNrn 5 3 [3] []).promised p)))) ∧
  (∀ (z : State) (p : Packet) (s : State), (Runs z p 0x1806) → (s = z.begun p) → exec (.updCancel p) z = .next (State.settle (
    if s.updBusy then s.answer p 0x1809 s.updState []
    else if s.updState = 0 then s.answer p 0x000F 3 []
    else (((s.endAsked 0x1807 0).dropImage).answer p 0 0 [])))) ∧
  (∀ (z : State) (p : Packet) (s : State), (Runs z p 0x1807) → (s = z.begun p) → exec (.licenceSet p) z = .next (State.settle (
    let b := slice p.params 0 88
    if ¬ s.licenceGood b then s.answer p 0x180F 0 []
    else (((s.storeSettings [([0x000A], b.map (fun x => x.toNat))] true).loadSettings.showHdas).answer p 0 0 [])))) ∧
  (∀ (z : State) (p : Packet) (s : State), (Runs z p 0x1808) → (s = z.begun p) → exec (.compStatus p) z = .next (State.settle (
    let (k, n) := (p.u8 0, p.u8 1)
    if 1 < k then s.answer p 0x000A 0 []
    else if (if k = 0 then 48 else 96) ≤ n then s.answer p 0x000A 1 []
    else if p.u16 2 ≠ 0 then s.answer p 0x000A (if p.u8 2 ≠ 0 then 2 else 3) []
    else if ¬ (if k = 0 then s.linkEnabled n else s.stringEnabled n) then s.answer p 0x0004 n []
    else
      let c := (if k = 0 then 0x100 else 0x200) + n
      if ¬ s.compUp c then s.answer p 0x180C c []
      else if k = 0 then ((s.sendBridge n 9 [0] [] (.version p)).promised p)
      else ((s.sendCarrier n 8 [0] (.version p)).promised p)))) ∧
  (∀ (z : State) (p : Packet) (s : State), (Runs z p 0x9810) → (s = z.begun p) → exec (.activateSolo p) z = .next (State.settle (
    if p.u32 0 ≠ leNat (s.nv.serial.take 4) then s.answer p 0x000A 0 []
    else match (s.activateBlocked true).orElse (fun _ => s.compsBlocked) with
    | some (st, d) => s.answer p st d []
    | none => ((s.startActivation).answer p 0 0 []))))

/-- A component whose BEGIN was refused is asked with QUERY when its second is over (R501); without such a component nothing changes. A SWITCH without a report within 200 ms fails the activation with its component; reverts without a report by then end as failed (R500). A written image in state WRITING, with no warm reset begun, is the region's image and is arriving; a warm reset follows, or HELD where the partner fell SILENT (R499, R505). -/
def Obligations.UpdateEvents : Prop :=
  (∀ (s : State) (comp : Nat), exec (.stageRetry comp) s = .next (State.settle (
    match s.job? comp with
      | some { phase := .retry t, .. } => (s.passTo t).sendStage comp 0 0 [] []
      | _ => s))) ∧
  (∀ (s : State) , exec (.switchTimeout) s = .next (State.settle (
    if s.updState ≠ 4 then s else
      let s := s.passTo (s.upd.switchAt + 200 * Config.ms)
      match s.upd.failing with
      | some _ => (s.upd.jobs.filter (fun j => !j.join)).foldl (fun (s : State) j => s.revertEnds j.comp false) s
      | none => match s.upd.jobs.find? (fun j => !j.join && j.phase = .switch) with
        | some j => s.failActivation 0x180E j.comp
        | none => s))) ∧
  (∀ (s : State) , exec (.imageWritten) s = .next (State.settle (
    match s.upd.image with
      | none => s
      | some im =>
        if s.updState ≠ 5 ∨ s.start.warm ≠ .none then s else
        let s := { s with nv := { s.nv with region := some im, arriving := true } }
        if s.upd.hold then s.updTo 7 else (s.updTo 6).beginWarm)))
end

