-- ==== Sys2Proof/Laws/State.lean ====
section
/-! SUPPORT. What each update of the state leaves as it was: one lemma per field and update. -/

namespace Sys2Proof.Machine

variable (s : State)

@[simp] theorem State.put_pending (f : Fld) (v : Nat) : (s.put f v).pending = s.pending := rfl
@[simp] theorem State.put_aon (f : Fld) (v : Nat) : (s.put f v).aon = s.aon := rfl
@[simp] theorem State.put_dev (f : Fld) (v : Nat) : (s.put f v).dev = s.dev := rfl
@[simp] theorem State.put_free (f : Fld) (v : Nat) : (s.put f v).free = s.free := rfl
@[simp] theorem State.put_out (f : Fld) (v : Nat) : (s.put f v).out = s.out := rfl
@[simp] theorem State.put_nv (f : Fld) (v : Nat) : (s.put f v).nv = s.nv := rfl
@[simp] theorem State.put_pwr (f : Fld) (v : Nat) : (s.put f v).pwr = s.pwr := rfl
@[simp] theorem State.put_spares (f : Fld) (v : Nat) : (s.put f v).spares = s.spares := rfl
@[simp] theorem State.put_start (f : Fld) (v : Nat) : (s.put f v).start = s.start := rfl
@[simp] theorem State.put_act (f : Fld) (v : Nat) : (s.put f v).act = s.act := rfl
@[simp] theorem State.put_shadow (f : Fld) (v : Nat) : (s.put f v).shadow = s.shadow := rfl
@[simp] theorem State.put_retiring (f : Fld) (v : Nat) : (s.put f v).retiring = s.retiring := rfl
@[simp] theorem State.put_jobs (f : Fld) (v : Nat) : (s.put f v).jobs = s.jobs := rfl
@[simp] theorem State.put_cmd (f : Fld) (v : Nat) : (s.put f v).cmd = s.cmd := rfl
@[simp] theorem State.put_hq (f : Fld) (v : Nat) : (s.put f v).hq = s.hq := rfl
@[simp] theorem State.put_vrm (f : Fld) (v : Nat) : (s.put f v).vrm = s.vrm := rfl
@[simp] theorem State.put_dp (f : Fld) (v : Nat) : (s.put f v).dp = s.dp := rfl
@[simp] theorem State.put_pair (f : Fld) (v : Nat) : (s.put f v).pair = s.pair := rfl
@[simp] theorem State.put_hdas (f : Fld) (v : Nat) : (s.put f v).hdas = s.hdas := rfl
@[simp] theorem State.put_mem (f : Fld) (v : Nat) : (s.put f v).mem = s.mem := rfl
@[simp] theorem State.put_evr (f : Fld) (v : Nat) : (s.put f v).evr = s.evr := rfl
@[simp] theorem State.put_pci (f : Fld) (v : Nat) : (s.put f v).pci = s.pci := rfl
@[simp] theorem State.put_upd (f : Fld) (v : Nat) : (s.put f v).upd = s.upd := rfl

@[simp] theorem State.setB_pending (f : Fld) : (s.setB f).pending = s.pending := rfl
@[simp] theorem State.setB_aon (f : Fld) : (s.setB f).aon = s.aon := rfl
@[simp] theorem State.setB_dev (f : Fld) : (s.setB f).dev = s.dev := rfl
@[simp] theorem State.setB_free (f : Fld) : (s.setB f).free = s.free := rfl
@[simp] theorem State.setB_out (f : Fld) : (s.setB f).out = s.out := rfl
@[simp] theorem State.setB_nv (f : Fld) : (s.setB f).nv = s.nv := rfl
@[simp] theorem State.setB_pwr (f : Fld) : (s.setB f).pwr = s.pwr := rfl
@[simp] theorem State.setB_spares (f : Fld) : (s.setB f).spares = s.spares := rfl
@[simp] theorem State.setB_start (f : Fld) : (s.setB f).start = s.start := rfl
@[simp] theorem State.setB_act (f : Fld) : (s.setB f).act = s.act := rfl
@[simp] theorem State.setB_shadow (f : Fld) : (s.setB f).shadow = s.shadow := rfl
@[simp] theorem State.setB_retiring (f : Fld) : (s.setB f).retiring = s.retiring := rfl
@[simp] theorem State.setB_jobs (f : Fld) : (s.setB f).jobs = s.jobs := rfl
@[simp] theorem State.setB_cmd (f : Fld) : (s.setB f).cmd = s.cmd := rfl
@[simp] theorem State.setB_hq (f : Fld) : (s.setB f).hq = s.hq := rfl
@[simp] theorem State.setB_vrm (f : Fld) : (s.setB f).vrm = s.vrm := rfl
@[simp] theorem State.setB_dp (f : Fld) : (s.setB f).dp = s.dp := rfl
@[simp] theorem State.setB_pair (f : Fld) : (s.setB f).pair = s.pair := rfl
@[simp] theorem State.setB_hdas (f : Fld) : (s.setB f).hdas = s.hdas := rfl
@[simp] theorem State.setB_mem (f : Fld) : (s.setB f).mem = s.mem := rfl
@[simp] theorem State.setB_evr (f : Fld) : (s.setB f).evr = s.evr := rfl
@[simp] theorem State.setB_pci (f : Fld) : (s.setB f).pci = s.pci := rfl
@[simp] theorem State.setB_upd (f : Fld) : (s.setB f).upd = s.upd := rfl

@[simp] theorem State.clrB_pending (f : Fld) : (s.clrB f).pending = s.pending := rfl
@[simp] theorem State.clrB_aon (f : Fld) : (s.clrB f).aon = s.aon := rfl
@[simp] theorem State.clrB_dev (f : Fld) : (s.clrB f).dev = s.dev := rfl
@[simp] theorem State.clrB_free (f : Fld) : (s.clrB f).free = s.free := rfl
@[simp] theorem State.clrB_out (f : Fld) : (s.clrB f).out = s.out := rfl
@[simp] theorem State.clrB_nv (f : Fld) : (s.clrB f).nv = s.nv := rfl
@[simp] theorem State.clrB_pwr (f : Fld) : (s.clrB f).pwr = s.pwr := rfl
@[simp] theorem State.clrB_spares (f : Fld) : (s.clrB f).spares = s.spares := rfl
@[simp] theorem State.clrB_start (f : Fld) : (s.clrB f).start = s.start := rfl
@[simp] theorem State.clrB_act (f : Fld) : (s.clrB f).act = s.act := rfl
@[simp] theorem State.clrB_shadow (f : Fld) : (s.clrB f).shadow = s.shadow := rfl
@[simp] theorem State.clrB_retiring (f : Fld) : (s.clrB f).retiring = s.retiring := rfl
@[simp] theorem State.clrB_jobs (f : Fld) : (s.clrB f).jobs = s.jobs := rfl
@[simp] theorem State.clrB_cmd (f : Fld) : (s.clrB f).cmd = s.cmd := rfl
@[simp] theorem State.clrB_hq (f : Fld) : (s.clrB f).hq = s.hq := rfl
@[simp] theorem State.clrB_vrm (f : Fld) : (s.clrB f).vrm = s.vrm := rfl
@[simp] theorem State.clrB_dp (f : Fld) : (s.clrB f).dp = s.dp := rfl
@[simp] theorem State.clrB_pair (f : Fld) : (s.clrB f).pair = s.pair := rfl
@[simp] theorem State.clrB_hdas (f : Fld) : (s.clrB f).hdas = s.hdas := rfl
@[simp] theorem State.clrB_mem (f : Fld) : (s.clrB f).mem = s.mem := rfl
@[simp] theorem State.clrB_evr (f : Fld) : (s.clrB f).evr = s.evr := rfl
@[simp] theorem State.clrB_pci (f : Fld) : (s.clrB f).pci = s.pci := rfl
@[simp] theorem State.clrB_upd (f : Fld) : (s.clrB f).upd = s.upd := rfl

@[simp] theorem State.count_pending (f : Fld) (n : Nat) : (s.count f n).pending = s.pending := rfl
@[simp] theorem State.count_aon (f : Fld) (n : Nat) : (s.count f n).aon = s.aon := rfl
@[simp] theorem State.count_dev (f : Fld) (n : Nat) : (s.count f n).dev = s.dev := rfl
@[simp] theorem State.count_free (f : Fld) (n : Nat) : (s.count f n).free = s.free := rfl
@[simp] theorem State.count_out (f : Fld) (n : Nat) : (s.count f n).out = s.out := rfl
@[simp] theorem State.count_nv (f : Fld) (n : Nat) : (s.count f n).nv = s.nv := rfl
@[simp] theorem State.count_pwr (f : Fld) (n : Nat) : (s.count f n).pwr = s.pwr := rfl
@[simp] theorem State.count_spares (f : Fld) (n : Nat) : (s.count f n).spares = s.spares := rfl
@[simp] theorem State.count_start (f : Fld) (n : Nat) : (s.count f n).start = s.start := rfl
@[simp] theorem State.count_act (f : Fld) (n : Nat) : (s.count f n).act = s.act := rfl
@[simp] theorem State.count_shadow (f : Fld) (n : Nat) : (s.count f n).shadow = s.shadow := rfl
@[simp] theorem State.count_retiring (f : Fld) (n : Nat) : (s.count f n).retiring = s.retiring := rfl
@[simp] theorem State.count_jobs (f : Fld) (n : Nat) : (s.count f n).jobs = s.jobs := rfl
@[simp] theorem State.count_cmd (f : Fld) (n : Nat) : (s.count f n).cmd = s.cmd := rfl
@[simp] theorem State.count_hq (f : Fld) (n : Nat) : (s.count f n).hq = s.hq := rfl
@[simp] theorem State.count_vrm (f : Fld) (n : Nat) : (s.count f n).vrm = s.vrm := rfl
@[simp] theorem State.count_dp (f : Fld) (n : Nat) : (s.count f n).dp = s.dp := rfl
@[simp] theorem State.count_pair (f : Fld) (n : Nat) : (s.count f n).pair = s.pair := rfl
@[simp] theorem State.count_hdas (f : Fld) (n : Nat) : (s.count f n).hdas = s.hdas := rfl
@[simp] theorem State.count_mem (f : Fld) (n : Nat) : (s.count f n).mem = s.mem := rfl
@[simp] theorem State.count_evr (f : Fld) (n : Nat) : (s.count f n).evr = s.evr := rfl
@[simp] theorem State.count_pci (f : Fld) (n : Nat) : (s.count f n).pci = s.pci := rfl
@[simp] theorem State.count_upd (f : Fld) (n : Nat) : (s.count f n).upd = s.upd := rfl

@[simp] theorem State.putBit_pending (f : Fld) (i : Nat) (b : Bool) : (s.putBit f i b).pending = s.pending := rfl
@[simp] theorem State.putBit_aon (f : Fld) (i : Nat) (b : Bool) : (s.putBit f i b).aon = s.aon := rfl
@[simp] theorem State.putBit_dev (f : Fld) (i : Nat) (b : Bool) : (s.putBit f i b).dev = s.dev := rfl
@[simp] theorem State.putBit_free (f : Fld) (i : Nat) (b : Bool) : (s.putBit f i b).free = s.free := rfl
@[simp] theorem State.putBit_out (f : Fld) (i : Nat) (b : Bool) : (s.putBit f i b).out = s.out := rfl
@[simp] theorem State.putBit_nv (f : Fld) (i : Nat) (b : Bool) : (s.putBit f i b).nv = s.nv := rfl
@[simp] theorem State.putBit_pwr (f : Fld) (i : Nat) (b : Bool) : (s.putBit f i b).pwr = s.pwr := rfl
@[simp] theorem State.putBit_spares (f : Fld) (i : Nat) (b : Bool) : (s.putBit f i b).spares = s.spares := rfl
@[simp] theorem State.putBit_start (f : Fld) (i : Nat) (b : Bool) : (s.putBit f i b).start = s.start := rfl
@[simp] theorem State.putBit_act (f : Fld) (i : Nat) (b : Bool) : (s.putBit f i b).act = s.act := rfl
@[simp] theorem State.putBit_shadow (f : Fld) (i : Nat) (b : Bool) : (s.putBit f i b).shadow = s.shadow := rfl
@[simp] theorem State.putBit_retiring (f : Fld) (i : Nat) (b : Bool) : (s.putBit f i b).retiring = s.retiring := rfl
@[simp] theorem State.putBit_jobs (f : Fld) (i : Nat) (b : Bool) : (s.putBit f i b).jobs = s.jobs := rfl
@[simp] theorem State.putBit_cmd (f : Fld) (i : Nat) (b : Bool) : (s.putBit f i b).cmd = s.cmd := rfl
@[simp] theorem State.putBit_hq (f : Fld) (i : Nat) (b : Bool) : (s.putBit f i b).hq = s.hq := rfl
@[simp] theorem State.putBit_vrm (f : Fld) (i : Nat) (b : Bool) : (s.putBit f i b).vrm = s.vrm := rfl
@[simp] theorem State.putBit_dp (f : Fld) (i : Nat) (b : Bool) : (s.putBit f i b).dp = s.dp := rfl
@[simp] theorem State.putBit_pair (f : Fld) (i : Nat) (b : Bool) : (s.putBit f i b).pair = s.pair := rfl
@[simp] theorem State.putBit_hdas (f : Fld) (i : Nat) (b : Bool) : (s.putBit f i b).hdas = s.hdas := rfl
@[simp] theorem State.putBit_mem (f : Fld) (i : Nat) (b : Bool) : (s.putBit f i b).mem = s.mem := rfl
@[simp] theorem State.putBit_evr (f : Fld) (i : Nat) (b : Bool) : (s.putBit f i b).evr = s.evr := rfl
@[simp] theorem State.putBit_pci (f : Fld) (i : Nat) (b : Bool) : (s.putBit f i b).pci = s.pci := rfl
@[simp] theorem State.putBit_upd (f : Fld) (i : Nat) (b : Bool) : (s.putBit f i b).upd = s.upd := rfl

@[simp] theorem State.emit_pending (o : Out) : (s.emit o).pending = s.pending := rfl
@[simp] theorem State.emit_flds (o : Out) : (s.emit o).flds = s.flds := rfl
@[simp] theorem State.emit_aon (o : Out) : (s.emit o).aon = s.aon := rfl
@[simp] theorem State.emit_dev (o : Out) : (s.emit o).dev = s.dev := rfl
@[simp] theorem State.emit_free (o : Out) : (s.emit o).free = s.free := rfl
@[simp] theorem State.emit_nv (o : Out) : (s.emit o).nv = s.nv := rfl
@[simp] theorem State.emit_pwr (o : Out) : (s.emit o).pwr = s.pwr := rfl
@[simp] theorem State.emit_spares (o : Out) : (s.emit o).spares = s.spares := rfl
@[simp] theorem State.emit_start (o : Out) : (s.emit o).start = s.start := rfl
@[simp] theorem State.emit_act (o : Out) : (s.emit o).act = s.act := rfl
@[simp] theorem State.emit_shadow (o : Out) : (s.emit o).shadow = s.shadow := rfl
@[simp] theorem State.emit_retiring (o : Out) : (s.emit o).retiring = s.retiring := rfl
@[simp] theorem State.emit_jobs (o : Out) : (s.emit o).jobs = s.jobs := rfl
@[simp] theorem State.emit_cmd (o : Out) : (s.emit o).cmd = s.cmd := rfl
@[simp] theorem State.emit_hq (o : Out) : (s.emit o).hq = s.hq := rfl
@[simp] theorem State.emit_vrm (o : Out) : (s.emit o).vrm = s.vrm := rfl
@[simp] theorem State.emit_dp (o : Out) : (s.emit o).dp = s.dp := rfl
@[simp] theorem State.emit_pair (o : Out) : (s.emit o).pair = s.pair := rfl
@[simp] theorem State.emit_hdas (o : Out) : (s.emit o).hdas = s.hdas := rfl
@[simp] theorem State.emit_mem (o : Out) : (s.emit o).mem = s.mem := rfl
@[simp] theorem State.emit_evr (o : Out) : (s.emit o).evr = s.evr := rfl
@[simp] theorem State.emit_pci (o : Out) : (s.emit o).pci = s.pci := rfl
@[simp] theorem State.emit_upd (o : Out) : (s.emit o).upd = s.upd := rfl
@[simp] theorem State.emit_out (o : Out) : (s.emit o).out = o :: s.out := rfl

@[simp] theorem State.pass_pending (ns : Nat) : (s.pass ns).pending = s.pending := rfl
@[simp] theorem State.pass_flds (ns : Nat) : (s.pass ns).flds = s.flds := rfl
@[simp] theorem State.pass_free (ns : Nat) : (s.pass ns).free = s.free := rfl
@[simp] theorem State.pass_out (ns : Nat) : (s.pass ns).out = s.out := rfl
@[simp] theorem State.pass_nv (ns : Nat) : (s.pass ns).nv = s.nv := rfl
@[simp] theorem State.pass_pwr (ns : Nat) : (s.pass ns).pwr = s.pwr := rfl
@[simp] theorem State.pass_spares (ns : Nat) : (s.pass ns).spares = s.spares := rfl
@[simp] theorem State.pass_start (ns : Nat) : (s.pass ns).start = s.start := rfl
@[simp] theorem State.pass_act (ns : Nat) : (s.pass ns).act = s.act := rfl
@[simp] theorem State.pass_shadow (ns : Nat) : (s.pass ns).shadow = s.shadow := rfl
@[simp] theorem State.pass_retiring (ns : Nat) : (s.pass ns).retiring = s.retiring := rfl
@[simp] theorem State.pass_jobs (ns : Nat) : (s.pass ns).jobs = s.jobs := rfl
@[simp] theorem State.pass_cmd (ns : Nat) : (s.pass ns).cmd = s.cmd := rfl
@[simp] theorem State.pass_hq (ns : Nat) : (s.pass ns).hq = s.hq := rfl
@[simp] theorem State.pass_vrm (ns : Nat) : (s.pass ns).vrm = s.vrm := rfl
@[simp] theorem State.pass_dp (ns : Nat) : (s.pass ns).dp = s.dp := rfl
@[simp] theorem State.pass_pair (ns : Nat) : (s.pass ns).pair = s.pair := rfl
@[simp] theorem State.pass_hdas (ns : Nat) : (s.pass ns).hdas = s.hdas := rfl
@[simp] theorem State.pass_mem (ns : Nat) : (s.pass ns).mem = s.mem := rfl
@[simp] theorem State.pass_evr (ns : Nat) : (s.pass ns).evr = s.evr := rfl
@[simp] theorem State.pass_pci (ns : Nat) : (s.pass ns).pci = s.pci := rfl
@[simp] theorem State.pass_upd (ns : Nat) : (s.pass ns).upd = s.upd := rfl
@[simp] theorem State.pass_aon (ns : Nat) : (s.pass ns).aon = s.aon + ns := rfl

@[simp] theorem State.passTo_pending (t : Nat) : (s.passTo t).pending = s.pending := rfl
@[simp] theorem State.passTo_flds (t : Nat) : (s.passTo t).flds = s.flds := rfl
@[simp] theorem State.passTo_free (t : Nat) : (s.passTo t).free = s.free := rfl
@[simp] theorem State.passTo_out (t : Nat) : (s.passTo t).out = s.out := rfl
@[simp] theorem State.passTo_nv (t : Nat) : (s.passTo t).nv = s.nv := rfl
@[simp] theorem State.passTo_pwr (t : Nat) : (s.passTo t).pwr = s.pwr := rfl
@[simp] theorem State.passTo_spares (t : Nat) : (s.passTo t).spares = s.spares := rfl
@[simp] theorem State.passTo_start (t : Nat) : (s.passTo t).start = s.start := rfl
@[simp] theorem State.passTo_act (t : Nat) : (s.passTo t).act = s.act := rfl
@[simp] theorem State.passTo_shadow (t : Nat) : (s.passTo t).shadow = s.shadow := rfl
@[simp] theorem State.passTo_retiring (t : Nat) : (s.passTo t).retiring = s.retiring := rfl
@[simp] theorem State.passTo_jobs (t : Nat) : (s.passTo t).jobs = s.jobs := rfl
@[simp] theorem State.passTo_cmd (t : Nat) : (s.passTo t).cmd = s.cmd := rfl
@[simp] theorem State.passTo_hq (t : Nat) : (s.passTo t).hq = s.hq := rfl
@[simp] theorem State.passTo_vrm (t : Nat) : (s.passTo t).vrm = s.vrm := rfl
@[simp] theorem State.passTo_dp (t : Nat) : (s.passTo t).dp = s.dp := rfl
@[simp] theorem State.passTo_pair (t : Nat) : (s.passTo t).pair = s.pair := rfl
@[simp] theorem State.passTo_hdas (t : Nat) : (s.passTo t).hdas = s.hdas := rfl
@[simp] theorem State.passTo_mem (t : Nat) : (s.passTo t).mem = s.mem := rfl
@[simp] theorem State.passTo_evr (t : Nat) : (s.passTo t).evr = s.evr := rfl
@[simp] theorem State.passTo_pci (t : Nat) : (s.passTo t).pci = s.pci := rfl
@[simp] theorem State.passTo_upd (t : Nat) : (s.passTo t).upd = s.upd := rfl
@[simp] theorem State.passTo_aon (t : Nat) : (s.passTo t).aon = s.aon + (t - s.aon) := rfl

@[simp] theorem State.media_pending (f : Media → Media) : (s.media f).pending = s.pending := rfl
@[simp] theorem State.media_flds (f : Media → Media) : (s.media f).flds = s.flds := rfl
@[simp] theorem State.media_aon (f : Media → Media) : (s.media f).aon = s.aon := rfl
@[simp] theorem State.media_dev (f : Media → Media) : (s.media f).dev = s.dev := rfl
@[simp] theorem State.media_free (f : Media → Media) : (s.media f).free = s.free := rfl
@[simp] theorem State.media_out (f : Media → Media) : (s.media f).out = s.out := rfl
@[simp] theorem State.media_pwr (f : Media → Media) : (s.media f).pwr = s.pwr := rfl
@[simp] theorem State.media_spares (f : Media → Media) : (s.media f).spares = s.spares := rfl
@[simp] theorem State.media_start (f : Media → Media) : (s.media f).start = s.start := rfl
@[simp] theorem State.media_act (f : Media → Media) : (s.media f).act = s.act := rfl
@[simp] theorem State.media_shadow (f : Media → Media) : (s.media f).shadow = s.shadow := rfl
@[simp] theorem State.media_retiring (f : Media → Media) : (s.media f).retiring = s.retiring := rfl
@[simp] theorem State.media_jobs (f : Media → Media) : (s.media f).jobs = s.jobs := rfl
@[simp] theorem State.media_cmd (f : Media → Media) : (s.media f).cmd = s.cmd := rfl
@[simp] theorem State.media_hq (f : Media → Media) : (s.media f).hq = s.hq := rfl
@[simp] theorem State.media_vrm (f : Media → Media) : (s.media f).vrm = s.vrm := rfl
@[simp] theorem State.media_dp (f : Media → Media) : (s.media f).dp = s.dp := rfl
@[simp] theorem State.media_pair (f : Media → Media) : (s.media f).pair = s.pair := rfl
@[simp] theorem State.media_hdas (f : Media → Media) : (s.media f).hdas = s.hdas := rfl
@[simp] theorem State.media_mem (f : Media → Media) : (s.media f).mem = s.mem := rfl
@[simp] theorem State.media_evr (f : Media → Media) : (s.media f).evr = s.evr := rfl
@[simp] theorem State.media_pci (f : Media → Media) : (s.media f).pci = s.pci := rfl
@[simp] theorem State.media_upd (f : Media → Media) : (s.media f).upd = s.upd := rfl
@[simp] theorem State.media_nv (f : Media → Media) : (s.media f).nv = { s.nv with media := f s.nv.media } := rfl

@[simp] theorem State.setDp_pending (f : Dp → Dp) : (s.setDp f).pending = s.pending := rfl
@[simp] theorem State.setDp_flds (f : Dp → Dp) : (s.setDp f).flds = s.flds := rfl
@[simp] theorem State.setDp_aon (f : Dp → Dp) : (s.setDp f).aon = s.aon := rfl
@[simp] theorem State.setDp_dev (f : Dp → Dp) : (s.setDp f).dev = s.dev := rfl
@[simp] theorem State.setDp_free (f : Dp → Dp) : (s.setDp f).free = s.free := rfl
@[simp] theorem State.setDp_out (f : Dp → Dp) : (s.setDp f).out = s.out := rfl
@[simp] theorem State.setDp_nv (f : Dp → Dp) : (s.setDp f).nv = s.nv := rfl
@[simp] theorem State.setDp_pwr (f : Dp → Dp) : (s.setDp f).pwr = s.pwr := rfl
@[simp] theorem State.setDp_spares (f : Dp → Dp) : (s.setDp f).spares = s.spares := rfl
@[simp] theorem State.setDp_start (f : Dp → Dp) : (s.setDp f).start = s.start := rfl
@[simp] theorem State.setDp_act (f : Dp → Dp) : (s.setDp f).act = s.act := rfl
@[simp] theorem State.setDp_shadow (f : Dp → Dp) : (s.setDp f).shadow = s.shadow := rfl
@[simp] theorem State.setDp_retiring (f : Dp → Dp) : (s.setDp f).retiring = s.retiring := rfl
@[simp] theorem State.setDp_jobs (f : Dp → Dp) : (s.setDp f).jobs = s.jobs := rfl
@[simp] theorem State.setDp_cmd (f : Dp → Dp) : (s.setDp f).cmd = s.cmd := rfl
@[simp] theorem State.setDp_hq (f : Dp → Dp) : (s.setDp f).hq = s.hq := rfl
@[simp] theorem State.setDp_vrm (f : Dp → Dp) : (s.setDp f).vrm = s.vrm := rfl
@[simp] theorem State.setDp_pair (f : Dp → Dp) : (s.setDp f).pair = s.pair := rfl
@[simp] theorem State.setDp_hdas (f : Dp → Dp) : (s.setDp f).hdas = s.hdas := rfl
@[simp] theorem State.setDp_mem (f : Dp → Dp) : (s.setDp f).mem = s.mem := rfl
@[simp] theorem State.setDp_evr (f : Dp → Dp) : (s.setDp f).evr = s.evr := rfl
@[simp] theorem State.setDp_pci (f : Dp → Dp) : (s.setDp f).pci = s.pci := rfl
@[simp] theorem State.setDp_upd (f : Dp → Dp) : (s.setDp f).upd = s.upd := rfl
@[simp] theorem State.setDp_dp (f : Dp → Dp) : (s.setDp f).dp = f s.dp := rfl

@[simp] theorem State.setPair_pending (f : Pair → Pair) : (s.setPair f).pending = s.pending := rfl
@[simp] theorem State.setPair_flds (f : Pair → Pair) : (s.setPair f).flds = s.flds := rfl
@[simp] theorem State.setPair_aon (f : Pair → Pair) : (s.setPair f).aon = s.aon := rfl
@[simp] theorem State.setPair_dev (f : Pair → Pair) : (s.setPair f).dev = s.dev := rfl
@[simp] theorem State.setPair_free (f : Pair → Pair) : (s.setPair f).free = s.free := rfl
@[simp] theorem State.setPair_out (f : Pair → Pair) : (s.setPair f).out = s.out := rfl
@[simp] theorem State.setPair_nv (f : Pair → Pair) : (s.setPair f).nv = s.nv := rfl
@[simp] theorem State.setPair_pwr (f : Pair → Pair) : (s.setPair f).pwr = s.pwr := rfl
@[simp] theorem State.setPair_spares (f : Pair → Pair) : (s.setPair f).spares = s.spares := rfl
@[simp] theorem State.setPair_start (f : Pair → Pair) : (s.setPair f).start = s.start := rfl
@[simp] theorem State.setPair_act (f : Pair → Pair) : (s.setPair f).act = s.act := rfl
@[simp] theorem State.setPair_shadow (f : Pair → Pair) : (s.setPair f).shadow = s.shadow := rfl
@[simp] theorem State.setPair_retiring (f : Pair → Pair) : (s.setPair f).retiring = s.retiring := rfl
@[simp] theorem State.setPair_jobs (f : Pair → Pair) : (s.setPair f).jobs = s.jobs := rfl
@[simp] theorem State.setPair_cmd (f : Pair → Pair) : (s.setPair f).cmd = s.cmd := rfl
@[simp] theorem State.setPair_hq (f : Pair → Pair) : (s.setPair f).hq = s.hq := rfl
@[simp] theorem State.setPair_vrm (f : Pair → Pair) : (s.setPair f).vrm = s.vrm := rfl
@[simp] theorem State.setPair_dp (f : Pair → Pair) : (s.setPair f).dp = s.dp := rfl
@[simp] theorem State.setPair_hdas (f : Pair → Pair) : (s.setPair f).hdas = s.hdas := rfl
@[simp] theorem State.setPair_mem (f : Pair → Pair) : (s.setPair f).mem = s.mem := rfl
@[simp] theorem State.setPair_evr (f : Pair → Pair) : (s.setPair f).evr = s.evr := rfl
@[simp] theorem State.setPair_pci (f : Pair → Pair) : (s.setPair f).pci = s.pci := rfl
@[simp] theorem State.setPair_upd (f : Pair → Pair) : (s.setPair f).upd = s.upd := rfl
@[simp] theorem State.setPair_pair (f : Pair → Pair) : (s.setPair f).pair = f s.pair := rfl

@[simp] theorem State.setHdas_pending (f : Hdas → Hdas) : (s.setHdas f).pending = s.pending := rfl
@[simp] theorem State.setHdas_flds (f : Hdas → Hdas) : (s.setHdas f).flds = s.flds := rfl
@[simp] theorem State.setHdas_aon (f : Hdas → Hdas) : (s.setHdas f).aon = s.aon := rfl
@[simp] theorem State.setHdas_dev (f : Hdas → Hdas) : (s.setHdas f).dev = s.dev := rfl
@[simp] theorem State.setHdas_free (f : Hdas → Hdas) : (s.setHdas f).free = s.free := rfl
@[simp] theorem State.setHdas_out (f : Hdas → Hdas) : (s.setHdas f).out = s.out := rfl
@[simp] theorem State.setHdas_nv (f : Hdas → Hdas) : (s.setHdas f).nv = s.nv := rfl
@[simp] theorem State.setHdas_pwr (f : Hdas → Hdas) : (s.setHdas f).pwr = s.pwr := rfl
@[simp] theorem State.setHdas_spares (f : Hdas → Hdas) : (s.setHdas f).spares = s.spares := rfl
@[simp] theorem State.setHdas_start (f : Hdas → Hdas) : (s.setHdas f).start = s.start := rfl
@[simp] theorem State.setHdas_act (f : Hdas → Hdas) : (s.setHdas f).act = s.act := rfl
@[simp] theorem State.setHdas_shadow (f : Hdas → Hdas) : (s.setHdas f).shadow = s.shadow := rfl
@[simp] theorem State.setHdas_retiring (f : Hdas → Hdas) : (s.setHdas f).retiring = s.retiring := rfl
@[simp] theorem State.setHdas_jobs (f : Hdas → Hdas) : (s.setHdas f).jobs = s.jobs := rfl
@[simp] theorem State.setHdas_cmd (f : Hdas → Hdas) : (s.setHdas f).cmd = s.cmd := rfl
@[simp] theorem State.setHdas_hq (f : Hdas → Hdas) : (s.setHdas f).hq = s.hq := rfl
@[simp] theorem State.setHdas_vrm (f : Hdas → Hdas) : (s.setHdas f).vrm = s.vrm := rfl
@[simp] theorem State.setHdas_dp (f : Hdas → Hdas) : (s.setHdas f).dp = s.dp := rfl
@[simp] theorem State.setHdas_pair (f : Hdas → Hdas) : (s.setHdas f).pair = s.pair := rfl
@[simp] theorem State.setHdas_mem (f : Hdas → Hdas) : (s.setHdas f).mem = s.mem := rfl
@[simp] theorem State.setHdas_evr (f : Hdas → Hdas) : (s.setHdas f).evr = s.evr := rfl
@[simp] theorem State.setHdas_pci (f : Hdas → Hdas) : (s.setHdas f).pci = s.pci := rfl
@[simp] theorem State.setHdas_upd (f : Hdas → Hdas) : (s.setHdas f).upd = s.upd := rfl
@[simp] theorem State.setHdas_hdas (f : Hdas → Hdas) : (s.setHdas f).hdas = f s.hdas := rfl

@[simp] theorem State.setMem_pending (f : Mem → Mem) : (s.setMem f).pending = s.pending := rfl
@[simp] theorem State.setMem_flds (f : Mem → Mem) : (s.setMem f).flds = s.flds := rfl
@[simp] theorem State.setMem_aon (f : Mem → Mem) : (s.setMem f).aon = s.aon := rfl
@[simp] theorem State.setMem_dev (f : Mem → Mem) : (s.setMem f).dev = s.dev := rfl
@[simp] theorem State.setMem_free (f : Mem → Mem) : (s.setMem f).free = s.free := rfl
@[simp] theorem State.setMem_out (f : Mem → Mem) : (s.setMem f).out = s.out := rfl
@[simp] theorem State.setMem_nv (f : Mem → Mem) : (s.setMem f).nv = s.nv := rfl
@[simp] theorem State.setMem_pwr (f : Mem → Mem) : (s.setMem f).pwr = s.pwr := rfl
@[simp] theorem State.setMem_spares (f : Mem → Mem) : (s.setMem f).spares = s.spares := rfl
@[simp] theorem State.setMem_start (f : Mem → Mem) : (s.setMem f).start = s.start := rfl
@[simp] theorem State.setMem_act (f : Mem → Mem) : (s.setMem f).act = s.act := rfl
@[simp] theorem State.setMem_shadow (f : Mem → Mem) : (s.setMem f).shadow = s.shadow := rfl
@[simp] theorem State.setMem_retiring (f : Mem → Mem) : (s.setMem f).retiring = s.retiring := rfl
@[simp] theorem State.setMem_jobs (f : Mem → Mem) : (s.setMem f).jobs = s.jobs := rfl
@[simp] theorem State.setMem_cmd (f : Mem → Mem) : (s.setMem f).cmd = s.cmd := rfl
@[simp] theorem State.setMem_hq (f : Mem → Mem) : (s.setMem f).hq = s.hq := rfl
@[simp] theorem State.setMem_vrm (f : Mem → Mem) : (s.setMem f).vrm = s.vrm := rfl
@[simp] theorem State.setMem_dp (f : Mem → Mem) : (s.setMem f).dp = s.dp := rfl
@[simp] theorem State.setMem_pair (f : Mem → Mem) : (s.setMem f).pair = s.pair := rfl
@[simp] theorem State.setMem_hdas (f : Mem → Mem) : (s.setMem f).hdas = s.hdas := rfl
@[simp] theorem State.setMem_evr (f : Mem → Mem) : (s.setMem f).evr = s.evr := rfl
@[simp] theorem State.setMem_pci (f : Mem → Mem) : (s.setMem f).pci = s.pci := rfl
@[simp] theorem State.setMem_upd (f : Mem → Mem) : (s.setMem f).upd = s.upd := rfl
@[simp] theorem State.setMem_mem (f : Mem → Mem) : (s.setMem f).mem = f s.mem := rfl

@[simp] theorem State.setUpd_pending (f : Upd → Upd) : (s.setUpd f).pending = s.pending := rfl
@[simp] theorem State.setUpd_flds (f : Upd → Upd) : (s.setUpd f).flds = s.flds := rfl
@[simp] theorem State.setUpd_aon (f : Upd → Upd) : (s.setUpd f).aon = s.aon := rfl
@[simp] theorem State.setUpd_dev (f : Upd → Upd) : (s.setUpd f).dev = s.dev := rfl
@[simp] theorem State.setUpd_free (f : Upd → Upd) : (s.setUpd f).free = s.free := rfl
@[simp] theorem State.setUpd_out (f : Upd → Upd) : (s.setUpd f).out = s.out := rfl
@[simp] theorem State.setUpd_nv (f : Upd → Upd) : (s.setUpd f).nv = s.nv := rfl
@[simp] theorem State.setUpd_pwr (f : Upd → Upd) : (s.setUpd f).pwr = s.pwr := rfl
@[simp] theorem State.setUpd_spares (f : Upd → Upd) : (s.setUpd f).spares = s.spares := rfl
@[simp] theorem State.setUpd_start (f : Upd → Upd) : (s.setUpd f).start = s.start := rfl
@[simp] theorem State.setUpd_act (f : Upd → Upd) : (s.setUpd f).act = s.act := rfl
@[simp] theorem State.setUpd_shadow (f : Upd → Upd) : (s.setUpd f).shadow = s.shadow := rfl
@[simp] theorem State.setUpd_retiring (f : Upd → Upd) : (s.setUpd f).retiring = s.retiring := rfl
@[simp] theorem State.setUpd_jobs (f : Upd → Upd) : (s.setUpd f).jobs = s.jobs := rfl
@[simp] theorem State.setUpd_cmd (f : Upd → Upd) : (s.setUpd f).cmd = s.cmd := rfl
@[simp] theorem State.setUpd_hq (f : Upd → Upd) : (s.setUpd f).hq = s.hq := rfl
@[simp] theorem State.setUpd_vrm (f : Upd → Upd) : (s.setUpd f).vrm = s.vrm := rfl
@[simp] theorem State.setUpd_dp (f : Upd → Upd) : (s.setUpd f).dp = s.dp := rfl
@[simp] theorem State.setUpd_pair (f : Upd → Upd) : (s.setUpd f).pair = s.pair := rfl
@[simp] theorem State.setUpd_hdas (f : Upd → Upd) : (s.setUpd f).hdas = s.hdas := rfl
@[simp] theorem State.setUpd_mem (f : Upd → Upd) : (s.setUpd f).mem = s.mem := rfl
@[simp] theorem State.setUpd_evr (f : Upd → Upd) : (s.setUpd f).evr = s.evr := rfl
@[simp] theorem State.setUpd_pci (f : Upd → Upd) : (s.setUpd f).pci = s.pci := rfl
@[simp] theorem State.setUpd_upd (f : Upd → Upd) : (s.setUpd f).upd = f s.upd := rfl

@[simp] theorem State.setSpare_pending (q : Nat) (x : Spare) : (s.setSpare q x).pending = s.pending := rfl
@[simp] theorem State.setSpare_flds (q : Nat) (x : Spare) : (s.setSpare q x).flds = s.flds := rfl
@[simp] theorem State.setSpare_aon (q : Nat) (x : Spare) : (s.setSpare q x).aon = s.aon := rfl
@[simp] theorem State.setSpare_dev (q : Nat) (x : Spare) : (s.setSpare q x).dev = s.dev := rfl
@[simp] theorem State.setSpare_free (q : Nat) (x : Spare) : (s.setSpare q x).free = s.free := rfl
@[simp] theorem State.setSpare_out (q : Nat) (x : Spare) : (s.setSpare q x).out = s.out := rfl
@[simp] theorem State.setSpare_nv (q : Nat) (x : Spare) : (s.setSpare q x).nv = s.nv := rfl
@[simp] theorem State.setSpare_pwr (q : Nat) (x : Spare) : (s.setSpare q x).pwr = s.pwr := rfl
@[simp] theorem State.setSpare_start (q : Nat) (x : Spare) : (s.setSpare q x).start = s.start := rfl
@[simp] theorem State.setSpare_act (q : Nat) (x : Spare) : (s.setSpare q x).act = s.act := rfl
@[simp] theorem State.setSpare_shadow (q : Nat) (x : Spare) : (s.setSpare q x).shadow = s.shadow := rfl
@[simp] theorem State.setSpare_retiring (q : Nat) (x : Spare) : (s.setSpare q x).retiring = s.retiring := rfl
@[simp] theorem State.setSpare_jobs (q : Nat) (x : Spare) : (s.setSpare q x).jobs = s.jobs := rfl
@[simp] theorem State.setSpare_cmd (q : Nat) (x : Spare) : (s.setSpare q x).cmd = s.cmd := rfl
@[simp] theorem State.setSpare_hq (q : Nat) (x : Spare) : (s.setSpare q x).hq = s.hq := rfl
@[simp] theorem State.setSpare_vrm (q : Nat) (x : Spare) : (s.setSpare q x).vrm = s.vrm := rfl
@[simp] theorem State.setSpare_dp (q : Nat) (x : Spare) : (s.setSpare q x).dp = s.dp := rfl
@[simp] theorem State.setSpare_pair (q : Nat) (x : Spare) : (s.setSpare q x).pair = s.pair := rfl
@[simp] theorem State.setSpare_hdas (q : Nat) (x : Spare) : (s.setSpare q x).hdas = s.hdas := rfl
@[simp] theorem State.setSpare_mem (q : Nat) (x : Spare) : (s.setSpare q x).mem = s.mem := rfl
@[simp] theorem State.setSpare_evr (q : Nat) (x : Spare) : (s.setSpare q x).evr = s.evr := rfl
@[simp] theorem State.setSpare_pci (q : Nat) (x : Spare) : (s.setSpare q x).pci = s.pci := rfl
@[simp] theorem State.setSpare_upd (q : Nat) (x : Spare) : (s.setSpare q x).upd = s.upd := rfl
@[simp] theorem State.setSpare_spares (q : Nat) (x : Spare) : (s.setSpare q x).spares = s.spares.set q x := rfl

@[simp] theorem State.setCluster_pending (c : Nat) (g : Gate) : (s.setCluster c g).pending = s.pending := rfl
@[simp] theorem State.setCluster_flds (c : Nat) (g : Gate) : (s.setCluster c g).flds = s.flds := rfl
@[simp] theorem State.setCluster_aon (c : Nat) (g : Gate) : (s.setCluster c g).aon = s.aon := rfl
@[simp] theorem State.setCluster_dev (c : Nat) (g : Gate) : (s.setCluster c g).dev = s.dev := rfl
@[simp] theorem State.setCluster_free (c : Nat) (g : Gate) : (s.setCluster c g).free = s.free := rfl
@[simp] theorem State.setCluster_out (c : Nat) (g : Gate) : (s.setCluster c g).out = s.out := rfl
@[simp] theorem State.setCluster_nv (c : Nat) (g : Gate) : (s.setCluster c g).nv = s.nv := rfl
@[simp] theorem State.setCluster_spares (c : Nat) (g : Gate) : (s.setCluster c g).spares = s.spares := rfl
@[simp] theorem State.setCluster_start (c : Nat) (g : Gate) : (s.setCluster c g).start = s.start := rfl
@[simp] theorem State.setCluster_act (c : Nat) (g : Gate) : (s.setCluster c g).act = s.act := rfl
@[simp] theorem State.setCluster_shadow (c : Nat) (g : Gate) : (s.setCluster c g).shadow = s.shadow := rfl
@[simp] theorem State.setCluster_retiring (c : Nat) (g : Gate) : (s.setCluster c g).retiring = s.retiring := rfl
@[simp] theorem State.setCluster_jobs (c : Nat) (g : Gate) : (s.setCluster c g).jobs = s.jobs := rfl
@[simp] theorem State.setCluster_cmd (c : Nat) (g : Gate) : (s.setCluster c g).cmd = s.cmd := rfl
@[simp] theorem State.setCluster_hq (c : Nat) (g : Gate) : (s.setCluster c g).hq = s.hq := rfl
@[simp] theorem State.setCluster_vrm (c : Nat) (g : Gate) : (s.setCluster c g).vrm = s.vrm := rfl
@[simp] theorem State.setCluster_dp (c : Nat) (g : Gate) : (s.setCluster c g).dp = s.dp := rfl
@[simp] theorem State.setCluster_pair (c : Nat) (g : Gate) : (s.setCluster c g).pair = s.pair := rfl
@[simp] theorem State.setCluster_hdas (c : Nat) (g : Gate) : (s.setCluster c g).hdas = s.hdas := rfl
@[simp] theorem State.setCluster_mem (c : Nat) (g : Gate) : (s.setCluster c g).mem = s.mem := rfl
@[simp] theorem State.setCluster_evr (c : Nat) (g : Gate) : (s.setCluster c g).evr = s.evr := rfl
@[simp] theorem State.setCluster_pci (c : Nat) (g : Gate) : (s.setCluster c g).pci = s.pci := rfl
@[simp] theorem State.setCluster_upd (c : Nat) (g : Gate) : (s.setCluster c g).upd = s.upd := rfl

@[simp] theorem State.setQuad_pending (q : Nat) (g : Gate) : (s.setQuad q g).pending = s.pending := rfl
@[simp] theorem State.setQuad_flds (q : Nat) (g : Gate) : (s.setQuad q g).flds = s.flds := rfl
@[simp] theorem State.setQuad_aon (q : Nat) (g : Gate) : (s.setQuad q g).aon = s.aon := rfl
@[simp] theorem State.setQuad_dev (q : Nat) (g : Gate) : (s.setQuad q g).dev = s.dev := rfl
@[simp] theorem State.setQuad_free (q : Nat) (g : Gate) : (s.setQuad q g).free = s.free := rfl
@[simp] theorem State.setQuad_out (q : Nat) (g : Gate) : (s.setQuad q g).out = s.out := rfl
@[simp] theorem State.setQuad_nv (q : Nat) (g : Gate) : (s.setQuad q g).nv = s.nv := rfl
@[simp] theorem State.setQuad_spares (q : Nat) (g : Gate) : (s.setQuad q g).spares = s.spares := rfl
@[simp] theorem State.setQuad_start (q : Nat) (g : Gate) : (s.setQuad q g).start = s.start := rfl
@[simp] theorem State.setQuad_act (q : Nat) (g : Gate) : (s.setQuad q g).act = s.act := rfl
@[simp] theorem State.setQuad_shadow (q : Nat) (g : Gate) : (s.setQuad q g).shadow = s.shadow := rfl
@[simp] theorem State.setQuad_retiring (q : Nat) (g : Gate) : (s.setQuad q g).retiring = s.retiring := rfl
@[simp] theorem State.setQuad_jobs (q : Nat) (g : Gate) : (s.setQuad q g).jobs = s.jobs := rfl
@[simp] theorem State.setQuad_cmd (q : Nat) (g : Gate) : (s.setQuad q g).cmd = s.cmd := rfl
@[simp] theorem State.setQuad_hq (q : Nat) (g : Gate) : (s.setQuad q g).hq = s.hq := rfl
@[simp] theorem State.setQuad_vrm (q : Nat) (g : Gate) : (s.setQuad q g).vrm = s.vrm := rfl
@[simp] theorem State.setQuad_dp (q : Nat) (g : Gate) : (s.setQuad q g).dp = s.dp := rfl
@[simp] theorem State.setQuad_pair (q : Nat) (g : Gate) : (s.setQuad q g).pair = s.pair := rfl
@[simp] theorem State.setQuad_hdas (q : Nat) (g : Gate) : (s.setQuad q g).hdas = s.hdas := rfl
@[simp] theorem State.setQuad_mem (q : Nat) (g : Gate) : (s.setQuad q g).mem = s.mem := rfl
@[simp] theorem State.setQuad_evr (q : Nat) (g : Gate) : (s.setQuad q g).evr = s.evr := rfl
@[simp] theorem State.setQuad_pci (q : Nat) (g : Gate) : (s.setQuad q g).pci = s.pci := rfl
@[simp] theorem State.setQuad_upd (q : Nat) (g : Gate) : (s.setQuad q g).upd = s.upd := rfl

@[simp] theorem State.setQp_pending (q : Qp) : (s.setQp q).pending = s.pending := rfl
@[simp] theorem State.setQp_flds (q : Qp) : (s.setQp q).flds = s.flds := rfl
@[simp] theorem State.setQp_aon (q : Qp) : (s.setQp q).aon = s.aon := rfl
@[simp] theorem State.setQp_dev (q : Qp) : (s.setQp q).dev = s.dev := rfl
@[simp] theorem State.setQp_free (q : Qp) : (s.setQp q).free = s.free := rfl
@[simp] theorem State.setQp_out (q : Qp) : (s.setQp q).out = s.out := rfl
@[simp] theorem State.setQp_nv (q : Qp) : (s.setQp q).nv = s.nv := rfl
@[simp] theorem State.setQp_pwr (q : Qp) : (s.setQp q).pwr = s.pwr := rfl
@[simp] theorem State.setQp_spares (q : Qp) : (s.setQp q).spares = s.spares := rfl
@[simp] theorem State.setQp_start (q : Qp) : (s.setQp q).start = s.start := rfl
@[simp] theorem State.setQp_act (q : Qp) : (s.setQp q).act = s.act := rfl
@[simp] theorem State.setQp_shadow (q : Qp) : (s.setQp q).shadow = s.shadow := rfl
@[simp] theorem State.setQp_retiring (q : Qp) : (s.setQp q).retiring = s.retiring := rfl
@[simp] theorem State.setQp_jobs (q : Qp) : (s.setQp q).jobs = s.jobs := rfl
@[simp] theorem State.setQp_cmd (q : Qp) : (s.setQp q).cmd = s.cmd := rfl
@[simp] theorem State.setQp_vrm (q : Qp) : (s.setQp q).vrm = s.vrm := rfl
@[simp] theorem State.setQp_dp (q : Qp) : (s.setQp q).dp = s.dp := rfl
@[simp] theorem State.setQp_pair (q : Qp) : (s.setQp q).pair = s.pair := rfl
@[simp] theorem State.setQp_hdas (q : Qp) : (s.setQp q).hdas = s.hdas := rfl
@[simp] theorem State.setQp_mem (q : Qp) : (s.setQp q).mem = s.mem := rfl
@[simp] theorem State.setQp_evr (q : Qp) : (s.setQp q).evr = s.evr := rfl
@[simp] theorem State.setQp_pci (q : Qp) : (s.setQp q).pci = s.pci := rfl
@[simp] theorem State.setQp_upd (q : Qp) : (s.setQp q).upd = s.upd := rfl

@[simp] theorem State.setConn_pending (c : Conn) : (s.setConn c).pending = s.pending := rfl
@[simp] theorem State.setConn_flds (c : Conn) : (s.setConn c).flds = s.flds := rfl
@[simp] theorem State.setConn_aon (c : Conn) : (s.setConn c).aon = s.aon := rfl
@[simp] theorem State.setConn_dev (c : Conn) : (s.setConn c).dev = s.dev := rfl
@[simp] theorem State.setConn_free (c : Conn) : (s.setConn c).free = s.free := rfl
@[simp] theorem State.setConn_out (c : Conn) : (s.setConn c).out = s.out := rfl
@[simp] theorem State.setConn_nv (c : Conn) : (s.setConn c).nv = s.nv := rfl
@[simp] theorem State.setConn_pwr (c : Conn) : (s.setConn c).pwr = s.pwr := rfl
@[simp] theorem State.setConn_spares (c : Conn) : (s.setConn c).spares = s.spares := rfl
@[simp] theorem State.setConn_start (c : Conn) : (s.setConn c).start = s.start := rfl
@[simp] theorem State.setConn_act (c : Conn) : (s.setConn c).act = s.act := rfl
@[simp] theorem State.setConn_shadow (c : Conn) : (s.setConn c).shadow = s.shadow := rfl
@[simp] theorem State.setConn_retiring (c : Conn) : (s.setConn c).retiring = s.retiring := rfl
@[simp] theorem State.setConn_jobs (c : Conn) : (s.setConn c).jobs = s.jobs := rfl
@[simp] theorem State.setConn_cmd (c : Conn) : (s.setConn c).cmd = s.cmd := rfl
@[simp] theorem State.setConn_hq (c : Conn) : (s.setConn c).hq = s.hq := rfl
@[simp] theorem State.setConn_dp (c : Conn) : (s.setConn c).dp = s.dp := rfl
@[simp] theorem State.setConn_pair (c : Conn) : (s.setConn c).pair = s.pair := rfl
@[simp] theorem State.setConn_hdas (c : Conn) : (s.setConn c).hdas = s.hdas := rfl
@[simp] theorem State.setConn_mem (c : Conn) : (s.setConn c).mem = s.mem := rfl
@[simp] theorem State.setConn_evr (c : Conn) : (s.setConn c).evr = s.evr := rfl
@[simp] theorem State.setConn_pci (c : Conn) : (s.setConn c).pci = s.pci := rfl
@[simp] theorem State.setConn_upd (c : Conn) : (s.setConn c).upd = s.upd := rfl

@[simp] theorem State.setPort_pending (p : Nat) (x : Port) : (s.setPort p x).pending = s.pending := rfl
@[simp] theorem State.setPort_flds (p : Nat) (x : Port) : (s.setPort p x).flds = s.flds := rfl
@[simp] theorem State.setPort_aon (p : Nat) (x : Port) : (s.setPort p x).aon = s.aon := rfl
@[simp] theorem State.setPort_dev (p : Nat) (x : Port) : (s.setPort p x).dev = s.dev := rfl
@[simp] theorem State.setPort_free (p : Nat) (x : Port) : (s.setPort p x).free = s.free := rfl
@[simp] theorem State.setPort_out (p : Nat) (x : Port) : (s.setPort p x).out = s.out := rfl
@[simp] theorem State.setPort_nv (p : Nat) (x : Port) : (s.setPort p x).nv = s.nv := rfl
@[simp] theorem State.setPort_pwr (p : Nat) (x : Port) : (s.setPort p x).pwr = s.pwr := rfl
@[simp] theorem State.setPort_spares (p : Nat) (x : Port) : (s.setPort p x).spares = s.spares := rfl
@[simp] theorem State.setPort_start (p : Nat) (x : Port) : (s.setPort p x).start = s.start := rfl
@[simp] theorem State.setPort_act (p : Nat) (x : Port) : (s.setPort p x).act = s.act := rfl
@[simp] theorem State.setPort_shadow (p : Nat) (x : Port) : (s.setPort p x).shadow = s.shadow := rfl
@[simp] theorem State.setPort_retiring (p : Nat) (x : Port) : (s.setPort p x).retiring = s.retiring := rfl
@[simp] theorem State.setPort_jobs (p : Nat) (x : Port) : (s.setPort p x).jobs = s.jobs := rfl
@[simp] theorem State.setPort_cmd (p : Nat) (x : Port) : (s.setPort p x).cmd = s.cmd := rfl
@[simp] theorem State.setPort_hq (p : Nat) (x : Port) : (s.setPort p x).hq = s.hq := rfl
@[simp] theorem State.setPort_dp (p : Nat) (x : Port) : (s.setPort p x).dp = s.dp := rfl
@[simp] theorem State.setPort_pair (p : Nat) (x : Port) : (s.setPort p x).pair = s.pair := rfl
@[simp] theorem State.setPort_hdas (p : Nat) (x : Port) : (s.setPort p x).hdas = s.hdas := rfl
@[simp] theorem State.setPort_mem (p : Nat) (x : Port) : (s.setPort p x).mem = s.mem := rfl
@[simp] theorem State.setPort_evr (p : Nat) (x : Port) : (s.setPort p x).evr = s.evr := rfl
@[simp] theorem State.setPort_pci (p : Nat) (x : Port) : (s.setPort p x).pci = s.pci := rfl
@[simp] theorem State.setPort_upd (p : Nat) (x : Port) : (s.setPort p x).upd = s.upd := rfl

theorem State.pass_dev (ns : Nat) : (s.pass ns).dev = if s.on CLK.REF_STS.X32K_OK then s.dev + ns else s.dev := rfl

end Sys2Proof.Machine
end

