-- ==== Sys2Proof/Laws/Fields.lean ====
section
/-! SUPPORT. Register fields: what a field reads as after a field is given a value, and the canonical form of the field
list. -/

namespace Sys2Proof.Machine

/-! ## The sparse list -/

theorem fldFind_ins (l : List (Nat × Nat)) (b v c : Nat) :
    fldFind (fldIns l b v) c = if b = c then some v else fldFind l c := by
  induction l with
  | nil => simp only [fldIns, fldFind]
  | cons e r ih =>
    obtain ⟨a, w⟩ := e
    unfold fldIns
    split
    · simp only [fldFind, ih]
      split <;> split <;> first | rfl | omega
    · split
      · rename_i h; subst h
        simp only [fldFind]
        split <;> simp_all
      · rfl

theorem fldFind_filter (l : List (Nat × Nat)) (b c : Nat) :
    fldFind (l.filter (fun e => e.1 ≠ b)) c = if b = c then none else fldFind l c := by
  induction l with
  | nil => simp [fldFind]
  | cons e r ih =>
    obtain ⟨a, w⟩ := e
    by_cases h : a = b
    · subst h
      simp only [ne_eq, not_true_eq_false, decide_false, Bool.false_eq_true, not_false_eq_true, List.filter_cons_of_neg, fldFind]
      rw [ih]; split <;> simp_all
    · simp only [ne_eq, h, not_false_eq_true, decide_true, List.filter_cons_of_pos, fldFind]
      rw [ih]
      split <;> split <;> first | rfl | (subst_vars; contradiction)

/-- The list gives the value set, or nothing where it is the reset value. -/
theorem fldFind_set (l : List (Nat × Nat)) (b v d c : Nat) :
    fldFind (fldSet l b v d) c = if b = c then (if v = d then none else some v) else fldFind l c := by
  unfold fldSet
  split
  · rw [fldFind_filter]
  · rw [fldFind_ins]

/-- Bit addresses rise strictly from a lower bound. -/
def fldsFrom : Nat → List (Nat × Nat) → Bool
  | _, [] => true
  | lo, (a, _) :: r => lo ≤ a && fldsFrom (a + 1) r

theorem fldsFrom_mono (l : List (Nat × Nat)) (m n : Nat) (h : m ≤ n) (hl : fldsFrom n l = true) : fldsFrom m l = true := by
  cases l with
  | nil => rfl
  | cons e r =>
    simp only [fldsFrom, Bool.and_eq_true, decide_eq_true_eq] at *
    exact ⟨by omega, hl.2⟩

theorem fldsFrom_filter (l : List (Nat × Nat)) (lo : Nat) (p : Nat × Nat → Bool) (h : fldsFrom lo l = true) :
    fldsFrom lo (l.filter p) = true := by
  induction l generalizing lo with
  | nil => rfl
  | cons e r ih =>
    obtain ⟨a, w⟩ := e
    simp only [fldsFrom, Bool.and_eq_true, decide_eq_true_eq] at h
    simp only [List.filter_cons]
    split
    · simp only [fldsFrom, Bool.and_eq_true, decide_eq_true_eq]
      exact ⟨h.1, ih _ h.2⟩
    · exact fldsFrom_mono _ _ _ (by omega) (ih _ h.2)

theorem fldsFrom_ins (l : List (Nat × Nat)) (lo b v : Nat) (hb : lo ≤ b) (h : fldsFrom lo l = true) :
    fldsFrom lo (fldIns l b v) = true := by
  induction l generalizing lo with
  | nil => simp [fldIns, fldsFrom, hb]
  | cons e r ih =>
    obtain ⟨a, w⟩ := e
    simp only [fldsFrom, Bool.and_eq_true, decide_eq_true_eq] at h
    unfold fldIns
    split
    · simp only [fldsFrom, Bool.and_eq_true, decide_eq_true_eq]
      exact ⟨h.1, ih _ (by omega) h.2⟩
    · split
      · rename_i e; subst e
        simp only [fldsFrom, Bool.and_eq_true, decide_eq_true_eq]
        exact h
      · simp only [fldsFrom, Bool.and_eq_true, decide_eq_true_eq]
        exact ⟨hb, by omega, h.2⟩

/-- Setting keeps the list in its canonical order. -/
theorem fldsFrom_set (l : List (Nat × Nat)) (b v d : Nat) (h : fldsFrom 0 l = true) : fldsFrom 0 (fldSet l b v d) = true := by
  unfold fldSet
  split
  · exact fldsFrom_filter _ _ _ h
  · exact fldsFrom_ins _ _ _ _ (Nat.zero_le _) h

/-! ## Register fields -/

/-- A field reads as the value it was given, modulo its width. -/
theorem State.get_put_same (s : State) (f : Fld) (v : Nat) : (s.put f v).get f = v % 2 ^ f.width := by
  simp only [State.put, State.get, fldFind_set, if_true]
  split <;> simp_all

/-- Every other field keeps its value. -/
theorem State.get_put_ne (s : State) (f g : Fld) (v : Nat) (h : f.bit ≠ g.bit) : (s.put f v).get g = s.get g := by
  simp only [State.put, State.get, fldFind_set, h, if_false]

theorem State.get_setB_same (s : State) (f : Fld) (h : 0 < f.width) : (s.setB f).get f = 1 := by
  rw [State.setB, State.get_put_same, Nat.mod_eq_of_lt (Nat.one_lt_two_pow (by omega))]

theorem State.get_clrB_same (s : State) (f : Fld) : (s.clrB f).get f = 0 := by
  rw [State.clrB, State.get_put_same, Nat.zero_mod]

theorem State.get_setB_ne (s : State) (f g : Fld) (h : f.bit ≠ g.bit) : (s.setB f).get g = s.get g := s.get_put_ne f g 1 h
theorem State.get_clrB_ne (s : State) (f g : Fld) (h : f.bit ≠ g.bit) : (s.clrB f).get g = s.get g := s.get_put_ne f g 0 h
theorem State.on_put_ne (s : State) (f g : Fld) (v : Nat) (h : f.bit ≠ g.bit) : (s.put f v).on g = s.on g := by
  simp only [State.on, s.get_put_ne f g v h]

/-- Reads see only the field list. -/
theorem State.get_congr (s t : State) (f : Fld) (h : s.flds = t.flds) : s.get f = t.get f := by simp only [State.get, h]

@[simp] theorem State.get_emit (s : State) (o : Out) (f : Fld) : (s.emit o).get f = s.get f := rfl
@[simp] theorem State.get_pass (s : State) (n : Nat) (f : Fld) : (s.pass n).get f = s.get f := rfl
@[simp] theorem State.get_passTo (s : State) (n : Nat) (f : Fld) : (s.passTo n).get f = s.get f := rfl
@[simp] theorem State.get_setDp (s : State) (g : Dp → Dp) (f : Fld) : (s.setDp g).get f = s.get f := rfl
@[simp] theorem State.get_media (s : State) (g : Media → Media) (f : Fld) : (s.media g).get f = s.get f := rfl
@[simp] theorem State.get_setPair (s : State) (g : Pair → Pair) (f : Fld) : (s.setPair g).get f = s.get f := rfl
@[simp] theorem State.get_setHdas (s : State) (g : Hdas → Hdas) (f : Fld) : (s.setHdas g).get f = s.get f := rfl

end Sys2Proof.Machine
end

