-- ==== Sys2Proof/Laws/HostQueue.lean ====
section
/-! SUPPORT. What an I/O command does, whatever its row: it begins once, and its body runs when it is ready. -/

namespace Sys2Proof.Machine

/-- The context of a queue pair carries its number. -/
@[simp] theorem State.qp_qpid (s : State) (n : Nat) : (s.qp n).qpid = n := by
  unfold State.qp
  cases h : s.hq.qps.find? (fun q => q.qpid = n) with
  | none => rfl
  | some q => simpa using List.find?_some h

/-- A command in flight carries the numbers it is looked up by. -/
theorem State.hcmd_ids (s : State) (qpid cid : Nat) (c : HCmd) (h : s.hcmd qpid cid = some c) : c.qpid = qpid ∧ c.sub.cid = cid := by
  simpa using List.find?_some h

/-- A command of the right opcode on an awake cluster begins where it has not yet, and then its body runs where it is ready. -/
theorem State.ioCmd_ready (s t : State) (qpid cid op : Nat) (c d : HCmd) (body : State → HCmd → State)
    (hc : s.hcmd qpid cid = some c) (ho : c.sub.opcode = op) (hh : s.halted = false) (ha : s.clusterAwake c.cluster = true)
    (ht : t = if c.phase = .fetched then s.beginCmd c else s) (hd : t.hcmd qpid cid = some d) :
    s.ioCmd qpid cid op body = if d.phase = .ready then body t d else t := by
  unfold State.ioCmd
  simp only [hc, ho, hh, ha]
  subst ht
  simp [hd]

/-- A command that ended as it began leaves nothing more to run. -/
theorem State.ioCmd_ended (s t : State) (qpid cid op : Nat) (c : HCmd) (body : State → HCmd → State)
    (hc : s.hcmd qpid cid = some c) (ho : c.sub.opcode = op) (hh : s.halted = false) (ha : s.clusterAwake c.cluster = true)
    (ht : t = if c.phase = .fetched then s.beginCmd c else s) (hd : t.hcmd qpid cid = none) :
    s.ioCmd qpid cid op body = t := by
  unfold State.ioCmd
  simp only [hc, ho, hh, ha]
  subst ht
  simp [hd]

/-- No other command runs: one of another opcode, on a cluster that is not awake, in a halted head, or one not in flight. -/
theorem State.ioCmd_other (s : State) (qpid cid op : Nat) (body : State → HCmd → State)
    (h : ∀ c, s.hcmd qpid cid = some c → c.sub.opcode ≠ op ∨ s.halted = true ∨ s.clusterAwake c.cluster = false) :
    s.ioCmd qpid cid op body = s := by
  unfold State.ioCmd
  split
  · rfl
  · next c hc => rw [if_pos (by simpa using h c hc)]

end Sys2Proof.Machine
end

