-- ==== Sys2Proof/Laws/Memory.lean ====
section
/-! SUPPORT. Addressed buffers: a read after a write, and the canonical form that every write keeps. -/

namespace Sys2Proof.Machine

theorem Memory.read_ins (m : Memory) (b : Nat) (v : Byte) (c : Nat) :
    (m.ins b v).read c = if b = c then v else m.read c := by
  induction m with
  | nil => simp only [Memory.ins, Memory.read]
  | cons e r ih =>
    obtain ⟨a, w⟩ := e
    unfold Memory.ins
    split
    · simp only [Memory.read, ih]
      split <;> split <;> first | rfl | omega
    · split
      · rename_i h; subst h
        simp only [Memory.read]
        split <;> simp_all
      · rfl

theorem Memory.read_filter (m : Memory) (b c : Nat) :
    Memory.read (m.filter (fun e => e.1 ≠ b)) c = if b = c then 0 else m.read c := by
  induction m with
  | nil => simp [Memory.read]
  | cons e r ih =>
    obtain ⟨a, w⟩ := e
    by_cases h : a = b
    · subst h
      simp only [ne_eq, not_true_eq_false, decide_false, Bool.false_eq_true, not_false_eq_true, List.filter_cons_of_neg, Memory.read]
      rw [ih]; split <;> simp_all
    · simp only [ne_eq, h, not_false_eq_true, decide_true, List.filter_cons_of_pos, Memory.read]
      rw [ih]
      split <;> split <;> first | rfl | (subst_vars; contradiction)

/-- A byte reads as what was written to it last; a write leaves every other byte alone. -/
theorem Memory.read_write (m : Memory) (b : Nat) (v : Byte) (c : Nat) :
    (m.write b v).read c = if b = c then v else m.read c := by
  unfold Memory.write
  split
  · rename_i h; rw [Memory.read_filter]; simp [h]
  · rw [Memory.read_ins]

theorem Memory.wfFrom_mono (m : Memory) (k n : Nat) (h : k ≤ n) (hm : Memory.wfFrom n m = true) : Memory.wfFrom k m = true := by
  cases m with
  | nil => rfl
  | cons e r =>
    simp only [Memory.wfFrom, Bool.and_eq_true, decide_eq_true_eq] at *
    exact ⟨⟨by omega, hm.1.2⟩, hm.2⟩

theorem Memory.wfFrom_filter (m : Memory) (lo : Nat) (p : Host.Cell → Bool) (h : Memory.wfFrom lo m = true) :
    Memory.wfFrom lo (m.filter p) = true := by
  induction m generalizing lo with
  | nil => rfl
  | cons e r ih =>
    obtain ⟨a, w⟩ := e
    simp only [Memory.wfFrom, Bool.and_eq_true, decide_eq_true_eq] at h
    simp only [List.filter_cons]
    split
    · simp only [Memory.wfFrom, Bool.and_eq_true, decide_eq_true_eq]
      exact ⟨h.1, ih _ h.2⟩
    · exact Memory.wfFrom_mono _ _ _ (by omega) (ih _ h.2)

theorem Memory.wfFrom_ins (m : Memory) (lo b : Nat) (v : Byte) (hv : v ≠ 0) (hb : lo ≤ b) (h : Memory.wfFrom lo m = true) :
    Memory.wfFrom lo (m.ins b v) = true := by
  induction m generalizing lo with
  | nil =>
    simp only [Memory.ins, Memory.wfFrom, Bool.and_true, Bool.and_eq_true, decide_eq_true_eq]
    exact ⟨hb, hv⟩
  | cons e r ih =>
    obtain ⟨a, w⟩ := e
    simp only [Memory.wfFrom, Bool.and_eq_true, decide_eq_true_eq] at h
    unfold Memory.ins
    split
    · simp only [Memory.wfFrom, Bool.and_eq_true, decide_eq_true_eq]
      exact ⟨h.1, ih _ (by omega) h.2⟩
    · split
      · rename_i e; subst e
        simp only [Memory.wfFrom, Bool.and_eq_true, decide_eq_true_eq]
        exact ⟨⟨h.1.1, hv⟩, h.2⟩
      · simp only [Memory.wfFrom, Bool.and_eq_true, decide_eq_true_eq]
        exact ⟨⟨hb, hv⟩, ⟨by omega, h.1.2⟩, h.2⟩

/-- A write keeps the canonical form. -/
theorem Memory.wf_write (m : Memory) (b : Nat) (v : Byte) (h : m.wf = true) : (m.write b v).wf = true := by
  unfold Memory.write Memory.wf at *
  split
  · exact Memory.wfFrom_filter _ _ _ h
  · rename_i hv; exact Memory.wfFrom_ins _ _ _ _ hv (Nat.zero_le _) h

/-- So does a write of many bytes. -/
theorem Memory.wf_writes (m : Memory) (a : Nat) (bs : List Byte) (h : m.wf = true) : (m.writes a bs).wf = true := by
  induction bs generalizing m a with
  | nil => exact h
  | cons b bs ih => exact ih _ _ (Memory.wf_write _ _ _ h)

/-- A byte outside the range written keeps its value. -/
theorem Memory.read_writes_before (m : Memory) (a : Nat) (bs : List Byte) (c : Nat) (h : c < a ∨ a + bs.length ≤ c) :
    (m.writes a bs).read c = m.read c := by
  induction bs generalizing m a with
  | nil => rfl
  | cons b bs ih =>
    simp only [List.length_cons] at h
    rw [Memory.writes, ih _ _ (by omega), Memory.read_write, if_neg (by omega)]

end Sys2Proof.Machine
end

