-- ==== Sys2Proof/Laws/Packets.lean ====
section
/-! SUPPORT. What a command packet does, whatever its row: it runs, or it is answered by the first check that fails. -/

namespace Sys2Proof.Machine

/-- Well-formed operands let a command go on; others stop it. -/
theorem okIf_true {c : Bool} (t : State) (h : c = true) : okIf c t = done t := by subst h; rfl
theorem okIf_false {c : Bool} (t : State) (h : c = false) : okIf c t = .fault .illFormed := by subst h; rfl

/-- A packet that executes begins its command, and the command's body decides. -/
theorem runCmd_executes (op : Nat) (o : OpSpec) (p : Packet) (z : State) (body : State → Res) (ho : opSpec op = some o)
    (hp : p.opcode = op) (h : Executes z p) : runCmd op p z body = done ((z.intake p).execute o p body) := by
  obtain ⟨h2, -, h4, -⟩ := h
  subst hp
  unfold runCmd
  rw [ho]
  simp only [h2, h4]
  simp

/-- Neither a commit flag nor a pending commit concerns a packet that runs. -/
theorem Runs.unpended {op : Nat} {o : OpSpec} {p : Packet} {z : State} (ho : opSpec op = some o) (h : Runs z p op) :
    ¬ (o.shadow ∧ (p.commit = true ∨ (z.begun p).on SYS.EPOCH_STS.PEND = true)) := by
  obtain ⟨-, -, -, h7⟩ := h
  rintro ⟨a, b⟩
  have h8 := h7 (by simp [writesShadow, ho, a])
  have hm : (z.begun p).on SYS.EPOCH_STS.PEND = false := h8.2
  rcases b with b | b
  · rw [h8.1] at b; cases b
  · rw [hm] at b; cases b

/-- A packet that runs and whose body does not wait answers its status, DETAIL and data. -/
theorem runCmd_runs (op : Nat) (o : OpSpec) (p : Packet) (z : State) (body : State → Res) (ho : opSpec op = some o)
    (h : Runs z p op) (hl : (body (z.begun p)).later = false) :
    runCmd op p z body =
      done ((if (body (z.begun p)).status = 0 then (body (z.begun p)).after else id)
        ((body (z.begun p)).st.answer p (body (z.begun p)).status (body (z.begun p)).detail (body (z.begun p)).data)) := by
  have hu := h.unpended ho
  obtain ⟨h1, he, h6, -⟩ := h
  rw [runCmd_executes op o p z body ho h1 he]
  obtain ⟨-, h3, -, h5⟩ := he
  unfold State.execute
  rw [if_neg (by simp [h3, h5])]
  change done (if p.dryRun = true then _ else _) = _
  rw [if_neg (by simp [h6])]
  change done (if (body (z.begun p)).status ≠ 0 then _ else _) = _
  by_cases hs : (body (z.begun p)).status = 0
  · rw [if_neg (by simp [hs]), if_pos hs]
    change done (if o.shadow ∧ (p.commit ∨ (body (z.begun p)).later) ∧ (z.begun p).on SYS.EPOCH_STS.PEND then _ else
      if o.shadow ∧ (z.begun p).on SYS.EPOCH_STS.PEND then _ else if (body (z.begun p)).later then _ else
      if o.shadow ∧ p.commit then _ else _) = _
    rw [if_neg (fun x => hu ⟨x.1, .inr x.2.2⟩), if_neg (fun x => hu ⟨x.1, .inr x.2⟩), if_neg (by simp [hl]),
      if_neg (fun x => hu ⟨x.1, .inl x.2⟩), hs]
    rfl
  · rw [if_pos hs, if_neg hs]
    rfl

/-- A packet that runs and whose reply comes with a later event leaves the command waiting for it. -/
theorem runCmd_later (op : Nat) (o : OpSpec) (p : Packet) (z : State) (body : State → Res) (ho : opSpec op = some o)
    (h : Runs z p op) (hl : (body (z.begun p)).later = true) (hs : (body (z.begun p)).status = 0) :
    runCmd op p z body = done ((body (z.begun p)).st.promised p) := by
  have hu := h.unpended ho
  obtain ⟨h1, he, h6, -⟩ := h
  rw [runCmd_executes op o p z body ho h1 he]
  obtain ⟨-, h3, -, h5⟩ := he
  unfold State.execute
  rw [if_neg (by simp [h3, h5])]
  change done (if p.dryRun = true then _ else if (body (z.begun p)).status ≠ 0 then _ else
    if o.shadow ∧ (p.commit ∨ (body (z.begun p)).later) ∧ (z.begun p).on SYS.EPOCH_STS.PEND then _ else
    if o.shadow ∧ (z.begun p).on SYS.EPOCH_STS.PEND then _ else if (body (z.begun p)).later then
      (if o.shadow ∧ p.commit then _ else _) else _) = _
  rw [if_neg (by simp [h6]), if_neg (by simp [hs]), if_neg (fun x => hu ⟨x.1, .inr x.2.2⟩),
    if_neg (fun x => hu ⟨x.1, .inr x.2⟩), if_pos hl, if_neg (fun x => hu ⟨x.1, .inl x.2⟩)]
  rfl

/-- A packet that runs is answered at once, or waits for the event that answers it. -/
theorem runCmd_all (op : Nat) (o : OpSpec) (p : Packet) (z : State) (body : State → Res) (ho : opSpec op = some o)
    (h : Runs z p op) :
    runCmd op p z body =
      done (if (body (z.begun p)).later = true ∧ (body (z.begun p)).status = 0 then (body (z.begun p)).st.promised p
        else (if (body (z.begun p)).status = 0 then (body (z.begun p)).after else id)
          ((body (z.begun p)).st.answer p (body (z.begun p)).status (body (z.begun p)).detail (body (z.begun p)).data)) := by
  by_cases hl : (body (z.begun p)).later = true
  · by_cases hs : (body (z.begun p)).status = 0
    · rw [if_pos ⟨hl, hs⟩]; exact runCmd_later op o p z body ho h hl hs
    · rw [if_neg (fun x => hs x.2)]
      have hu := h.unpended ho
      obtain ⟨h1, he, h6, -⟩ := h
      rw [runCmd_executes op o p z body ho h1 he]
      obtain ⟨-, h3, -, h5⟩ := he
      unfold State.execute
      rw [if_neg (by simp [h3, h5])]
      change done (if p.dryRun = true then _ else _) = _
      rw [if_neg (by simp [h6])]
      change done (if (body (z.begun p)).status ≠ 0 then _ else _) = _
      rw [if_pos hs, if_neg hs]
      rfl
  · rw [if_neg (fun x => hl x.1)]; exact runCmd_runs op o p z body ho h (by simpa using hl)

/-- To know what a packet that runs does, it is enough to know it for each outcome of its body. -/
theorem runCmd_elim {op : Nat} {o : OpSpec} {p : Packet} {z : State} {body : State → Res} {t : Host.Outcome State Fault Refusal}
    (ho : opSpec op = some o) (h : Runs z p op)
    (k : ∀ r, body (z.begun p) = r → done (if r.later = true ∧ r.status = 0 then r.st.promised p
      else (if r.status = 0 then r.after else id) (r.st.answer p r.status r.detail r.data)) = t) :
    runCmd op p z body = t :=
  (runCmd_all op o p z body ho h).trans (k _ rfl)

end Sys2Proof.Machine
end

