-- ==== Sys2Proof/Laws/Vrm.lean ====
section
/-! SUPPORT. What the reception of a VRM packet does, whatever its type: it is heard and acts, or the first check that fails says
what happens. -/

namespace Sys2Proof.Machine

/-- A packet that passes every check is heard, and its type acts on it. -/
theorem State.rx_arrives {s : State} {port idx op : Nat} {g : Ingress} {c : Conn} {b : ConnBind} {p : VrmPkt} {l : Nat}
    (f : State → Conn → ConnBind → VrmPkt → State) (h : Arrives s port idx op g c b p l) :
    s.rx port idx op f = f (s.heardPacket port idx g p c l) (s.heardConn g p c l) b p := by
  obtain ⟨-, h1, h2, h3, h4, h5, h6, h7, h8, h9, h10, h11⟩ := h
  unfold State.rx
  rw [h1]
  dsimp only
  rw [if_neg (by simp [h2]), h3, h4]
  dsimp only
  rw [if_neg (by omega), if_neg (by omega), if_neg (by simp [h6]), if_neg (by omega), if_neg (by simp [h8]),
    if_neg (by simp [h9]), h10]
  dsimp only
  rw [h11]
  rfl

/-- A packet of a sequenced type that is new and in its window acts; an old one is acknowledged again, a later one waits to be
sent again (R179). -/
theorem State.rxSeq_arrives {s : State} {port idx op : Nat} {g : Ingress} {c : Conn} {b : ConnBind} {p : VrmPkt} {l : Nat}
    (f : State → Conn → ConnBind → VrmPkt → State) (h : Arrives s port idx op g c b p l) :
    s.rxSeq port idx op f =
      if 2 ^ 31 ≤ (p.psn + 2 ^ 32 - c.rxCum) % 2 ^ 32 ∨ c.ooo.contains p.psn then (s.heardPacket port idx g p c l).sendAck c.id p.path
      else if b.win ≤ (p.psn + 2 ^ 32 - c.rxCum) % 2 ^ 32 then s.heardPacket port idx g p c l
      else f (s.heardPacket port idx g p c l) (s.heardConn g p c l) b p := by
  unfold State.rxSeq
  rw [State.rx_arrives _ h]
  rfl

theorem State.rxSeq_inWindow {s : State} {port idx op : Nat} {g : Ingress} {c : Conn} {b : ConnBind} {p : VrmPkt} {l : Nat}
    (f : State → Conn → ConnBind → VrmPkt → State) (h : Arrives s port idx op g c b p l) (w : InWindow c b p) :
    s.rxSeq port idx op f = f (s.heardPacket port idx g p c l) (s.heardConn g p c l) b p := by
  obtain ⟨w1, w2, w3⟩ := w
  rw [State.rxSeq_arrives _ h, if_neg (by rw [w3]; simp; omega), if_neg (by omega)]

/-- No packet of that type there: nothing happens. -/
theorem State.rx_absent {s : State} {port idx op : Nat} (f : State → Conn → ConnBind → VrmPkt → State)
    (h : ∀ g, (s.port port).ingress[idx]? = some g → g.pkt.op ≠ op) : s.rx port idx op f = s := by
  unfold State.rx
  split
  · rfl
  · next g hg => rw [if_pos (h g hg)]

/-- A packet for no connection here is answered with CONN_UNKNOWN. -/
theorem State.rx_unknown {s : State} {port idx : Nat} {g : Ingress} (f : State → Conn → ConnBind → VrmPkt → State)
    (hg : (s.port port).ingress[idx]? = some g) (h : s.conn g.pkt.dconn = none ∨ s.connBind g.pkt.dconn = none) :
    s.rx port idx g.pkt.op f = (s.dropIngress port idx).nakUnknown port g := by
  unfold State.rx
  rw [hg]
  dsimp only
  rw [if_neg (by simp)]
  rcases h with h | h <;> rw [h]
  rcases s.conn g.pkt.dconn <;> rfl

/-- A packet that does not pass the checks is dropped, counted or left waiting as the first that fails says. -/
theorem State.rx_stopped {s : State} {port idx : Nat} {g : Ingress} {c : Conn} {b : ConnBind} (hp : port < 8)
    (f : State → Conn → ConnBind → VrmPkt → State) (hg : (s.port port).ingress[idx]? = some g)
    (hc : s.conn g.pkt.dconn = some c) (hb : s.connBind g.pkt.dconn = some b) (h : ∀ p l, ¬ Arrives s port idx g.pkt.op g c b p l) :
    s.rx port idx g.pkt.op f = s.unheard port idx g c b := by
  unfold State.rx State.unheard
  rw [hg]
  dsimp only
  rw [if_neg (by simp), hc, hb]
  dsimp only
  by_cases h1 : c.state = 3
  · rw [if_pos h1, if_pos h1]
  rw [if_neg h1, if_neg h1]
  by_cases h2 : c.state ≠ 2 ∧ c.state ≠ 4
  · rw [if_pos h2, if_pos h2]
  rw [if_neg h2, if_neg h2]
  by_cases h3 : b.cluster / 8 ≠ port / 2
  · rw [if_pos h3, if_pos h3]
  rw [if_neg h3, if_neg h3]
  by_cases h4 : b.pmtu < g.pkt.payload.length
  · rw [if_pos h4, if_pos h4]
  rw [if_neg h4, if_neg h4]
  by_cases h5 : c.cached = true
  · rw [if_neg (Classical.not_not.mpr h5), if_neg (Classical.not_not.mpr h5)]
    by_cases h6 : s.clusterWorks b.cluster = true
    · rw [if_neg (Classical.not_not.mpr h6), if_neg (Classical.not_not.mpr h6)]
      cases hs : s.checkSeal c b g with
      | waits t => rfl
      | dropped => rfl
      | clear p =>
        cases hl : s.staleCheck c p.stamp with
        | none => simp only [hl]
        | some l => exact absurd ⟨hp, hg, rfl, hc, hb, by omega, by omega, by omega, h5, h6, hs, hl⟩ (h p l)
    · rw [if_pos h6, if_pos h6]
  · rw [if_pos h5, if_pos h5]

end Sys2Proof.Machine
end

