-- ==== Sys2Proof/Tests/Slice0.lean ====
section
/-! SUPPORT. Tests: worked examples of the spec on single steps and operations, ill-formed commands that every check of
WellFormed refuses, and for every clause of a statement with premises a state that meets them. -/

namespace Sys2Proof.Tests

open Sys2Proof.Machine

set_option maxRecDepth 100000
set_option Elab.async false
set_option linter.unusedVariables false

/-- A packet of the host on channel 0: opcode, LOC and parameters; and one with its CRCs right. -/
def pk (opcode loc : Nat) (params : List Byte) : Packet :=
  { via := .mailbox 0, ident := 2, msgLen := 64 + params.length, opcode := opcode, flags := 0, loc := loc, tag := 1,
    plen := params.length, hver := 1, rsvd11 := 0, session := 0, pbuf := 0, rbuf := 0, rsvd32 := List.replicate 24 0,
    pcrc := 0, hcrc := 0, params := params }
def pkCrc (p : Packet) : Packet :=
  let p := { p with pcrc := if p.params.isEmpty then 0 else crc32c p.params }
  { p with hcrc := crc32c p.headBytes }

/-- A state in which a packet is taken. -/
def taken (p : Packet) (s : State) : State :=
  { s with cmd := { s.cmd with taken := [{ pkt := p, cls := p.cls, at_ := 0 }] } }

/-- A head that may take stage S2, and one that may take stage S3 with every quadrant out of service. -/
def s2 : State :=
  { (((State.reset.setB CMD.STS.MC_RUN).clrB EVR.STS.LOADING).put PWR.FEED_STS.A_STATE 1) with
    start := { reached := 2, settingsApplied := true, base := some 0 }
    pwr := { quads := List.replicate 4 .awake }
    mem := { chans := List.replicate 12 { tried := true } } }
def s3 : State :=
  { ((((State.reset.setB FTL.STS.MAP_WARM).setB NRN.STS.SYNCED).put NRN.PAIR_STS.PARTNER 4).put SYS.START_STS.Q_DOWN 15).put PWR.FEED_STS.A_STATE 1 with
    start := { reached := 3, base := some 0 } }

/-- A plain event record, and a complex whose ten cores run under the watchdog. -/
def rec0 : Rec := { time := 0, wall := 0, code := 0x0101, loc := 0, flags := 0, res := 0, value := 0 }
def wd : State := ((State.reset.setB CMD.STS.MC_RUN).setB CMD.WDOG_CFG.EN).put CMD.CORE_STS.ENABLED 1023

/-- A volume, a host queue pair bound to it, and a command of the queue pair that may run. -/
def vol1 : Vol := { num := 1, size := 8, keyEpoch := 1, minEpoch := 1 }
def bind5 : QpBind :=
  { qpid := 5, typ := 0, location := 0, cluster := 0, home := 0, weight := 0, sqLog2 := 4, cqLog2 := 4, conn := 0,
    sqBase := 0, cqBase := 0, sqKey := 0, cqKey := 0, vector := 0, accessGroup := 0 }
def cmdOf (op : Nat) : HCmd :=
  { qpid := 5, sub := { opcode := op, cid := 7, volume := 1 }, phase := .ready, epoch := 0, cluster := 0, seq := 0 }
def hqWith (cs : List HCmd) : State :=
  let s := State.reset.cfgPut 4 6
  { s with
    act := { qps := [bind5], vols := [vol1] }, shadow := { qps := [bind5], vols := [vol1] }
    hq := { qps := [{ qpid := 5, state := 2, cached := true }], cmds := cs }
    pci := { s.pci with ready := true, linkUp := true, perstN := true }
    pwr := { clusters := List.replicate 32 .awake, quads := List.replicate 4 .awake }
    start := { reached := 4 } }
def hq0 : State := hqWith []
/-- A READ that runs, and a state with a session of identity 2. -/
def hqRd : State := hqWith [{ cmdOf 1 with phase := .running }]
def sess (s : State) : State := { s with cmd := { s.cmd with sessions := [{ handle := 0, owner := 2, nonce := [], lastUse := 0, expert := true }] } }
def hq1 (op : Nat) : State := hqWith [cmdOf op]
/-- A lock that waits for nothing, its command, and upstream reads that have arrived. -/
def lk0 : LockReq := { qpid := 5, cid := 7, volume := 1, lo := 0, n := 1, excl := true, entry := true, granted := false }
def hqLock : State := { hqWith [{ cmdOf 2 with phase := .locking }] with hq := { (hqWith [{ cmdOf 2 with phase := .locking }]).hq with locks := [lk0] } }
def hqArr (kind : Nat) (bs : List Byte) : State :=
  { hq0 with pci := { hq0.pci with reads := [{ tag := 3, kind := kind, id := 5, ref := 0, issued := true, arrived := true, data := bs }] } }

/-- An open connection with one path, and a packet for it in the buffer of port 0. -/
def conn1 : Conn := { id := 1, state := 2, txPsn := 0, rxCum := 10, paths := [{ entry := default, cwnd := 4096 }] }
def cb1 : ConnBind :=
  { id := 1, peer := 2, cluster := 0, pmtu := 4096, flags := 0, txPsn := 0, rxPsn := 10, win := 64, label := 0,
    paths := [default] }
def vrWith (c : Conn) : State :=
  { State.reset with
    act := { conns := [cb1] }, shadow := { conns := [cb1] }
    vrm := { conns := [c] }
    pwr := { clusters := List.replicate 32 .awake, quads := List.replicate 4 .awake }
    start := { reached := 4 } }
def vr0 : State := vrWith conn1
def ing (p : VrmPkt) : Ingress := { raw := vrmFramed p.head p.payload [], size := 100 }
def vrGot (s : State) (p : VrmPkt) : State := s.setPort 0 { ingress := [ing p] }

/-- A module on flash link 0 whose link is UP. -/
def idm : Ident :=
  { dies := 4, planes := 2, blocks := 10, spareBlocks := 2, pages := 8, bpc := 3, cwParity := 0, nandType := 0,
    serial := 1, bridgeFw := 1 }
def mod0 : Module := { link := 0, ident := idm, spareDies := 1, dieMap := [0, 1, 2] }
def fl0 : State :=
  let s := (State.reset.put (FLK.LINKk_STS.STATE 0) 2).setFlink 0 { ident := some idm }
  { s with nv := { s.nv with media := { s.nv.media with modules := [mod0] } }, start := { reached := 4 } }

/-- A redundancy set of three modules, a FULL band of it, and a volume with one written unit. -/
def set0 : RSet :=
  { num := 0, tier := 0, quad := 0, width := 2, pmax := 1, stripLog2 := 14, spareZones := 1, zones := 6, zoneSize := 65536,
    members := [0x4000, 0x4001, 0x4002], pstate := [0, 0, 0],
    vers := [{ ver := 1, pairVer := 1, live := [0, 1, 2], pattern := [[0, 1], [0, 2], [1, 2]] }] }
def band0 : Band := { set := 0, zone := 0, state := 2, ver := 1, level := 1 }
def mp0 : State :=
  let m := { fl0.nv.media with sets := [set0], vols := [vol1], bands := [band0] }
  { fl0 with act := { vols := [vol1], sets := [set0] }, shadow := { vols := [vol1], sets := [set0] }, nv := { fl0.nv with media := m } }

/-- An open band whose first stripe gathers a frame. -/
def gath : State :=
  (mp0.media (fun m => { m with bands := [{ band0 with state := 1 }] })).setDp (fun d => { d with writes :=
    [{ id := 1, kind := .write, qpid := 5, cid := 7, vol := 1, epoch := 0, at_ := 0,
       frames := [{ serial := 1, vol := 1, epoch := 1, raw := true, payLen := 4096, data := [], band := some (0, 0) }] }] })

/-- A head whose Nerryn link is UP and whose partner is SYNCED, a message from it that is in order, and the capo. -/
def nr0 : State := (((mp0.setB NRN.STS.UP).put NRN.PAIR_STS.PARTNER 4).put NRN.PAIR_STS.ROLE 1).setB CMD.STS.MC_RUN
def env0 : Seal := { mseq := 0, epoch := 0 }
def nrC : State := nr0.setB NRN.PAIR_STS.CAPO

/-- A replication link over an open sealed connection, and a volume bound to it as source. -/
def rl1 : RLink := { num := 2, target := false, conn := 1, mib := 16, slotLog2 := 22, key := 5, base := 2 ^ 32, tag := 9 }
def rb1 : Repl := { vol := 1, link := 2, target := false }
def volR : Vol := { vol1 with link := 2, remote := 7 }
def rp0 : State :=
  let s := nr0.setDp (fun d => { d with rlinks := [rl1] })
  let s := s.media (fun m => { m with repl := [rb1] })
  { s with
    act := { s.act with vols := [volR], conns := [{ cb1 with flags := 1 }] }
    shadow := { s.shadow with vols := [volR] }
    vrm := { vr0.vrm with tags := [{ tag := 9, cluster := 0 }] } }

/-- Seven modules of which no set exists yet, on the head that is capo. -/
def mods7 : State :=
  { ((fl0.setB NRN.PAIR_STS.CAPO).media (fun m => { m with modules := (List.range 7).map (fun k => { mod0 with link := k }) })) with
    start := { reached := 4 } }

/-- An HDA of carrier 0 on an UP string that this head drives, its loop and its spindle in some states. -/
def idH : HdaIdent :=
  { serial := List.replicate 16 1, dense := false, heads := 2, rpm := 7200, wedges := 512, userZones := 4, spareZones := 1,
    sysZones := 1, heatMax := 200, model := [1], layout := [⟨0, 1, 400, 10, 512, 100, 0⟩] }
def hm0 : HdaMedia := { hda := 0, ident := idH, formatted := true }
def hdSt (srv spn : Nat) : State :=
  let s := ((((State.reset.put (STR.STRING_STS.STATE 0) 2).setB (STR.STRING_STS.DRIVER 0)).put (HRC.HDAh_STS.STATE 0) 3).put
    (SRV.HDAh_STS.STATE 0) srv).put (SPN.HDAh_STS.STATE 0) spn
  { (s.setStr 0 { s.str 0 with joined := true, ident := some { serial := List.replicate 16 2, fw := 3, slot0 := some idH, slot1 := none } }) with
    nv := { s.nv with media := { s.nv.media with hdas := [hm0] } }, start := { reached := 4 } }
def hd0 : State := hdSt 2 5
/-- A block without notches and with its CRC right. -/
def mkRawBlock : List Byte := List.replicate 60 0 ++ leBytes 4 (crc32c (List.replicate 60 0))
def run0 : HdaRun := { id := 3, hda := 0, cls := 2, write := false, zone := 1, sector := 7, count := 2, use_ := .other, askedAt := 0 }
def hdRun (r : HdaRun) : State := hd0.setDp (fun d => { d with runs := [r] })
/-- Its heads stand on the run's track; a run of the quadrant waits behind one with a pair; a spare that is low; a window. -/
def hdGrant : State := (((hdRun run0).setHset { hda := 0, zone := 1, load := 1, cur := { eq := [], tgt := [], np := [] } }).setB CMD.STS.MC_RUN).setServo 0 { head := 1, r := 256 * 522 }
def hdTwo : State := hdGrant.setDp (fun d => { d with runs := [{ run0 with id := 5 }, { run0 with cls := 3, hda := 2, pairAt := some 0 }] })
def hdLow : State :=
  (hd0.setHdaMedia { hm0 with ident := { idH with spareZones := 0 } }).setHdas (fun d => { d with held := [(0, 9, 0)] })
def hv0 : HVals := { eq := [], tgt := [], np := [] }
def hWin : HSet := { hda := 0, zone := 1, load := 1, cur := hv0, winCw := 5000 }
def hdWin : State := (hd0.setHset hWin).setB CMD.STS.MC_RUN
def hdSets : State := (hdWin.setHset { hda := 0, zone := 1, load := 0, cur := hv0 }).setHset { hda := 0, zone := 1, load := 2, cur := hv0 }

/-- A packet of a class; a command that waits under SERIAL behind another; a head whose channel 0 the host reaches. -/
def pkCls (cls opcode loc : Nat) (params : List Byte) : Packet := pkCrc { pk opcode loc params with flags := cls }
def serialState : State :=
  { (State.reset.setB CMD.STS.MC_RUN) with
    cmd := { taken := [{ pkt := pk 0x1805 0 [], cls := 1, at_ := 0 }, { pkt := { pk 0x1801 0 [] with flags := 8 }, cls := 1, at_ := 0 }] } }
def fullState : State :=
  { (State.reset.setB CMD.STS.MC_RUN) with
    cmd := { taken := (List.range 16).map (fun i => { pkt := { pk 0x1805 0 [] with tag := i + 2 }, cls := 1, at_ := 0 }) } }
def wdr0 : State := hq0.setB CMD.STS.MC_RUN

/-- A VOL_CREATE for volume 9, and a head that holds an attachment root. -/
def volPk : Packet := pk 0x1301 0 ([9, 0, 0, 1, 8, 0, 0, 0, 7, 0, 0, 0] ++ List.replicate 16 1)
def arkState : State := { nr0 with nv := { nr0.nv with roots := { nr0.nv.roots with ark := some [1] } } }

/-- A head whose access port reaches its registers. -/
def ap1 : State := { State.reset with start := { reached := 1 } }

/-- A head in stage S2 before its channels train, channels that have trained, and modules that can. -/
def memS2 : State :=
  { State.reset.put MEM.CFG.RATE_CAP 6400 with
    start := { reached := 2, settingsApplied := true, base := some 0 }, pwr := { quads := List.replicate 4 .awake } }
def memUp : State := { State.reset with mem := { State.reset.mem with chans := List.replicate 12 { tried := true, trained := true } } }
def dimm0 : Dimm := { kind := 1, dimms := 1, gib := 32, spd := [1] }

/-- An image in some state of its update, with the partner SYNCED and this head the capo; a header that passes every check
but its signature. -/
def im0 : Image :=
  { good := true, version := 0x02000000, format := 1, expertKeys := [], comps := [{ kind := 1, version := 0x02000000 }], bodyLen := 8 }
def updLd (st : Nat) : State := (State.reset.put UPD.STS.STATE st).setUpd (fun u => { u with image := some im0 })
def updCapo : State :=
  (((updLd 2).setB NRN.PAIR_STS.CAPO).put NRN.PAIR_STS.PARTNER 4).setPair (fun p => { p with hello := some { (default : Hello) with fw := 0x02000000 } })
def comp0 (kind : Nat) : List Byte := leBytes 8 kind ++ leBytes 4 0 ++ leBytes 4 4 ++ List.replicate 48 0
def hdr0 : List Byte :=
  ascii "HXIM" ++ [1, 0, 128, 8, 7, 0, 0, 0, 0, 0, 0, 2] ++ List.replicate 16 0 ++ leBytes 4 64 ++ [4, 0, 1, 0] ++
  List.replicate 56 0 ++ comp0 1 ++ comp0 3 ++ comp0 4 ++ comp0 5 ++ List.replicate 3744 0

/-- A head with the one session that it allows. -/
def oneSess : State :=
  { (State.reset.put CMD.SESS_CFG.MAX_SESS 1) with cmd := { sessions := [{ handle := 7, owner := 2, nonce := [], lastUse := 0 }] } }

open Sys2Proof.Tests

/-! ## Worked examples of the spec -/


/-- The next state an outcome gives; the reset state where it gives none. -/
def nextOf (o : Host.Outcome State Fault Refusal) : State :=
  match o with
  | .next t => t
  | .fault _ => State.reset
  | .refused _ => State.reset

/-- The check value of CRC-32C: the CRC of the ASCII digits 1 to 9 (spec/04, CRCs; log entry 6). -/
theorem test_crc32c : crc32c (ascii "123456789") = 0xE3069283 := by decide +kernel

/-- FIPS 180-4: SHA-256 of "abc" begins BA7816BF. -/
theorem test_sha256 : (sha256 (ascii "abc")).take 4 = [0xBA, 0x78, 0x16, 0xBF] := by decide +kernel

/-- Q2.C5 is 0xA5 and quadrant Q3 as a whole 0x70 (spec/01, Example after R7). -/
theorem test_location_codes : locCluster 2 5 = 0xA5 ∧ locQuad 3 = 0x70 ∧ locOk 0xA5 = true ∧ locOk 0x70 = true := by decide

/-- STR_70_RTLOST, MBX_CH9_LOCK and SPN_HDA130_PHASE lie where spec/20's Example says. -/
theorem test_register_addresses :
    (STR.STRING_RTLOST.COUNT 70).bit = 8 * 0xF0564 ∧ mapAddr 0x300350 * 8 = (MBX.CHn_LOCK.OWNER 9).bit ∧
    (SPN.HDAh_PHASE.PHASE 130).bit = 8 * 0xE0608 := by decide +kernel

/-- A host write of HOST_GIB once FTL_HOST_BASE_LO is locked keeps 512 and is recorded (spec/20, Example of R523). -/
def lockedRegion : State :=
  ((((hqWith []).setB FTL.HOST_CFG.EN).put FTL.HOST_CFG.HOST_GIB 0x200).put FTL.HOST_BASE_HI.BASE_HI 0x40).setB FTL.HOST_BASE_LO.LOCK
def afterHostWrite : State := nextOf (execRegisterWrite 2 0x9000C 4 0x01000001 lockedRegion)
theorem test_locked_host_region :
    afterHostWrite.get FTL.HOST_CFG.HOST_GIB = 0x200 ∧ afterHostWrite.on SYS.ACC_ERR.VALID = true ∧
    afterHostWrite.get SYS.ACC_ERR.CAUSE = 1 ∧ afterHostWrite.get SYS.ACC_ERR.IDENT = 2 ∧
    afterHostWrite.get SYS.ACC_ERR.OFFSET_W = 0x24003 ∧ afterHostWrite.get SYS.ACC_CNT.COUNT = 1 := by decide +kernel

/-- BUSY: 40 commands ahead and completions 12.5 ms apart give DETAIL 500 (spec/04, Example of R115). -/
def busyState : State :=
  { (State.reset.setB CMD.STS.MC_RUN).put CMD.LOAD.LOAD_PCT 90 with
    aon := 2 * Config.sec
    cmd := { taken := List.replicate 40 { pkt := pkCls 3 0x1801 0 [], cls := 3, at_ := 0 }
             done := (List.range 3).map (fun i => (3, 2 * Config.sec - 12500 * Config.us * i)) } }
theorem test_busy_detail :
    busyState.isBusy (pkCls 3 0x1801 0 []) = true ∧ busyState.busyDetail (pkCls 3 0x1801 0 []) = 500 ∧
    busyState.isBusy (pkCls 2 0x1303 0 []) = false := by decide +kernel

/-- The lock of shared channel 9: the driver takes it, the tool reads 2, and owns it after the release (spec/04, Example
of R126). -/
def shared9 : State :=
  (((hqWith []).put (MBX.CHn_BIND.EN 9) 1).put (MBX.CHn_BIND.END0 9) 2).put (MBX.CHn_BIND.END1 9) 3 |>.put
    (MBX.CHn_BIND.MODE 9) 1
theorem test_channel_lock :
    (shared9.lockRead 2 9).1 = 0 ∧ ((shared9.lockRead 2 9).2.lockRead 3 9).1 = 2 ∧
    (((shared9.lockRead 2 9).2.lockWrite 2 9).lockRead 3 9).1 = 0 := by decide +kernel

/-- STAMP 0x40 after LATEST 0xFFFFFFFF00 is 320 us newer; a copy 131,136 us old is dropped at the default of 100 ms
(spec/06, Example of R189). -/
theorem test_stale_rule :
    State.reset.staleCheck { conn1 with latest := some 0xFFFFFFFF00 } 0x40 = some 0x40 ∧
    State.reset.staleCheck { conn1 with latest := some 0x40 } 0xFFFFFE0000 = none := by decide +kernel

/-- The two iterations of the DATA key of volume 0x0042 at key epoch 3 (spec/07, Example of R211). -/
theorem test_data_key (k : List Byte) :
    derive k 1 0x42 3 0 512 =
      (hmacSha256 k ([0, 0, 0, 1] ++ [0x56, 0x58, 0x4B, 0x44] ++ [1, 0, 0, 0x42, 0, 0, 0, 3, 0, 0, 0, 0, 0, 0, 2, 0]) ++
        hmacSha256 k ([0, 0, 0, 2] ++ [0x56, 0x58, 0x4B, 0x44] ++ [1, 0, 0, 0x42, 0, 0, 0, 3, 0, 0, 0, 0, 0, 0, 2, 0])).take 64 := by
  have m : ∀ i : Nat, i < 2 → beBytes 4 (i + 1) ++ [0x56, 0x58, 0x4B, 0x44] ++ beBytes 1 1 ++ [0] ++ beBytes 2 0x42 ++ beBytes 4 3 ++
      beBytes 4 0 ++ beBytes 4 512 =
      [0, 0, 0, BitVec.ofNat 8 (i + 1)] ++ [0x56, 0x58, 0x4B, 0x44] ++ [1, 0, 0, 0x42, 0, 0, 0, 3, 0, 0, 0, 0, 0, 0, 2, 0] := by decide
  show (List.flatMap _ [0, 1]).take 64 = _
  simp only [List.flatMap_cons, List.flatMap_nil, List.append_nil, m 0 (by decide), m 1 (by decide)]
  rfl

/-- The sprint budget: 350 W takes 10 ms of it each 10 ms, 250 W gives back 5 ms, 290 W leaves it (spec/02, Example of
R56: SUST_W 300). -/
def sprintAt (b : Nat) : State := { State.reset.put PWR.CAP.SUST_W 300 with pwr := { State.reset.pwr with budgetMs := b } }
theorem test_sprint_budget :
    (nextOf (exec (.sprintBudgetUpdate 350) (sprintAt 1000))).pwr.budgetMs = 990 ∧
    (nextOf (exec (.sprintBudgetUpdate 250) (sprintAt 1000))).pwr.budgetMs = 1005 ∧
    (nextOf (exec (.sprintBudgetUpdate 290) (sprintAt 1000))).pwr.budgetMs = 1000 ∧
    (nextOf (exec (.sprintBudgetUpdate 350) (sprintAt 10))).on PWR.SPRINT_STS.EXHAUSTED = true := by decide +kernel

/-- Health: every spare cluster but Q1's, one spare core and one spare lane of link 19 used (spec/01, Example of R34). -/
def wornHead : State :=
  { ((((hqWith []).setB (SYS.SPARE_STS.SPARE_USED 1)).put CMD.CORE_STS.SPARES 1).put (FLK.LINKk_STS.SPARE 19) 2) with
    pair := { State.reset.pair with spares := [1] } }
theorem test_health_sums :
    (nextOf (exec .healthSumUpdate wornHead)).get SYS.HEALTH_SUM0.CLUSTER = 0 ∧
    (nextOf (exec .healthSumUpdate wornHead)).get SYS.HEALTH_SUM0.CORE = 50 ∧
    (nextOf (exec .healthSumUpdate wornHead)).get SYS.HEALTH_SUM0.SERDES = 0 := by decide +kernel

/-- A bucket of rate 16 and burst 64: empty after 64 records, 3.2 tokens 200 ms later (spec/17, Example of R480). -/
def bucketAt (tokens at_ now : Nat) : State :=
  { State.reset with aon := now, evr := { buckets := [{ code := 0x0701, own := some (16, 64), tokens := tokens, at_ := at_, supp := 436 }] } }
theorem test_record_bucket :
    ((bucketAt 0 0 (3 * Config.ms)).limit 0x0701).2 = false ∧
    ((bucketAt (48 * Config.ms) 0 (200 * Config.ms)).limit 0x0701).2 = true ∧
    ((bucketAt 0 0 (200 * Config.ms)).limit 0x0701).1.tokens = 2200 * Config.ms := by decide +kernel

/-- Disabling slice 2 by MCC_CTL.EN = 0b1011 starts its drain (spec/15, Example of R456). -/
theorem test_slice_drain :
    (nextOf (exec (.sliceDisable 7 0xB) ap1)).mccDraining 2 = true ∧
    (nextOf (exec (.sliceDisable 7 0xB) ap1)).mccDraining 1 = false := by decide +kernel

/-- Three channels of two 96 GiB modules give 512 usable GiB to each quadrant (spec/15, Example of R437). -/
def rdimm : Dimm := { kind := 1, dimms := 2, gib := 192, spd := [1] }
theorem test_usable_gib :
    (nextOf (exec (.channelTraining 2 rdimm rdimm false true []) memS2)).get (MEM.Qn_STS.USABLE_GIB 0) = 512 ∧
    dimmType rdimm = some (2, 5200) := by decide +kernel

/-- Doorbells of QPID 0x1234 lie at 0x12340 and 0x12344 (spec/05, Example of R136): the offset names the queue pair. -/
theorem test_doorbell_offsets :
    0x12340 / 16 = 0x1234 ∧ 0x12340 % 16 = 0 ∧ 0x12344 / 16 = 0x1234 ∧ 0x12344 % 16 = 4 ∧
    ((nextOf (exec (.sqTailDoorbell 0x50 4 3) hq0)).qp 5).sqTail = 3 := by decide +kernel

/-! ## Commands of the queue -/

/-- The command at the front runs and leaves the queue. -/
theorem test_step_takes_front :
    (nextOf (step { State.reset with pending := [.holdupOk true, .x32kOk] })).pending = [.x32kOk] ∧
    (nextOf (step { State.reset with pending := [.holdupOk true, .x32kOk] })).pwr.holdup = true := by decide +kernel

/-- An empty queue lets 1 us pass. -/
theorem test_step_idles : (nextOf (step State.reset)).aon = Config.us := by decide +kernel

/-- A command that its interface cannot carry stops. -/
theorem test_step_ill_formed : step { State.reset with pending := [.quadrantWake 4] } = .fault .illFormed := by rfl

/-! ## Ill-formed commands -/

/-- A packet of no row. -/
def badPk : Packet := pk 0xFFFF 0 []

/-- No packet row carries another opcode. -/
theorem test_wf_opcode (f : Packet → Instr) (h : PacketRow f) : (f badPk).wf = false := by
  unfold PacketRow at h
  repeat (first | (rcases h with rfl | h; · decide) | (rcases h with ⟨x, rfl⟩ | h; · simp [Instr.wf, badPk, pk]))

/-- A root load with another opcode. -/
theorem test_wf_root_load : (Instr.rootLoad badPk true).wf = false := by decide

/-- Ill-formed commands: power. -/
theorem test_wf_power :
    ([
      .feedTick ⟨5, 4⟩ ⟨0, 0⟩,
      .feedTick ⟨0, 0⟩ ⟨0, 1024⟩,
      .feedFailed .a (.vsns 1024 0 0 0),
      .feedFailed .a (.vsns 0 1024 0 0),
      .feedFailed .a (.vsns 0 0 1024 0),
      .feedFailed .a (.vsns 0 0 0 1024),
      .feedResync .a ⟨2, 1⟩,
      .pgoodRise .b ⟨0, 1024⟩,
      .swapCheck true true 1024 0,
      .swapCheck true true 0 1024,
      .powerStepUpdate 512 0,
      .powerStepUpdate 0 512,
      .thermalStepUpdate [],
      .thermalStepUpdate (List.replicate 20 256),
      .thermalTrip 20 112,
      .thermalTrip 0 256,
      .clusterGate 4 0,
      .clusterGate 0 8,
      .quadrantGate 4,
      .gateEntryDone 4 none,
      .gateEntryDone 0 (some 8),
      .clusterWake 4 0,
      .clusterWake 0 8,
      .quadrantWake 4] : List Instr).map Instr.wf = List.replicate 24 false := by decide +kernel

/-- Ill-formed commands: start. -/
theorem test_wf_start :
    ([
      .parityError 4 0,
      .parityError 0 8,
      .swapDrainDone 4,
      .spareSelfTestDone 4 true,
      .swapRemap 4,
      .spareWeeklyTest 4 true,
      .stageS0 4,
      .stageS1 [(4, 0, 0)],
      .stageS1 [(0, 48, 0)],
      .entReady 4] : List Instr).map Instr.wf = List.replicate 10 false := by decide +kernel

/-- Ill-formed commands: control. -/
theorem test_wf_control :
    ([
      .packetTake (.slotF 64) 0,
      .packetTake (.slotF 0) 101,
      .packetTake (.inband (2 ^ 20) 0) 0,
      .watchdogRestart 1024 0,
      .watchdogRestart 0 1024,
      .wdogKick 7 10 0,
      .slotWrite 2 0 [],
      .slotWrite 2 0 (List.replicate 513 0),
      .slotWrite 2 0x100000 [0],
      .send 2 64 0,
      .recv 2 64,
      .wdraw 2 64,
      .lockRead 2 64,
      .lockRelease 2 64 0,
      .dbSet 2 64 0,
      .registerRead 2 0 0,
      .registerRead 2 0 513,
      .registerWrite 2 0 0 0,
      .registerWrite 2 0 513 0] : List Instr).map Instr.wf = List.replicate 19 false := by decide +kernel

/-- Ill-formed commands: queues. -/
theorem test_wf_queues :
    ([
      .sqTailDoorbell (2 ^ 24) 4 0,
      .cqHeadDoorbell (2 ^ 24) 4 0,
      .frameReceive 8 0 { len := 64, bytes := [] },
      .frameReceive 0 4 { len := 64, bytes := [] },
      .writePacket 8 0,
      .readReq 8 0,
      .readResp 8 0,
      .doorbell 8 0,
      .trigger 8 0,
      .ack 8 0,
      .nak 8 0,
      .probe 8 0,
      .pfcRelease 8,
      .pfcPauseReceive 8 0 true,
      .pfcPauseReceive 0 4 true,
      .subPortUp 8 0,
      .subPortUp 0 4,
      .subPortDown 8 0,
      .subPortDown 0 4,
      .transmitRingPost 8 0,
      .transmitRingPost 0 1025] : List Instr).map Instr.wf = List.replicate 21 false := by decide +kernel

/-- Ill-formed commands: media. -/
theorem test_wf_media :
    ([
      .keyDerivationDone 32 1 0 0 0,
      .healthTestFail ⟨4, .repetition 41⟩,
      .hourlyRetest 4 true,
      .drbgReseed 32,
      .flitReceive (.flash 48) 0 0 (List.replicate 120 0) 0,
      .flitReceive .nerryn 65536 0 (List.replicate 120 0) 0,
      .flitReceive .nerryn 0 65536 (List.replicate 120 0) 0,
      .flitReceive .nerryn 0 0 (List.replicate 119 0) 0,
      .flitReceive .nerryn 0 0 (List.replicate 120 0) 4294967296,
      .ackseqTimer (.flash 48),
      .flashLinkUp 48 true idm,
      .laneErrorWindow (.flash 48) 0 0 0 0,
      .spareLaneTrained (.flash 48) true,
      .laneSwitch (.flash 48),
      .spareLaneTest (.flash 48) [],
      .laneLossOfLock (.flash 48) 0,
      .bridgeCompletion 48 0 0 [],
      .bridgeCompletion 0 0 9 [],
      .codewordDecode 0 0 0 25 true,
      .gcBandSelect 4 0,
      .gcBandSelect 0 2,
      .bandAllocate 0 0 3 0,
      .temperatureReport 48 0,
      .temperatureReport 0 128,
      .temperatureReport 0 (-129),
      .temperatureTimeout 48,
      .loadClassUpdate 48 0 0] : List Instr).map Instr.wf = List.replicate 27 false := by decide +kernel

/-- Ill-formed commands: hdas. -/
theorem test_wf_hdas :
    ([
      .stringUp 96 default default default,
      .stringDown 96 true,
      .cstatTimeout 96,
      .rsamp 96 0 0 0 0 (List.replicate 112 0) 0,
      .rsamp 0 4294967296 0 0 0 (List.replicate 112 0) 0,
      .rsamp 0 0 256 0 0 (List.replicate 112 0) 0,
      .rsamp 0 0 0 65536 0 (List.replicate 112 0) 0,
      .rsamp 0 0 0 0 1099511627776 (List.replicate 112 0) 0,
      .rsamp 0 0 0 0 0 [] 0,
      .rsamp 0 0 0 0 0 (List.replicate 112 0) 4294967296,
      .ssamp 96 ⟨List.replicate 128 0, default, default⟩,
      .ssamp 0 ⟨[], default, default⟩,
      .ssamp 0 ⟨List.replicate 128 0, { (default : Wedge) with num := 512 }, default⟩,
      .cstat 96 default,
      .cstat 0 { (default : Cstat) with temp0 := 128 },
      .cstat 0 { (default : Cstat) with temp1 := -129 },
      .carrierCompletion 96 0 .ok 0 [],
      .poorClear 96,
      .sectorDecode 0 13 none 0 0,
      .sectorDecode 0 0 none 3 0,
      .hdaWindowClose 192 0 0 [] [] [] 0 0 0,
      .hdaWindowClose 0 0 3 [] [] [] 0 0 0,
      .parkedSout 192,
      .loadRetry 192,
      .loadTimeout 192,
      .trajectoryEnd 192,
      .unloadDone 192,
      .retractPulseEnd 192,
      .spinupGrant 192,
      .alignDone 192,
      .spinupTimeout 192,
      .faultRetry 192,
      .idleSpinDown 192] : List Instr).map Instr.wf = List.replicate 33 false := by decide +kernel

/-- Ill-formed commands: pair and memory. -/
theorem test_wf_pair_and_memory :
    ([
      .tunnel default (.read 0 0),
      .tunnel default (.read 0 513),
      .tunnel default (.read 0xFFFFF 2),
      .tunnel default (.write 0 []),
      .tunnel default (.write 0xFFFFF [0, 0]),
      .nrnNotice default 64,
      .channelTraining 12 dimm0 dimm0 true true [],
      .scrub [(12, 0)],
      .dramCe 12 0,
      .dramUe 12 0 .complex,
      .dramUe 0 (2 ^ 39) .complex,
      .sramUe 4 0 .other,
      .sramUe 0 48 .other,
      .blockTest 4 0 0 true,
      .blockTest 0 48 0 true,
      .blockTest 0 0 256 true,
      .sliceDrainDone 4,
      .configWrite 2 15 0,
      .configWrite 4096 15 0,
      .configWrite 0 16 0,
      .msixTableWrite 2 0,
      .msixTableWrite 0x10000 0,
      .recordIntake 65536 0 0 0 [],
      .recordIntake 0 256 0 0 [],
      .recordIntake 0 0 (2 ^ 32) 0 [],
      .recordIntake 0 0 0 (2 ^ 32) [],
      .recordIntake 0 0 0 0 (List.replicate 29 0),
      .pcieLinkUp 0 1 true,
      .pcieLinkUp 7 1 true,
      .pcieLinkUp 1 0 true,
      .pcieLinkUp 1 6 true,
      .pcieLinkUp 6 5 false] : List Instr).map Instr.wf = List.replicate 32 false := by decide +kernel

/-! ## States that meet the premises of the statements -/

/-- The premises of each clause of EmptyQueueIdles can hold together. -/
theorem test_witness_EmptyQueueIdles :
    ∃ s : State, s.pending = [] :=
  ⟨State.reset, by decide +kernel⟩

/-- The premises of each clause of LiveStatusAfterEveryStep can hold together. -/
theorem test_witness_LiveStatusAfterEveryStep :
    ∃ s t : State, step s = .next t ∧ t.inRange :=
  ⟨State.reset, (State.reset.pass Config.us).settle, rfl, by decide +kernel⟩

/-- The premises of each clause of QuietStateSettles can hold together. -/
theorem test_witness_QuietStateSettles :
    ∃ (s : State) (f : Fld), s.quiet ∧ s.inRange ∧ liveBit f.bit = false :=
  ⟨State.reset, SYS.EPOCH_NUM.NUM, by decide +kernel⟩

/-- The premises of each clause of FirstFailedCheckAnswered can hold together. -/
theorem test_witness_FirstFailedCheckAnswered :
    ∃ (f : Packet → Instr) (s : State) (p : Packet) (st d : Nat), PacketRow f ∧ (f p).wf = true ∧ s.isTaken p = false ∧ s.intakePaused = false ∧ s.roomFor p = true ∧ s.checkPacket p = some (st, d) :=
  ⟨Instr.updCancel, State.reset.setB CMD.STS.MC_RUN, { pkCrc (pk 0x1806 0 []) with tag := 9 }, 8, 0, by simp [PacketRow], by decide +kernel⟩

/-- The premises of each clause of OverloadAnsweredBusy can hold together. -/
theorem test_witness_OverloadAnsweredBusy :
    (∃ (f : Packet → Instr) (s : State) (p : Packet), PacketRow f ∧ (f p).wf = true ∧ s.isTaken p = false ∧ s.intakePaused = false ∧ s.roomFor p = true ∧ s.checkPacket p = none ∧ s.isBusy p = true) ∧
    (∃ (f : Packet → Instr) (s : State) (p : Packet), PacketRow f ∧ (f p).wf = true ∧ s.isTaken p = false ∧ s.intakePaused = false ∧ s.roomFor p = true ∧ s.checkPacket p = none ∧ p.cls < 2 ∧ s.classFull p = true) :=
  ⟨⟨Instr.updStatus, (State.reset.setB CMD.STS.MC_RUN).put CMD.LOAD.LOAD_PCT 100, pkCls 2 0x1801 0 [], by simp [PacketRow], by decide +kernel⟩,
   ⟨Instr.updStatus, fullState, pkCrc (pk 0x1801 0 []), by simp [PacketRow], by decide +kernel⟩⟩

/-- The premises of each clause of DryRunHasNoEffect can hold together. -/
theorem test_witness_DryRunHasNoEffect :
    ∃ (f : Packet → Instr) (s : State) (p : Packet), PacketRow f ∧ (f p).wf = true ∧ Executes s p ∧ p.dryRun = true :=
  ⟨Instr.updStatus, taken { pk 0x1801 0 [] with flags := 4 } (State.reset.setB CMD.STS.MC_RUN), { pk 0x1801 0 [] with flags := 4 }, by simp [PacketRow], by decide +kernel⟩

/-- The premises of each clause of SerialWaits can hold together. -/
theorem test_witness_SerialWaits :
    (∃ (f : Packet → Instr) (s : State) (p : Packet) (u : State) (x : Taken), PacketRow f ∧ (f p).wf = true ∧ u = s.intake p ∧ u.isTaken p = true ∧ (∀ t ∈ u.cmd.taken, t.pkt = p → t.started = false) ∧ x ∈ u.cmd.taken.takeWhile (fun t => t.pkt ≠ p) ∧ transportOf x.pkt.ident = transportOf p.ident ∧ p.serial = true) ∧
    (∃ (f : Packet → Instr) (s : State) (p : Packet) (u : State) (x : Taken), PacketRow f ∧ (f p).wf = true ∧ u = s.intake p ∧ u.isTaken p = true ∧ (∀ t ∈ u.cmd.taken, t.pkt = p → t.started = false) ∧ x ∈ u.cmd.taken.takeWhile (fun t => t.pkt ≠ p) ∧ transportOf x.pkt.ident = transportOf p.ident ∧ x.started = false ∧ (∀ t ∈ u.cmd.taken, t.pkt = p → t.cls = x.cls)) :=
  ⟨⟨Instr.updStatus, serialState, { pk 0x1801 0 [] with flags := 8 }, serialState, { pkt := pk 0x1805 0 [], cls := 1, at_ := 0 }, by simp [PacketRow], by decide +kernel⟩,
   ⟨Instr.updStatus, serialState, { pk 0x1801 0 [] with flags := 8 }, serialState, { pkt := pk 0x1805 0 [], cls := 1, at_ := 0 }, by simp [PacketRow], by decide +kernel⟩⟩

/-- The premises of each clause of PendingCommitBlocksShadow can hold together. -/
theorem test_witness_PendingCommitBlocksShadow :
    (∃ (f : Packet → Instr) (s : State) (p : Packet), ShadowRow f ∧ (f p).wf = true ∧ Executes s p ∧ p.dryRun = false ∧ (s.intake p).on SYS.EPOCH_STS.PEND = true ∧ p.commit = true) ∧
    (∃ (f : Packet → Instr) (s : State) (p : Packet), ShadowRow f ∧ (f p).wf = true ∧ Executes s p ∧ p.dryRun = false ∧ (s.intake p).on SYS.EPOCH_STS.PEND = true ∧ p.commit = false) :=
  ⟨⟨Instr.phaseSet, taken { pk 0x1004 0 [0, 0, 0, 0] with flags := 16 } (hd0.setB SYS.EPOCH_STS.PEND), { pk 0x1004 0 [0, 0, 0, 0] with flags := 16 }, by simp [ShadowRow], by decide +kernel⟩,
   ⟨Instr.phaseSet, taken (pk 0x1004 0 [0, 0, 0, 0]) (hd0.setB SYS.EPOCH_STS.PEND), pk 0x1004 0 [0, 0, 0, 0], by simp [ShadowRow], by decide +kernel⟩⟩

/-- The premises of each clause of CommitFlagWaitsForCommit can hold together. -/
theorem test_witness_CommitFlagWaitsForCommit :
    ∃ (f : Packet → Instr) (s : State) (p : Packet), ShadowRow f ∧ (f p).wf = true ∧ Executes s p ∧ p.dryRun = false ∧ p.commit = true ∧ (s.intake p).on SYS.EPOCH_STS.PEND = false :=
  ⟨Instr.phaseSet, taken { pk 0x1004 0 [0, 0, 0, 0] with flags := 16 } hd0, { pk 0x1004 0 [0, 0, 0, 0] with flags := 16 }, by simp [ShadowRow], by decide +kernel⟩

/-- The premises of each clause of QueriesChangeNoData can hold together. -/
theorem test_witness_QueriesChangeNoData :
    ∃ (f : Packet → Instr) (p : Packet), QueryRow f ∧ (f p).wf = true :=
  ⟨Instr.updStatus, pk 0x1801 0 [], by simp [QueryRow], by decide +kernel⟩

/-- The premises of each clause of DuplicateTagRefused can hold together. -/
theorem test_witness_DuplicateTagRefused :
    ∃ (f : Packet → Instr) (s : State) (p : Packet) (x : Taken), PacketRow f ∧ (f p).wf = true ∧ s.isTaken p = false ∧ s.cmd.inReset = false ∧ s.roomFor p = true ∧ s.on SYS.START_STS.DEAD = false ∧ x ∈ s.cmd.taken ∧ x.pkt.ident = p.ident ∧ x.pkt.tag = p.tag ∧ State.checkPacket { s with cmd := { s.cmd with taken := [] } } p = none :=
  ⟨Instr.updStatus, taken (pk 0x1805 0 []) (State.reset.setB CMD.STS.MC_RUN), pkCrc (pk 0x1801 0 []), { pkt := pk 0x1805 0 [], cls := 1, at_ := 0 }, by simp [PacketRow], by decide +kernel, by decide +kernel, by decide +kernel, by decide +kernel, by decide +kernel, by simp [taken, pk]; decide, by decide +kernel, by decide +kernel, by decide +kernel⟩

/-- The premises of each clause of ReplyLayout can hold together. -/
theorem test_witness_ReplyLayout :
    (∃ (s : State) (p : Packet) (ch : Nat), p.via = .mailbox ch ∧ s.on (MBX.CHn_STS.FULL_B ch) = false ∧ s.cmd.held.find? (fun r => r.channel = some ch) = none) ∧
    (∃ r : Reply, r.status < 2 ^ 16 ∧ r.opcode < 2 ^ 16 ∧ r.tag < 2 ^ 32 ∧ r.data.length ≤ 4096 ∧ r.loc < 256 ∧ r.cls < 256 ∧ r.detail < 2 ^ 32 ∧ r.epoch < 2 ^ 32 ∧ r.time < 2 ^ 64) :=
  ⟨⟨State.reset, pk 0x1801 0 [], 0, by decide +kernel⟩,
   ⟨{ via := .mailbox 0, ident := 2, status := 65535, opcode := 65535, tag := 4294967295, loc := 255, cls := 3, detail := 0, epoch := 1, time := 5, data := [1, 2] }, by decide +kernel⟩⟩

/-- The premises of each clause of PacketHeaderRoundTrip can hold together. -/
theorem test_witness_PacketHeaderRoundTrip :
    ∃ p : Packet, p.opcode < 2 ^ 16 ∧ p.flags < 256 ∧ p.loc < 256 ∧ p.tag < 2 ^ 32 ∧ p.plen < 2 ^ 16 ∧ p.hver < 256 ∧ p.rsvd11 < 256 ∧ p.session < 2 ^ 32 ∧ p.pbuf < 2 ^ 64 ∧ p.rbuf < 2 ^ 64 ∧ p.rsvd32.length = 24 ∧ p.pcrc < 2 ^ 32 ∧ p.hcrc < 2 ^ 32 :=
  ⟨pk 0x1004 0 [1, 2, 3, 4], by decide +kernel⟩

/-- The premises of each clause of AbandonOverwritesShadow can hold together. -/
theorem test_witness_AbandonOverwritesShadow :
    (∃ (s : State) (ident : Nat) (data : Word) (u : State), s.reaches ident 0x30 = true ∧ (ident = 0 ∨ ident = 2 ∨ ident = 7) ∧ bitAt data.toNat 1 = true ∧ u = (if bitAt data.toNat 0 = true then s.requestCommit else s) ∧ u.on SYS.EPOCH_STS.PEND = true) ∧
    (∃ (s : State) (ident : Nat) (data : Word) (u : State), s.reaches ident 0x30 = true ∧ (ident = 0 ∨ ident = 2 ∨ ident = 7) ∧ bitAt data.toNat 1 = true ∧ u = (if bitAt data.toNat 0 = true then s.requestCommit else s) ∧ u.on SYS.EPOCH_STS.PEND = false) :=
  ⟨⟨ap1.setB SYS.EPOCH_STS.PEND, 7, 2#32, ap1.setB SYS.EPOCH_STS.PEND, by decide +kernel⟩,
   ⟨ap1, 7, 2#32, ap1, by decide +kernel⟩⟩

/-- The premises of each clause of ResetQpRule can hold together. -/
theorem test_witness_ResetQpRule :
    (∃ (z : State) (p : Packet) (s : State), Runs z p 0x0703 ∧ s = z.begun p ∧ p.u32 0 < 2 ^ 20 ∧ (s.qp (p.u32 0)).state = 2) ∧
    (∃ (z : State) (p : Packet) (s : State), Runs z p 0x0703 ∧ s = z.begun p ∧ p.u32 0 < 2 ^ 20 ∧ (s.qp (p.u32 0)).state = 0) :=
  ⟨⟨taken (pk 0x0703 0 [5, 0, 0, 0]) hq0, pk 0x0703 0 [5, 0, 0, 0], (taken (pk 0x0703 0 [5, 0, 0, 0]) hq0).begun (pk 0x0703 0 [5, 0, 0, 0]), by decide +kernel⟩,
   ⟨taken (pk 0x0703 0 [255, 255, 15, 0]) hq0, pk 0x0703 0 [255, 255, 15, 0], (taken (pk 0x0703 0 [255, 255, 15, 0]) hq0).begun (pk 0x0703 0 [255, 255, 15, 0]), by decide +kernel⟩⟩

/-- The premises of each clause of MailboxWithdrawal can hold together. -/
theorem test_witness_MailboxWithdrawal :
    ∃ (s : State) (ident r n : Nat) (b : Bool), n < 64 ∧ s.reaches ident (chReg ident n 0x20) = true ∧ s.writesSlot ident n = some b ∧ s.readsSlot r n = some b ∧ s.on (fullFld n b) = true ∧ b = false :=
  ⟨wdr0.setB (fullFld 0 false), 2, 0, 0, false, by decide +kernel⟩

/-- The premises of each clause of KeyEpochsOutliveVolumes can hold together. -/
theorem test_witness_KeyEpochsOutliveVolumes :
    (∃ (z : State) (p : Packet) (s : State) (v : Vol), Runs z p 0x1301 ∧ s = z.begun p ∧ s.vol (p.u16 0) = none ∧ s.shadowVol (p.u16 0) = none ∧ p.u8 2 ≤ 1 ∧ p.u8 3 ≤ 1 ∧ p.u32 4 ≠ 0 ∧ s.ark.isNone = false ∧ v = { num := p.u16 0, readOnly := bitAt (p.u8 3) 0, ownerB := p.u8 2 = 1, size := p.u32 4, quota := p.u32 8, keyEpoch := s.hwm (p.u16 0) + 1, minEpoch := s.hwm (p.u16 0) + 1, agroup := agroupAt p } ∧ s.serves v = true) ∧
    (∃ (s : State) (v : Vol), v ∈ s.act.vols) :=
  ⟨⟨taken volPk arkState, volPk, (taken volPk arkState).begun volPk, { num := 9, size := 8, quota := 7, keyEpoch := 1, minEpoch := 1, ownerB := false, readOnly := true, agroup := agroupAt volPk }, by decide +kernel⟩,
   ⟨mp0, vol1, by decide +kernel⟩⟩

/-- The premises of each clause of SlotWriteStoresBytes can hold together. -/
theorem test_witness_SlotWriteStoresBytes :
    ∃ (s : State) (ident off : Nat) (bytes : List Byte), s.quiet ∧ 1 ≤ bytes.length ∧ bytes.length ≤ 512 ∧ off < 0x100000 ∧ slotAt off = some (0, false, 0) ∧ s.reaches ident (mbxBase ident + off) = true ∧ s.writesSlot ident 0 = some false ∧ s.on (fullFld 0 false) = false :=
  ⟨wdr0, 2, slotBase 0 false, [7], by decide +kernel⟩

/-- The premises of each clause of ReservedBitsReadZero can hold together. -/
theorem test_witness_ReservedBitsReadZero :
    ∃ (s : State) (a i : Nat), (∀ fs, regAt a = some fs → ∀ f ∈ fs, s.get (f.at_ a) < 2 ^ f.width) ∧ (∀ fs, regAt a = some fs → ∀ f ∈ fs, ¬ (f.lsb ≤ i ∧ i < f.lsb + f.width)) :=
  ⟨State.reset, 0x34, 31, (by intro fs h; have h0 : fs = (regAt 0x34).getD [] := (by simp [h]); subst h0; decide), (by intro fs h; have h0 : fs = (regAt 0x34).getD [] := (by simp [h]); subst h0; decide)⟩

/-- The premises of each clause of FeedsStartAndVerify can hold together. -/
theorem test_witness_FeedsStartAndVerify :
    (∃ (s : State) (a b : VRange) (u : State), (u = s.passTo (s.nextTick Config.ms)) ∧ (a.wf = true) ∧ (b.wf = true) ∧ (u.mayEnable = true) ∧ (u.stayed a = true) ∧ (u.stayed b = false) ∧ (u.feedState .a = fsAbsent) ∧ (u.feedState .b ≠ fsActive)) ∧
    (∃ (s : State) (f : FeedId) (c1 c2 c3 c4 : Nat), ((FeedLoss.vsns c1 c2 c3 c4).wf = true) ∧ (s.inWindow c1 = false) ∧ (s.inWindow c2 = false) ∧ (s.inWindow c3 = false) ∧ (s.inWindow c4 = false) ∧ (s.feedState f = fsActive)) ∧
    (∃ (s : State) (f : FeedId) (v : VRange), (v.wf = true) ∧ (s.feedState f = fsFailed) ∧ (s.stayed v = true) ∧ (s.mayEnable = true)) ∧
    (∃ (s : State) (f : FeedId) (v : VRange), (v.wf = true) ∧ (s.feedState f = fsVerifying) ∧ (s.stayed v = true) ∧ (s.aon ≤ (s.feed f).enAt + 50 * Config.ms)) ∧
    (∃ (s : State) (f : FeedId), (s.feedState f = fsVerifying)) ∧
    (∃ (s : State) (f : FeedId), (s.feedState f = fsActive) ∧ ((s.feed f).proving = true) ∧ (s.aon ≤ (s.feed f).enAt + 50 * Config.ms)) :=
  ⟨⟨State.reset, ⟨800, 820⟩, ⟨0, 0⟩, State.reset.passTo (State.reset.nextTick Config.ms), by decide +kernel⟩,
   ⟨State.reset.put PWR.FEED_STS.A_STATE 1, .a, 0, 1, 2, 1023, by decide +kernel⟩,
   ⟨State.reset.put PWR.FEED_STS.A_STATE 4, .a, ⟨800, 820⟩, by decide +kernel⟩,
   ⟨State.reset.put PWR.FEED_STS.A_STATE 3, .a, ⟨800, 820⟩, by decide +kernel⟩,
   ⟨State.reset.put PWR.FEED_STS.B_STATE 3, .b, by decide +kernel⟩,
   ⟨(State.reset.put PWR.FEED_STS.A_STATE 1).setFeed .a { proving := true }, .a, by decide +kernel⟩⟩

/-- The premises of each clause of FeedSwap can hold together. -/
theorem test_witness_FeedSwap :
    (∃ (s : State) (ident : Nat) (data : Word) (u : State), (s.reaches ident 0x10004 = true) ∧ (ident = 0 ∨ ident = 2 ∨ ident = 4 ∨ ident = 7) ∧ (u = (s.iff (bitAt data.toNat 0) (fun x => x.rearm .a)).iff (bitAt data.toNat 1) (fun x => x.rearm .b))) ∧
    (∃ (s : State) (ident : Nat) (data : Word) (u : State), (s.reaches ident 0x10004 = true) ∧ (ident = 0 ∨ ident = 2 ∨ ident = 4 ∨ ident = 7) ∧ (u = (s.iff (bitAt data.toNat 0) (fun x => x.rearm .a)).iff (bitAt data.toNat 1) (fun x => x.rearm .b))) ∧
    (∃ (s : State) (t : Nat), (s.pwr.swapWaitSince = none) ∧ (s.pwr.swapDueAt = some t) ∧ (s.get PWR.SWAP_CFG.PERIOD_H ≠ 0)) ∧
    (∃ (s : State) (t : Nat), (s.pwr.swapWaitSince = some t) ∧ (s.get PWR.SWAP_CFG.PERIOD_H ≠ 0)) ∧
    (∃ (s : State) (t : Nat) (u : State), (u = s.passTo (t + s.get PWR.SWAP_CFG.DEFER_MAX_MIN * 60 * Config.sec)) ∧ (s.pwr.swapWaitSince = some t) ∧ (s.get PWR.SWAP_CFG.PERIOD_H ≠ 0)) ∧
    (∃ (s : State) (t aCode bCode : Nat) (aPgood bPgood : Bool) (act : FeedId) (u v : State), (u = s.passTo (t + 5 * Config.ms)) ∧ (v = ((((u.setFeed act { u.feed act with lo := true }).putFeedState act fsStandby).putFeedState act.other fsActive).put PWR.FEED_STS.ACTIVE act.other.num).clrB PWR.FEED_STS.SWAP_BUSY) ∧ (aCode < 1024) ∧ (bCode < 1024) ∧ (s.pwr.swapStart = some (t, act)) ∧ (s.on PWR.FEED_STS.SWAP_BUSY = true)) ∧
    (∃ (s : State) (level : Bool) (u : State), (u = { s with pwr := { s.pwr with holdup := level } })) :=
  ⟨⟨{ State.reset.put PWR.FEED_STS.A_STATE 5 with start := { reached := 1 } }, 7, 1#32, (let s : State := { State.reset.put PWR.FEED_STS.A_STATE 5 with start := { reached := 1 } }; let data : Word := 1#32; (s.iff (bitAt data.toNat 0) (fun x => x.rearm .a)).iff (bitAt data.toNat 1) (fun x => x.rearm .b)), by decide +kernel⟩,
   ⟨{ State.reset with start := { reached := 1 } }, 7, 4#32, (let s : State := { State.reset with start := { reached := 1 } }; let data : Word := 4#32; (s.iff (bitAt data.toNat 0) (fun x => x.rearm .a)).iff (bitAt data.toNat 1) (fun x => x.rearm .b)), by decide +kernel⟩,
   ⟨{ State.reset.put PWR.SWAP_CFG.PERIOD_H 1 with pwr := { swapDueAt := some 5 } }, 5, by decide +kernel⟩,
   ⟨{ State.reset.put PWR.SWAP_CFG.PERIOD_H 1 with pwr := { swapWaitSince := some 5 } }, 5, by decide +kernel⟩,
   ⟨{ State.reset.put PWR.SWAP_CFG.PERIOD_H 1 with pwr := { swapWaitSince := some 5 } }, 5, (let s : State := { State.reset.put PWR.SWAP_CFG.PERIOD_H 1 with pwr := { swapWaitSince := some 5 } }; let t : Nat := 5; s.passTo (t + s.get PWR.SWAP_CFG.DEFER_MAX_MIN * 60 * Config.sec)), by decide +kernel⟩,
   ⟨{ State.reset.setB PWR.FEED_STS.SWAP_BUSY with pwr := { swapStart := some (0, .a) } }, 0, 800, 820, false, true, .a, (let s : State := { State.reset.setB PWR.FEED_STS.SWAP_BUSY with pwr := { swapStart := some (0, .a) } }; let t : Nat := 0; s.passTo (t + 5 * Config.ms)), (let act : FeedId := .a; let u : State := (let s : State := { State.reset.setB PWR.FEED_STS.SWAP_BUSY with pwr := { swapStart := some (0, .a) } }; let t : Nat := 0; s.passTo (t + 5 * Config.ms)); ((((u.setFeed act { u.feed act with lo := true }).putFeedState act fsStandby).putFeedState act.other fsActive).put PWR.FEED_STS.ACTIVE act.other.num).clrB PWR.FEED_STS.SWAP_BUSY), by decide +kernel⟩,
   ⟨State.reset, true, (let s : State := State.reset; let level : Bool := true; { s with pwr := { s.pwr with holdup := level } }), by decide +kernel⟩⟩

/-- The premises of each clause of PowerAndThermalSteps can hold together. -/
theorem test_witness_PowerAndThermalSteps :
    (∃ (s : State) (avgW b : Nat) (u v : State), (u = s.passTo (s.nextTick (10 * Config.ms))) ∧ (b = if u.sustW < avgW then u.pwr.budgetMs - 10 else if avgW + 20 < u.sustW then min u.budgetMax (u.pwr.budgetMs + 5) else u.pwr.budgetMs) ∧ (v = { u with pwr := { u.pwr with budgetMs := b } })) ∧
    (∃ (s : State) (nowW avgW : Nat) (u : State), (nowW < 512) ∧ (avgW < 512) ∧ (u = State.retarget ((((s.passTo (s.nextTick (100 * Config.us))).put PWR.MEAS.NOW_W nowW).put PWR.MEAS.AVG1S_W avgW).put PWR.SPRINT_STS.ACTIVE (b2n ((s.passTo (s.nextTick (100 * Config.us))).sustW < nowW))))) ∧
    (∃ (s : State) (temps : List Nat) (u : State), (temps.length = 20) ∧ (temps.all (fun t => t < 256) = true) ∧ (s.pwr.thermStep.length = 4) ∧ (s.pwr.thermFell.length = 4) ∧ (u = s.passTo (s.nextTick Config.ms))) ∧
    (∃ (s : State) (sensor tempC : Nat), (sensor < 20) ∧ (112 ≤ tempC) ∧ (tempC < 256)) :=
  ⟨⟨{ State.reset with pwr := { budgetMs := 20 } }, 400, 10, (let s : State := { State.reset with pwr := { budgetMs := 20 } }; s.passTo (s.nextTick (10 * Config.ms))), (let b : Nat := 10; let u : State := (let s : State := { State.reset with pwr := { budgetMs := 20 } }; s.passTo (s.nextTick (10 * Config.ms))); { u with pwr := { u.pwr with budgetMs := b } }), by decide +kernel⟩,
   ⟨State.reset, 500, 100, (let s : State := State.reset; let nowW : Nat := 500; let avgW : Nat := 100; State.retarget ((((s.passTo (s.nextTick (100 * Config.us))).put PWR.MEAS.NOW_W nowW).put PWR.MEAS.AVG1S_W avgW).put PWR.SPRINT_STS.ACTIVE (b2n ((s.passTo (s.nextTick (100 * Config.us))).sustW < nowW)))), by decide +kernel⟩,
   ⟨State.reset, List.replicate 20 110, (let s : State := State.reset; s.passTo (s.nextTick Config.ms)), by decide +kernel⟩,
   ⟨State.reset, 19, 112, by decide +kernel⟩⟩

/-- The premises of each clause of GatingAndWake can hold together. -/
theorem test_witness_GatingAndWake :
    (∃ (s : State) (q k : Nat), (q < 4) ∧ (k < 8)) ∧
    (∃ (s : State) (q : Nat), (q < 4)) ∧
    (∃ (s : State) (q k : Nat) (w : Bool), (q < 4) ∧ (k < 8) ∧ (s.pwr.clusters.getD (8 * q + k) .gated = .entering w)) ∧
    (∃ (s : State) (q : Nat) (w : Bool), (q < 4) ∧ (s.pwr.quads.getD q .gated = .entering w)) ∧
    (∃ (s : State) (q k : Nat) (w : Bool), (q < 4) ∧ (k < 8) ∧ (s.pwr.clusters.getD (8 * q + k) .gated = .entering w)) ∧
    (∃ (s : State) (q k : Nat), (q < 4) ∧ (k < 8) ∧ (s.pwr.clusters.getD (8 * q + k) .gated = .gated)) ∧
    (∃ (s : State) (q k : Nat), (q < 4) ∧ (k < 8) ∧ (s.pwr.clusters.getD (8 * q + k) .gated = .awake)) ∧
    (∃ (s : State) (q : Nat) (w : Bool), (q < 4) ∧ (s.pwr.quads.getD q .gated = .entering w)) ∧
    (∃ (s : State) (q : Nat), (q < 4) ∧ (s.pwr.quads.getD q .gated = .gated)) ∧
    (∃ (s : State) (q : Nat), (q < 4) ∧ (s.pwr.quads.getD q .gated = .awake)) :=
  ⟨⟨{ State.reset.put PWR.IDLE.CLUSTER_US 1 with pwr := { clusters := List.replicate 32 .awake } }, 3, 7, by decide +kernel⟩,
   ⟨{ State.reset.put PWR.IDLE.QUAD_MS 1 with pwr := { quads := List.replicate 4 .awake } }, 3, by decide +kernel⟩,
   ⟨{ State.reset with pwr := { clusters := List.replicate 32 (.entering true) } }, 3, 7, true, by decide +kernel⟩,
   ⟨{ State.reset with pwr := { quads := List.replicate 4 (.entering true) } }, 3, true, by decide +kernel⟩,
   ⟨{ State.reset with pwr := { clusters := List.replicate 32 (.entering false) } }, 0, 0, false, by decide +kernel⟩,
   ⟨{ State.reset with pwr := { clusters := List.replicate 32 .gated, quads := List.replicate 4 .awake } }, 3, 7, by decide +kernel⟩,
   ⟨{ State.reset with pwr := { clusters := List.replicate 32 .awake, quads := List.replicate 4 .awake } }, 3, 7, by decide +kernel⟩,
   ⟨{ State.reset with pwr := { quads := List.replicate 4 (.entering false) } }, 3, false, by decide +kernel⟩,
   ⟨State.reset, 3, by decide +kernel⟩,
   ⟨{ State.reset with pwr := { quads := List.replicate 4 .awake } }, 3, by decide +kernel⟩⟩

/-- The premises of each clause of ClusterSparesAndEpochControl can hold together. -/
theorem test_witness_ClusterSparesAndEpochControl :
    (∃ (s : State) (q k : Nat) (ts : List (Nat × Nat)) (x : Spare), (q < 4) ∧ (k < 8) ∧ (x = s.spares.getD q {}) ∧ (ts = (k, s.aon) :: x.parity.filter (fun e => s.aon < e.2 + Config.day))) ∧
    (∃ (s : State) (q k : Nat) (retire parity : Bool) (x : Spare) (u : State), (q < 4) ∧ (x = s.spares.getD q {}) ∧ (x.phase = .draining k retire parity) ∧ (∀ c ∈ s.hq.cmds, c.cluster ≠ 8 * q + k) ∧ (u = { s with hq := { s.hq with qps := s.hq.qps.map (fun (p : Qp) => if p.cached = true ∧ s.act.qps.any (fun b => b.qpid = p.qpid ∧ b.cluster = 8 * q + k) = true then { p with cached := false, sram := true } else p) }, vrm := { s.vrm with conns := s.vrm.conns.map (fun (c : Conn) => if c.cached = true ∧ s.act.conns.any (fun b => b.id = c.id ∧ b.cluster = 8 * q + k) = true then { c with cached := false, sram := true } else c) } })) ∧
    (∃ (s : State) (q k : Nat) (pass : Bool) (x : Spare), (q < 4) ∧ (x = s.spares.getD q {}) ∧ (x.phase = .selfTest k)) ∧
    (∃ (s : State) (q : Nat), (q < 4)) ∧
    (∃ (s : State) (q : Nat) (pass : Bool) (x : Spare) (u v : State), (q < 4) ∧ (x = s.spares.getD q {}) ∧ (u = s.passTo (x.testedAt + 7 * Config.day)) ∧ (v = u.setSpare q { x with testedAt := u.aon })) ∧
    (∃ (s : State) (ident : Nat) (data : Word) (u : State), (s.reaches ident 0x30 = true) ∧ (ident = 0 ∨ ident = 2 ∨ ident = 7) ∧ (u = if bitAt data.toNat 0 then s.requestCommit else s)) ∧
    (∃ (s : State) (ident : Nat) (data : Word) (u : State), (s.reaches ident 0x30 = true) ∧ (ident = 0 ∨ ident = 2 ∨ ident = 7) ∧ (u = if bitAt data.toNat 0 then s.requestCommit else s)) ∧
    (∃ (s : State) , (s.retCount = 0)) ∧
    (∃ (z : State) (p : Packet) (s : State) (q k : Nat), (Runs z p 0x8120) ∧ (s = z.begun p) ∧ (q = bitsAt p.loc 4 2) ∧ (k = bitsAt p.loc 0 3) ∧ (bitsAt p.loc 6 2 = 2) ∧ (s.get (SYS.CLMAP.C q k) ≠ 0xF)) :=
  ⟨⟨State.reset, 3, 7, [(7, 0)], {}, by decide +kernel⟩,
   ⟨{ State.reset with spares := List.replicate 4 { phase := .draining 7 false false } }, 3, 7, false, false, { phase := .draining 7 false false }, (let s : State := { State.reset with spares := List.replicate 4 { phase := .draining 7 false false } }; let q : Nat := 3; let k : Nat := 7; { s with hq := { s.hq with qps := s.hq.qps.map (fun (p : Qp) => if p.cached = true ∧ s.act.qps.any (fun b => b.qpid = p.qpid ∧ b.cluster = 8 * q + k) = true then { p with cached := false, sram := true } else p) }, vrm := { s.vrm with conns := s.vrm.conns.map (fun (c : Conn) => if c.cached = true ∧ s.act.conns.any (fun b => b.id = c.id ∧ b.cluster = 8 * q + k) = true then { c with cached := false, sram := true } else c) } }), by decide +kernel⟩,
   ⟨{ State.reset with spares := List.replicate 4 { phase := .selfTest 7 } }, 3, 7, false, { phase := .selfTest 7 }, by decide +kernel⟩,
   ⟨{ State.reset with spares := List.replicate 4 { phase := .remap 7 false } }, 3, by decide +kernel⟩,
   ⟨State.reset, 3, false, {}, (let s : State := State.reset; let x : Spare := {}; s.passTo (x.testedAt + 7 * Config.day)), (let q : Nat := 3; let x : Spare := {}; let u : State := (let s : State := State.reset; let x : Spare := {}; s.passTo (x.testedAt + 7 * Config.day)); u.setSpare q { x with testedAt := u.aon }), by decide +kernel⟩,
   ⟨{ State.reset with start := { reached := 1 } }, 7, 1#32, (let s : State := { State.reset with start := { reached := 1 } }; let data : Word := 1#32; if bitAt data.toNat 0 then s.requestCommit else s), by decide +kernel⟩,
   ⟨{ State.reset with start := { reached := 1 } }, 7, 2#32, (let s : State := { State.reset with start := { reached := 1 } }; let data : Word := 2#32; if bitAt data.toNat 0 then s.requestCommit else s), by decide +kernel⟩,
   ⟨State.reset, by decide +kernel⟩,
   ⟨taken (pk 0x8120 0xB7 []) (State.reset.setB CMD.STS.MC_RUN), pk 0x8120 0xB7 [], (let z : State := taken (pk 0x8120 0xB7 []) (State.reset.setB CMD.STS.MC_RUN); let p : Packet := pk 0x8120 0xB7 []; z.begun p), 3, 7, by decide +kernel⟩⟩

/-- The premises of each clause of ResetsAndRestart can hold together. -/
theorem test_witness_ResetsAndRestart :
    (∃ (s : State) (c : Fld) (ends : Bool) (t : State), (c = SYS.RST_CAUSE.POR_PIN ∨ c = SYS.RST_CAUSE.SELF_COLD) ∧ (t = s.coldReset c ends)) ∧
    (∃ (s : State) (ident : Nat) (data : Word), (s.reaches ident 0x48 = true) ∧ (ident = 0 ∨ ident = 2 ∨ ident = 4 ∨ ident = 7)) ∧
    (∃ (s : State) (ident : Nat) (data : Word), (s.reaches ident 0x48 = true) ∧ (ident = 0 ∨ ident = 2 ∨ ident = 4 ∨ ident = 7)) ∧
    (∃ (s : State) (ident : Nat) (data : Word), (s.reaches ident 0x48 = true) ∧ (ident = 0 ∨ ident = 2 ∨ ident = 4 ∨ ident = 7)) ∧
    (∃ (s : State) (u v w : State), (s.feedState .a ≠ fsActive ∧ s.feedState .a ≠ fsStandby) ∧ (s.feedState .b ≠ fsActive ∧ s.feedState .b ≠ fsStandby) ∧ (s.pwr.rails = true) ∧ (u = s.dropVolatile) ∧ (v = if u.feedState .a = fsFailed ∨ u.feedState .a = fsVerifying then u.disable .a fsAbsent else u) ∧ (w = if v.feedState .b = fsFailed ∨ v.feedState .b = fsVerifying then v.disable .b fsAbsent else v)) ∧
    (∃ (s : State) , (s.feedState .a = fsActive ∨ s.feedState .a = fsStandby ∨ s.feedState .b = fsActive ∨ s.feedState .b = fsStandby ∨ s.pwr.rails = false)) :=
  ⟨⟨State.reset, SYS.RST_CAUSE.SELF_COLD, false, (let s : State := State.reset; let c : Fld := SYS.RST_CAUSE.SELF_COLD; let ends : Bool := false; s.coldReset c ends), by decide +kernel⟩,
   ⟨{ State.reset with start := { reached := 1 } }, 7, 0xA5C30001#32, by decide +kernel⟩,
   ⟨{ State.reset with start := { reached := 1 } }, 7, 0xA5C30002#32, by decide +kernel⟩,
   ⟨{ State.reset with start := { reached := 1 } }, 7, 0xA5C30004#32, by decide +kernel⟩,
   ⟨{ State.reset with pwr := { rails := true } }, (let s : State := { State.reset with pwr := { rails := true } }; s.dropVolatile), (let u : State := (let s : State := { State.reset with pwr := { rails := true } }; s.dropVolatile); if u.feedState .a = fsFailed ∨ u.feedState .a = fsVerifying then u.disable .a fsAbsent else u), (let v : State := (let u : State := (let s : State := { State.reset with pwr := { rails := true } }; s.dropVolatile); if u.feedState .a = fsFailed ∨ u.feedState .a = fsVerifying then u.disable .a fsAbsent else u); if v.feedState .b = fsFailed ∨ v.feedState .b = fsVerifying then v.disable .b fsAbsent else v), by decide +kernel⟩,
   ⟨State.reset, by decide +kernel⟩⟩

/-- The premises of each clause of StagedStart can hold together. -/
theorem test_witness_StagedStart :
    (∃ (s : State) (bootMode mode : Nat) (u v w : State), (bootMode < 4) ∧ (s.start.base.isSome = true) ∧ (s.start.reached = 0) ∧ (s.powered = true) ∧ (u = s.takeRegion) ∧ (mode = if u.start.bootRead then u.start.bootMode else min 1 bootMode) ∧ (v = State.setB { u with start := { u.start with reached := 1, s0At := u.aon, bootMode := mode, bootRead := true } } CLK.REF_STS.REF100_OK) ∧ (w = v.emit (uartLine v.startLine))) ∧
    (∃ (s : State) (bad : List (Nat × Nat × Nat)) (tb : State × Bool), (bad.all (fun x => x.1 < 4 && x.2.1 < 48) = true) ∧ (s.start.reached = 1) ∧ (s.start.bootMode = 0) ∧ (s.on SYS.START_STS.DEAD = false) ∧ (s.powered = true) ∧ (s.pwr.rails = true) ∧ (tb = if s.mem.tested then (s, false) else s.testBanks bad)) ∧
    (∃ (s : State) (ok : Bool) (sl : Slot), (s.start.reached = 2) ∧ (s.start.settingsApplied = false) ∧ (s.on SYS.START_STS.DEAD = false) ∧ (s.cmd.inReset = false) ∧ (s.on SYS.START_STS.CFG_NEWER = false) ∧ (sl = s.slot s.curSlot) ∧ (sl.valid = true ∧ s.nv.image.format < sl.format)) ∧
    (∃ (s : State) (ok : Bool) (sl : Slot) (u : State), (s.start.reached = 2) ∧ (s.start.settingsApplied = false) ∧ (s.on SYS.START_STS.DEAD = false) ∧ (s.cmd.inReset = false) ∧ (s.on SYS.START_STS.CFG_NEWER = false) ∧ (sl = s.slot s.curSlot) ∧ (sl.valid = false ∨ sl.format = s.nv.image.format) ∧ (u = s.firmwareRuns.showSlot.loadStored.loadEvents)) ∧
    (∃ (s : State) (ok : Bool) (sl : Slot) (u v : State), (s.start.reached = 2) ∧ (s.start.settingsApplied = false) ∧ (s.on SYS.START_STS.DEAD = false) ∧ (s.cmd.inReset = false) ∧ (s.on SYS.START_STS.CFG_NEWER = false) ∧ (sl = s.slot s.curSlot) ∧ (sl.valid = true ∧ sl.format < s.nv.image.format) ∧ (u = (s.writeSlot s.nv.image.format sl.recs ok).firmwareRuns.showSlot) ∧ (v = State.loadSettings { u.loadStored.loadEvents with start := { u.loadStored.loadEvents.start with settingsApplied := true } })) ∧
    (∃ (s : State) (q : Nat) (u : State), (s.start.reached = 2) ∧ (s.start.settingsApplied = true) ∧ (s.on CMD.STS.MC_RUN = true) ∧ (s.on SYS.START_STS.DEAD = false) ∧ (s.on EVR.STS.LOADING = false) ∧ (s.powered = true) ∧ (s.ddrTrained = true) ∧ (s.dp.dumpRead = true ∨ s.nv.media.dumpStart = none) ∧ (s.servingQuad = some q) ∧ (u = State.imageArrives (State.put (State.put (State.put { s with start := { s.start with reached := 3 } } SYS.START_STS.STAGE 2) SYS.START_STS.SERVE_Q (2 ^ q)) SYS.STAGE_T.S2_MS s.startMs))) ∧
    (∃ (s : State) (u v : State), (s.start.reached = 3) ∧ (s.on SYS.START_STS.DEAD = false) ∧ (s.powered = true) ∧ (s.mapWarm = true) ∧ (s.partnerSettled = true ∨ s.partnerAbsent = true) ∧ (u = State.put (State.put (State.put { s with start := { s.start with reached := 4 }, pwr := { s.pwr with swapDueAt := s.nextSwapDue } } SYS.START_STS.STAGE 3) SYS.STAGE_T.S3_MS s.startMs) SYS.START_STS.PARTNER_ABSENT (b2n s.partnerAbsent)) ∧ (v = [0, 1, 2, 3].foldl (fun (x : State) (q : Nat) => if x.bit SYS.START_STS.Q_DOWN q = true ∨ x.pwr.quads.getD q .gated = Gate.awake then x else x.wakeQuad q) u)) ∧
    (∃ (s : State) (t : Nat) (u : State), (s.start.base = some t) ∧ (u = { s.passTo (t + 45 * Config.sec) with start := { s.start with deadlineTold := true } })) ∧
    (∃ (s : State) (u : State), (s.on SYS.START_STS.DEAD = true) ∧ (u = s.passTo (s.start.deadLineAt + 10 * Config.sec))) :=
  ⟨⟨{ State.reset.put PWR.FEED_STS.A_STATE 1 with start := { base := some 0 } }, 3, 1, (let s : State := { State.reset.put PWR.FEED_STS.A_STATE 1 with start := { base := some 0 } }; s.takeRegion), (let bootMode : Nat := 3; let mode : Nat := 1; let u : State := (let s : State := { State.reset.put PWR.FEED_STS.A_STATE 1 with start := { base := some 0 } }; s.takeRegion); State.setB { u with start := { u.start with reached := 1, s0At := u.aon, bootMode := mode, bootRead := true } } CLK.REF_STS.REF100_OK), (let v : State := (let bootMode : Nat := 3; let mode : Nat := 1; let u : State := (let s : State := { State.reset.put PWR.FEED_STS.A_STATE 1 with start := { base := some 0 } }; s.takeRegion); State.setB { u with start := { u.start with reached := 1, s0At := u.aon, bootMode := mode, bootRead := true } } CLK.REF_STS.REF100_OK); v.emit (uartLine v.startLine)), by decide +kernel⟩,
   ⟨{ State.reset.put PWR.FEED_STS.A_STATE 1 with start := { reached := 1 }, mem := { tested := true }, pwr := { rails := true } }, [(3, 46, 1)], (let s : State := { State.reset.put PWR.FEED_STS.A_STATE 1 with start := { reached := 1 }, mem := { tested := true }, pwr := { rails := true } }; let bad : List (Nat × Nat × Nat) := [(3, 46, 1)]; if s.mem.tested then (s, false) else s.testBanks bad), by decide +kernel⟩,
   ⟨{ State.reset with start := { reached := 2 }, nv := { State.reset.nv with slots := [{ valid := true, format := 2, seq := 1, recs := [] }] } }, true, (let s : State := { State.reset with start := { reached := 2 }, nv := { State.reset.nv with slots := [{ valid := true, format := 2, seq := 1, recs := [] }] } }; s.slot s.curSlot), by decide +kernel⟩,
   ⟨{ State.reset with start := { reached := 2 } }, false, (let s : State := { State.reset with start := { reached := 2 } }; s.slot s.curSlot), (let s : State := { State.reset with start := { reached := 2 } }; s.firmwareRuns.showSlot.loadStored.loadEvents), by decide +kernel⟩,
   ⟨{ State.reset with start := { reached := 2 }, nv := { State.reset.nv with slots := [{ valid := true, format := 0, seq := 1, recs := [] }, Slot.empty] } }, true, (let s : State := { State.reset with start := { reached := 2 }, nv := { State.reset.nv with slots := [{ valid := true, format := 0, seq := 1, recs := [] }, Slot.empty] } }; s.slot s.curSlot), (let s : State := { State.reset with start := { reached := 2 }, nv := { State.reset.nv with slots := [{ valid := true, format := 0, seq := 1, recs := [] }, Slot.empty] } }; let ok : Bool := true; let sl : Slot := (let s : State := { State.reset with start := { reached := 2 }, nv := { State.reset.nv with slots := [{ valid := true, format := 0, seq := 1, recs := [] }, Slot.empty] } }; s.slot s.curSlot); (s.writeSlot s.nv.image.format sl.recs ok).firmwareRuns.showSlot), (let u : State := (let s : State := { State.reset with start := { reached := 2 }, nv := { State.reset.nv with slots := [{ valid := true, format := 0, seq := 1, recs := [] }, Slot.empty] } }; let ok : Bool := true; let sl : Slot := (let s : State := { State.reset with start := { reached := 2 }, nv := { State.reset.nv with slots := [{ valid := true, format := 0, seq := 1, recs := [] }, Slot.empty] } }; s.slot s.curSlot); (s.writeSlot s.nv.image.format sl.recs ok).firmwareRuns.showSlot); State.loadSettings { u.loadStored.loadEvents with start := { u.loadStored.loadEvents.start with settingsApplied := true } }), by decide +kernel⟩,
   ⟨s2, 0, (let s : State := s2; let q : Nat := 0; State.imageArrives (State.put (State.put (State.put { s with start := { s.start with reached := 3 } } SYS.START_STS.STAGE 2) SYS.START_STS.SERVE_Q (2 ^ q)) SYS.STAGE_T.S2_MS s.startMs)), by decide +kernel⟩,
   ⟨s3, (let s : State := s3; State.put (State.put (State.put { s with start := { s.start with reached := 4 }, pwr := { s.pwr with swapDueAt := s.nextSwapDue } } SYS.START_STS.STAGE 3) SYS.STAGE_T.S3_MS s.startMs) SYS.START_STS.PARTNER_ABSENT (b2n s.partnerAbsent)), (let u : State := (let s : State := s3; State.put (State.put (State.put { s with start := { s.start with reached := 4 }, pwr := { s.pwr with swapDueAt := s.nextSwapDue } } SYS.START_STS.STAGE 3) SYS.STAGE_T.S3_MS s.startMs) SYS.START_STS.PARTNER_ABSENT (b2n s.partnerAbsent)); [0, 1, 2, 3].foldl (fun (x : State) (q : Nat) => if x.bit SYS.START_STS.Q_DOWN q = true ∨ x.pwr.quads.getD q .gated = Gate.awake then x else x.wakeQuad q) u), by decide +kernel⟩,
   ⟨{ State.reset with start := { base := some 0 } }, 0, (let s : State := { State.reset with start := { base := some 0 } }; let t : Nat := 0; { s.passTo (t + 45 * Config.sec) with start := { s.start with deadlineTold := true } }), by decide +kernel⟩,
   ⟨State.reset.setB SYS.START_STS.DEAD, (let s : State := State.reset.setB SYS.START_STS.DEAD; s.passTo (s.start.deadLineAt + 10 * Config.sec)), by decide +kernel⟩⟩

/-- The premises of each clause of MailboxMessages can hold together. -/
theorem test_witness_MailboxMessages :
    (∃ (s : State) (ident off ch x : Nat) (b : Bool) (bytes : List Byte), (1 ≤ bytes.length) ∧ (bytes.length ≤ 512) ∧ (off < 0x100000) ∧ (slotAt off = some (ch, b, x)) ∧ (s.reaches ident (mbxBase ident + off) = true)) ∧
    (∃ (s : State) (ident n : Nat) (data : Word), (n < 64) ∧ (s.reaches ident (chReg ident n 0x8) = true) ∧ (s.writesSlot ident n = none)) ∧
    (∃ (s : State) (ident n : Nat) (b : Bool) (data : Word), (n < 64) ∧ (s.reaches ident (chReg ident n 0x8) = true) ∧ (s.writesSlot ident n = some b)) ∧
    (∃ (s : State) (ident n : Nat), (n < 64) ∧ (s.reaches ident (chReg ident n 0xC) = true)) ∧
    (∃ (s : State) (ident n : Nat), (n < 64) ∧ (s.reaches ident (chReg ident n 0x20) = true)) ∧
    (∃ (s : State) (ident n o : Nat), (n < 64) ∧ (s.reaches ident (chReg ident n 0x10) = true) ∧ (o = s.get (MBX.CHn_STS.OWNER n))) ∧
    (∃ (s : State) (ident n : Nat) (data : Word), (n < 64) ∧ (s.reaches ident (chReg ident n 0x10) = true)) ∧
    (∃ (s : State) (ident n : Nat) (data : Word), (n < 64) ∧ (s.reaches ident (chReg ident n 0x14) = true)) :=
  ⟨⟨{ State.reset with start := { reached := 2 } }, 4, 0x10000 + 19 * 0x2100 + 0x103F, 19, 0x103F, false, [0xA5], by decide +kernel⟩,
   ⟨{ State.reset with start := { reached := 2 } }, 4, 0, 4160, by decide +kernel⟩,
   ⟨{ State.reset with start := { reached := 2 } }, 4, 19, false, 4160, by decide +kernel⟩,
   ⟨{ State.reset.setB (fullFld 19 true) with start := { reached := 2 } }, 4, 19, by decide +kernel⟩,
   ⟨{ State.reset.setB (fullFld 19 false) with start := { reached := 2 } }, 4, 19, by decide +kernel⟩,
   ⟨{ ((State.reset.put (MBX.CHn_BIND.MODE 63) 1).put (MBX.CHn_BIND.END0 63) 4) with start := { reached := 2 } }, 4, 63, 0, by decide +kernel⟩,
   ⟨{ (((State.reset.put (MBX.CHn_BIND.EN 63) 1).put (MBX.CHn_BIND.MODE 63) 1).put (MBX.CHn_STS.OWNER 63) 4) with start := { reached := 2 } }, 4, 63, 0, by decide +kernel⟩,
   ⟨{ State.reset with start := { reached := 2 } }, 4, 19, 0xFFFFFFFF, by decide +kernel⟩⟩

/-- The premises of each clause of HealthAndSessionCommands can hold together. -/
theorem test_witness_HealthAndSessionCommands :
    (∃ (z : State) (p : Packet) (s : State), (Runs z p 0x0100) ∧ (s = z.begun p)) ∧
    (∃ (z : State) (p : Packet) (s : State), (Runs z p 0x0101) ∧ (s = z.begun p)) ∧
    (∃ (z : State) (p : Packet) (s : State), (Runs z p 0x0102) ∧ (s = z.begun p)) ∧
    (∃ (z : State) (p : Packet) (s : State), (Runs z p 0x0103) ∧ (s = z.begun p)) ∧
    (∃ (z : State) (p : Packet) (s : State), (Runs z p 0x0104) ∧ (s = z.begun p)) ∧
    (∃ (z : State) (p : Packet) (s : State), (Runs z p 0x0110) ∧ (s = z.begun p)) ∧
    (∃ (z : State) (p : Packet) (s : State), (Runs z p 0x0111) ∧ (s = z.begun p)) ∧
    (∃ (z : State) (p : Packet) (s : State), (Runs z p 0x0601) ∧ (s = z.begun p) ∧ (s.cmd.barred.any (fun b => b.1 = p.ident ∧ s.aon < b.2) = true)) ∧
    (∃ (z : State) (p : Packet) (s : State) (first : Nat), (Runs z p 0x0601) ∧ (s = z.begun p) ∧ (s.cmd.barred.any (fun b => b.1 = p.ident ∧ s.aon < b.2) = false) ∧ (s.maxSess ≤ s.cmd.sessions.length) ∧ (first = (s.cmd.sessions.map (fun x => x.lastUse + s.idleNs)).foldl min (s.aon + s.idleNs))) ∧
    (∃ (z : State) (p : Packet) (s : State), (Runs z p 0x0601) ∧ (s = z.begun p) ∧ (s.cmd.barred.any (fun b => b.1 = p.ident ∧ s.aon < b.2) = false) ∧ (s.cmd.sessions.length < s.maxSess)) ∧
    (∃ (z : State) (p : Packet) (s : State), (Runs z p 0x0602) ∧ (s = z.begun p)) ∧
    (∃ (z : State) (p : Packet) (s : State) (x : Session) (key : Option (List Byte)), (Runs z p 0x0603) ∧ (s = z.begun p) ∧ (s.session p = some x) ∧ (p.u8 0 ≤ 7) ∧ (p.u8 1 = 0) ∧ (p.u8 2 = 0) ∧ (p.u8 3 = 0) ∧ (key = (s.nv.image.expertKeys[p.u8 0]?).filter (fun k => k.any (· ≠ 0)))) ∧
    (∃ (z : State) (p : Packet) (s : State) (x : Session), (Runs z p 0x0603) ∧ (s = z.begun p) ∧ (s.session p = some x) ∧ (7 < p.u8 0 ∨ p.u8 1 ≠ 0 ∨ p.u8 2 ≠ 0 ∨ p.u8 3 ≠ 0)) ∧
    (∃ (z : State) (p : Packet) (s : State), (Runs z p 0x0603) ∧ (s = z.begun p) ∧ (s.session p = none)) :=
  ⟨⟨taken (pk 0x0100 0 []) (State.reset), pk 0x0100 0 [], (let z : State := taken (pk 0x0100 0 []) (State.reset); let p : Packet := pk 0x0100 0 []; z.begun p), by decide +kernel⟩,
   ⟨taken (pk 0x0101 0 []) (State.reset), pk 0x0101 0 [], (let z : State := taken (pk 0x0101 0 []) (State.reset); let p : Packet := pk 0x0101 0 []; z.begun p), by decide +kernel⟩,
   ⟨taken (pk 0x0102 0 []) (State.reset), pk 0x0102 0 [], (let z : State := taken (pk 0x0102 0 []) (State.reset); let p : Packet := pk 0x0102 0 []; z.begun p), by decide +kernel⟩,
   ⟨taken (pk 0x0103 0 []) (State.reset), pk 0x0103 0 [], (let z : State := taken (pk 0x0103 0 []) (State.reset); let p : Packet := pk 0x0103 0 []; z.begun p), by decide +kernel⟩,
   ⟨taken (pk 0x0104 0 []) (State.reset), pk 0x0104 0 [], (let z : State := taken (pk 0x0104 0 []) (State.reset); let p : Packet := pk 0x0104 0 []; z.begun p), by decide +kernel⟩,
   ⟨taken (pk 0x0110 0 [1, 0, 0, 0]) (State.reset), pk 0x0110 0 [1, 0, 0, 0], (let z : State := taken (pk 0x0110 0 [1, 0, 0, 0]) (State.reset); let p : Packet := pk 0x0110 0 [1, 0, 0, 0]; z.begun p), by decide +kernel⟩,
   ⟨taken (pk 0x0111 0 [0, 0, 0, 0]) (State.reset), pk 0x0111 0 [0, 0, 0, 0], (let z : State := taken (pk 0x0111 0 [0, 0, 0, 0]) (State.reset); let p : Packet := pk 0x0111 0 [0, 0, 0, 0]; z.begun p), by decide +kernel⟩,
   ⟨taken (pk 0x0601 0 []) ({ State.reset with cmd := { barred := [(2, 5)] } }), pk 0x0601 0 [], (let z : State := taken (pk 0x0601 0 []) ({ State.reset with cmd := { barred := [(2, 5)] } }); let p : Packet := pk 0x0601 0 []; z.begun p), by decide +kernel⟩,
   ⟨taken (pk 0x0601 0 []) (oneSess), pk 0x0601 0 [], (let z : State := taken (pk 0x0601 0 []) (oneSess); let p : Packet := pk 0x0601 0 []; z.begun p), oneSess.idleNs, by decide +kernel⟩,
   ⟨taken (pk 0x0601 0 []) (State.reset), pk 0x0601 0 [], (let z : State := taken (pk 0x0601 0 []) (State.reset); let p : Packet := pk 0x0601 0 []; z.begun p), by decide +kernel⟩,
   ⟨taken (pk 0x0602 0 []) ({ State.reset with cmd := { sessions := [{ handle := 0, owner := 2, nonce := [], lastUse := 0 }] } }), pk 0x0602 0 [], (let z : State := taken (pk 0x0602 0 []) ({ State.reset with cmd := { sessions := [{ handle := 0, owner := 2, nonce := [], lastUse := 0 }] } }); let p : Packet := pk 0x0602 0 []; z.begun p), by decide +kernel⟩,
   ⟨taken (pk 0x0603 0 (List.replicate 68 0)) ({ State.reset with cmd := { sessions := [{ handle := 0, owner := 2, nonce := [], lastUse := 0 }] }, nv := { State.reset.nv with image := { State.reset.nv.image with expertKeys := [[1]] } } }), pk 0x0603 0 (List.replicate 68 0), (let z : State := taken (pk 0x0603 0 (List.replicate 68 0)) ({ State.reset with cmd := { sessions := [{ handle := 0, owner := 2, nonce := [], lastUse := 0 }] }, nv := { State.reset.nv with image := { State.reset.nv.image with expertKeys := [[1]] } } }); let p : Packet := pk 0x0603 0 (List.replicate 68 0); z.begun p), { handle := 0, owner := 2, nonce := [], lastUse := 0 }, (let p : Packet := pk 0x0603 0 (List.replicate 68 0); let s : State := (let z : State := taken (pk 0x0603 0 (List.replicate 68 0)) ({ State.reset with cmd := { sessions := [{ handle := 0, owner := 2, nonce := [], lastUse := 0 }] }, nv := { State.reset.nv with image := { State.reset.nv.image with expertKeys := [[1]] } } }); let p : Packet := pk 0x0603 0 (List.replicate 68 0); z.begun p); (s.nv.image.expertKeys[p.u8 0]?).filter (fun k => k.any (· ≠ 0))), by decide +kernel⟩,
   ⟨taken (pk 0x0603 0 ([0, 0, 9] ++ List.replicate 65 0)) ({ State.reset with cmd := { sessions := [{ handle := 0, owner := 2, nonce := [], lastUse := 0 }] } }), pk 0x0603 0 ([0, 0, 9] ++ List.replicate 65 0), (let z : State := taken (pk 0x0603 0 ([0, 0, 9] ++ List.replicate 65 0)) ({ State.reset with cmd := { sessions := [{ handle := 0, owner := 2, nonce := [], lastUse := 0 }] } }); let p : Packet := pk 0x0603 0 ([0, 0, 9] ++ List.replicate 65 0); z.begun p), { handle := 0, owner := 2, nonce := [], lastUse := 0 }, by decide +kernel⟩,
   ⟨taken (pk 0x0603 0 (List.replicate 68 0)) (State.reset), pk 0x0603 0 (List.replicate 68 0), (let z : State := taken (pk 0x0603 0 (List.replicate 68 0)) (State.reset); let p : Packet := pk 0x0603 0 (List.replicate 68 0); z.begun p), by decide +kernel⟩⟩

/-- The premises of each clause of IntakeWatchdogAndStore can hold together. -/
theorem test_witness_IntakeWatchdogAndStore :
    (∃ (s : State) (src : PacketSource) (load : Nat) (u : State), (load ≤ 100) ∧ (match src with | .slotF ch => ch < 64 | .inband qpid _ => qpid < 2 ^ 20) ∧ (u = (s.put CMD.LOAD.LOAD_PCT load).put CMD.LOAD.PEAK_PCT (max load (s.get CMD.LOAD.PEAK_PCT)))) ∧
    (∃ (s : State) (ident tag : Nat) (t : Taken), (s.cmd.taken.find? (fun x => x.pkt.ident = ident ∧ x.pkt.tag = tag ∧ x.cls = 3 ∧ x.started = false) = some t)) ∧
    (∃ (s : State) (ident tag : Nat) (t : Taken) (w : CommitWait), (s.cmd.taken.find? (fun t => t.pkt.ident = ident ∧ t.pkt.tag = tag) = some t) ∧ (s.cmd.waits.find? (fun w => w.pkt = t.pkt) = some w)) ∧
    (∃ (s : State) (ident tag : Nat) (t : Taken), (s.cmd.taken.find? (fun t => t.pkt.ident = ident ∧ t.pkt.tag = tag) = some t) ∧ (s.cmd.waits.find? (fun w => w.pkt = t.pkt) = none)) ∧
    (∃ (s : State) (late failed overdue : Nat) (cores : List Nat) (u v : State) (rs : List (Nat × Nat)), (late < 1024) ∧ (failed < 1024) ∧ (cores = (List.range 10).filter (fun i => bitAt late i)) ∧ (s.on CMD.WDOG_CFG.EN = true) ∧ (s.on CMD.STS.MC_RUN = true) ∧ (cores ≠ []) ∧ (s.start.warm = .none) ∧ (cores.all (fun i => s.bit CMD.CORE_STS.ENABLED i) = true) ∧ (u = s.passTo ((cores.map (fun i => s.cmd.kicks.getD i 0 + s.periodNs)).foldl max 0)) ∧ (overdue = (((List.range 10).filter (fun i => u.bit CMD.CORE_STS.ENABLED i && decide (u.cmd.kicks.getD i 0 + u.periodNs ≤ u.aon))).map (2 ^ ·)).sum) ∧ (rs = (u.aon, overdue) :: u.cmd.restarts.filter (fun r => u.aon < r.1 + 60 * Config.sec)) ∧ (v = (State.put (State.put { u with cmd := { u.cmd with restarts := rs } } CMD.WDOG_STS.LATE_CORES overdue) CMD.WDOG_STS.WINDOW_CNT (min 3 rs.length)).setB SYS.RST_CAUSE.MC_WDOG)) ∧
    (∃ (s : State) (u : State), (s.cmd.inReset = true) ∧ (u = if s.cmd.testDue then s.draw.2.selfTestCores (s.draw.1 % 1024) else s)) ∧
    (∃ (s : State) (core : Nat) (data : Word), (core < 10) ∧ (s.on CMD.STS.MC_RUN = true)) ∧
    (∃ (s : State) (ident core : Nat) (data : Word), (core < 10) ∧ (ident ≠ 0 ∨ s.on CMD.STS.MC_RUN = false)) ∧
    (∃ (s : State) (ok : Bool) (recs : List (List Nat × List Nat)) (u : State), (recs = storedFlds.filterMap (fun e => if s.start.storeDue.contains e.1 then some (e.1, e.2.map (fun f => s.get f)) else none)) ∧ (u = s.storeSettings recs ok) ∧ (s.start.storeDue ≠ []) ∧ (s.on CMD.STS.MC_RUN = true)) :=
  ⟨⟨State.reset, .inband 0xFFFFF 3, 100, (let s : State := State.reset; let load : Nat := 100; (s.put CMD.LOAD.LOAD_PCT load).put CMD.LOAD.PEAK_PCT (max load (s.get CMD.LOAD.PEAK_PCT))), by decide +kernel⟩,
   ⟨{ State.reset with cmd := { taken := [{ pkt := pk 0x0100 0 [], cls := 3, at_ := 0 }] } }, 2, 1, { pkt := pk 0x0100 0 [], cls := 3, at_ := 0 }, by decide +kernel⟩,
   ⟨{ State.reset with cmd := { taken := [{ pkt := pk 0x0100 0 [], cls := 3, at_ := 0 }], waits := [{ pkt := pk 0x0100 0 [], cls := 3, at_ := 0, wrote := true, detail := 0, data := [] }] } }, 2, 1, { pkt := pk 0x0100 0 [], cls := 3, at_ := 0 }, { pkt := pk 0x0100 0 [], cls := 3, at_ := 0, wrote := true, detail := 0, data := [] }, by decide +kernel⟩,
   ⟨{ State.reset.setB SYS.EPOCH_STS.PEND with cmd := { taken := [{ pkt := { pk 0x1004 0 [] with flags := 16 }, cls := 1, at_ := 0, started := true }] } }, 2, 1, { pkt := { pk 0x1004 0 [] with flags := 16 }, cls := 1, at_ := 0, started := true }, by decide +kernel⟩,
   ⟨wd, 512, 1, 1023, [9], wd.passTo (wd.cmd.kicks.getD 9 0 + wd.periodNs), (State.put (State.put { wd.passTo (wd.cmd.kicks.getD 9 0 + wd.periodNs) with cmd := { wd.cmd with restarts := [(wd.cmd.kicks.getD 9 0 + wd.periodNs, 1023)] } } CMD.WDOG_STS.LATE_CORES 1023) CMD.WDOG_STS.WINDOW_CNT 1).setB SYS.RST_CAUSE.MC_WDOG, [(wd.cmd.kicks.getD 9 0 + wd.periodNs, 1023)], by decide +kernel⟩,
   ⟨{ State.reset with cmd := { inReset := true } }, (let s : State := { State.reset with cmd := { inReset := true } }; if s.cmd.testDue then s.draw.2.selfTestCores (s.draw.1 % 1024) else s), by decide +kernel⟩,
   ⟨State.reset.setB CMD.STS.MC_RUN, 9, 0, by decide +kernel⟩,
   ⟨State.reset, 2, 9, 0, by decide +kernel⟩,
   ⟨{ State.reset.setB CMD.STS.MC_RUN with start := { storeDue := [[1]] } }, true, (let s : State := { State.reset.setB CMD.STS.MC_RUN with start := { storeDue := [[1]] } }; storedFlds.filterMap (fun e => if s.start.storeDue.contains e.1 then some (e.1, e.2.map (fun f => s.get f)) else none)), (let s : State := { State.reset.setB CMD.STS.MC_RUN with start := { storeDue := [[1]] } }; let ok : Bool := true; let recs : List (List Nat × List Nat) := (let s : State := { State.reset.setB CMD.STS.MC_RUN with start := { storeDue := [[1]] } }; storedFlds.filterMap (fun e => if s.start.storeDue.contains e.1 then some (e.1, e.2.map (fun f => s.get f)) else none)); s.storeSettings recs ok), by decide +kernel⟩⟩

/-- The premises of each clause of EventRecorder can hold together. -/
theorem test_witness_EventRecorder :
    (∃ (s : State) (code loc res value : Nat) (data : List Byte), (code < 65536) ∧ (loc < 256) ∧ (res < 2 ^ 32) ∧ (value < 2 ^ 32) ∧ (data.length ≤ 28)) ∧
    (∃ (s : State) (g : Group) (rest : List Group), (s.evr.intake = g :: rest) ∧ (g.offs ≠ []) ∧ (g.vals = none)) ∧
    (∃ (s : State) (g : Group) (rest : List Group) (u : State), (s.evr.intake = g :: rest) ∧ (g.offs = [] ∨ g.vals.isSome = true) ∧ (s.on EVR.STS.LOADING = false ∨ s.evr.log ≠ []) ∧ (u = { s with evr := { s.evr with intake := rest } })) ∧
    (∃ (s : State) , (s.evr.wallAt.isSome = true) ∧ (s.on CLK.REF_STS.X32K_OK = true)) ∧
    (∃ (s : State) (count m n : Nat), (s.on EVR.STS.LOADING = false) ∧ (m = s.get EVR.MIRROR.MIRRORED) ∧ (n = ((List.range (min count (s.evr.log.length - m))).takeWhile (fun i => s.mirrorFree (m + i))).length)) ∧
    (∃ (s : State) , (s.on EVR.STS.LOADING = false)) ∧
    (∃ (s : State) (m : Mirror) (u v : State), (s.nv.mirror = m) ∧ (s.start.reached = 0) ∧ (s.on EVR.STS.LOADING = true) ∧ (s.evr.toLoad = 0) ∧ (s.evr.log = []) ∧ (u = (((s.put EVR.LOG.LOG m.log).put EVR.STS.FULL (b2n m.full)).put EVR.DROPPED.COUNT m.dropped).put EVR.MIRROR.MIRRORED m.count) ∧ (v = { u with evr := { u.evr with log := m.recs.drop (m.recs.length - m.count), wallHi := m.wallHi, loaded := 0, toLoad := m.count } })) ∧
    (∃ (s : State) (slots n : Nat) (u : State), (s.on EVR.STS.LOADING = true) ∧ (n = min s.evr.toLoad (max slots s.evr.loaded)) ∧ (u = { s with evr := { s.evr with loaded := n } })) :=
  ⟨⟨State.reset, 65535, 255, 2 ^ 32 - 1, 2 ^ 32 - 1, List.replicate 28 0, by decide +kernel⟩,
   ⟨{ State.reset with evr := { intake := [{ head := rec0, trig := 0, offs := [0] }] } }, { head := rec0, trig := 0, offs := [0] }, [], by decide +kernel⟩,
   ⟨{ State.reset with evr := { intake := [{ head := rec0, trig := 0, offs := [] }], log := [rec0] } }, { head := rec0, trig := 0, offs := [] }, [], (let s : State := { State.reset with evr := { intake := [{ head := rec0, trig := 0, offs := [] }], log := [rec0] } }; let rest : List Group := []; { s with evr := { s.evr with intake := rest } }), by decide +kernel⟩,
   ⟨{ State.reset.setB CLK.REF_STS.X32K_OK with evr := { wallAt := some (0, 0) } }, by decide +kernel⟩,
   ⟨{ State.reset.clrB EVR.STS.LOADING with evr := { log := [rec0] } }, 1, 0, 1, by decide +kernel⟩,
   ⟨State.reset.clrB EVR.STS.LOADING, by decide +kernel⟩,
   ⟨State.reset, {}, (let s : State := State.reset; let m : Mirror := {}; (((s.put EVR.LOG.LOG m.log).put EVR.STS.FULL (b2n m.full)).put EVR.DROPPED.COUNT m.dropped).put EVR.MIRROR.MIRRORED m.count), (let m : Mirror := {}; let u : State := (let s : State := State.reset; let m : Mirror := {}; (((s.put EVR.LOG.LOG m.log).put EVR.STS.FULL (b2n m.full)).put EVR.DROPPED.COUNT m.dropped).put EVR.MIRROR.MIRRORED m.count); { u with evr := { u.evr with log := m.recs.drop (m.recs.length - m.count), wallHi := m.wallHi, loaded := 0, toLoad := m.count } }), by decide +kernel⟩,
   ⟨State.reset, 0, 0, (let s : State := State.reset; let n : Nat := 0; { s with evr := { s.evr with loaded := n } }), by decide +kernel⟩⟩

/-- The premises of each clause of RecorderCommands can hold together. -/
theorem test_witness_RecorderCommands :
    (∃ (z : State) (p : Packet) (s : State), (Runs z p 0x0401) ∧ (s = z.begun p)) ∧
    (∃ (z : State) (p : Packet) (s : State) (n : Nat), (Runs z p 0x0402) ∧ (s = z.begun p) ∧ (n = min (p.u32 0 + p.u16 4) s.evr.log.length - p.u32 0)) ∧
    (∃ (z : State) (p : Packet) (s : State) (u : State), (Runs z p 0x0403) ∧ (s = z.begun p) ∧ (u = { s with evr := { s.evr with buckets := { s.bucket (p.u16 0) with own := some (p.u8 2, p.u8 3) } :: s.evr.buckets.filter (fun x => x.code ≠ (s.bucket (p.u16 0)).code) } })) ∧
    (∃ (z : State) (p : Packet) (s : State) (t : Trig) (u : State), (Runs z p 0x0404) ∧ (s = z.begun p) ∧ (t = { num := p.u8 0, code := p.u16 2, mask := p.u16 4, offs := (List.range (p.u8 1)).map (fun i => p.u32 (8 + 4 * i)) }) ∧ (u = { s with evr := { s.evr with trigs := s.evr.trigs.filter (fun x => x.num < p.u8 0) ++ (if p.u8 1 = 0 then [] else [t]) ++ s.evr.trigs.filter (fun x => p.u8 0 < x.num) } })) ∧
    (∃ (z : State) (p : Packet) (s : State), (Runs z p 0x0405) ∧ (s = z.begun p)) ∧
    (∃ (z : State) (p : Packet) (s : State), (Runs z p 0x0406) ∧ (s = z.begun p)) ∧
    (∃ (z : State) (p : Packet) (s : State), (Runs z p 0x0407) ∧ (s = z.begun p) ∧ (s.nv.mirror.eraseLeft ≠ 0)) ∧
    (∃ (z : State) (p : Packet) (s : State), (Runs z p 0x0407) ∧ (s = z.begun p) ∧ (s.nv.mirror.eraseLeft = 0) ∧ (7 < p.u8 0 ∨ p.u8 1 ≠ 0 ∨ p.u8 2 ≠ 0 ∨ p.u8 3 ≠ 0)) ∧
    (∃ (z : State) (p : Packet) (s : State) (n : List Byte) (key : Option (List Byte)) (u : State), (Runs z p 0x0407) ∧ (s = z.begun p) ∧ (s.nv.mirror.eraseLeft = 0) ∧ (p.u8 0 ≤ 7) ∧ (p.u8 1 = 0) ∧ (p.u8 2 = 0) ∧ (p.u8 3 = 0) ∧ (s.evr.nonce = some n) ∧ (key = (s.nv.image.expertKeys[p.u8 0]?).filter (fun k => k.any (· ≠ 0))) ∧ (u = { s with evr := { s.evr with nonce := none } })) ∧
    (∃ (z : State) (p : Packet) (s : State), (Runs z p 0x0407) ∧ (s = z.begun p) ∧ (s.nv.mirror.eraseLeft = 0) ∧ (p.u8 0 ≤ 7) ∧ (p.u8 1 = 0) ∧ (p.u8 2 = 0) ∧ (p.u8 3 = 0) ∧ (s.evr.nonce = none)) :=
  ⟨⟨taken (pk 0x0401 0 []) (State.reset), pk 0x0401 0 [], (let z : State := taken (pk 0x0401 0 []) (State.reset); let p : Packet := pk 0x0401 0 []; z.begun p), by decide +kernel⟩,
   ⟨taken (pk 0x0402 0 [0, 0, 0, 0, 63, 0, 0, 0]) (State.reset.put EVR.CFG.READ_IDS 0xFF), pk 0x0402 0 [0, 0, 0, 0, 63, 0, 0, 0], (let z : State := taken (pk 0x0402 0 [0, 0, 0, 0, 63, 0, 0, 0]) (State.reset.put EVR.CFG.READ_IDS 0xFF); let p : Packet := pk 0x0402 0 [0, 0, 0, 0, 63, 0, 0, 0]; z.begun p), 0, by decide +kernel⟩,
   ⟨taken (pk 0x0403 0 [1, 2, 3, 4]) (State.reset), pk 0x0403 0 [1, 2, 3, 4], (let z : State := taken (pk 0x0403 0 [1, 2, 3, 4]) (State.reset); let p : Packet := pk 0x0403 0 [1, 2, 3, 4]; z.begun p), (let p : Packet := pk 0x0403 0 [1, 2, 3, 4]; let s : State := (let z : State := taken (pk 0x0403 0 [1, 2, 3, 4]) (State.reset); let p : Packet := pk 0x0403 0 [1, 2, 3, 4]; z.begun p); { s with evr := { s.evr with buckets := { s.bucket (p.u16 0) with own := some (p.u8 2, p.u8 3) } :: s.evr.buckets.filter (fun x => x.code ≠ (s.bucket (p.u16 0)).code) } }), by decide +kernel⟩,
   ⟨taken (pk 0x0404 0 [31, 0, 0, 0, 0, 0, 0, 0]) (State.reset), pk 0x0404 0 [31, 0, 0, 0, 0, 0, 0, 0], (let z : State := taken (pk 0x0404 0 [31, 0, 0, 0, 0, 0, 0, 0]) (State.reset); let p : Packet := pk 0x0404 0 [31, 0, 0, 0, 0, 0, 0, 0]; z.begun p), { num := 31, code := 0, mask := 0, offs := [] }, (let p : Packet := pk 0x0404 0 [31, 0, 0, 0, 0, 0, 0, 0]; let s : State := (let z : State := taken (pk 0x0404 0 [31, 0, 0, 0, 0, 0, 0, 0]) (State.reset); let p : Packet := pk 0x0404 0 [31, 0, 0, 0, 0, 0, 0, 0]; z.begun p); let t : Trig := { num := 31, code := 0, mask := 0, offs := [] }; { s with evr := { s.evr with trigs := s.evr.trigs.filter (fun x => x.num < p.u8 0) ++ (if p.u8 1 = 0 then [] else [t]) ++ s.evr.trigs.filter (fun x => p.u8 0 < x.num) } }), by decide +kernel⟩,
   ⟨taken (pk 0x0405 0 [1, 2, 3, 4, 5, 6, 7, 8]) (State.reset), pk 0x0405 0 [1, 2, 3, 4, 5, 6, 7, 8], (let z : State := taken (pk 0x0405 0 [1, 2, 3, 4, 5, 6, 7, 8]) (State.reset); let p : Packet := pk 0x0405 0 [1, 2, 3, 4, 5, 6, 7, 8]; z.begun p), by decide +kernel⟩,
   ⟨taken (pk 0x0406 0 []) (State.reset), pk 0x0406 0 [], (let z : State := taken (pk 0x0406 0 []) (State.reset); let p : Packet := pk 0x0406 0 []; z.begun p), by decide +kernel⟩,
   ⟨taken (pk 0x0407 0 (List.replicate 68 0)) ({ State.reset with nv := { State.reset.nv with mirror := { State.reset.nv.mirror with eraseLeft := 4 } } }), pk 0x0407 0 (List.replicate 68 0), (let z : State := taken (pk 0x0407 0 (List.replicate 68 0)) ({ State.reset with nv := { State.reset.nv with mirror := { State.reset.nv.mirror with eraseLeft := 4 } } }); let p : Packet := pk 0x0407 0 (List.replicate 68 0); z.begun p), by decide +kernel⟩,
   ⟨taken (pk 0x0407 0 ([0, 0, 9] ++ List.replicate 65 0)) (State.reset), pk 0x0407 0 ([0, 0, 9] ++ List.replicate 65 0), (let z : State := taken (pk 0x0407 0 ([0, 0, 9] ++ List.replicate 65 0)) (State.reset); let p : Packet := pk 0x0407 0 ([0, 0, 9] ++ List.replicate 65 0); z.begun p), by decide +kernel⟩,
   ⟨taken (pk 0x0407 0 (List.replicate 68 0)) ({ State.reset with evr := { nonce := some [9] }, nv := { State.reset.nv with image := { State.reset.nv.image with expertKeys := [[1]] } } }), pk 0x0407 0 (List.replicate 68 0), (let z : State := taken (pk 0x0407 0 (List.replicate 68 0)) ({ State.reset with evr := { nonce := some [9] }, nv := { State.reset.nv with image := { State.reset.nv.image with expertKeys := [[1]] } } }); let p : Packet := pk 0x0407 0 (List.replicate 68 0); z.begun p), [9], (let p : Packet := pk 0x0407 0 (List.replicate 68 0); let s : State := (let z : State := taken (pk 0x0407 0 (List.replicate 68 0)) ({ State.reset with evr := { nonce := some [9] }, nv := { State.reset.nv with image := { State.reset.nv.image with expertKeys := [[1]] } } }); let p : Packet := pk 0x0407 0 (List.replicate 68 0); z.begun p); (s.nv.image.expertKeys[p.u8 0]?).filter (fun k => k.any (· ≠ 0))), (let s : State := (let z : State := taken (pk 0x0407 0 (List.replicate 68 0)) ({ State.reset with evr := { nonce := some [9] }, nv := { State.reset.nv with image := { State.reset.nv.image with expertKeys := [[1]] } } }); let p : Packet := pk 0x0407 0 (List.replicate 68 0); z.begun p); { s with evr := { s.evr with nonce := none } }), by decide +kernel⟩,
   ⟨taken (pk 0x0407 0 (List.replicate 68 0)) (State.reset), pk 0x0407 0 (List.replicate 68 0), (let z : State := taken (pk 0x0407 0 (List.replicate 68 0)) (State.reset); let p : Packet := pk 0x0407 0 (List.replicate 68 0); z.begun p), by decide +kernel⟩⟩

/-- The premises of each clause of EndpointAndUpstreamReads can hold together. -/
theorem test_witness_EndpointAndUpstreamReads :
    (∃ (s : State) (addr be : Nat) (data : Word) (old new v : Nat), (addr % 4 = 0) ∧ (addr < 4096) ∧ (be < 16) ∧ (s.pci.ready = true) ∧ (s.pci.linkUp = true) ∧ (old = s.cfgRead addr) ∧ (new = (old - (old &&& ((cfgMask addr).1 &&& beMask be))) ||| (data.toNat &&& beMask be &&& (cfgMask addr).1)) ∧ (v = new - (new &&& (data.toNat &&& beMask be &&& (cfgMask addr).2)))) ∧
    (∃ (s : State) (addr be : Nat) (data : Word), (addr % 4 = 0) ∧ (addr < 4096) ∧ (be < 16) ∧ (s.pci.ready = false ∨ s.pci.linkUp = false)) ∧
    (∃ (s : State) (addr : Nat) (data : Word) (e x : MsixEntry), (addr % 4 = 0) ∧ (addr < 0x10000) ∧ (e = s.msixEntry (addr / 16)) ∧ (x = if addr % 16 = 0 then { e with lo := data.toNat - data.toNat % 4 } else if addr % 16 = 4 then { e with hi := data.toNat } else if addr % 16 = 8 then { e with data := data.toNat } else { e with mask := bitAt data.toNat 0 })) ∧
    (∃ (s : State) (tag : Nat) (st : CplStatus) (data : CplData), (s.pci.reads.find? (fun r => r.tag = tag ∧ r.issued ∧ ¬ r.arrived) = none)) ∧
    (∃ (s : State) (tag : Nat) (st : CplStatus) (data : CplData) (r : URead), (s.pci.reads.find? (fun r => r.tag = tag ∧ r.issued ∧ ¬ r.arrived) = some r)) ∧
    (∃ (s : State) (tag t : Nat) (r : URead), (s.pci.reads.find? (fun r => r.tag = tag ∧ r.issued ∧ ¬ r.arrived) = some r) ∧ (s.cto = some t)) ∧
    (∃ (s : State) (speed width : Nat) (flit : Bool), (1 ≤ speed ∧ speed ≤ 6) ∧ (1 ≤ width ∧ width ≤ 5) ∧ (speed = 6 → flit = true)) ∧
    (∃ (z : State) (p : Packet) (s : State), (Runs z p 0x1701) ∧ (s = z.begun p)) :=
  ⟨⟨{ State.reset with pci := { State.reset.pci with ready := true, linkUp := true } }, 0x10C, 15, 0xFFFFFFFF, State.cfgRead { State.reset with pci := { State.reset.pci with ready := true, linkUp := true } } 0x10C, 0xFFFFFFFF, 0xFFFFFFFF, by decide +kernel⟩,
   ⟨State.reset, 0x10C, 15, 0xFFFFFFFF, by decide +kernel⟩,
   ⟨{ State.reset.cfgPut 4 6 with pci := { (State.reset.cfgPut 4 6).pci with ready := true, linkUp := true }, start := { reached := 2 } }, 0x7FFC, 1, { vec := 0x7FF }, { vec := 0x7FF, mask := true }, by decide +kernel⟩,
   ⟨State.reset, 3, .ok, ⟨true, []⟩, by decide +kernel⟩,
   ⟨{ State.reset with pci := { State.reset.pci with reads := [{ tag := 3, kind := 1, id := 0, ref := 0, issued := true }] } }, 3, .ok, ⟨true, []⟩, { tag := 3, kind := 1, id := 0, ref := 0, issued := true }, by decide +kernel⟩,
   ⟨{ State.reset with pci := { State.reset.pci with reads := [{ tag := 3, kind := 6, id := 0, ref := 0, issued := true }] } }, 3, 16 * Config.ms, { tag := 3, kind := 6, id := 0, ref := 0, issued := true }, by decide +kernel⟩,
   ⟨{ State.reset with start := { reached := 2 }, pci := { State.reset.pci with perstN := true } }, 6, 5, true, by decide +kernel⟩,
   ⟨taken (pk 0x1701 0 []) (State.reset), pk 0x1701 0 [], (let z : State := taken (pk 0x1701 0 []) (State.reset); let p : Packet := pk 0x1701 0 []; z.begun p), by decide +kernel⟩⟩

/-- The premises of each clause of RegisterAccesses can hold together. -/
theorem test_witness_RegisterAccesses :
    (∃ (s : State) (ident addr size : Nat), (1 ≤ size) ∧ (size ≤ 512)) ∧
    (∃ (s : State) (ident addr : Nat), (s.reaches ident addr = false)) ∧
    (∃ (s : State) (ident addr size data : Nat), (1 ≤ size) ∧ (size ≤ 512)) ∧
    (∃ (s : State) (ident addr size a : Nat), (mbxAddr addr = false) ∧ ((((List.range ((addr + size + 3) / 4 - addr / 4)).map (fun i => 4 * (addr / 4 + i))).find? (fun x => s.reaches ident x && !s.fusedOff x && (regAt (mapAddr x)).isSome)) = some a) ∧ (mbxAddr a = false)) ∧
    (∃ (s : State) (ident addr data : Nat) (w : Nat × State), (data < 2 ^ 32) ∧ (mbxAddr addr = false) ∧ (¬ [0x30, 0x48, 0x10004, 0x140000].contains addr) ∧ (idxIn addr 0xE0400 4 192 = none) ∧ (s.reaches ident addr = true) ∧ (s.fusedOff addr = false) ∧ (w = s.writeFields addr data (fun f => if mayWrite ident addr f = false then 2 else if f.acc = .rwl ∧ s.locked addr = true then 1 else 0))) ∧
    (∃ (s : State) (ident h data : Nat), (h < 192) ∧ ([0, 2, 7].contains ident = true) ∧ (s.reaches ident (0xE0400 + 4 * h) = true) ∧ (s.fusedOff (0xE0400 + 4 * h) = false) ∧ (bitsAt data 0 13 ≠ s.phaseShown h)) ∧
    (∃ (s : State) (env : Seal) (off size : Nat), (Accepts s env) ∧ (1 ≤ size) ∧ (size ≤ 512) ∧ (off + size ≤ 0x100000)) ∧
    (∃ (s : State) (env : Seal) (off : Nat) (bytes : List Byte), (Accepts s env) ∧ (1 ≤ bytes.length) ∧ (bytes.length ≤ 512) ∧ (off + bytes.length ≤ 0x100000) ∧ (s.heardMessage.tunnelled off = true)) ∧
    (∃ (s : State) (a b c : State), (a = ((s.put SYS.HEALTH_SUM0.SRAM s.sramPct).put SYS.HEALTH_SUM0.SERDES s.serdesPct).put SYS.HEALTH_SUM0.CORE (50 * s.get CMD.CORE_STS.SPARES)) ∧ (b = a.put SYS.HEALTH_SUM0.CLUSTER (if [0, 1, 2, 3].all (fun q => !a.on (SYS.SPARE_STS.SPARE_USED q)) then 100 else 0)) ∧ (c = (b.put SYS.HEALTH_SUM1.HDA_SECT b.hdaPct).put SYS.HEALTH_SUM1.DECL (lowest (b.act.sets.map b.declPct))) ∧ (3 ≤ s.start.reached)) :=
  ⟨⟨State.reset, 7, 0x10001, 512, by decide +kernel⟩,
   ⟨State.reset, 2, 0x40000, by decide +kernel⟩,
   ⟨State.reset, 4, 0x20010, 8, 0x100000001, by decide +kernel⟩,
   ⟨{ State.reset with start := { reached := 3 } }, 4, 0x10009, 2, 0x10008, by decide +kernel⟩,
   ⟨{ State.reset with start := { reached := 3 } }, 4, 0x10008, 0xFFFFFFFF, (let s : State := { State.reset with start := { reached := 3 } }; let ident : Nat := 4; let addr : Nat := 0x10008; let data : Nat := 0xFFFFFFFF; s.writeFields addr data (fun f => if mayWrite ident addr f = false then 2 else if f.acc = .rwl ∧ s.locked addr = true then 1 else 0)), by decide +kernel⟩,
   ⟨{ State.reset with start := { reached := 3 } }, 7, 191, 0x1FFF, by decide +kernel⟩,
   ⟨((State.reset.setB NRN.STS.UP).put NRN.PAIR_STS.PARTNER 4 |>.put (MBX.CHn_BIND.END1 0) 5).put (MBX.CHn_BIND.EN 0) 1, { epoch := 0, mseq := 0 }, 0x104, 4, by decide +kernel⟩,
   ⟨((State.reset.setB NRN.STS.UP).put NRN.PAIR_STS.PARTNER 4 |>.put (MBX.CHn_BIND.END1 0) 5).put (MBX.CHn_BIND.EN 0) 1, { epoch := 0, mseq := 0 }, 0x104, [1, 0, 0, 0], by decide +kernel⟩,
   ⟨{ State.reset with start := { reached := 3 } }, (let s : State := { State.reset with start := { reached := 3 } }; ((s.put SYS.HEALTH_SUM0.SRAM s.sramPct).put SYS.HEALTH_SUM0.SERDES s.serdesPct).put SYS.HEALTH_SUM0.CORE (50 * s.get CMD.CORE_STS.SPARES)), (let a : State := (let s : State := { State.reset with start := { reached := 3 } }; ((s.put SYS.HEALTH_SUM0.SRAM s.sramPct).put SYS.HEALTH_SUM0.SERDES s.serdesPct).put SYS.HEALTH_SUM0.CORE (50 * s.get CMD.CORE_STS.SPARES)); a.put SYS.HEALTH_SUM0.CLUSTER (if [0, 1, 2, 3].all (fun q => !a.on (SYS.SPARE_STS.SPARE_USED q)) then 100 else 0)), (let b : State := (let a : State := (let s : State := { State.reset with start := { reached := 3 } }; ((s.put SYS.HEALTH_SUM0.SRAM s.sramPct).put SYS.HEALTH_SUM0.SERDES s.serdesPct).put SYS.HEALTH_SUM0.CORE (50 * s.get CMD.CORE_STS.SPARES)); a.put SYS.HEALTH_SUM0.CLUSTER (if [0, 1, 2, 3].all (fun q => !a.on (SYS.SPARE_STS.SPARE_USED q)) then 100 else 0)); (b.put SYS.HEALTH_SUM1.HDA_SECT b.hdaPct).put SYS.HEALTH_SUM1.DECL (lowest (b.act.sets.map b.declPct))), by decide +kernel⟩⟩

/-- The premises of each clause of QueuePairCommands can hold together. -/
theorem test_witness_QueuePairCommands :
    (∃ (z : State) (p : Packet) (s : State), (Runs z p 0x0701) ∧ (s = z.begun p)) ∧
    (∃ (z : State) (p : Packet) (s : State), (Runs z p 0x0702) ∧ (s = z.begun p)) ∧
    (∃ (z : State) (p : Packet) (s : State), (Runs z p 0x0703) ∧ (s = z.begun p)) ∧
    (∃ (z : State) (p : Packet) (s : State) (q : Qp), (Runs z p 0x0704) ∧ (s = z.begun p) ∧ (q = s.qp (p.u32 0))) ∧
    (∃ (z : State) (p : Packet) (s : State) (u : State), (Runs z p 0x0705) ∧ (s = z.begun p) ∧ (u = if (s.qp (p.u32 0)).pend ≠ 0 then s.signalCq (p.u32 0) else s)) ∧
    (∃ (z : State) (p : Packet) (s : State) (q : Qp), (Runs z p 0x0706) ∧ (s = z.begun p) ∧ (q = s.qp (p.u32 0))) ∧
    (∃ (z : State) (p : Packet) (s : State), (Runs z p 0x8710) ∧ (s = z.begun p)) ∧
    (∃ (s : State) (off size data : Nat) (q : Qp), (off < 2 ^ 24) ∧ (q = s.qp (off / 16))) ∧
    (∃ (s : State) (off size data : Nat) (q : Qp), (off < 2 ^ 24) ∧ (q = s.qp (off / 16))) ∧
    (∃ (s : State) (cluster qpid : Nat), (s.qpBind qpid = none)) ∧
    (∃ (s : State) (cluster qpid n : Nat) (b : QpBind), (s.qpBind qpid = some b) ∧ (n = min (min 32 (if b.weight = 0 then 8 else b.weight)) (min (((s.qp qpid).sqTail + 2 ^ b.sqLog2 - (s.qp qpid).sqHead) % 2 ^ b.sqLog2) (2 ^ b.sqLog2 - (s.qp qpid).sqHead)))) ∧
    (∃ (s : State) (u : State), (u = s.passTo (s.nextTick Config.us))) :=
  ⟨⟨taken (pk 0x0701 0 ([6, 0, 0, 0, 0, 0, 0, 0, 4, 0, 4, 0] ++ List.replicate 40 0)) (hq0), pk 0x0701 0 ([6, 0, 0, 0, 0, 0, 0, 0, 4, 0, 4, 0] ++ List.replicate 40 0), (let z : State := taken (pk 0x0701 0 ([6, 0, 0, 0, 0, 0, 0, 0, 4, 0, 4, 0] ++ List.replicate 40 0)) (hq0); let p : Packet := pk 0x0701 0 ([6, 0, 0, 0, 0, 0, 0, 0, 4, 0, 4, 0] ++ List.replicate 40 0); z.begun p), by decide +kernel⟩,
   ⟨taken (pk 0x0702 0 [5, 0, 0, 0]) (hq0), pk 0x0702 0 [5, 0, 0, 0], (let z : State := taken (pk 0x0702 0 [5, 0, 0, 0]) (hq0); let p : Packet := pk 0x0702 0 [5, 0, 0, 0]; z.begun p), by decide +kernel⟩,
   ⟨taken (pk 0x0703 0 [5, 0, 0, 0]) (hq0), pk 0x0703 0 [5, 0, 0, 0], (let z : State := taken (pk 0x0703 0 [5, 0, 0, 0]) (hq0); let p : Packet := pk 0x0703 0 [5, 0, 0, 0]; z.begun p), by decide +kernel⟩,
   ⟨taken (pk 0x0704 0 [5, 0, 0, 0]) (hq0), pk 0x0704 0 [5, 0, 0, 0], (let z : State := taken (pk 0x0704 0 [5, 0, 0, 0]) (hq0); let p : Packet := pk 0x0704 0 [5, 0, 0, 0]; z.begun p), (let p : Packet := pk 0x0704 0 [5, 0, 0, 0]; let s : State := (let z : State := taken (pk 0x0704 0 [5, 0, 0, 0]) (hq0); let p : Packet := pk 0x0704 0 [5, 0, 0, 0]; z.begun p); s.qp (p.u32 0)), by decide +kernel⟩,
   ⟨taken (pk 0x0705 0 [5, 0, 0, 0, 1, 0, 3, 0, 9, 0, 1, 0]) (hq0), pk 0x0705 0 [5, 0, 0, 0, 1, 0, 3, 0, 9, 0, 1, 0], (let z : State := taken (pk 0x0705 0 [5, 0, 0, 0, 1, 0, 3, 0, 9, 0, 1, 0]) (hq0); let p : Packet := pk 0x0705 0 [5, 0, 0, 0, 1, 0, 3, 0, 9, 0, 1, 0]; z.begun p), (let p : Packet := pk 0x0705 0 [5, 0, 0, 0, 1, 0, 3, 0, 9, 0, 1, 0]; let s : State := (let z : State := taken (pk 0x0705 0 [5, 0, 0, 0, 1, 0, 3, 0, 9, 0, 1, 0]) (hq0); let p : Packet := pk 0x0705 0 [5, 0, 0, 0, 1, 0, 3, 0, 9, 0, 1, 0]; z.begun p); if (s.qp (p.u32 0)).pend ≠ 0 then s.signalCq (p.u32 0) else s), by decide +kernel⟩,
   ⟨taken (pk 0x0706 0 [5, 0, 0, 0]) (hq0), pk 0x0706 0 [5, 0, 0, 0], (let z : State := taken (pk 0x0706 0 [5, 0, 0, 0]) (hq0); let p : Packet := pk 0x0706 0 [5, 0, 0, 0]; z.begun p), (let p : Packet := pk 0x0706 0 [5, 0, 0, 0]; let s : State := (let z : State := taken (pk 0x0706 0 [5, 0, 0, 0]) (hq0); let p : Packet := pk 0x0706 0 [5, 0, 0, 0]; z.begun p); s.qp (p.u32 0)), by decide +kernel⟩,
   ⟨taken (pk 0x8710 0 [5, 0, 0, 0]) (sess hq0), pk 0x8710 0 [5, 0, 0, 0], (let z : State := taken (pk 0x8710 0 [5, 0, 0, 0]) (sess hq0); let p : Packet := pk 0x8710 0 [5, 0, 0, 0]; z.begun p), by decide +kernel⟩,
   ⟨hq0, 80, 4, 15, (let s : State := hq0; let off : Nat := 80; s.qp (off / 16)), by decide +kernel⟩,
   ⟨hq0, 84, 4, 15, (let s : State := hq0; let off : Nat := 84; s.qp (off / 16)), by decide +kernel⟩,
   ⟨State.reset, 0, 5, by decide +kernel⟩,
   ⟨hqArr 1 (List.replicate 64 0), 0, 5, 0, bind5, by decide +kernel⟩,
   ⟨State.reset, (let s : State := State.reset; s.passTo (s.nextTick Config.us)), by decide +kernel⟩⟩

/-- The premises of each clause of QueueEntryCommands can hold together. -/
theorem test_witness_QueueEntryCommands :
    (∃ (s : State) (qpid cid : Nat), (s.hq.locks.find? (fun l => l.qpid = qpid ∧ l.cid = cid) = none)) ∧
    (∃ (s : State) (qpid cid : Nat) (l : LockReq) (u : State), (s.hq.locks.find? (fun l => l.qpid = qpid ∧ l.cid = cid) = some l) ∧ (u = { s with hq := { s.hq with locks := s.hq.locks.map (fun (x : LockReq) => if x.qpid = qpid ∧ x.cid = cid then { x with granted := true } else x) } })) ∧
    (∃ (s : State) (qpid cid : Nat) (c d : HCmd) (t : State) (v : Vol), (s.hcmd qpid cid = some c) ∧ (c.sub.opcode = 1) ∧ (s.halted = false) ∧ (s.clusterAwake c.cluster = true) ∧ (t = if c.phase = .fetched then s.beginCmd c else s) ∧ (t.hcmd qpid cid = some d) ∧ (d.phase = .ready) ∧ ((t.tablesOf d.epoch).vol d.sub.volume = some v)) ∧
    (∃ (s : State) (qpid cid : Nat) (odd : List FrameSeen) (c : HCmd) (b : QpBind) (v : Vol) (g : Option Nat) (list : List (Nat × Nat × Nat)) (frames again : List SFrame) (lost bad : Option Nat) (u w : State), (s.hcmd qpid cid = some c) ∧ (s.qpBind qpid = some b) ∧ (c.sub.opcode = 1) ∧ (c.phase = .running) ∧ (s.clusterAwake c.cluster = true) ∧ (s.dp.reads.any (fun r => r.qpid = qpid && r.cid = cid) = false) ∧ ((s.tablesOf c.epoch).vol c.sub.volume = some v) ∧ (s.pieces b c.sub = some list) ∧ (piecesFit c.sub list = true) ∧ (g = s.imageGen v c.sub.snap) ∧ (frames = ((List.range c.sub.nblk).filterMap (fun i => match s.lookup c.sub.volume g (c.sub.slba + i) with | .frame f _ => some f | _ => none)).eraseDups) ∧ (u = frames.foldl (fun (s : State) f => s.masked c.cluster f.body.length) s) ∧ (again = frames.filter (fun f => failing c odd f && !c.rebuilt.contains f.serial)) ∧ (lost = (List.range c.sub.nblk).find? (fun i => match s.lookup c.sub.volume g (c.sub.slba + i) with | .lost => true | .frame f _ => c.lost.contains f.serial | _ => false)) ∧ (bad = (List.range c.sub.nblk).find? (fun i => match s.lookup c.sub.volume g (c.sub.slba + i) with | .frame f k => blockFails c odd f k | _ => false)) ∧ (w = (let x := u.setB XF.STS.CHECK_FAIL; if x.on XF.CHECK_ERR.VALID = true then x else ((x.put XF.CHECK_ERR.VALID 1).put XF.CHECK_ERR.LOC (locCluster (c.cluster / 8) (c.cluster % 8))).put XF.CHECK_ERR.VOLUME c.sub.volume))) ∧
    (∃ (s : State) (b : QpBind) (c : HCmd) (g : Option Nat) (list : List (Nat × Nat × Nat)) (st res n : Nat), (b.isHost = true)) ∧
    (∃ (s : State) (qpid cid : Nat) (faulty : List Nat) (c d : HCmd) (t u : State) (b : QpBind) (v : Vol), (s.hcmd qpid cid = some c) ∧ (c.sub.opcode = 2) ∧ (s.halted = false) ∧ (s.clusterAwake c.cluster = true) ∧ (t = if c.phase = .fetched then s.beginCmd c else s) ∧ (t.hcmd qpid cid = some d) ∧ (d.phase = .ready) ∧ (t.qpBind qpid = some b) ∧ ((t.tablesOf d.epoch).vol d.sub.volume = some v) ∧ (u = t.askList b d.sub)) ∧
    (∃ (s : State) (qpid cid : Nat) (c d : HCmd) (t u : State), (s.hcmd qpid cid = some c) ∧ (c.sub.opcode = 3) ∧ (s.halted = false) ∧ (s.clusterAwake c.cluster = true) ∧ (t = if c.phase = .fetched then s.beginCmd c else s) ∧ (t.hcmd qpid cid = some d) ∧ (d.phase = .ready) ∧ (u = d.covers.foldl (fun (s : State) id => match s.wjob id with | some w => s.closeFor w | none => s) (t.setPhase qpid cid .running))) ∧
    (∃ (s : State) (qpid cid : Nat) (c d : HCmd) (t : State) (v : Vol), (s.hcmd qpid cid = some c) ∧ (c.sub.opcode = 4) ∧ (s.halted = false) ∧ (s.clusterAwake c.cluster = true) ∧ (t = if c.phase = .fetched then s.beginCmd c else s) ∧ (t.hcmd qpid cid = some d) ∧ (d.phase = .ready) ∧ ((t.tablesOf d.epoch).vol d.sub.volume = some v)) ∧
    (∃ (s : State) (qpid cid : Nat) (c : HCmd) (tq tc : Nat), (s.hcmd qpid cid = some c) ∧ (tq = bitsAt c.sub.arg 0 20) ∧ (tc = bitsAt c.sub.arg 36 16)) ∧
    (∃ (s : State) (qpid cid : Nat), (s.hcmd qpid cid = none)) ∧
    (∃ (s : State) (qpid cid : Nat), s.hcmd qpid cid = none) ∧
    (∃ (s : State) (c : HCmd), s.hcmd 5 7 = some c ∧ s.halted = false ∧ s.clusterAwake c.cluster = true ∧ c.phase ≠ .fetched ∧ c.phase ≠ .ready ∧ c.sub.opcode = 2) ∧
    (∃ (s : State), s.qpBind 5 = none) ∧
    (∃ (s : State) (c : HCmd) (b : QpBind), s.hcmd 5 7 = some c ∧ s.qpBind 5 = some b ∧ c.sub.opcode = 1 ∧ c.phase = .running ∧ s.clusterAwake c.cluster = true ∧ s.dp.reads.any (fun r => r.qpid = 5 && r.cid = 7) = false) :=
  ⟨⟨hq0, 5, 7, by decide +kernel⟩,
   ⟨hqLock, 5, 7, lk0, (let s : State := hqLock; let qpid : Nat := 5; let cid : Nat := 7; { s with hq := { s.hq with locks := s.hq.locks.map (fun (x : LockReq) => if x.qpid = qpid ∧ x.cid = cid then { x with granted := true } else x) } }), by decide +kernel⟩,
   ⟨hq1 1, 5, 7, cmdOf 1, cmdOf 1, hq1 1, vol1, by decide +kernel⟩,
   ⟨hqRd, 5, 7, [], { cmdOf 1 with phase := .running }, bind5, vol1, none, [(0, 0, 4096)], [], [], none, none, hqRd, (let c : HCmd := { cmdOf 1 with phase := .running }; let u : State := hqRd; (let x := u.setB XF.STS.CHECK_FAIL; if x.on XF.CHECK_ERR.VALID = true then x else ((x.put XF.CHECK_ERR.VALID 1).put XF.CHECK_ERR.LOC (locCluster (c.cluster / 8) (c.cluster % 8))).put XF.CHECK_ERR.VOLUME c.sub.volume)), by decide +kernel⟩,
   ⟨hqRd, bind5, cmdOf 1, none, [], 0, 0, 1, by decide +kernel⟩,
   ⟨hq1 2, 5, 7, [], cmdOf 2, cmdOf 2, hq1 2, hq1 2, bind5, vol1, by decide +kernel⟩,
   ⟨hq1 3, 5, 7, cmdOf 3, cmdOf 3, hq1 3, (hq1 3).setPhase 5 7 .running, by decide +kernel⟩,
   ⟨hq1 4, 5, 7, cmdOf 4, cmdOf 4, hq1 4, vol1, by decide +kernel⟩,
   ⟨hqWith [{ cmdOf 8 with sub := { opcode := 8, cid := 8, arg := 7 * 2 ^ 36 + 5 } }, cmdOf 1], 5, 8, { cmdOf 8 with sub := { opcode := 8, cid := 8, arg := 7 * 2 ^ 36 + 5 } }, 5, 7, by decide +kernel⟩,
   ⟨hq0, 5, 7, by decide +kernel⟩,
   ⟨hq0, 5, 7, by decide +kernel⟩,
   ⟨hqLock, { cmdOf 2 with phase := .locking }, by decide +kernel⟩,
   ⟨State.reset, by decide +kernel⟩,
   ⟨hqRd, { cmdOf 1 with phase := .running }, bind5, by decide +kernel⟩⟩

/-- The premises of each clause of TransformAndKeyCommands can hold together. -/
theorem test_witness_TransformAndKeyCommands :
    (∃ (z : State) (p : Packet) (s : State), (Runs z p 0x0901) ∧ (s = z.begun p)) ∧
    (∃ (z : State) (p : Packet) (s : State), (Runs z p 0x0902) ∧ (s = z.begun p)) ∧
    (∃ (z : State) (p : Packet) (s : State), (Runs z p 0x0903) ∧ (s = z.begun p)) ∧
    (∃ (z : State) (p : Packet) (s : State), (Runs z p 0x0A01) ∧ (s = z.begun p)) ∧
    (∃ (z : State) (p : Packet) (s : State), (Runs z p 0x0A02) ∧ (s = z.begun p)) ∧
    (∃ (z : State) (p : Packet) (s : State) (ok : Bool) (old : Option (List Byte)) (bad : Bool), (Runs z p 0x8A10) ∧ (s = z.begun p) ∧ (old = if p.u8 0 = 0 then s.nv.roots.ark else s.nv.roots.frk) ∧ (bad = if p.u8 0 = 0 then s.nv.roots.arkBad else s.nv.roots.frkBad)) ∧
    (∃ (z : State) (p : Packet) (s : State), (Runs z p 0x0A03) ∧ (s = z.begun p)) ∧
    (∃ (z : State) (p : Packet) (s : State), (Runs z p 0x0A04) ∧ (s = z.begun p)) ∧
    (∃ (s : State) (cluster purpose vol epoch label : Nat) (k : Nat × Nat × Nat × Nat) (u : State), (cluster < 32) ∧ (k = (purpose, vol, epoch, label)) ∧ (u = s.setCipher cluster { s.cipher cluster with wanted := (s.cipher cluster).wanted.erase k })) ∧
    (∃ (s : State) (lack : List SFrame), (lack = s.nv.media.frames.filter (fun f => match f.sumEntry s.summaryGib with | some e => !s.dp.summary.contains e | none => false))) ∧
    (∃ (s : State) (q : Nat) (obs : HealthObs) (u : State), (q < 4) ∧ (u = ((s.setEnt q { s.ent q with fails := s.aon :: s.entFails q, retestAt := s.aon }).latchClaim q).put (XF.ENT_STS.STATE q) 2)) ∧
    (∃ (s : State) (q : Nat), (q < 4)) ∧
    (∃ (s : State) (q : Nat) (pass : Bool) (u : State), (q < 4) ∧ (u = (s.passTo ((s.ent q).retestAt + Config.hour)).latchClaim q)) ∧
    (∃ (s : State) (cluster : Nat) (u : State), (cluster < 32) ∧ (u = s.passTo ((s.cipher cluster).reseedAt s.aon))) :=
  ⟨⟨taken (pk 0x0901 0 ([1, 0, 5, 2, 1] ++ List.replicate 11 0)) (hq0), pk 0x0901 0 ([1, 0, 5, 2, 1] ++ List.replicate 11 0), (let z : State := taken (pk 0x0901 0 ([1, 0, 5, 2, 1] ++ List.replicate 11 0)) (hq0); let p : Packet := pk 0x0901 0 ([1, 0, 5, 2, 1] ++ List.replicate 11 0); z.begun p), by decide +kernel⟩,
   ⟨taken (pk 0x0902 0 [1, 0]) (hq0), pk 0x0902 0 [1, 0], (let z : State := taken (pk 0x0902 0 [1, 0]) (hq0); let p : Packet := pk 0x0902 0 [1, 0]; z.begun p), by decide +kernel⟩,
   ⟨taken (pk 0x0903 0x40 []) (hq0), pk 0x0903 0x40 [], (let z : State := taken (pk 0x0903 0x40 []) (hq0); let p : Packet := pk 0x0903 0x40 []; z.begun p), by decide +kernel⟩,
   ⟨taken (pk 0x0A01 0 [1, 0]) (hq0), pk 0x0A01 0 [1, 0], (let z : State := taken (pk 0x0A01 0 [1, 0]) (hq0); let p : Packet := pk 0x0A01 0 [1, 0]; z.begun p), by decide +kernel⟩,
   ⟨taken (pk 0x0A02 0 [1, 0]) (hq0), pk 0x0A02 0 [1, 0], (let z : State := taken (pk 0x0A02 0 [1, 0]) (hq0); let p : Packet := pk 0x0A02 0 [1, 0]; z.begun p), by decide +kernel⟩,
   ⟨taken (pk 0x8A10 0 (List.replicate 36 0 ++ kcv (some (List.replicate 32 0)))) (sess { hq0 with nv := { hq0.nv with roots := { hq0.nv.roots with ark := none, arkBad := false } } }), pk 0x8A10 0 (List.replicate 36 0 ++ kcv (some (List.replicate 32 0))), (let z : State := taken (pk 0x8A10 0 (List.replicate 36 0 ++ kcv (some (List.replicate 32 0)))) (sess { hq0 with nv := { hq0.nv with roots := { hq0.nv.roots with ark := none, arkBad := false } } }); let p : Packet := pk 0x8A10 0 (List.replicate 36 0 ++ kcv (some (List.replicate 32 0))); z.begun p), true, (let p : Packet := pk 0x8A10 0 (List.replicate 36 0 ++ kcv (some (List.replicate 32 0))); let s : State := (let z : State := taken (pk 0x8A10 0 (List.replicate 36 0 ++ kcv (some (List.replicate 32 0)))) (sess { hq0 with nv := { hq0.nv with roots := { hq0.nv.roots with ark := none, arkBad := false } } }); let p : Packet := pk 0x8A10 0 (List.replicate 36 0 ++ kcv (some (List.replicate 32 0))); z.begun p); if p.u8 0 = 0 then s.nv.roots.ark else s.nv.roots.frk), (let p : Packet := pk 0x8A10 0 (List.replicate 36 0 ++ kcv (some (List.replicate 32 0))); let s : State := (let z : State := taken (pk 0x8A10 0 (List.replicate 36 0 ++ kcv (some (List.replicate 32 0)))) (sess { hq0 with nv := { hq0.nv with roots := { hq0.nv.roots with ark := none, arkBad := false } } }); let p : Packet := pk 0x8A10 0 (List.replicate 36 0 ++ kcv (some (List.replicate 32 0))); z.begun p); if p.u8 0 = 0 then s.nv.roots.arkBad else s.nv.roots.frkBad), by decide +kernel⟩,
   ⟨taken (pk 0x0A03 0 [0, 0, 0, 0x80]) ({ hq0 with nv := { hq0.nv with roots := { hq0.nv.roots with frk := some [1] } } }), pk 0x0A03 0 [0, 0, 0, 0x80], (let z : State := taken (pk 0x0A03 0 [0, 0, 0, 0x80]) ({ hq0 with nv := { hq0.nv with roots := { hq0.nv.roots with frk := some [1] } } }); let p : Packet := pk 0x0A03 0 [0, 0, 0, 0x80]; z.begun p), by decide +kernel⟩,
   ⟨taken (pk 0x0A04 0 []) (hq0), pk 0x0A04 0 [], (let z : State := taken (pk 0x0A04 0 []) (hq0); let p : Packet := pk 0x0A04 0 []; z.begun p), by decide +kernel⟩,
   ⟨hq0, 31, 1, 1, 1, 0, (1, 1, 1, 0), (let s : State := hq0; let cluster : Nat := 31; let k : Nat × Nat × Nat × Nat := (1, 1, 1, 0); s.setCipher cluster { s.cipher cluster with wanted := (s.cipher cluster).wanted.erase k }), by decide +kernel⟩,
   ⟨hq0, [], by decide +kernel⟩,
   ⟨State.reset, 3, .repetition 9, (let s : State := State.reset; let q : Nat := 3; ((s.setEnt q { s.ent q with fails := s.aon :: s.entFails q, retestAt := s.aon }).latchClaim q).put (XF.ENT_STS.STATE q) 2), by decide +kernel⟩,
   ⟨vr0, 3, by decide +kernel⟩,
   ⟨State.reset.put (XF.ENT_STS.STATE 3) 4, 3, true, (let s : State := State.reset.put (XF.ENT_STS.STATE 3) 4; let q : Nat := 3; (s.passTo ((s.ent q).retestAt + Config.hour)).latchClaim q), by decide +kernel⟩,
   ⟨State.reset.put (XF.ENT_STS.STATE 3) 1, 31, (let s : State := State.reset.put (XF.ENT_STS.STATE 3) 1; let cluster : Nat := 31; s.passTo ((s.cipher cluster).reseedAt s.aon)), by decide +kernel⟩⟩

/-- The premises of each clause of ConnectionCommands can hold together. -/
theorem test_witness_ConnectionCommands :
    (∃ (z : State) (p : Packet) (s : State), (Runs z p 0x0801) ∧ (s = z.begun p)) ∧
    (∃ (z : State) (p : Packet) (s : State), (Runs z p 0x0802) ∧ (s = z.begun p)) ∧
    (∃ (z : State) (p : Packet) (s : State), (Runs z p 0x0803) ∧ (s = z.begun p)) ∧
    (∃ (z : State) (p : Packet) (s : State), (Runs z p 0x0804) ∧ (s = z.begun p)) ∧
    (∃ (z : State) (p : Packet) (s : State), (Runs z p 0x0805) ∧ (s = z.begun p)) ∧
    (∃ (z : State) (p : Packet) (s : State), (Runs z p 0x0806) ∧ (s = z.begun p)) ∧
    (∃ (z : State) (p : Packet) (s : State), (Runs z p 0x0820) ∧ (s = z.begun p)) ∧
    (∃ (z : State) (p : Packet) (s : State), (Runs z p 0x8830) ∧ (s = z.begun p)) ∧
    (∃ (z : State) (p : Packet) (s : State), (Runs z p 0x0810) ∧ (s = z.begun p)) ∧
    (∃ (z : State) (p : Packet) (s : State), (Runs z p 0x0811) ∧ (s = z.begun p)) ∧
    (∃ (z : State) (p : Packet) (s : State), (Runs z p 0x0812) ∧ (s = z.begun p)) ∧
    (∃ (z : State) (p : Packet) (s : State), (Runs z p 0x0813) ∧ (s = z.begun p)) :=
  ⟨⟨taken (pk 0x0801 0 ([9, 0, 0, 0, 2, 0, 0, 0, 0, 1, 12, 0, 0, 0, 0, 0, 0, 0, 0, 0, 64, 0] ++ List.replicate 74 0)) (vr0), pk 0x0801 0 ([9, 0, 0, 0, 2, 0, 0, 0, 0, 1, 12, 0, 0, 0, 0, 0, 0, 0, 0, 0, 64, 0] ++ List.replicate 74 0), (let z : State := taken (pk 0x0801 0 ([9, 0, 0, 0, 2, 0, 0, 0, 0, 1, 12, 0, 0, 0, 0, 0, 0, 0, 0, 0, 64, 0] ++ List.replicate 74 0)) (vr0); let p : Packet := pk 0x0801 0 ([9, 0, 0, 0, 2, 0, 0, 0, 0, 1, 12, 0, 0, 0, 0, 0, 0, 0, 0, 0, 64, 0] ++ List.replicate 74 0); z.begun p), by decide +kernel⟩,
   ⟨taken (pk 0x0802 0 [1, 0, 0, 0]) (vr0), pk 0x0802 0 [1, 0, 0, 0], (let z : State := taken (pk 0x0802 0 [1, 0, 0, 0]) (vr0); let p : Packet := pk 0x0802 0 [1, 0, 0, 0]; z.begun p), by decide +kernel⟩,
   ⟨taken (pk 0x0803 0 [1, 0, 0, 0]) (vr0), pk 0x0803 0 [1, 0, 0, 0], (let z : State := taken (pk 0x0803 0 [1, 0, 0, 0]) (vr0); let p : Packet := pk 0x0803 0 [1, 0, 0, 0]; z.begun p), by decide +kernel⟩,
   ⟨taken (pk 0x0804 0 ([1, 0, 0, 0, 1, 0, 0, 0] ++ List.replicate 32 0)) (vr0), pk 0x0804 0 ([1, 0, 0, 0, 1, 0, 0, 0] ++ List.replicate 32 0), (let z : State := taken (pk 0x0804 0 ([1, 0, 0, 0, 1, 0, 0, 0] ++ List.replicate 32 0)) (vr0); let p : Packet := pk 0x0804 0 ([1, 0, 0, 0, 1, 0, 0, 0] ++ List.replicate 32 0); z.begun p), by decide +kernel⟩,
   ⟨taken (pk 0x0805 0 ([7, 7, 1, 0, 1, 2, 3, 4] ++ List.replicate 12 0)) (vr0), pk 0x0805 0 ([7, 7, 1, 0, 1, 2, 3, 4] ++ List.replicate 12 0), (let z : State := taken (pk 0x0805 0 ([7, 7, 1, 0, 1, 2, 3, 4] ++ List.replicate 12 0)) (vr0); let p : Packet := pk 0x0805 0 ([7, 7, 1, 0, 1, 2, 3, 4] ++ List.replicate 12 0); z.begun p), by decide +kernel⟩,
   ⟨taken (pk 0x0806 0 ([7, 0, 0, 0] ++ List.replicate 16 0 ++ [10, 0, 0, 0])) (vr0), pk 0x0806 0 ([7, 0, 0, 0] ++ List.replicate 16 0 ++ [10, 0, 0, 0]), (let z : State := taken (pk 0x0806 0 ([7, 0, 0, 0] ++ List.replicate 16 0 ++ [10, 0, 0, 0])) (vr0); let p : Packet := pk 0x0806 0 ([7, 0, 0, 0] ++ List.replicate 16 0 ++ [10, 0, 0, 0]); z.begun p), by decide +kernel⟩,
   ⟨taken (pk 0x0820 0 [7, 0, 0, 0]) (vr0), pk 0x0820 0 [7, 0, 0, 0], (let z : State := taken (pk 0x0820 0 [7, 0, 0, 0]) (vr0); let p : Packet := pk 0x0820 0 [7, 0, 0, 0]; z.begun p), by decide +kernel⟩,
   ⟨taken (pk 0x8830 0 [1, 0, 0, 0]) (sess vr0), pk 0x8830 0 [1, 0, 0, 0], (let z : State := taken (pk 0x8830 0 [1, 0, 0, 0]) (sess vr0); let p : Packet := pk 0x8830 0 [1, 0, 0, 0]; z.begun p), by decide +kernel⟩,
   ⟨taken (pk 0x0810 0 [3, 0, 0, 0, 128, 0, 0, 0]) (vr0), pk 0x0810 0 [3, 0, 0, 0, 128, 0, 0, 0], (let z : State := taken (pk 0x0810 0 [3, 0, 0, 0, 128, 0, 0, 0]) (vr0); let p : Packet := pk 0x0810 0 [3, 0, 0, 0, 128, 0, 0, 0]; z.begun p), by decide +kernel⟩,
   ⟨taken (pk 0x0811 0 ([3, 0, 0, 0, 1, 0, 0, 0, 1, 0, 0, 0, 3] ++ List.replicate 35 0)) ({ vr0 with vrm := { vr0.vrm with tags := [{ tag := 3, cluster := 0 }] } }), pk 0x0811 0 ([3, 0, 0, 0, 1, 0, 0, 0, 1, 0, 0, 0, 3] ++ List.replicate 35 0), (let z : State := taken (pk 0x0811 0 ([3, 0, 0, 0, 1, 0, 0, 0, 1, 0, 0, 0, 3] ++ List.replicate 35 0)) ({ vr0 with vrm := { vr0.vrm with tags := [{ tag := 3, cluster := 0 }] } }); let p : Packet := pk 0x0811 0 ([3, 0, 0, 0, 1, 0, 0, 0, 1, 0, 0, 0, 3] ++ List.replicate 35 0); z.begun p), by decide +kernel⟩,
   ⟨taken (pk 0x0812 0 [3, 0, 0, 0]) ({ vr0 with vrm := { vr0.vrm with tags := [{ tag := 3, cluster := 0 }] } }), pk 0x0812 0 [3, 0, 0, 0], (let z : State := taken (pk 0x0812 0 [3, 0, 0, 0]) ({ vr0 with vrm := { vr0.vrm with tags := [{ tag := 3, cluster := 0 }] } }); let p : Packet := pk 0x0812 0 [3, 0, 0, 0]; z.begun p), by decide +kernel⟩,
   ⟨taken (pk 0x0813 0 [3, 0, 0, 0]) ({ vr0 with vrm := { vr0.vrm with tags := [{ tag := 3, cluster := 0 }] } }), pk 0x0813 0 [3, 0, 0, 0], (let z : State := taken (pk 0x0813 0 [3, 0, 0, 0]) ({ vr0 with vrm := { vr0.vrm with tags := [{ tag := 3, cluster := 0 }] } }); let p : Packet := pk 0x0813 0 [3, 0, 0, 0]; z.begun p), by decide +kernel⟩⟩

/-- The premises of each clause of PortAndContextEvents can hold together. -/
theorem test_witness_PortAndContextEvents :
    (∃ (s : State) (port sub : Nat) (f : Frame), (port < 8) ∧ (sub < 4)) ∧
    (∃ (s : State) (port : Nat), (port < 8)) ∧
    (∃ (s : State) (port sub : Nat) (pause : Bool), (port < 8) ∧ (sub < 4)) ∧
    (∃ (s : State) (port sub : Nat), (port < 8) ∧ (sub < 4)) ∧
    (∃ (s : State) (port sub : Nat), (port < 8) ∧ (sub < 4)) ∧
    (∃ (s : State) (port count : Nat), (port < 8) ∧ (count ≤ 1024)) :=
  ⟨⟨(vr0.putBit (VRM.PORTp_STS.UP 7) 3 true), 7, 3, { len := 64, bytes := List.replicate 64 0 }, by decide +kernel⟩,
   ⟨vr0.setPort 7 { pfcSent := true }, 7, by decide +kernel⟩,
   ⟨((vr0.setB (VRM.PORTp_CFG.PFC_EN 7)).putBit (VRM.PORTp_STS.UP 7) 3 true), 7, 3, false, by decide +kernel⟩,
   ⟨vr0.setB (VRM.PORTp_CFG.EN 7), 7, 0, by decide +kernel⟩,
   ⟨vr0, 7, 3, by decide +kernel⟩,
   ⟨(vr0.putBit (VRM.PORTp_STS.UP 7) 0 true).setPort 7 { exc := some (0, 0, 4) }, 7, 1024, by decide +kernel⟩⟩

/-- The premises of each clause of PacketReception can hold together. -/
theorem test_witness_PacketReception :
    (∃ (s : State) (i : Instr) (port idx : Nat), (port < 8) ∧ (i ∈ [Instr.writePacket port idx, .readReq port idx, .readResp port idx, .doorbell port idx, .trigger port idx, .ack port idx, .nak port idx, .probe port idx]) ∧ (∀ g, (s.port port).ingress[idx]? = some g → ¬ ReceivesBy i port idx g.pkt)) ∧
    (∃ (s : State) (i : Instr) (port idx : Nat) (g : Ingress), (port < 8) ∧ ((s.port port).ingress[idx]? = some g) ∧ (ReceivesBy i port idx g.pkt) ∧ (s.conn g.pkt.dconn = none ∨ s.connBind g.pkt.dconn = none)) ∧
    (∃ (s : State) (i : Instr) (port idx : Nat) (g : Ingress) (c : Conn) (b : ConnBind) (p : VrmPkt) (l : Nat), (Arrives s port idx g.pkt.op g c b p l) ∧ (ReceivesBy i port idx g.pkt) ∧ (g.pkt.op ≤ 4) ∧ (¬ InWindow c b p)) ∧
    (∃ (s : State) (port idx : Nat) (g : Ingress) (c : Conn) (b : ConnBind) (p : VrmPkt) (l : Nat) (u : State), (Arrives s port idx 1 g c b p l) ∧ (InWindow c b p) ∧ (u = s.heardPacket port idx g p c l)) ∧
    (∃ (s : State) (port idx : Nat) (g : Ingress) (c : Conn) (b : ConnBind) (p : VrmPkt) (l : Nat) (u : State) (cuts : List (Nat × List Byte)), (Arrives s port idx 2 g c b p l) ∧ (InWindow c b p) ∧ (u = s.heardPacket port idx g p c l) ∧ (cuts = cutBytes b.pmtu (u.vrm.land.reads p.addr p.len))) ∧
    (∃ (s : State) (port idx : Nat) (g : Ingress) (c : Conn) (b : ConnBind) (p : VrmPkt) (l : Nat) (u : State) (k : Conn), (Arrives s port idx 3 g c b p l) ∧ (InWindow c b p) ∧ (u = s.heardPacket port idx g p c l) ∧ (k = s.heardConn g p c l)) ∧
    (∃ (s : State) (port idx : Nat) (g : Ingress) (c : Conn) (b : ConnBind) (p : VrmPkt) (l : Nat) (u : State), (Arrives s port idx 4 g c b p l) ∧ (InWindow c b p) ∧ (u = s.heardPacket port idx g p c l) ∧ (g.pkt.kind ≠ 3)) ∧
    (∃ (s : State) (port idx : Nat) (g : Ingress) (c : Conn) (b : ConnBind) (p : VrmPkt) (l : Nat) (u : State), (Arrives s port idx 4 g c b p l) ∧ (InWindow c b p) ∧ (u = s.heardPacket port idx g p c l) ∧ (g.pkt.kind = 3)) ∧
    (∃ (s : State) (port idx : Nat) (g : Ingress) (c : Conn) (b : ConnBind) (p : VrmPkt) (l : Nat) (u : State), (Arrives s port idx 7 g c b p l) ∧ (u = s.heardPacket port idx g p c l)) ∧
    (∃ (s : State) (port idx : Nat) (g : Ingress) (c : Conn) (b : ConnBind) (p : VrmPkt) (l : Nat) (u : State) (k : Conn), (Arrives s port idx 5 g c b p l) ∧ (u = s.heardPacket port idx g p c l) ∧ (k = s.heardConn g p c l)) ∧
    (∃ (s : State) (port idx : Nat) (g : Ingress) (c : Conn) (b : ConnBind) (p : VrmPkt) (l : Nat) (u : State) (k : Conn), (Arrives s port idx 6 g c b p l) ∧ (u = s.heardPacket port idx g p c l) ∧ (k = s.heardConn g p c l)) ∧
    (∃ (s : State) (g : Ingress) (c : Conn) (b : ConnBind), (s.port 0).ingress[0]? = some g ∧ ReceivesBy (.probe 0 0) 0 0 g.pkt ∧ s.conn g.pkt.dconn = some c ∧ s.connBind g.pkt.dconn = some b ∧ c.state = 3) :=
  ⟨⟨vr0, .trigger 7 3, 7, 3, by decide +kernel⟩,
   ⟨vrGot State.reset { op := 7, dconn := 1 }, .probe 0 0, 0, 0, ing { op := 7, dconn := 1 }, by decide +kernel⟩,
   ⟨vrGot vr0 { op := 1, dconn := 1, psn := 9 }, .writePacket 0 0, 0, 0, ing { op := 1, dconn := 1, psn := 9 }, conn1, cb1, { op := 1, dconn := 1, psn := 9 }, 0, by decide +kernel⟩,
   ⟨vrGot ({ vr0 with vrm := { vr0.vrm with keys := [{ key := 5, handle := 1, base := 0, len := 64, link := 0 }] } }) { op := 1, dconn := 1, psn := 10, key := 5, addr := 60, len := 4, payload := [1, 2, 3, 4] }, 0, 0, ing { op := 1, dconn := 1, psn := 10, key := 5, addr := 60, len := 4, payload := [1, 2, 3, 4] }, conn1, cb1, { op := 1, dconn := 1, psn := 10, key := 5, addr := 60, len := 4, payload := [1, 2, 3, 4] }, 0, (let s : State := vrGot ({ vr0 with vrm := { vr0.vrm with keys := [{ key := 5, handle := 1, base := 0, len := 64, link := 0 }] } }) { op := 1, dconn := 1, psn := 10, key := 5, addr := 60, len := 4, payload := [1, 2, 3, 4] }; let port : Nat := 0; let idx : Nat := 0; let g : Ingress := ing { op := 1, dconn := 1, psn := 10, key := 5, addr := 60, len := 4, payload := [1, 2, 3, 4] }; let c : Conn := conn1; let p : VrmPkt := { op := 1, dconn := 1, psn := 10, key := 5, addr := 60, len := 4, payload := [1, 2, 3, 4] }; let l : Nat := 0; s.heardPacket port idx g p c l), by decide +kernel⟩,
   ⟨vrGot ({ vr0 with vrm := { vr0.vrm with keys := [{ key := 5, handle := 1, base := 0, len := 64, link := 0 }] } }) { op := 2, dconn := 1, psn := 10, key := 5, addr := 60, len := 4 }, 0, 0, ing { op := 2, dconn := 1, psn := 10, key := 5, addr := 60, len := 4 }, conn1, cb1, { op := 2, dconn := 1, psn := 10, key := 5, addr := 60, len := 4 }, 0, (let s : State := vrGot ({ vr0 with vrm := { vr0.vrm with keys := [{ key := 5, handle := 1, base := 0, len := 64, link := 0 }] } }) { op := 2, dconn := 1, psn := 10, key := 5, addr := 60, len := 4 }; let port : Nat := 0; let idx : Nat := 0; let g : Ingress := ing { op := 2, dconn := 1, psn := 10, key := 5, addr := 60, len := 4 }; let c : Conn := conn1; let p : VrmPkt := { op := 2, dconn := 1, psn := 10, key := 5, addr := 60, len := 4 }; let l : Nat := 0; s.heardPacket port idx g p c l), (let b : ConnBind := cb1; let p : VrmPkt := { op := 2, dconn := 1, psn := 10, key := 5, addr := 60, len := 4 }; let u : State := (let s : State := vrGot ({ vr0 with vrm := { vr0.vrm with keys := [{ key := 5, handle := 1, base := 0, len := 64, link := 0 }] } }) { op := 2, dconn := 1, psn := 10, key := 5, addr := 60, len := 4 }; let port : Nat := 0; let idx : Nat := 0; let g : Ingress := ing { op := 2, dconn := 1, psn := 10, key := 5, addr := 60, len := 4 }; let c : Conn := conn1; let p : VrmPkt := { op := 2, dconn := 1, psn := 10, key := 5, addr := 60, len := 4 }; let l : Nat := 0; s.heardPacket port idx g p c l); cutBytes b.pmtu (u.vrm.land.reads p.addr p.len)), by decide +kernel⟩,
   ⟨vrGot (vr0) { op := 3, dconn := 1, psn := 10, xfer := 2, len := 4 }, 0, 0, ing { op := 3, dconn := 1, psn := 10, xfer := 2, len := 4 }, conn1, cb1, { op := 3, dconn := 1, psn := 10, xfer := 2, len := 4 }, 0, (let s : State := vrGot (vr0) { op := 3, dconn := 1, psn := 10, xfer := 2, len := 4 }; let port : Nat := 0; let idx : Nat := 0; let g : Ingress := ing { op := 3, dconn := 1, psn := 10, xfer := 2, len := 4 }; let c : Conn := conn1; let p : VrmPkt := { op := 3, dconn := 1, psn := 10, xfer := 2, len := 4 }; let l : Nat := 0; s.heardPacket port idx g p c l), (let s : State := vrGot (vr0) { op := 3, dconn := 1, psn := 10, xfer := 2, len := 4 }; let g : Ingress := ing { op := 3, dconn := 1, psn := 10, xfer := 2, len := 4 }; let c : Conn := conn1; let p : VrmPkt := { op := 3, dconn := 1, psn := 10, xfer := 2, len := 4 }; let l : Nat := 0; s.heardConn g p c l), by decide +kernel⟩,
   ⟨vrGot (vr0) { op := 4, kind := 1, dconn := 1, psn := 10, tag := 5, arg := 3 }, 0, 0, ing { op := 4, kind := 1, dconn := 1, psn := 10, tag := 5, arg := 3 }, conn1, cb1, { op := 4, kind := 1, dconn := 1, psn := 10, tag := 5, arg := 3 }, 0, (let s : State := vrGot (vr0) { op := 4, kind := 1, dconn := 1, psn := 10, tag := 5, arg := 3 }; let port : Nat := 0; let idx : Nat := 0; let g : Ingress := ing { op := 4, kind := 1, dconn := 1, psn := 10, tag := 5, arg := 3 }; let c : Conn := conn1; let p : VrmPkt := { op := 4, kind := 1, dconn := 1, psn := 10, tag := 5, arg := 3 }; let l : Nat := 0; s.heardPacket port idx g p c l), by decide +kernel⟩,
   ⟨vrGot (vr0) { op := 4, kind := 3, dconn := 1, psn := 10, tag := 3 }, 0, 0, ing { op := 4, kind := 3, dconn := 1, psn := 10, tag := 3 }, conn1, cb1, { op := 4, kind := 3, dconn := 1, psn := 10, tag := 3 }, 0, (let s : State := vrGot (vr0) { op := 4, kind := 3, dconn := 1, psn := 10, tag := 3 }; let port : Nat := 0; let idx : Nat := 0; let g : Ingress := ing { op := 4, kind := 3, dconn := 1, psn := 10, tag := 3 }; let c : Conn := conn1; let p : VrmPkt := { op := 4, kind := 3, dconn := 1, psn := 10, tag := 3 }; let l : Nat := 0; s.heardPacket port idx g p c l), by decide +kernel⟩,
   ⟨vrGot (vr0) { op := 7, dconn := 1 }, 0, 0, ing { op := 7, dconn := 1 }, conn1, cb1, { op := 7, dconn := 1 }, 0, (let s : State := vrGot (vr0) { op := 7, dconn := 1 }; let port : Nat := 0; let idx : Nat := 0; let g : Ingress := ing { op := 7, dconn := 1 }; let c : Conn := conn1; let p : VrmPkt := { op := 7, dconn := 1 }; let l : Nat := 0; s.heardPacket port idx g p c l), by decide +kernel⟩,
   ⟨vrGot (vr0) { op := 5, dconn := 1, psn := 0 }, 0, 0, ing { op := 5, dconn := 1, psn := 0 }, conn1, cb1, { op := 5, dconn := 1, psn := 0 }, 0, (let s : State := vrGot (vr0) { op := 5, dconn := 1, psn := 0 }; let port : Nat := 0; let idx : Nat := 0; let g : Ingress := ing { op := 5, dconn := 1, psn := 0 }; let c : Conn := conn1; let p : VrmPkt := { op := 5, dconn := 1, psn := 0 }; let l : Nat := 0; s.heardPacket port idx g p c l), (let s : State := vrGot (vr0) { op := 5, dconn := 1, psn := 0 }; let g : Ingress := ing { op := 5, dconn := 1, psn := 0 }; let c : Conn := conn1; let p : VrmPkt := { op := 5, dconn := 1, psn := 0 }; let l : Nat := 0; s.heardConn g p c l), by decide +kernel⟩,
   ⟨vrGot (vr0) { op := 6, kind := 5, dconn := 1, psn := 0 }, 0, 0, ing { op := 6, kind := 5, dconn := 1, psn := 0 }, conn1, cb1, { op := 6, kind := 5, dconn := 1, psn := 0 }, 0, (let s : State := vrGot (vr0) { op := 6, kind := 5, dconn := 1, psn := 0 }; let port : Nat := 0; let idx : Nat := 0; let g : Ingress := ing { op := 6, kind := 5, dconn := 1, psn := 0 }; let c : Conn := conn1; let p : VrmPkt := { op := 6, kind := 5, dconn := 1, psn := 0 }; let l : Nat := 0; s.heardPacket port idx g p c l), (let s : State := vrGot (vr0) { op := 6, kind := 5, dconn := 1, psn := 0 }; let g : Ingress := ing { op := 6, kind := 5, dconn := 1, psn := 0 }; let c : Conn := conn1; let p : VrmPkt := { op := 6, kind := 5, dconn := 1, psn := 0 }; let l : Nat := 0; s.heardConn g p c l), by decide +kernel⟩,
   ⟨vrGot (vrWith { conn1 with state := 3 }) { op := 7, dconn := 1 }, ing { op := 7, dconn := 1 }, { conn1 with state := 3 }, cb1, by decide +kernel⟩⟩

/-- The premises of each clause of FlashLinksAndLanes can hold together. -/
theorem test_witness_FlashLinksAndLanes :
    (∃ (s : State) (link : LinkRef) (word0 word1 : Nat) (payload : List Byte) (fcrc : Nat), (link.ok = true) ∧ (word0 < 2 ^ 16) ∧ (word1 < 2 ^ 16) ∧ (payload.length = 120) ∧ (fcrc < 2 ^ 32)) ∧
    (∃ (s : State) (link : LinkRef), (link.ok = true)) ∧
    (∃ (s : State) (link : LinkRef) (slot uncorr corr symbols : Nat), (link.ok = true)) ∧
    (∃ (s : State) (link : LinkRef) (slot : Nat), (link.ok = true)) ∧
    (∃ (s : State) (link : LinkRef) (ok : Bool), (link.ok = true)) ∧
    (∃ (s : State) (link : LinkRef), (link.ok = true)) ∧
    (∃ (s : State) (link : LinkRef) (failed : List Nat), (link.ok = true)) ∧
    (∃ (s : State) (link : Nat) (trained : Bool) (ident : Ident), (link < 48)) ∧
    (∃ (s : State) (link tag status : Nat) (data : List Byte), (link < 48) ∧ (status ≤ 8)) ∧
    (∃ (z : State) (p : Packet) (s : State), (Runs z p 0x0C01) ∧ (s = z.begun p)) ∧
    (∃ (z : State) (p : Packet) (s : State), (Runs z p 0x0C02) ∧ (s = z.begun p)) ∧
    (∃ (z : State) (p : Packet) (s : State), (Runs z p 0x8C10) ∧ (s = z.begun p)) ∧
    (∃ (z : State) (p : Packet) (s : State), (Runs z p 0x8C11) ∧ (s = z.begun p)) :=
  ⟨⟨fl0, .flash 0, 0, 0, List.replicate 120 0, 0, by decide +kernel⟩,
   ⟨fl0, .flash 0, by decide +kernel⟩,
   ⟨fl0, .flash 0, 1, 1000000, 5, 0, by decide +kernel⟩,
   ⟨fl0, .flash 0, 1, by decide +kernel⟩,
   ⟨fl0.setFlink 0 { fl0.flink 0 with swapSlot := some 1 }, .flash 0, true, by decide +kernel⟩,
   ⟨fl0.setFlink 0 { fl0.flink 0 with swapSlot := some 1, switchReady := true }, .flash 0, by decide +kernel⟩,
   ⟨fl0, .flash 0, [2], by decide +kernel⟩,
   ⟨{ State.reset with start := { reached := 2 } }, 2, false, idm, by decide +kernel⟩,
   ⟨{ fl0 with dp := { fl0.dp with brs := [{ link := 0, tag := 7, op := 4, args := [], use_ := .other }] } }, 0, 7, 8, [], by decide +kernel⟩,
   ⟨taken (pk 0x0C01 0 [47, 0, 0, 0]) (fl0), pk 0x0C01 0 [47, 0, 0, 0], (let z : State := taken (pk 0x0C01 0 [47, 0, 0, 0]) (fl0); let p : Packet := pk 0x0C01 0 [47, 0, 0, 0]; z.begun p), by decide +kernel⟩,
   ⟨taken (pk 0x0C02 0 [0, 0, 0, 0]) (fl0), pk 0x0C02 0 [0, 0, 0, 0], (let z : State := taken (pk 0x0C02 0 [0, 0, 0, 0]) (fl0); let p : Packet := pk 0x0C02 0 [0, 0, 0, 0]; z.begun p), by decide +kernel⟩,
   ⟨taken (pk 0x8C10 0 [0, 1, 0, 0]) (sess fl0), pk 0x8C10 0 [0, 1, 0, 0], (let z : State := taken (pk 0x8C10 0 [0, 1, 0, 0]) (sess fl0); let p : Packet := pk 0x8C10 0 [0, 1, 0, 0]; z.begun p), by decide +kernel⟩,
   ⟨taken (pk 0x8C11 0 ([0, 0, 0, 0] ++ List.replicate 120 1)) (sess fl0), pk 0x8C11 0 ([0, 0, 0, 0] ++ List.replicate 120 1), (let z : State := taken (pk 0x8C11 0 ([0, 0, 0, 0] ++ List.replicate 120 1)) (sess fl0); let p : Packet := pk 0x8C11 0 ([0, 0, 0, 0] ++ List.replicate 120 1); z.begun p), by decide +kernel⟩⟩

/-- The premises of each clause of MapAndBandCommands can hold together. -/
theorem test_witness_MapAndBandCommands :
    (∃ (s : State) (q tier : Nat), (q < 4) ∧ (tier < 2)) ∧
    (∃ (s : State) (set zone use_ level : Nat), (use_ < 3 || use_ = 4)) ∧
    (∃ (z : State) (p : Packet) (s : State), (Runs z p 0x0B04) ∧ (s = z.begun p)) ∧
    (∃ (z : State) (p : Packet) (s : State), (Runs z p 0x0B01) ∧ (s = z.begun p)) ∧
    (∃ (z : State) (p : Packet) (s : State), (Runs z p 0x0B02) ∧ (s = z.begun p)) ∧
    (∃ (z : State) (p : Packet) (s : State), (Runs z p 0x0B03) ∧ (s = z.begun p)) ∧
    (∃ (z : State) (p : Packet) (s : State), (Runs z p 0x0B05) ∧ (s = z.begun p)) ∧
    (∃ (z : State) (p : Packet) (s : State), (Runs z p 0x8B10) ∧ (s = z.begun p)) :=
  ⟨⟨mp0.media (fun m => { m with bands := [band0, { band0 with zone := 1, state := 1 }, { band0 with zone := 2, state := 1 }, { band0 with zone := 3, state := 1 }, { band0 with zone := 4, state := 1 }] }), 0, 0, by decide +kernel⟩,
   ⟨mp0, 0, 1, 2, 1, by decide +kernel⟩,
   ⟨taken (pk 0x0B04 0 []) (mp0), pk 0x0B04 0 [], (let z : State := taken (pk 0x0B04 0 []) (mp0); let p : Packet := pk 0x0B04 0 []; z.begun p), by decide +kernel⟩,
   ⟨taken (pk 0x0B01 0x40 []) (mp0), pk 0x0B01 0x40 [], (let z : State := taken (pk 0x0B01 0x40 []) (mp0); let p : Packet := pk 0x0B01 0x40 []; z.begun p), by decide +kernel⟩,
   ⟨taken (pk 0x0B02 0 [1, 0, 0, 0, 7, 0, 9, 0]) (mp0), pk 0x0B02 0 [1, 0, 0, 0, 7, 0, 9, 0], (let z : State := taken (pk 0x0B02 0 [1, 0, 0, 0, 7, 0, 9, 0]) (mp0); let p : Packet := pk 0x0B02 0 [1, 0, 0, 0, 7, 0, 9, 0]; z.begun p), by decide +kernel⟩,
   ⟨taken (pk 0x0B03 0 ([1, 0, 0, 0] ++ List.replicate 8 0)) (mp0.media (fun m => { m with units := [{ vol := 1, unit := 0, live := some { gen := 0, gset := false, kind := 1 } }] })), pk 0x0B03 0 ([1, 0, 0, 0] ++ List.replicate 8 0), (let z : State := taken (pk 0x0B03 0 ([1, 0, 0, 0] ++ List.replicate 8 0)) (mp0.media (fun m => { m with units := [{ vol := 1, unit := 0, live := some { gen := 0, gset := false, kind := 1 } }] })); let p : Packet := pk 0x0B03 0 ([1, 0, 0, 0] ++ List.replicate 8 0); z.begun p), by decide +kernel⟩,
   ⟨taken (pk 0x0B05 0 []) (mp0), pk 0x0B05 0 [], (let z : State := taken (pk 0x0B05 0 []) (mp0); let p : Packet := pk 0x0B05 0 []; z.begun p), by decide +kernel⟩,
   ⟨taken (pk 0x8B10 0 [1, 0, 0, 0, 0, 0, 0, 0]) (sess mp0), pk 0x8B10 0 [1, 0, 0, 0, 0, 0, 0, 0], (let z : State := taken (pk 0x8B10 0 [1, 0, 0, 0, 0, 0, 0, 0]) (sess mp0); let p : Packet := pk 0x8B10 0 [1, 0, 0, 0, 0, 0, 0, 0]; z.begun p), by decide +kernel⟩⟩

/-- The premises of each clause of TuningAndPatrol can hold together. -/
theorem test_witness_TuningAndPatrol :
    (∃ (s : State) (job page cw it : Nat) (ok : Bool), (it ≤ 24)) ∧
    (∃ (s : State) (link : Nat) (temp : Int), (link < 48) ∧ (-128 ≤ temp) ∧ (temp ≤ 127)) ∧
    (∃ (s : State) (link : Nat), (link < 48)) ∧
    (∃ (s : State) (link bw qd : Nat), (link < 48)) ∧
    (∃ (z : State) (p : Packet) (s : State), (Runs z p 0x0D01) ∧ (s = z.begun p)) ∧
    (∃ (z : State) (p : Packet) (s : State), (Runs z p 0x0D02) ∧ (s = z.begun p)) ∧
    (∃ (z : State) (p : Packet) (s : State), (Runs z p 0x0D03) ∧ (s = z.begun p)) ∧
    (∃ (z : State) (p : Packet) (s : State), (Runs z p 0x0D04) ∧ (s = z.begun p)) ∧
    (∃ (z : State) (p : Packet) (s : State), (Runs z p 0x8D10) ∧ (s = z.begun p)) ∧
    (∃ (z : State) (p : Packet) (s : State), (Runs z p 0x8D11) ∧ (s = z.begun p)) ∧
    (∃ (z : State) (p : Packet) (s : State), (Runs z p 0x8D12) ∧ (s = z.begun p)) :=
  ⟨⟨mp0.setDp (fun d => { d with reads := [{ id := 9, code := 0x4000, cws := [{ page := 0, idx := 3, step := 2, here := true, ret := 0, load := 1, used := .valid }] }] }), 9, 0, 3, 24, true, by decide +kernel⟩,
   ⟨mp0, 47, -128, by decide +kernel⟩,
   ⟨mp0.setFlink 47 { temp := some 40 }, 47, by decide +kernel⟩,
   ⟨mp0, 47, 100, 0, by decide +kernel⟩,
   ⟨taken (pk 0x0D01 0 []) (mp0), pk 0x0D01 0 [], (let z : State := taken (pk 0x0D01 0 []) (mp0); let p : Packet := pk 0x0D01 0 []; z.begun p), by decide +kernel⟩,
   ⟨taken (pk 0x0D02 0 [0, 3, 1, 0]) (mp0), pk 0x0D02 0 [0, 3, 1, 0], (let z : State := taken (pk 0x0D02 0 [0, 3, 1, 0]) (mp0); let p : Packet := pk 0x0D02 0 [0, 3, 1, 0]; z.begun p), by decide +kernel⟩,
   ⟨taken (pk 0x0D03 0 [0, 0, 0, 0]) (mp0), pk 0x0D03 0 [0, 0, 0, 0], (let z : State := taken (pk 0x0D03 0 [0, 0, 0, 0]) (mp0); let p : Packet := pk 0x0D03 0 [0, 0, 0, 0]; z.begun p), by decide +kernel⟩,
   ⟨taken (pk 0x0D04 0 []) (mp0), pk 0x0D04 0 [], (let z : State := taken (pk 0x0D04 0 []) (mp0); let p : Packet := pk 0x0D04 0 []; z.begun p), by decide +kernel⟩,
   ⟨taken (pk 0x8D10 0 [1, 0, 0, 0]) (sess mp0), pk 0x8D10 0 [1, 0, 0, 0], (let z : State := taken (pk 0x8D10 0 [1, 0, 0, 0]) (sess mp0); let p : Packet := pk 0x8D10 0 [1, 0, 0, 0]; z.begun p), by decide +kernel⟩,
   ⟨taken (pk 0x8D11 0 [0, 2, 0, 0]) (sess mp0), pk 0x8D11 0 [0, 2, 0, 0], (let z : State := taken (pk 0x8D11 0 [0, 2, 0, 0]) (sess mp0); let p : Packet := pk 0x8D11 0 [0, 2, 0, 0]; z.begun p), by decide +kernel⟩,
   ⟨taken (pk 0x8D12 0 ([0, 3, 1, 2, 2, 0, 0, 0] ++ List.replicate 17 128 ++ [0, 0, 0])) (sess mp0), pk 0x8D12 0 ([0, 3, 1, 2, 2, 0, 0, 0] ++ List.replicate 17 128 ++ [0, 0, 0]), (let z : State := taken (pk 0x8D12 0 ([0, 3, 1, 2, 2, 0, 0, 0] ++ List.replicate 17 128 ++ [0, 0, 0])) (sess mp0); let p : Packet := pk 0x8D12 0 ([0, 3, 1, 2, 2, 0, 0, 0] ++ List.replicate 17 128 ++ [0, 0, 0]); z.begun p), by decide +kernel⟩⟩

/-- The premises of each clause of RedundancyCommands can hold together. -/
theorem test_witness_RedundancyCommands :
    (∃ (z : State) (p : Packet) (s : State), (Runs z p 0x1201) ∧ (s = z.begun p)) ∧
    (∃ (z : State) (p : Packet) (s : State), (Runs z p 0x1202) ∧ (s = z.begun p)) ∧
    (∃ (z : State) (p : Packet) (s : State), (Runs z p 0x1203) ∧ (s = z.begun p)) ∧
    (∃ (z : State) (p : Packet) (s : State), (Runs z p 0x1204) ∧ (s = z.begun p)) ∧
    (∃ (z : State) (p : Packet) (s : State), (Runs z p 0x1205) ∧ (s = z.begun p)) ∧
    (∃ (z : State) (p : Packet) (s : State), (Runs z p 0x1206) ∧ (s = z.begun p)) ∧
    (∃ (z : State) (p : Packet) (s : State), (Runs z p 0x9210) ∧ (s = z.begun p)) ∧
    (∃ (z : State) (p : Packet) (s : State), (Runs z p 0x9211) ∧ (s = z.begun p)) :=
  ⟨⟨taken (pk 0x1201 0 ([5, 0, 0, 7, 6, 1, 16, 1, 0, 0, 0, 0, 0, 0, 0, 0, 0, 64, 1, 64, 2, 64, 3, 64, 4, 64, 5, 64, 6, 64])) (mods7), pk 0x1201 0 ([5, 0, 0, 7, 6, 1, 16, 1, 0, 0, 0, 0, 0, 0, 0, 0, 0, 64, 1, 64, 2, 64, 3, 64, 4, 64, 5, 64, 6, 64]), (let z : State := taken (pk 0x1201 0 ([5, 0, 0, 7, 6, 1, 16, 1, 0, 0, 0, 0, 0, 0, 0, 0, 0, 64, 1, 64, 2, 64, 3, 64, 4, 64, 5, 64, 6, 64])) (mods7); let p : Packet := pk 0x1201 0 ([5, 0, 0, 7, 6, 1, 16, 1, 0, 0, 0, 0, 0, 0, 0, 0, 0, 64, 1, 64, 2, 64, 3, 64, 4, 64, 5, 64, 6, 64]); z.begun p), by decide +kernel⟩,
   ⟨taken (pk 0x1202 0 [0, 0, 0, 0]) (mp0), pk 0x1202 0 [0, 0, 0, 0], (let z : State := taken (pk 0x1202 0 [0, 0, 0, 0]) (mp0); let p : Packet := pk 0x1202 0 [0, 0, 0, 0]; z.begun p), by decide +kernel⟩,
   ⟨taken (pk 0x1203 0 [0, 1, 0, 1]) (mp0), pk 0x1203 0 [0, 1, 0, 1], (let z : State := taken (pk 0x1203 0 [0, 1, 0, 1]) (mp0); let p : Packet := pk 0x1203 0 [0, 1, 0, 1]; z.begun p), by decide +kernel⟩,
   ⟨taken (pk 0x1204 0 [1, 0, 3, 0]) (mp0), pk 0x1204 0 [1, 0, 3, 0], (let z : State := taken (pk 0x1204 0 [1, 0, 3, 0]) (mp0); let p : Packet := pk 0x1204 0 [1, 0, 3, 0]; z.begun p), by decide +kernel⟩,
   ⟨taken (pk 0x1205 0 [0, 0, 0, 0]) (mp0), pk 0x1205 0 [0, 0, 0, 0], (let z : State := taken (pk 0x1205 0 [0, 0, 0, 0]) (mp0); let p : Packet := pk 0x1205 0 [0, 0, 0, 0]; z.begun p), by decide +kernel⟩,
   ⟨taken (pk 0x1206 0 [0, 1, 1, 64]) ({ mods7 with act := { sets := [{ set0 with pstate := [0, 3, 0], zones := 4, zoneSize := 786432 }] }, shadow := { sets := [{ set0 with pstate := [0, 3, 0], zones := 4, zoneSize := 786432 }] } }), pk 0x1206 0 [0, 1, 1, 64], (let z : State := taken (pk 0x1206 0 [0, 1, 1, 64]) ({ mods7 with act := { sets := [{ set0 with pstate := [0, 3, 0], zones := 4, zoneSize := 786432 }] }, shadow := { sets := [{ set0 with pstate := [0, 3, 0], zones := 4, zoneSize := 786432 }] } }); let p : Packet := pk 0x1206 0 [0, 1, 1, 64]; z.begun p), by decide +kernel⟩,
   ⟨taken (pk 0x9210 0 [0, 1, 0, 0]) (sess (mp0.setB NRN.PAIR_STS.CAPO)), pk 0x9210 0 [0, 1, 0, 0], (let z : State := taken (pk 0x9210 0 [0, 1, 0, 0]) (sess (mp0.setB NRN.PAIR_STS.CAPO)); let p : Packet := pk 0x9210 0 [0, 1, 0, 0]; z.begun p), by decide +kernel⟩,
   ⟨taken (pk 0x9211 0 [0, 1, 0, 0]) (sess mp0), pk 0x9211 0 [0, 1, 0, 0], (let z : State := taken (pk 0x9211 0 [0, 1, 0, 0]) (sess mp0); let p : Packet := pk 0x9211 0 [0, 1, 0, 0]; z.begun p), by decide +kernel⟩⟩

/-- The premises of each clause of PairMessages can hold together. -/
theorem test_witness_PairMessages :
    (∃ (s : State) (env : Seal) (always : Bool) (f : State → State), (Accepts s env)) ∧
    (∃ (s : State) (env : Seal) (ch : Nat), (ch < 64)) :=
  ⟨⟨nr0, env0, true, id, by decide +kernel⟩,
   ⟨nr0, env0, 63, by decide +kernel⟩⟩

/-- The premises of each clause of PairEventsAndCommands can hold together. -/
theorem test_witness_PairEventsAndCommands :
    (∃ (z : State) (p : Packet) (s : State), (Runs z p 0x1401) ∧ (s = z.begun p)) ∧
    (∃ (z : State) (p : Packet) (s : State), (Runs z p 0x1402) ∧ (s = z.begun p)) ∧
    (∃ (z : State) (p : Packet) (s : State), (Runs z p 0x1403) ∧ (s = z.begun p)) ∧
    (∃ (z : State) (p : Packet) (s : State), (Runs z p 0x9410) ∧ (s = z.begun p)) ∧
    (∃ (z : State) (p : Packet) (s : State), (Runs z p 0x9411) ∧ (s = z.begun p)) :=
  ⟨⟨taken (pk 0x1401 0 []) (nr0), pk 0x1401 0 [], (let z : State := taken (pk 0x1401 0 []) (nr0); let p : Packet := pk 0x1401 0 []; z.begun p), by decide +kernel⟩,
   ⟨taken (pk 0x1402 0 []) (nrC), pk 0x1402 0 [], (let z : State := taken (pk 0x1402 0 []) (nrC); let p : Packet := pk 0x1402 0 []; z.begun p), by decide +kernel⟩,
   ⟨taken (pk 0x1403 0 [1, 0, 1, 0]) (nrC.put NRN.PAIR_STS.ROLE 2), pk 0x1403 0 [1, 0, 1, 0], (let z : State := taken (pk 0x1403 0 [1, 0, 1, 0]) (nrC.put NRN.PAIR_STS.ROLE 2); let p : Packet := pk 0x1403 0 [1, 0, 1, 0]; z.begun p), by decide +kernel⟩,
   ⟨taken (pk 0x9410 0 [2, 0, 0, 0]) (sess { nr0 with pair := { nr0.pair with slots := List.range 16 } }), pk 0x9410 0 [2, 0, 0, 0], (let z : State := taken (pk 0x9410 0 [2, 0, 0, 0]) (sess { nr0 with pair := { nr0.pair with slots := List.range 16 } }); let p : Packet := pk 0x9410 0 [2, 0, 0, 0]; z.begun p), by decide +kernel⟩,
   ⟨taken (pk 0x9411 0 [0, 0, 0, 0]) (sess (mp0.put NRN.PAIR_STS.PARTNER 5)), pk 0x9411 0 [0, 0, 0, 0], (let z : State := taken (pk 0x9411 0 [0, 0, 0, 0]) (sess (mp0.put NRN.PAIR_STS.PARTNER 5)); let p : Packet := pk 0x9411 0 [0, 0, 0, 0]; z.begun p), by decide +kernel⟩⟩

/-- The premises of each clause of VolumeAndSnapshotCommands can hold together. -/
theorem test_witness_VolumeAndSnapshotCommands :
    (∃ (z : State) (p : Packet) (s : State), (Runs z p 0x1301) ∧ (s = z.begun p)) ∧
    (∃ (z : State) (p : Packet) (s : State), (Runs z p 0x1303) ∧ (s = z.begun p)) ∧
    (∃ (z : State) (p : Packet) (s : State), (Runs z p 0x1302) ∧ (s = z.begun p)) ∧
    (∃ (z : State) (p : Packet) (s : State), (Runs z p 0x1304) ∧ (s = z.begun p)) ∧
    (∃ (z : State) (p : Packet) (s : State), (Runs z p 0x1305) ∧ (s = z.begun p)) ∧
    (∃ (z : State) (p : Packet) (s : State), (Runs z p 0x1306) ∧ (s = z.begun p)) ∧
    (∃ (z : State) (p : Packet) (s : State), (Runs z p 0x1307) ∧ (s = z.begun p)) :=
  ⟨⟨taken (pk 0x1301 0 ([9, 0, 0, 1, 8, 0, 0, 0, 7, 0, 0, 0] ++ List.replicate 16 1)) ({ nr0 with nv := { nr0.nv with roots := { nr0.nv.roots with ark := some [1] } } }), pk 0x1301 0 ([9, 0, 0, 1, 8, 0, 0, 0, 7, 0, 0, 0] ++ List.replicate 16 1), (let z : State := taken (pk 0x1301 0 ([9, 0, 0, 1, 8, 0, 0, 0, 7, 0, 0, 0] ++ List.replicate 16 1)) ({ nr0 with nv := { nr0.nv with roots := { nr0.nv.roots with ark := some [1] } } }); let p : Packet := pk 0x1301 0 ([9, 0, 0, 1, 8, 0, 0, 0, 7, 0, 0, 0] ++ List.replicate 16 1); z.begun p), by decide +kernel⟩,
   ⟨taken (pk 0x1303 0 ([1, 0, 0, 1, 9, 0, 0, 0, 7, 0, 0, 0] ++ List.replicate 16 1)) (nr0), pk 0x1303 0 ([1, 0, 0, 1, 9, 0, 0, 0, 7, 0, 0, 0] ++ List.replicate 16 1), (let z : State := taken (pk 0x1303 0 ([1, 0, 0, 1, 9, 0, 0, 0, 7, 0, 0, 0] ++ List.replicate 16 1)) (nr0); let p : Packet := pk 0x1303 0 ([1, 0, 0, 1, 9, 0, 0, 0, 7, 0, 0, 0] ++ List.replicate 16 1); z.begun p), by decide +kernel⟩,
   ⟨taken (pk 0x1302 0 [1, 0, 0, 0]) (nr0), pk 0x1302 0 [1, 0, 0, 0], (let z : State := taken (pk 0x1302 0 [1, 0, 0, 0]) (nr0); let p : Packet := pk 0x1302 0 [1, 0, 0, 0]; z.begun p), by decide +kernel⟩,
   ⟨taken (pk 0x1304 0 [1, 0, 0, 0]) (nr0), pk 0x1304 0 [1, 0, 0, 0], (let z : State := taken (pk 0x1304 0 [1, 0, 0, 0]) (nr0); let p : Packet := pk 0x1304 0 [1, 0, 0, 0]; z.begun p), by decide +kernel⟩,
   ⟨taken (pk 0x1305 0 [1, 0, 0, 0]) (nr0), pk 0x1305 0 [1, 0, 0, 0], (let z : State := taken (pk 0x1305 0 [1, 0, 0, 0]) (nr0); let p : Packet := pk 0x1305 0 [1, 0, 0, 0]; z.begun p), by decide +kernel⟩,
   ⟨taken (pk 0x1306 0 [1, 0, 3, 0]) (nr0.media (fun m => { m with snaps := [{ vol := 1, num := 3, gen := 1, state := 2 }] })), pk 0x1306 0 [1, 0, 3, 0], (let z : State := taken (pk 0x1306 0 [1, 0, 3, 0]) (nr0.media (fun m => { m with snaps := [{ vol := 1, num := 3, gen := 1, state := 2 }] })); let p : Packet := pk 0x1306 0 [1, 0, 3, 0]; z.begun p), by decide +kernel⟩,
   ⟨taken (pk 0x1307 0 [1, 0, 2, 0]) (nr0.media (fun m => { m with snaps := [{ vol := 1, num := 3, gen := 1, state := 2 }] })), pk 0x1307 0 [1, 0, 2, 0], (let z : State := taken (pk 0x1307 0 [1, 0, 2, 0]) (nr0.media (fun m => { m with snaps := [{ vol := 1, num := 3, gen := 1, state := 2 }] })); let p : Packet := pk 0x1307 0 [1, 0, 2, 0]; z.begun p), by decide +kernel⟩⟩

/-- The premises of each clause of ReplicationCommands can hold together. -/
theorem test_witness_ReplicationCommands :
    (∃ (z : State) (p : Packet) (s : State), (Runs z p 0x1310) ∧ (s = z.begun p)) ∧
    (∃ (z : State) (p : Packet) (s : State), (Runs z p 0x1311) ∧ (s = z.begun p)) ∧
    (∃ (z : State) (p : Packet) (s : State), (Runs z p 0x1312) ∧ (s = z.begun p)) ∧
    (∃ (z : State) (p : Packet) (s : State), (Runs z p 0x1313) ∧ (s = z.begun p)) ∧
    (∃ (z : State) (p : Packet) (s : State), (Runs z p 0x1314) ∧ (s = z.begun p)) ∧
    (∃ (z : State) (p : Packet) (s : State), (Runs z p 0x1315) ∧ (s = z.begun p)) ∧
    (∃ (z : State) (p : Packet) (s : State), (Runs z p 0x1316) ∧ (s = z.begun p)) ∧
    (∃ (z : State) (p : Packet) (s : State), (Runs z p 0x1317) ∧ (s = z.begun p)) ∧
    (∃ (z : State) (p : Packet) (s : State), (Runs z p 0x9320) ∧ (s = z.begun p)) ∧
    (∃ (z : State) (p : Packet) (s : State), (Runs z p 0x9321) ∧ (s = z.begun p)) :=
  ⟨⟨taken (pk 0x1310 0 [3, 0, 0, 0, 1, 0, 0, 0, 16, 0, 0, 0]) (rp0), pk 0x1310 0 [3, 0, 0, 0, 1, 0, 0, 0, 16, 0, 0, 0], (let z : State := taken (pk 0x1310 0 [3, 0, 0, 0, 1, 0, 0, 0, 16, 0, 0, 0]) (rp0); let p : Packet := pk 0x1310 0 [3, 0, 0, 0, 1, 0, 0, 0, 16, 0, 0, 0]; z.begun p), by decide +kernel⟩,
   ⟨taken (pk 0x1311 0 ([2, 0, 0, 0, 1, 22, 2, 0] ++ List.replicate 28 0)) (rp0), pk 0x1311 0 ([2, 0, 0, 0, 1, 22, 2, 0] ++ List.replicate 28 0), (let z : State := taken (pk 0x1311 0 ([2, 0, 0, 0, 1, 22, 2, 0] ++ List.replicate 28 0)) (rp0); let p : Packet := pk 0x1311 0 ([2, 0, 0, 0, 1, 22, 2, 0] ++ List.replicate 28 0); z.begun p), by decide +kernel⟩,
   ⟨taken (pk 0x1312 0 [2, 0, 0, 0, 1, 0, 0, 0]) (rp0), pk 0x1312 0 [2, 0, 0, 0, 1, 0, 0, 0], (let z : State := taken (pk 0x1312 0 [2, 0, 0, 0, 1, 0, 0, 0]) (rp0); let p : Packet := pk 0x1312 0 [2, 0, 0, 0, 1, 0, 0, 0]; z.begun p), by decide +kernel⟩,
   ⟨taken (pk 0x1313 0 [2, 0, 0, 0]) ({ rp0 with act := { rp0.act with vols := [vol1] }, shadow := { rp0.shadow with vols := [vol1] } }), pk 0x1313 0 [2, 0, 0, 0], (let z : State := taken (pk 0x1313 0 [2, 0, 0, 0]) ({ rp0 with act := { rp0.act with vols := [vol1] }, shadow := { rp0.shadow with vols := [vol1] } }); let p : Packet := pk 0x1313 0 [2, 0, 0, 0]; z.begun p), by decide +kernel⟩,
   ⟨taken (pk 0x1314 0 [1, 0, 2, 0, 7, 0, 0, 0, 30, 0, 0, 0]) ({ rp0 with act := { rp0.act with vols := [vol1] }, shadow := { rp0.shadow with vols := [vol1] } }), pk 0x1314 0 [1, 0, 2, 0, 7, 0, 0, 0, 30, 0, 0, 0], (let z : State := taken (pk 0x1314 0 [1, 0, 2, 0, 7, 0, 0, 0, 30, 0, 0, 0]) ({ rp0 with act := { rp0.act with vols := [vol1] }, shadow := { rp0.shadow with vols := [vol1] } }); let p : Packet := pk 0x1314 0 [1, 0, 2, 0, 7, 0, 0, 0, 30, 0, 0, 0]; z.begun p), by decide +kernel⟩,
   ⟨taken (pk 0x1315 0 [1, 0, 0, 0]) (rp0), pk 0x1315 0 [1, 0, 0, 0], (let z : State := taken (pk 0x1315 0 [1, 0, 0, 0]) (rp0); let p : Packet := pk 0x1315 0 [1, 0, 0, 0]; z.begun p), by decide +kernel⟩,
   ⟨taken (pk 0x1316 0 [1, 0, 0, 0]) (rp0), pk 0x1316 0 [1, 0, 0, 0], (let z : State := taken (pk 0x1316 0 [1, 0, 0, 0]) (rp0); let p : Packet := pk 0x1316 0 [1, 0, 0, 0]; z.begun p), by decide +kernel⟩,
   ⟨taken (pk 0x1317 0 [1, 0, 0, 0]) (rp0), pk 0x1317 0 [1, 0, 0, 0], (let z : State := taken (pk 0x1317 0 [1, 0, 0, 0]) (rp0); let p : Packet := pk 0x1317 0 [1, 0, 0, 0]; z.begun p), by decide +kernel⟩,
   ⟨taken (pk 0x9320 0 [1, 0, 0, 0]) (sess (rp0.media (fun m => { m with repl := [{ rb1 with target := true, state := 2 }] }))), pk 0x9320 0 [1, 0, 0, 0], (let z : State := taken (pk 0x9320 0 [1, 0, 0, 0]) (sess (rp0.media (fun m => { m with repl := [{ rb1 with target := true, state := 2 }] }))); let p : Packet := pk 0x9320 0 [1, 0, 0, 0]; z.begun p), by decide +kernel⟩,
   ⟨taken (pk 0x9321 0 [1, 0, 0, 0]) (sess rp0), pk 0x9321 0 [1, 0, 0, 0], (let z : State := taken (pk 0x9321 0 [1, 0, 0, 0]) (sess rp0); let p : Packet := pk 0x9321 0 [1, 0, 0, 0]; z.begun p), by decide +kernel⟩⟩

/-- The premises of each clause of HeadsAndServoTimers can hold together. -/
theorem test_witness_HeadsAndServoTimers :
    (∃ (s : State) (str : Nat) (flit : SsampFlit), (str < 96) ∧ (flit.bytes.length = 128) ∧ (flit.wedge.num < 512)) ∧
    (∃ (s : State) (hda : Nat), (hda < 192)) ∧
    (∃ (s : State) (hda : Nat), (hda < 192)) ∧
    (∃ (s : State) (hda : Nat), (hda < 192)) ∧
    (∃ (s : State) (hda : Nat), (hda < 192)) ∧
    (∃ (s : State) (hda : Nat), (hda < 192)) ∧
    (∃ (s : State) (hda : Nat), (hda < 192)) ∧
    (∃ (z : State) (p : Packet) (s : State), (Runs z p 0x0F01) ∧ (s = z.begun p)) ∧
    (∃ (z : State) (p : Packet) (s : State), (Runs z p 0x0F02) ∧ (s = z.begun p)) ∧
    (∃ (z : State) (p : Packet) (s : State), (Runs z p 0x0F03) ∧ (s = z.begun p)) ∧
    (∃ (z : State) (p : Packet) (s : State), (Runs z p 0x0F04) ∧ (s = z.begun p)) ∧
    (∃ (z : State) (p : Packet) (s : State), (Runs z p 0x0F05) ∧ (s = z.begun p)) ∧
    (∃ (z : State) (p : Packet) (s : State), (Runs z p 0x8F10) ∧ (s = z.begun p)) ∧
    (∃ (z : State) (p : Packet) (s : State), (Runs z p 0x8F11) ∧ (s = z.begun p)) :=
  ⟨⟨hd0, 0, { bytes := List.replicate 4 0 ++ [7] ++ List.replicate 123 0, wedge := { sam := true, parityOk := true, num := 3, y := 0 }, rotor := { phaseErr := 0, speed := 10000 } }, by decide +kernel⟩,
   ⟨hdSt 0 5, 0, by decide +kernel⟩,
   ⟨(hdSt 0 5).setServo 0 { reloadAt := some 5 }, 0, by decide +kernel⟩,
   ⟨hdSt 1 5, 0, by decide +kernel⟩,
   ⟨(hdSt 3 5).setServo 0 { seek := some { fromY := 0, toY := 2560, startAt := 0 } }, 0, by decide +kernel⟩,
   ⟨hdSt 5 5, 0, by decide +kernel⟩,
   ⟨hdSt 7 5, 0, by decide +kernel⟩,
   ⟨taken (pk 0x0F01 0 [0, 0, 0, 0]) (hd0), pk 0x0F01 0 [0, 0, 0, 0], (let z : State := taken (pk 0x0F01 0 [0, 0, 0, 0]) (hd0); let p : Packet := pk 0x0F01 0 [0, 0, 0, 0]; z.begun p), by decide +kernel⟩,
   ⟨taken (pk 0x0F02 0 [0, 3, 231, 0]) (hd0), pk 0x0F02 0 [0, 3, 231, 0], (let z : State := taken (pk 0x0F02 0 [0, 3, 231, 0]) (hd0); let p : Packet := pk 0x0F02 0 [0, 3, 231, 0]; z.begun p), by decide +kernel⟩,
   ⟨taken (pk 0x0F03 0 [0, 0, 0, 0]) (hd0), pk 0x0F03 0 [0, 0, 0, 0], (let z : State := taken (pk 0x0F03 0 [0, 0, 0, 0]) (hd0); let p : Packet := pk 0x0F03 0 [0, 0, 0, 0]; z.begun p), by decide +kernel⟩,
   ⟨taken (pk 0x0F04 64 [0, 0, 255, 14, 255, 1, 0, 0, 8, 0, 0, 0]) (hd0), pk 0x0F04 64 [0, 0, 255, 14, 255, 1, 0, 0, 8, 0, 0, 0], (let z : State := taken (pk 0x0F04 64 [0, 0, 255, 14, 255, 1, 0, 0, 8, 0, 0, 0]) (hd0); let p : Packet := pk 0x0F04 64 [0, 0, 255, 14, 255, 1, 0, 0, 8, 0, 0, 0]; z.begun p), by decide +kernel⟩,
   ⟨taken (pk 0x0F05 64 [0, 0, 0, 0]) (hd0), pk 0x0F05 64 [0, 0, 0, 0], (let z : State := taken (pk 0x0F05 64 [0, 0, 0, 0]) (hd0); let p : Packet := pk 0x0F05 64 [0, 0, 0, 0]; z.begun p), by decide +kernel⟩,
   ⟨taken (pk 0x8F10 0 ([0, 0, 0, 0] ++ mkRawBlock)) (sess hd0), pk 0x8F10 0 ([0, 0, 0, 0] ++ mkRawBlock), (let z : State := taken (pk 0x8F10 0 ([0, 0, 0, 0] ++ mkRawBlock)) (sess hd0); let p : Packet := pk 0x8F10 0 ([0, 0, 0, 0] ++ mkRawBlock); z.begun p), by decide +kernel⟩,
   ⟨taken (pk 0x8F11 0 [0, 1, 0, 0, 20, 0, 0, 0]) (sess hd0), pk 0x8F11 0 [0, 1, 0, 0, 20, 0, 0, 0], (let z : State := taken (pk 0x8F11 0 [0, 1, 0, 0, 20, 0, 0, 0]) (sess hd0); let p : Packet := pk 0x8F11 0 [0, 1, 0, 0, 20, 0, 0, 0]; z.begun p), by decide +kernel⟩⟩

/-- The premises of each clause of SpindleEventsAndCommands can hold together. -/
theorem test_witness_SpindleEventsAndCommands :
    (∃ (s : State) (hda : Nat), (hda < 192)) ∧
    (∃ (s : State) (hda : Nat), (hda < 192)) ∧
    (∃ (s : State) (hda : Nat), (hda < 192)) ∧
    (∃ (s : State) (hda : Nat), (hda < 192)) ∧
    (∃ (s : State) (hda : Nat), (hda < 192)) ∧
    (∃ (z : State) (p : Packet) (s : State), (Runs z p 0x1001) ∧ (s = z.begun p)) ∧
    (∃ (z : State) (p : Packet) (s : State), (Runs z p 0x1002) ∧ (s = z.begun p)) ∧
    (∃ (z : State) (p : Packet) (s : State), (Runs z p 0x1003) ∧ (s = z.begun p)) ∧
    (∃ (z : State) (p : Packet) (s : State), (Runs z p 0x1004) ∧ (s = z.begun p)) ∧
    (∃ (z : State) (p : Packet) (s : State), (Runs z p 0x9010) ∧ (s = z.begun p)) :=
  ⟨⟨(hdSt 0 1).setSpin 0 { recapture := true, speed := 9000 }, 0, by decide +kernel⟩,
   ⟨hdSt 0 2, 0, by decide +kernel⟩,
   ⟨hdSt 0 3, 0, by decide +kernel⟩,
   ⟨(hdSt 0 9).setSpin 0 { retried := true }, 0, by decide +kernel⟩,
   ⟨(hd0.put SPN.CFG.IDLE_MIN 3).setB CMD.STS.MC_RUN, 0, by decide +kernel⟩,
   ⟨taken (pk 0x1001 0 [0, 2, 0, 0]) (hdSt 0 0), pk 0x1001 0 [0, 2, 0, 0], (let z : State := taken (pk 0x1001 0 [0, 2, 0, 0]) (hdSt 0 0); let p : Packet := pk 0x1001 0 [0, 2, 0, 0]; z.begun p), by decide +kernel⟩,
   ⟨taken (pk 0x1002 0 [0, 0, 0, 0]) (hd0), pk 0x1002 0 [0, 0, 0, 0], (let z : State := taken (pk 0x1002 0 [0, 0, 0, 0]) (hd0); let p : Packet := pk 0x1002 0 [0, 0, 0, 0]; z.begun p), by decide +kernel⟩,
   ⟨taken (pk 0x1003 0 [0, 0, 0, 0]) (hd0), pk 0x1003 0 [0, 0, 0, 0], (let z : State := taken (pk 0x1003 0 [0, 0, 0, 0]) (hd0); let p : Packet := pk 0x1003 0 [0, 0, 0, 0]; z.begun p), by decide +kernel⟩,
   ⟨taken (pk 0x1004 0 [0, 0, 255, 31]) (hd0), pk 0x1004 0 [0, 0, 255, 31], (let z : State := taken (pk 0x1004 0 [0, 0, 255, 31]) (hd0); let p : Packet := pk 0x1004 0 [0, 0, 255, 31]; z.begun p), by decide +kernel⟩,
   ⟨taken (pk 0x9010 0 [0, 5, 0, 0]) (sess hd0), pk 0x9010 0 [0, 5, 0, 0], (let z : State := taken (pk 0x9010 0 [0, 5, 0, 0]) (sess hd0); let p : Packet := pk 0x9010 0 [0, 5, 0, 0]; z.begun p), by decide +kernel⟩⟩

/-- The premises of each clause of StringsAndCarriers can hold together. -/
theorem test_witness_StringsAndCarriers :
    (∃ (s : State) (str : Nat) (ident : CarrierIdent) (found0 found1 : HdaFound), (str < 96)) ∧
    (∃ (s : State) (str : Nat) (laneLost : Bool), (str < 96)) ∧
    (∃ (s : State) (str : Nat) (c : Cstat), (str < 96) ∧ (-128 ≤ c.temp0) ∧ (c.temp0 ≤ 127) ∧ (-128 ≤ c.temp1) ∧ (c.temp1 ≤ 127)) ∧
    (∃ (s : State) (str : Nat), (str < 96)) ∧
    (∃ (s : State) (str : Nat), (str < 96)) ∧
    (∃ (s : State) (str tag : Nat) (st : CarStatus) (gates : Nat) (vers : List Nat), (str < 96)) ∧
    (∃ (z : State) (p : Packet) (s : State), (Runs z p 0x1101) ∧ (s = z.begun p)) ∧
    (∃ (z : State) (p : Packet) (s : State), (Runs z p 0x1102) ∧ (s = z.begun p)) ∧
    (∃ (z : State) (p : Packet) (s : State), (Runs z p 0x9110) ∧ (s = z.begun p)) :=
  ⟨⟨hd0, 95, { serial := List.replicate 16 1, fw := 3, slot0 := some idH, slot1 := none }, {}, {}, by decide +kernel⟩,
   ⟨hd0, 0, true, by decide +kernel⟩,
   ⟨hd0.pass Config.sec, 0, { driver := true, otherDrives := true, temp0 := 20, temp1 := -3 }, by decide +kernel⟩,
   ⟨hd0.setStr 0 { fresh := true }, 0, by decide +kernel⟩,
   ⟨hd0.setStr 95 { goodSecs := 60 }, 95, by decide +kernel⟩,
   ⟨hd0.setHdas (fun d => { d with cmds := [{ str := 0, tag := 5, op := 8, use_ := .version (pk 0x1808 0 [1, 0, 0, 0]) }] }), 0, 5, .ok, 0, [1, 2, 3], by decide +kernel⟩,
   ⟨taken (pk 0x1101 0 [0, 0, 0, 0]) (hd0), pk 0x1101 0 [0, 0, 0, 0], (let z : State := taken (pk 0x1101 0 [0, 0, 0, 0]) (hd0); let p : Packet := pk 0x1101 0 [0, 0, 0, 0]; z.begun p), by decide +kernel⟩,
   ⟨taken (pk 0x1102 0 [0, 0, 0, 0]) (hd0), pk 0x1102 0 [0, 0, 0, 0], (let z : State := taken (pk 0x1102 0 [0, 0, 0, 0]) (hd0); let p : Packet := pk 0x1102 0 [0, 0, 0, 0]; z.begun p), by decide +kernel⟩,
   ⟨taken (pk 0x9110 0 [0, 0, 0, 0]) (sess hd0), pk 0x9110 0 [0, 0, 0, 0], (let z : State := taken (pk 0x9110 0 [0, 0, 0, 0]) (sess hd0); let p : Packet := pk 0x9110 0 [0, 0, 0, 0]; z.begun p), by decide +kernel⟩⟩

/-- The premises of each clause of CentralReadChannel can hold together. -/
theorem test_witness_CentralReadChannel :
    (∃ (s : State) (str head slot stream first : Nat) (samples : List Byte) (fcrc : Nat), (str < 96) ∧ (head < 2 ^ 32) ∧ (slot < 256) ∧ (stream < 2 ^ 16) ∧ (first < 2 ^ 40) ∧ (samples.length = 112) ∧ (fcrc < 2 ^ 32)) ∧
    (∃ (s : State) (run it : Nat) (tag : Option Nat) (mark used : Nat), (it ≤ 12) ∧ (mark < 3)) ∧
    (∃ (s : State) (hda zone load : Nat) (gf gt np : List Int) (clr : Nat) (temp : Int) (bw : Nat), (hda < 192) ∧ (load < 3)) ∧
    (∃ (z : State) (p : Packet) (s : State), (Runs z p 0x0E01) ∧ (s = z.begun p)) ∧
    (∃ (z : State) (p : Packet) (s : State), (Runs z p 0x0E02) ∧ (s = z.begun p)) ∧
    (∃ (z : State) (p : Packet) (s : State), (Runs z p 0x0E03) ∧ (s = z.begun p)) ∧
    (∃ (z : State) (p : Packet) (s : State), (Runs z p 0x0E04) ∧ (s = z.begun p)) ∧
    (∃ (z : State) (p : Packet) (s : State), (Runs z p 0x0E05) ∧ (s = z.begun p)) ∧
    (∃ (z : State) (p : Packet) (s : State), (Runs z p 0x8E10) ∧ (s = z.begun p)) :=
  ⟨⟨hdRun { run0 with pairAt := some 0 }, 0, 0, 6, 0, 0, List.replicate 112 0, 0, by decide +kernel⟩,
   ⟨(hdRun { run0 with pairAt := some 0 }).setHset hWin, 3, 12, some 0, 0, 35360, by decide +kernel⟩,
   ⟨hdWin, 0, 1, 1, [], [], [], 50, 20, 0, by decide +kernel⟩,
   ⟨taken (pk 0x0E01 0 [0, 0, 0, 0]) (hd0), pk 0x0E01 0 [0, 0, 0, 0], (let z : State := taken (pk 0x0E01 0 [0, 0, 0, 0]) (hd0); let p : Packet := pk 0x0E01 0 [0, 0, 0, 0]; z.begun p), by decide +kernel⟩,
   ⟨taken (pk 0x0E02 0 [0, 0, 0, 0]) (hd0), pk 0x0E02 0 [0, 0, 0, 0], (let z : State := taken (pk 0x0E02 0 [0, 0, 0, 0]) (hd0); let p : Packet := pk 0x0E02 0 [0, 0, 0, 0]; z.begun p), by decide +kernel⟩,
   ⟨taken (pk 0x0E03 0 [0, 0, 0, 0, 1, 1, 1, 1]) (hd0), pk 0x0E03 0 [0, 0, 0, 0, 1, 1, 1, 1], (let z : State := taken (pk 0x0E03 0 [0, 0, 0, 0, 1, 1, 1, 1]) (hd0); let p : Packet := pk 0x0E03 0 [0, 0, 0, 0, 1, 1, 1, 1]; z.begun p), by decide +kernel⟩,
   ⟨taken (pk 0x0E04 0 [0, 0, 0, 0, 1, 0, 0, 0]) (hdSets), pk 0x0E04 0 [0, 0, 0, 0, 1, 0, 0, 0], (let z : State := taken (pk 0x0E04 0 [0, 0, 0, 0, 1, 0, 0, 0]) (hdSets); let p : Packet := pk 0x0E04 0 [0, 0, 0, 0, 1, 0, 0, 0]; z.begun p), by decide +kernel⟩,
   ⟨taken (pk 0x0E05 0 [0, 0, 0, 0, 0, 0, 0, 0]) (hd0), pk 0x0E05 0 [0, 0, 0, 0, 0, 0, 0, 0], (let z : State := taken (pk 0x0E05 0 [0, 0, 0, 0, 0, 0, 0, 0]) (hd0); let p : Packet := pk 0x0E05 0 [0, 0, 0, 0, 0, 0, 0, 0]; z.begun p), by decide +kernel⟩,
   ⟨taken (pk 0x8E10 0 [0, 0, 0, 0, 1, 0, 0, 0, 255, 255, 3, 0, 32, 122, 0, 0]) (sess hd0), pk 0x8E10 0 [0, 0, 0, 0, 1, 0, 0, 0, 255, 255, 3, 0, 32, 122, 0, 0], (let z : State := taken (pk 0x8E10 0 [0, 0, 0, 0, 1, 0, 0, 0, 255, 255, 3, 0, 32, 122, 0, 0]) (sess hd0); let p : Packet := pk 0x8E10 0 [0, 0, 0, 0, 1, 0, 0, 0, 255, 255, 3, 0, 32, 122, 0, 0]; z.begun p), by decide +kernel⟩⟩

/-- The premises of each clause of DramAndSramEvents can hold together. -/
theorem test_witness_DramAndSramEvents :
    (∃ (s : State) (ch : Nat) (d ref : Dimm) (checkOk fullOk : Bool) (hard : List Nat), (ch < 12)) ∧
    (∃ (s : State) (rows : List (Nat × Nat)), (rows.all (fun x => x.1 < 12))) ∧
    (∃ (s : State) (ch row : Nat), (ch < 12)) ∧
    (∃ (s : State) (ch addr : Nat) (c : UeContent), (ch < 12) ∧ (addr < 2 ^ 39)) ∧
    (∃ (s : State) (quad bank : Nat) (e : SramErr), (quad < 4) ∧ (bank < 48)) ∧
    (∃ (s : State) (quad bank block : Nat) (ok : Bool), (quad < 4) ∧ (bank < 48) ∧ (block < 256)) :=
  ⟨⟨memS2, 11, dimm0, dimm0, false, true, [], by decide +kernel⟩,
   ⟨memUp, [(11, 5), (0, 7)], by decide +kernel⟩,
   ⟨memUp, 11, 5, by decide +kernel⟩,
   ⟨memUp, 11, 549755813887, .complex, by decide +kernel⟩,
   ⟨State.reset, 3, 47, (.single 5), by decide +kernel⟩,
   ⟨memUp.setB MEM.BGT_CFG.EN, 3, 46, 255, true, by decide +kernel⟩⟩

/-- The premises of each clause of SlicesAndMemoryCommands can hold together. -/
theorem test_witness_SlicesAndMemoryCommands :
    (∃ (s : State) (slice : Nat), (slice < 4)) ∧
    (∃ (z : State) (p : Packet) (s : State), (Runs z p 0x1501) ∧ (s = z.begun p)) ∧
    (∃ (z : State) (p : Packet) (s : State), (Runs z p 0x1502) ∧ (s = z.begun p)) ∧
    (∃ (z : State) (p : Packet) (s : State), (Runs z p 0x9510) ∧ (s = z.begun p)) ∧
    (∃ (z : State) (p : Packet) (s : State), (Runs z p 0x1601) ∧ (s = z.begun p)) :=
  ⟨⟨State.reset.put MCC.STS.DRAINING 8, 3, by decide +kernel⟩,
   ⟨taken (pk 0x1501 112 []) (State.reset), pk 0x1501 112 [], (let z : State := taken (pk 0x1501 112 []) (State.reset); let p : Packet := pk 0x1501 112 []; z.begun p), by decide +kernel⟩,
   ⟨taken (pk 0x1502 112 []) (State.reset), pk 0x1502 112 [], (let z : State := taken (pk 0x1502 112 []) (State.reset); let p : Packet := pk 0x1502 112 []; z.begun p), by decide +kernel⟩,
   ⟨taken (pk 0x9510 112 [47, 1, 0, 0]) (sess State.reset), pk 0x9510 112 [47, 1, 0, 0], (let z : State := taken (pk 0x9510 112 [47, 1, 0, 0]) (sess State.reset); let p : Packet := pk 0x9510 112 [47, 1, 0, 0]; z.begun p), by decide +kernel⟩,
   ⟨taken (pk 0x1601 112 []) (State.reset), pk 0x1601 112 [], (let z : State := taken (pk 0x1601 112 []) (State.reset); let p : Packet := pk 0x1601 112 []; z.begun p), by decide +kernel⟩⟩

/-- The premises of each clause of UpdateCommands can hold together. -/
theorem test_witness_UpdateCommands :
    (∃ (z : State) (p : Packet) (s : State), (Runs z p 0x1801) ∧ (s = z.begun p)) ∧
    (∃ (z : State) (p : Packet) (s : State), (Runs z p 0x1802) ∧ (s = z.begun p)) ∧
    (∃ (z : State) (p : Packet) (s : State), (Runs z p 0x1803) ∧ (s = z.begun p)) ∧
    (∃ (z : State) (p : Packet) (s : State), (Runs z p 0x1804) ∧ (s = z.begun p)) ∧
    (∃ (z : State) (p : Packet) (s : State), (Runs z p 0x1805) ∧ (s = z.begun p)) ∧
    (∃ (z : State) (p : Packet) (s : State), (Runs z p 0x1806) ∧ (s = z.begun p)) ∧
    (∃ (z : State) (p : Packet) (s : State), (Runs z p 0x1807) ∧ (s = z.begun p)) ∧
    (∃ (z : State) (p : Packet) (s : State), (Runs z p 0x1808) ∧ (s = z.begun p)) ∧
    (∃ (z : State) (p : Packet) (s : State), (Runs z p 0x9810) ∧ (s = z.begun p)) :=
  ⟨⟨taken (pk 0x1801 0 []) (State.reset), pk 0x1801 0 [], (let z : State := taken (pk 0x1801 0 []) (State.reset); let p : Packet := pk 0x1801 0 []; z.begun p), by decide +kernel⟩,
   ⟨taken (pk 0x1802 0 hdr0) (State.reset), pk 0x1802 0 hdr0, (let z : State := taken (pk 0x1802 0 hdr0) (State.reset); let p : Packet := pk 0x1802 0 hdr0; z.begun p), by decide +kernel⟩,
   ⟨taken (pk 0x1803 0 [0, 0, 0, 0, 0, 0, 0, 0, 1, 2, 3, 4]) (updLd 1), pk 0x1803 0 [0, 0, 0, 0, 0, 0, 0, 0, 1, 2, 3, 4], (let z : State := taken (pk 0x1803 0 [0, 0, 0, 0, 0, 0, 0, 0, 1, 2, 3, 4]) (updLd 1); let p : Packet := pk 0x1803 0 [0, 0, 0, 0, 0, 0, 0, 0, 1, 2, 3, 4]; z.begun p), by decide +kernel⟩,
   ⟨taken (pk 0x1804 0 []) (updLd 1), pk 0x1804 0 [], (let z : State := taken (pk 0x1804 0 []) (updLd 1); let p : Packet := pk 0x1804 0 []; z.begun p), by decide +kernel⟩,
   ⟨taken (pk 0x1805 0 []) (updCapo), pk 0x1805 0 [], (let z : State := taken (pk 0x1805 0 []) (updCapo); let p : Packet := pk 0x1805 0 []; z.begun p), by decide +kernel⟩,
   ⟨taken (pk 0x1806 0 []) (updLd 2), pk 0x1806 0 [], (let z : State := taken (pk 0x1806 0 []) (updLd 2); let p : Packet := pk 0x1806 0 []; z.begun p), by decide +kernel⟩,
   ⟨taken (pk 0x1807 0 (List.replicate 88 0)) (State.reset), pk 0x1807 0 (List.replicate 88 0), (let z : State := taken (pk 0x1807 0 (List.replicate 88 0)) (State.reset); let p : Packet := pk 0x1807 0 (List.replicate 88 0); z.begun p), by decide +kernel⟩,
   ⟨taken (pk 0x1808 0 [0, 0, 0, 0]) (fl0), pk 0x1808 0 [0, 0, 0, 0], (let z : State := taken (pk 0x1808 0 [0, 0, 0, 0]) (fl0); let p : Packet := pk 0x1808 0 [0, 0, 0, 0]; z.begun p), by decide +kernel⟩,
   ⟨taken (pk 0x9810 0 (leBytes 4 (leNat (State.reset.nv.serial.take 4)))) (sess (updLd 2)), pk 0x9810 0 (leBytes 4 (leNat (State.reset.nv.serial.take 4))), (let z : State := taken (pk 0x9810 0 (leBytes 4 (leNat (State.reset.nv.serial.take 4)))) (sess (updLd 2)); let p : Packet := pk 0x9810 0 (leBytes 4 (leNat (State.reset.nv.serial.take 4))); z.begun p), by decide +kernel⟩⟩

end Sys2Proof.Tests
end

section
/-! PROOFS. The reset state shows itself in its live status fields (R9, R25, R54, R60), and the bits of a register
word that no field covers are zero (R8, R465). -/

namespace Sys2Proof.Machine

/-! ## The reset state -/

theorem State.reset_inRange : State.reset.inRange := by decide

/-- The reset state is one closed value, so the kernel reads every live field off it. -/
theorem State.reset_live : State.reset.live := by
  unfold State.live
  decide +kernel

/-- Settles O5. -/
theorem liveStatusAtReset : Obligations.LiveStatusAtReset :=
  ⟨State.reset_inRange, State.reset_live⟩

/-! ## The bits of a register word -/

/-- A field ends before another begins. -/
abbrev FDesc.Before (f g : FDesc) : Prop := f.lsb + f.width ≤ g.lsb

/-- The access table lists the fields of every register in rising bit order, without overlap. -/
theorem regTable_fields_before : ∀ d ∈ regTable, d.fields.Pairwise FDesc.Before := by decide +kernel

theorem RDesc.fieldsAt_before {d : RDesc} (n : Nat) (h : d.fields.Pairwise FDesc.Before) :
    (d.fieldsAt n).Pairwise FDesc.Before := by
  unfold RDesc.fieldsAt
  split
  · simp
  · exact h

theorem regAt_before {a : Nat} {fs : List FDesc} (h : regAt a = some fs) : fs.Pairwise FDesc.Before := by
  obtain ⟨d, hd, hinst⟩ := List.exists_of_findSome?_eq_some h
  obtain ⟨n, -, rfl⟩ := Option.map_eq_some_iff.mp hinst
  exact RDesc.fieldsAt_before n (regTable_fields_before d hd)

/-- The word that a list of fields makes when field f holds v f. -/
def fieldSum (v : FDesc → Nat) (fs : List FDesc) : Nat := (fs.map (fun f => v f * 2 ^ f.lsb)).sum

@[simp] theorem fieldSum_nil (v : FDesc → Nat) : fieldSum v [] = 0 := rfl

@[simp] theorem fieldSum_cons (v : FDesc → Nat) (f : FDesc) (fs : List FDesc) :
    fieldSum v (f :: fs) = v f * 2 ^ f.lsb + fieldSum v fs := rfl

theorem State.word_of_regAt_none (s : State) {a : Nat} (h : regAt a = none) : s.word a = 0 := by
  simp [State.word, h]

theorem State.word_of_regAt_some (s : State) {a : Nat} {fs : List FDesc} (h : regAt a = some fs) :
    s.word a = fieldSum (fun f => s.get (f.at_ a)) fs := by
  simp [State.word, h, fieldSum]

theorem two_pow_dvd_fieldSum (v : FDesc → Nat) {k : Nat} {fs : List FDesc} (h : ∀ f ∈ fs, k ≤ f.lsb) :
    2 ^ k ∣ fieldSum v fs := by
  induction fs with
  | nil => exact Nat.dvd_zero _
  | cons f fs ih =>
    obtain ⟨hf, hfs⟩ := List.forall_mem_cons.mp h
    exact Nat.dvd_add (Nat.dvd_mul_left_of_dvd (Nat.pow_dvd_pow 2 hf) _) (ih hfs)

/-- Below the end of a field a word has that field's bits alone, and from there on the bits of the fields above: the
fields' values, each within its width, never carry into one another. -/
theorem testBit_fieldSum_cons (v : FDesc → Nat) {f : FDesc} {fs : List FDesc} (hf : v f < 2 ^ f.width)
    (habove : ∀ g ∈ fs, f.Before g) (i : Nat) :
    (fieldSum v (f :: fs)).testBit i =
      if i < f.lsb + f.width then (v f * 2 ^ f.lsb).testBit i else (fieldSum v fs).testBit i := by
  obtain ⟨q, hq⟩ := two_pow_dvd_fieldSum v habove
  have hlow : v f * 2 ^ f.lsb < 2 ^ (f.lsb + f.width) := by
    rw [Nat.add_comm, Nat.pow_add]
    exact Nat.mul_lt_mul_of_pos_right hf (Nat.two_pow_pos _)
  rw [fieldSum_cons, hq, Nat.add_comm, Nat.testBit_two_pow_mul_add q hlow]
  split
  · rfl
  · next hi => simp [Nat.testBit_two_pow_mul, Nat.le_of_not_lt hi]

/-- A bit outside every field is clear, by induction on the fields from the lowest up. -/
theorem testBit_fieldSum_of_uncovered (v : FDesc → Nat) {fs : List FDesc} {i : Nat}
    (hord : fs.Pairwise FDesc.Before) (hfit : ∀ f ∈ fs, v f < 2 ^ f.width)
    (hout : ∀ f ∈ fs, ¬ (f.lsb ≤ i ∧ i < f.lsb + f.width)) : (fieldSum v fs).testBit i = false := by
  induction fs with
  | nil => simp
  | cons f fs ih =>
    obtain ⟨habove, hord⟩ := List.pairwise_cons.mp hord
    obtain ⟨hf, hfit⟩ := List.forall_mem_cons.mp hfit
    obtain ⟨hfo, hout⟩ := List.forall_mem_cons.mp hout
    rw [testBit_fieldSum_cons v hf habove]
    split
    · next hi =>
      have hlt : i < f.lsb := Nat.lt_of_not_le fun hle => hfo ⟨hle, hi⟩
      simp [Nat.testBit_mul_two_pow, Nat.not_le_of_lt hlt]
    · exact ih hord hfit hout

/-- Settles O22: the access table's fields do not overlap, so a register's word is its fields side by side. -/
theorem reservedBitsReadZero : Obligations.ReservedBitsReadZero := by
  intro s a i hfit hout
  cases h : regAt a with
  | none => simp [s.word_of_regAt_none h]
  | some fs =>
    rw [s.word_of_regAt_some h]
    exact testBit_fieldSum_of_uncovered _ (regAt_before h) (hfit fs h) (hout fs h)

end Sys2Proof.Machine
end

section
/-! PROOFS. What the feed monitor does (R41 to R44, R528). -/

namespace Sys2Proof.Machine

/-! ## Fields of a feed -/

@[simp] theorem VRange.ok_eq_wf (v : VRange) : v.ok = v.wf := rfl

@[simp] theorem State.feedState_putFeedState_same (s : State) (f : FeedId) (v : Nat) :
    (s.putFeedState f v).feedState f = v % 8 := by
  cases f <;> exact s.get_put_same _ _

@[simp] theorem State.feedState_putFeedState_other (s : State) (f : FeedId) (v : Nat) :
    (s.putFeedState f v).feedState f.other = s.feedState f.other := by
  cases f <;> exact s.get_put_ne _ _ _ (by decide)

@[simp] theorem State.feedState_put_active (s : State) (f : FeedId) (v : Nat) :
    (s.put PWR.FEED_STS.ACTIVE v).feedState f = s.feedState f := by
  cases f <;> exact s.get_put_ne _ _ _ (by decide)

/-- The state of a feed is a register field, so the feed's own record does not hold it. -/
@[simp] theorem State.feedState_setFeed (s : State) (f g : FeedId) (x : Feed) :
    (s.setFeed f x).feedState g = s.feedState g := by
  cases f <;> rfl

@[simp] theorem State.feedState_with_start (s : State) (f : FeedId) (x : Start) :
    ({ s with start := x } : State).feedState f = s.feedState f := rfl

@[simp] theorem State.feedState_enableActive (s : State) (f : FeedId) (t : Nat) :
    (s.enableActive f t).feedState f = fsActive := by
  unfold State.enableActive
  dsimp only
  split
  · rw [State.feedState_with_start, State.feedState_put_active, State.feedState_putFeedState_same]; rfl
  · rw [State.feedState_put_active, State.feedState_putFeedState_same]; rfl

/-- Feed A, good and ABSENT with no feed ACTIVE and B not good, is enabled; the pass over the second feeds then finds A
ACTIVE and B not good (R41). -/
theorem State.feedTick_enables_a (s : State) (hmay : s.mayEnable = true) (ha : s.feedState .a = fsAbsent)
    (hb : s.feedState .b ≠ fsActive) : s.feedTick true false = s.enableActive .a s.aon := by
  have hne : fsAbsent ≠ fsActive := by decide
  simp [State.feedTick, hmay, ha, hb, hne, hne.symm]

/-- Four samples outside the window fail a feed: one that carries or could carry the load is lost, one under verification
fails it (R42, R44). -/
theorem execFeedFailed_outside {s : State} {f : FeedId} {c1 c2 c3 c4 : Nat} (hwf : (FeedLoss.vsns c1 c2 c3 c4).wf = true)
    (h1 : s.inWindow c1 = false) (h2 : s.inWindow c2 = false) (h3 : s.inWindow c3 = false) (h4 : s.inWindow c4 = false) :
    execFeedFailed f (.vsns c1 c2 c3 c4) s =
      done (if s.feedState f = fsActive ∨ s.feedState f = fsStandby then s.feedLost f 1
        else if s.feedState f = fsVerifying then s.failVerify f 4 else s) := by
  unfold execFeedFailed
  dsimp only
  rw [okIf_true _ (show (codeOk c1 && codeOk c2 && codeOk c3 && codeOk c4) = true from hwf), if_neg (by simp [h1, h2, h3, h4])]

/-- Settles O23, one clause for each thing the feed monitor sees: a good tick, samples outside the window, the end of the
resynchronisation wait, PGOOD within its 50 ms and without it, and the first PGOOD of the active feed. That a feed reads
ACTIVE while it proves itself is the model's choice (log entry 28). -/
theorem feedsStartAndVerify : Obligations.FeedsStartAndVerify := by
  refine ⟨?tick, ?failed, ?resync, ?pgood, ?timeout, ?proved⟩
  case tick =>
    rintro s a b u rfl ha hb hmay hga hgb hsa hsb
    change okIf (a.ok && b.ok) (State.feedTick _ (State.stayed _ a) (State.stayed _ b)) = _
    rw [okIf_true _ (by simp [ha, hb]), hga, hgb, State.feedTick_enables_a _ hmay hsa hsb, done]
  case failed =>
    intro s f c1 c2 c3 c4 hwf h1 h2 h3 h4 hact
    exact (execFeedFailed_outside hwf h1 h2 h3 h4).trans (by rw [if_pos (.inl hact), done])
  case resync =>
    intro s f v hwf hfailed hgood hmay
    exact (okIf_true _ hwf).trans (by rw [if_pos ⟨hfailed, hgood, hmay⟩, done])
  case pgood =>
    intro s f v hwf hver hgood htime
    exact (okIf_true _ hwf).trans (by rw [if_pos ⟨hver, hgood, htime⟩, done])
  case timeout =>
    intro s f hver
    change done (if s.feedState f = fsVerifying then _ else _) = _
    rw [if_pos hver, done]
  case proved =>
    intro s f hact hproving htime
    change done (if s.feedState f = fsActive ∧ (s.feed f).proving ∧ _ then _ else s) = _
    rw [if_pos ⟨hact, hproving, htime⟩, done]

end Sys2Proof.Machine
end

section
/-! PROOFS. What the sprint budget, the power step, the thermal step and the thermal trip do (R56 to R61, R79). -/

namespace Sys2Proof.Machine

/-! ## What a loop, a record and a trip leave as they were -/

/-- What each step of a loop leaves as it was, the loop does. -/
theorem State.foldl_keeps {α β : Type} (g : State → β) {f : State → α → State} (hf : ∀ s a, g (f s a) = g s) (l : List α)
    (s : State) : g (l.foldl f s) = g s := by
  induction l generalizing s with
  | nil => rfl
  | cons a l ih => rw [List.foldl_cons, ih, hf]

theorem State.postRecord_pwr (s : State) (code loc res value : Nat) (data : List Byte) :
    (s.postRecord code loc res value data).pwr = s.pwr := by
  simp only [State.postRecord, apply_ite State.pwr, State.count_pwr, State.setB_pwr, ite_self]

theorem State.wallEpoch_pwr (s : State) : s.wallEpoch.pwr = s.pwr := by
  unfold State.wallEpoch
  dsimp only
  split
  · rfl
  · rw [State.postRecord_pwr]

@[simp] theorem State.record_pwr (s : State) (code loc res value : Nat) (data : List Byte) :
    (s.record code loc res value data).pwr = s.pwr := by
  rw [State.record, State.postRecord_pwr, State.wallEpoch_pwr]

@[simp] theorem State.trip_tripped (s : State) : s.trip.pwr.tripped = true := rfl
@[simp] theorem State.trip_feedA_en (s : State) : s.trip.pwr.feedA.en = false := rfl
@[simp] theorem State.trip_feedB_en (s : State) : s.trip.pwr.feedB.en = false := rfl
@[simp] theorem State.trip_thermStep (s : State) : s.trip.pwr.thermStep = s.pwr.thermStep := rfl

/-- A trip puts the lock bits of the four quadrant PLLs to 0, one after the other, and no other field (R79). -/
theorem State.trip_flds (s : State) :
    s.trip.flds = ([0, 1, 2, 3].foldl (fun (t : State) q => t.clrB (CLK.Qn_STS.LOCK q)) s).flds := rfl

theorem lock_bit_inj {p q : Nat} (h : (CLK.Qn_STS.LOCK p).bit = (CLK.Qn_STS.LOCK q).bit) : p = q := by
  simp only [CLK.Qn_STS.LOCK] at h
  omega

theorem State.get_clrLocks_of_ne {f : Fld} {qs : List Nat} (hf : ∀ q ∈ qs, (CLK.Qn_STS.LOCK q).bit ≠ f.bit) (s : State) :
    (qs.foldl (fun (t : State) q => t.clrB (CLK.Qn_STS.LOCK q)) s).get f = s.get f := by
  induction qs generalizing s with
  | nil => rfl
  | cons p qs ih =>
    obtain ⟨hp, hqs⟩ := List.forall_mem_cons.mp hf
    rw [List.foldl_cons, ih hqs, State.get_clrB_ne _ _ _ hp]

/-- Once cleared, a lock bit stays 0 while the others are cleared. -/
theorem State.get_clrLocks_lock {q : Nat} {qs : List Nat} (s : State) (h : q ∈ qs ∨ s.get (CLK.Qn_STS.LOCK q) = 0) :
    (qs.foldl (fun (t : State) q => t.clrB (CLK.Qn_STS.LOCK q)) s).get (CLK.Qn_STS.LOCK q) = 0 := by
  induction qs generalizing s with
  | nil => simpa using h
  | cons p qs ih =>
    by_cases hpq : p = q
    · subst hpq
      exact ih _ (.inr (s.get_clrB_same _))
    · refine ih _ (h.imp (fun hm => (List.mem_cons.mp hm).resolve_left (Ne.symm hpq)) fun h0 => ?_)
      rw [State.get_clrB_ne _ _ _ (fun hb => hpq (lock_bit_inj hb)), h0]

theorem State.trip_get {f : Fld} (s : State) (hf : ∀ q ∈ [0, 1, 2, 3], (CLK.Qn_STS.LOCK q).bit ≠ f.bit) :
    s.trip.get f = s.get f := by
  rw [State.get_congr _ _ f s.trip_flds, State.get_clrLocks_of_ne hf]

theorem State.trip_lock (s : State) {q : Nat} (hq : q < 4) : s.trip.get (CLK.Qn_STS.LOCK q) = 0 := by
  rw [State.get_congr _ _ _ s.trip_flds]
  exact State.get_clrLocks_lock s (.inl (by simp; omega))

theorem State.get_iff_trip {f : Fld} (s : State) (c : Bool) (hf : ∀ q ∈ [0, 1, 2, 3], (CLK.Qn_STS.LOCK q).bit ≠ f.bit) :
    (s.iff c State.trip).get f = s.get f := by
  cases c
  · rfl
  · exact s.trip_get hf

theorem State.iff_trip_thermStep (s : State) (c : Bool) : (s.iff c State.trip).pwr.thermStep = s.pwr.thermStep := by
  cases c <;> rfl

/-! ## The thermal step of a quadrant (R59) -/

/-- The rested condition of R59: 10 ms have passed since the quadrant's step last fell. -/
abbrev State.thermRested (s : State) (q : Nat) : Prop :=
  ∀ k, s.pwr.thermFell.getD q none = some k → k + 10 * Config.ms ≤ s.aon

/-- The thermal step of a quadrant after an update with these readings and this throttle threshold (R59). -/
def State.nextThermStep (s : State) (temps : List Nat) (thr q : Nat) : Nat :=
  if (quadTemps temps q).any (fun x => thr ≤ x) = true then min 15 (s.pwr.thermStep.getD q 0 + 1)
  else if (quadTemps temps q).all (fun x => x + 3 ≤ thr) = true ∧ s.thermRested q then s.pwr.thermStep.getD q 0 - 1
  else s.pwr.thermStep.getD q 0

/-- What an update does to one quadrant: the body of the model's loop. -/
def State.thermQuad (temps : List Nat) (thr : Nat) (s : State) (q : Nat) : State :=
  if (quadTemps temps q).any (fun t => thr ≤ t) then
    { s with pwr := { s.pwr with thermStep := s.pwr.thermStep.set q (min 15 (s.pwr.thermStep.getD q 0 + 1)) } }
  else if (quadTemps temps q).all (fun t => t + 3 ≤ thr) ∧ 0 < s.pwr.thermStep.getD q 0 ∧
      ((s.pwr.thermFell.getD q none).map (fun t => decide (t + 10 * Config.ms ≤ s.aon))).getD true then
    { s with pwr := { s.pwr with
      thermStep := s.pwr.thermStep.set q (s.pwr.thermStep.getD q 0 - 1), thermFell := s.pwr.thermFell.set q (some s.aon) } }
  else s

theorem getD_map_decide_iff {α : Type} (o : Option α) (p : α → Prop) [DecidablePred p] :
    (o.map (fun x => decide (p x))).getD true = true ↔ ∀ x, o = some x → p x := by
  cases o <;> simp

section
variable {temps : List Nat} {thr : Nat}

@[simp] theorem State.thermQuad_aon (s : State) (q : Nat) : (State.thermQuad temps thr s q).aon = s.aon := by
  simp only [State.thermQuad, apply_ite State.aon, ite_self]

@[simp] theorem State.thermQuad_length (s : State) (q : Nat) :
    (State.thermQuad temps thr s q).pwr.thermStep.length = s.pwr.thermStep.length := by
  unfold State.thermQuad
  split
  · simp
  · split <;> simp

/-- The quadrant that is updated takes its next step. -/
theorem State.thermQuad_step_same (s : State) {q : Nat} (hq : q < s.pwr.thermStep.length) :
    (State.thermQuad temps thr s q).pwr.thermStep.getD q 0 = s.nextThermStep temps thr q := by
  have hrest := getD_map_decide_iff (s.pwr.thermFell.getD q none) (fun t => t + 10 * Config.ms ≤ s.aon)
  unfold State.thermQuad State.nextThermStep
  split
  · simp [hq]
  · simp only [hrest]
    split
    · next hfall =>
      obtain ⟨hlow, -, hrested⟩ := hfall
      rw [if_pos ⟨hlow, hrested⟩]
      simp [hq]
    · next hstay =>
      split
      · next h =>
        have hzero : s.pwr.thermStep.getD q 0 = 0 := Nat.eq_zero_of_not_pos fun hpos => hstay ⟨h.1, hpos, h.2⟩
        rw [hzero]
      · rfl

/-- Every other quadrant keeps its step and the time of its last fall. -/
theorem State.thermQuad_other (s : State) {p q : Nat} (hpq : p ≠ q) :
    (State.thermQuad temps thr s p).pwr.thermStep.getD q 0 = s.pwr.thermStep.getD q 0 ∧
      (State.thermQuad temps thr s p).pwr.thermFell.getD q none = s.pwr.thermFell.getD q none := by
  unfold State.thermQuad
  split
  · simp [hpq]
  · split <;> simp [hpq]

theorem State.nextThermStep_thermQuad_of_ne (s : State) {p q : Nat} (hpq : p ≠ q) :
    (State.thermQuad temps thr s p).nextThermStep temps thr q = s.nextThermStep temps thr q := by
  obtain ⟨hstep, hfell⟩ := State.thermQuad_other (temps := temps) (thr := thr) s hpq
  simp only [State.nextThermStep, State.thermRested, hstep, hfell, State.thermQuad_aon]

/-- Quadrants are updated one after the other and none affects another: each that is in the list takes its next step. -/
theorem State.foldl_thermQuad_step {qs : List Nat} (hnd : qs.Nodup) (s : State) (hlen : ∀ q ∈ qs, q < s.pwr.thermStep.length)
    (q : Nat) : (qs.foldl (State.thermQuad temps thr) s).pwr.thermStep.getD q 0 =
      if q ∈ qs then s.nextThermStep temps thr q else s.pwr.thermStep.getD q 0 := by
  induction qs generalizing s with
  | nil => rfl
  | cons p qs ih =>
    obtain ⟨hp, hnd⟩ := List.nodup_cons.mp hnd
    obtain ⟨hplen, hlen⟩ := List.forall_mem_cons.mp hlen
    rw [List.foldl_cons, ih hnd _ (by rwa [State.thermQuad_length])]
    by_cases hpq : p = q
    · subst hpq
      rw [if_neg hp, State.thermQuad_step_same s hplen, if_pos List.mem_cons_self]
    · rw [State.nextThermStep_thermQuad_of_ne s hpq, (State.thermQuad_other s hpq).1]
      simp only [List.mem_cons, Ne.symm hpq, false_or]

end

/-! ## A thermal update and a trip (R59, R61) -/

/-- A sensor that has become warm sets WARN and is recorded: the body of the model's second loop. -/
def State.warnSensor (temps : List Nat) (s : State) (i : Nat) : State :=
  (s.setB PWR.THERM_STS.WARN).record 0x0204 0 i (temps.getD i 0) []

theorem State.warnSensor_pwr (temps : List Nat) (s : State) (i : Nat) : (State.warnSensor temps s i).pwr = s.pwr :=
  State.record_pwr _ _ _ _ _ _

/-- A thermal update with 20 readings, each within its width: the quadrants take their steps, the sensors that have become
warm are recorded, the highest reading and the heat of the spine are shown, and a reading of 112 °C or more trips. -/
theorem execThermalStepUpdate_readings {s u : State} {temps : List Nat} (hu : u = s.passTo (s.nextTick Config.ms))
    (hlen : temps.length = 20) (hwidth : temps.all (fun t => t < 256) = true) :
    ∃ (w : State) (hot : Nat),
      w.pwr.thermStep =
        ([0, 1, 2, 3].foldl (State.thermQuad temps (min 104 (u.get PWR.THERM_CFG.THROTTLE_C))) u).pwr.thermStep ∧
      execThermalStepUpdate temps s = done (((w.put PWR.THERM_STS.TJ_MAX_C (temps.foldl max 0)).put PWR.THERM_STS.SPINE_HOT hot).iff
        (temps.any (fun t => 112 ≤ t)) State.trip) := by
  have hwarn := fun t l => congrArg Pwr.thermStep (State.foldl_keeps State.pwr (State.warnSensor_pwr temps) l t)
  unfold execThermalStepUpdate
  rw [← hu]
  refine ⟨_, _, ?_, okIf_true _ (by rw [hlen, hwidth]; rfl)⟩
  exact hwarn _ _

/-- Settles O25, one clause for each update and one for the trip. Each update's state after the tick stays a name of its own
throughout, so that the arithmetic of the tick is not looked into. -/
theorem powerAndThermalSteps : Obligations.PowerAndThermalSteps := by
  refine ⟨?budget, ?power, ?thermal, ?trip⟩
  case budget =>
    rintro s avgW b u v hu rfl rfl
    change execSprintBudgetUpdate avgW s = _
    unfold execSprintBudgetUpdate
    rw [← hu]
    rfl
  case power =>
    intro s nowW avgW u hnow havg hu
    change execPowerStepUpdate nowW avgW s = _
    unfold execPowerStepUpdate
    dsimp only
    rw [← hu, okIf_true _ (by simp [hnow, havg]), done]
    by_cases hover : u.capNow < nowW * 1000
    · rw [if_pos hover, if_pos hover]
    by_cases hnear : u.capNow < nowW * 1000 + 5000
    · rw [if_neg hover, if_neg hover, if_pos hnear, if_neg (Nat.not_le_of_lt hnear)]
    · rw [if_neg hover, if_neg hover, if_neg hnear, if_pos (Nat.le_of_not_lt hnear)]
      split <;> rfl
  case thermal =>
    intro s temps u hlen hwidth hstep _ hu
    obtain ⟨w, hot, hw, hexec⟩ := execThermalStepUpdate_readings hu hlen hwidth
    have hpwr : u.pwr = s.pwr := by rw [hu, State.passTo_pwr]
    have hthr : u.get PWR.THERM_CFG.THROTTLE_C = s.get PWR.THERM_CFG.THROTTLE_C := by rw [hu, State.get_passTo]
    refine ⟨_, hexec, ?tj, ?trips, ?steps⟩
    case tj =>
      rw [State.get_iff_trip _ _ (by decide), State.get_put_ne _ _ _ _ (by decide), State.get_put_same]
      rfl
    case trips =>
      intro hhot
      rw [hhot]
      exact State.trip_tripped _
    case steps =>
      intro q hq
      rw [State.iff_trip_thermStep, State.put_pwr, State.put_pwr, hw, State.foldl_thermQuad_step (by decide) u
        (fun p hp => by rw [hpwr, hstep]; simp at hp; omega), if_pos (by simp; omega), hthr]
      simp only [State.nextThermStep, State.thermRested, hpwr]
  case trip =>
    intro s sensor tempC hsensor htrip hwidth
    refine ⟨s.trip, ?_, s.trip_tripped, s.trip_feedA_en, s.trip_feedB_en, fun q hq => s.trip_lock hq⟩
    change okIf (sensor < 20 && tempC < 256) (if tempC < 112 then s else s.trip) = _
    rw [okIf_true _ (by simp [hsensor, hwidth]), if_neg (Nat.not_lt_of_le htrip), done]

end Sys2Proof.Machine
end

section
/-! PROOFS. What the resets, the restart of the complex and the fall of the rails do (R41, R50, R83 to R88). -/

namespace Sys2Proof.Machine

/-! ## What reading the non-volatile state leaves as it was -/

/-- What a cold reset decides beside the register fields: the start, the power controller's state and the AON time. -/
def State.startPower (s : State) : Start × Pwr × Nat := (s.start, s.pwr, s.aon)

theorem State.startPower_eq_iff {s : State} {x : Start} {p : Pwr} {n : Nat} :
    s.startPower = (x, p, n) ↔ s.start = x ∧ s.pwr = p ∧ s.aon = n := by
  simp only [State.startPower, Prod.mk.injEq]

@[simp] theorem State.put_startPower (s : State) (f : Fld) (v : Nat) : (s.put f v).startPower = s.startPower := rfl
@[simp] theorem State.setSpare_startPower (s : State) (q : Nat) (x : Spare) : (s.setSpare q x).startPower = s.startPower := rfl
@[simp] theorem State.showRoots_startPower (s : State) : s.showRoots.startPower = s.startPower := rfl
@[simp] theorem State.showFuses_startPower (s : State) : s.showFuses.startPower = s.startPower := rfl
@[simp] theorem State.loadMedia_startPower (s : State) : s.loadMedia.startPower = s.startPower := rfl

theorem State.loadNv_startPower (s : State) : s.loadNv.startPower = s.startPower := by
  have hclmap : ∀ (q : Nat) (h : List Nat) (t : State),
      ((List.range 8).foldl (fun (s : State) k => s.put (SYS.CLMAP.C q k) (h.getD k k)) t).startPower = t.startPower :=
    fun q h => State.foldl_keeps State.startPower (fun t k => t.put_startPower _ _) _
  simp only [State.loadNv, State.loadMedia_startPower, State.showFuses_startPower, State.showRoots_startPower,
    State.put_startPower]
  rw [State.foldl_keeps State.startPower (fun t q => by simp only [State.setSpare_startPower, State.put_startPower, hclmap])]
  simp only [State.put_startPower]

/-! ## A cold reset (R41, R84) -/

/-- The cold base starts anew in all but the AON time and the POR_N and HOLDUP_OK pins. -/
theorem State.coldBase_startPower (s : State) :
    s.coldBase.startPower = ({}, { porN := s.pwr.porN, holdup := s.pwr.holdup }, s.aon) :=
  State.loadNv_startPower _

theorem State.iff_setB_startPower (s : State) (b : Bool) (f : Fld) : (s.iff b (·.setB f)).startPower = s.startPower := by
  cases b <;> rfl

theorem State.on_iff_setB_ne (s : State) (b : Bool) (f g : Fld) (h : f.bit ≠ g.bit) : (s.iff b (·.setB f)).on g = s.on g := by
  cases b
  · rfl
  · exact s.on_put_ne f g 1 h

theorem State.on_with_pwr (s : State) (x : Pwr) (f : Fld) : ({ s with pwr := x } : State).on f = s.on f := rfl

/-- A cold reset restarts the base, then limits the feeds: both stay off for 20 ms, and a trip stands unless it ends here. -/
theorem State.coldReset_startPower (s : State) (c : Fld) (ends : Bool) :
    (s.coldReset c ends).startPower =
      ({}, { porN := s.pwr.porN, holdup := s.pwr.holdup, tripped := s.pwr.tripped && !ends, holdUntil := s.aon + 20 * Config.ms },
        s.aon) := by
  have h : ((s.coldBase.setB c).iff s.pwr.tripped (·.setB SYS.RST_CAUSE.THERMTRIP)).startPower = s.coldBase.startPower := by
    rw [State.iff_setB_startPower, State.setB, State.put_startPower]
  obtain ⟨hstart, hpwr, haon⟩ := State.startPower_eq_iff.mp (h.trans s.coldBase_startPower)
  unfold State.coldReset
  dsimp only
  generalize (s.coldBase.setB c).iff s.pwr.tripped (·.setB SYS.RST_CAUSE.THERMTRIP) = t at *
  exact State.startPower_eq_iff.mpr ⟨hstart, by rw [hpwr, haon], haon⟩

theorem State.coldReset_on (s : State) {c : Fld} (ends : Bool) (hw : 0 < c.width) (hc : SYS.RST_CAUSE.THERMTRIP.bit ≠ c.bit) :
    (s.coldReset c ends).on c = true := by
  unfold State.coldReset
  dsimp only
  rw [State.on_with_pwr, State.on_iff_setB_ne _ _ _ _ hc, State.on, State.get_setB_same _ _ hw]
  rfl

/-! ## A write to SYS_RST_CTL (R83, R88) -/

theorem State.ctlWrite_permitted {s : State} {ident addr : Nat} {data : Word} {perm : List Nat} (f : State → State)
    (hr : s.reaches ident addr = true) (hp : perm.contains ident = true) : s.ctlWrite ident addr data perm f = f s := by
  unfold State.ctlWrite
  rw [if_neg (by simp [hr]), if_pos hp]

/-- A restart that is asked for runs only where no warm reset runs. -/
theorem State.mcRestart_where (s : State) (b : Bool) :
    (if b = true then s.mcRestart else s) =
      if b = true ∧ s.start.warm = .none then { s.holdComplex with cmd := { s.holdComplex.cmd with testDue := true } } else s := by
  cases b with
  | false => rw [if_neg Bool.false_ne_true, if_neg (fun h => Bool.false_ne_true h.1)]
  | true =>
    rw [if_pos rfl, State.mcRestart]
    by_cases hw : s.start.warm = .none
    · rw [if_pos hw, if_pos ⟨rfl, hw⟩]
    · rw [if_neg hw, if_neg (fun h => hw h.2)]

/-- The widest reset asked for runs; a warm reset and a restart only where no warm reset runs. -/
theorem State.rstCtl_permitted {s : State} {ident : Nat} (data : Word) (hr : s.reaches ident 0x48 = true)
    (hi : ident = 0 ∨ ident = 2 ∨ ident = 4 ∨ ident = 7) :
    s.rstCtl ident data =
      if data.toNat / 2 ^ 16 ≠ 0xA5C3 then s
      else if bitAt data.toNat 0 then s.coldReset SYS.RST_CAUSE.SELF_COLD false
      else if bitAt data.toNat 1 then (if s.start.warm = .none then s.beginWarm else s)
      else if bitAt data.toNat 2 = true ∧ s.start.warm = .none then
        { s.holdComplex with cmd := { s.holdComplex.cmd with testDue := true } }
      else s := by
  unfold State.rstCtl
  dsimp only
  rw [State.ctlWrite_permitted _ hr (by simpa using hi), State.mcRestart_where]

/-- Settles O28, one clause for each reset: VDD_AON, POR_N and its release, the cold reset they and a command start, the
three commands of SYS_RST_CTL, the end of a warm reset, the fall of the rails and its absence, TRST_N and the crystal. What a
commanded restart leaves to test and what the fall of the rails drops are the model's choices (log entries 14 and 17). -/
theorem resetsAndRestart : Obligations.ResetsAndRestart := by
  refine ⟨?vdd, ?por, ?coldReset, ?release, ?cold, ?warm, ?restart, ?warmEnd, ?rails, ?railsStay, ?trst, ?x32k⟩
  case vdd => exact fun _ _ => rfl
  case por =>
    intro s
    change execPorN s = _
    unfold execPorN
    generalize s.coldReset SYS.RST_CAUSE.POR_PIN true = t
    rfl
  case coldReset =>
    rintro s c ends t hc rfl
    obtain ⟨hstart, hpwr, haon⟩ := State.startPower_eq_iff.mp (s.coldReset_startPower c ends)
    have hon : (s.coldReset c ends).on c = true := by
      rcases hc with rfl | rfl
      · exact s.coldReset_on ends (by decide) (by decide)
      · exact s.coldReset_on ends (by decide) (by decide)
    rw [hstart, hpwr, haon]
    exact ⟨hon, rfl, rfl, rfl, rfl, rfl, rfl⟩
  case release => exact fun _ => rfl
  case cold => exact fun s ident data hr hi => congrArg done (State.rstCtl_permitted data hr hi)
  case warm => exact fun s ident data hr hi => congrArg done (State.rstCtl_permitted data hr hi)
  case restart => exact fun s ident data hr hi => congrArg done (State.rstCtl_permitted data hr hi)
  case warmEnd =>
    intro s
    change done (if s.start.warm = .dumping ∧ ¬ s.on FTL.DUMP_STS.RUN = true then s.warmBase else s) = _
    simp only [Bool.not_eq_true, done]
  case rails =>
    rintro s u v w ha hb hrails hu rfl rfl
    change execRailsFall s = _
    unfold execRailsFall
    dsimp only
    rw [if_pos ⟨ha, hb, hrails⟩, ← hu, done]
  case railsStay =>
    intro s h
    change execRailsFall s = _
    unfold execRailsFall
    dsimp only
    rw [if_neg, done]
    rintro ⟨⟨ha, ha'⟩, ⟨hb, hb'⟩, hr⟩
    rcases h with h | h | h | h | h
    · exact ha h
    · exact ha' h
    · exact hb h
    · exact hb' h
    · exact Bool.false_ne_true (h.symm.trans hr)
  case trst => exact fun _ => rfl
  case x32k => exact fun _ => rfl

end Sys2Proof.Machine
end

section
/-! PROOFS. On an empty queue a step lets a microsecond pass (R70). -/

namespace Sys2Proof.Machine

/-- Settles O2. That a step of an empty queue is a microsecond is the model's choice (log entry 4). -/
theorem emptyQueueIdles : Obligations.EmptyQueueIdles := by
  intro s hempty
  unfold step
  rw [hempty, done]

end Sys2Proof.Machine
end

section
/-! PROOFS. A packet that fails a check of the intake gets that check's answer and has no effect (R93, R97 to R99, R107,
R111, R112): first what sending leaves as it was in the command state, then the frame that every packet row runs in. -/

namespace Sys2Proof.Machine

/-! ## What sending leaves as it was in the command state -/

theorem State.iff_cmd (s : State) (b : Bool) {f : State → State} (hf : ∀ t, (f t).cmd = t.cmd) : (s.iff b f).cmd = s.cmd := by
  cases b
  · rfl
  · exact hf s

@[simp] theorem State.signal_cmd (s : State) (v : Nat) : (s.signal v).cmd = s.cmd := by
  unfold State.signal
  split
  · split <;> rfl
  · rfl

@[simp] theorem State.ethSend_cmd (s : State) (port sub prio : Nat) (x : EthTx) : (s.ethSend port sub prio x).cmd = s.cmd := by
  unfold State.ethSend
  dsimp only
  split
  · rfl
  · split <;> rfl

@[simp] theorem State.putOnPath_cmd (s : State) (c : Conn) (i : Nat) (p : VrmPkt) : (s.putOnPath c i p).cmd = s.cmd := by
  unfold State.putOnPath
  split
  · exact State.ethSend_cmd _ _ _ _ _
  · rfl

@[simp] theorem State.wantKey_cmd (s : State) (cl : Nat) (k : Nat × Nat × Nat × Nat) : (s.wantKey cl k).cmd = s.cmd := by
  unfold State.wantKey
  dsimp only
  split <;> rfl

@[simp] theorem State.wantSeal_cmd (s : State) (cl label gen : Nat) : (s.wantSeal cl label gen).cmd = s.cmd := by
  unfold State.wantSeal
  split
  · exact State.wantKey_cmd _ _ _
  · exact (State.wantKey_cmd _ _ _).trans (State.wantKey_cmd _ _ _)

@[simp] theorem State.sendOne_cmd (s : State) (id : Nat) : (s.sendOne id).cmd = s.cmd := by
  unfold State.sendOne
  split
  · split
    · rfl
    · split
      · rfl
      · split
        · split
          · exact State.wantSeal_cmd _ _ _ _
          · rfl
        · split
          · rfl
          · exact State.putOnPath_cmd _ _ _ _
  · rfl

@[simp] theorem State.resend_cmd (s : State) (id psn : Nat) : (s.resend id psn).cmd = s.cmd := by
  unfold State.resend
  split
  · rfl
  · split
    · rfl
    · split
      · rfl
      · exact State.putOnPath_cmd _ _ _ _

@[simp] theorem State.kick_cmd (s : State) (id : Nat) : (s.kick id).cmd = s.cmd := by
  unfold State.kick
  split
  · rfl
  · dsimp only
    rw [State.foldl_keeps State.cmd (fun t _ => t.sendOne_cmd id), State.foldl_keeps State.cmd (fun t u => t.resend_cmd id _)]

@[simp] theorem State.vrmSend_cmd (s : State) (id : Nat) (pkts : List VrmPkt) : (s.vrmSend id pkts).cmd = s.cmd := by
  unfold State.vrmSend
  split
  · split
    · rfl
    · exact State.kick_cmd _ _
  · rfl

@[simp] theorem State.newXfer_cmd (s : State) (id : Nat) : (s.newXfer id).2.cmd = s.cmd := by
  unfold State.newXfer
  split <;> rfl

@[simp] theorem State.sendNotices_cmd (s : State) (id : Nat) : (s.sendNotices id).cmd = s.cmd := by
  unfold State.sendNotices
  split
  · rfl
  · dsimp only
    rw [State.foldl_keeps State.cmd (fun t n => t.vrmSend_cmd id _)]
    rfl

@[simp] theorem State.signalCq_cmd (s : State) (qpid : Nat) : (s.signalCq qpid).cmd = s.cmd := by
  unfold State.signalCq
  dsimp only
  split
  · rfl
  · split
    · exact State.signal_cmd _ _
    · split
      · rfl
      · exact State.sendNotices_cmd _ _

@[simp] theorem State.coalesce_cmd (s : State) (qpid status : Nat) : (s.coalesce qpid status).cmd = s.cmd := by
  unfold State.coalesce
  dsimp only
  split
  · rfl
  · split
    · exact State.signalCq_cmd _ _
    · split
      · exact State.signalCq_cmd _ _
      · rfl

@[simp] theorem State.sendCqe_cmd (s : State) (b : QpBind) (c : Completion) (data : List VrmPkt) :
    (s.sendCqe b c data).cmd = s.cmd := by
  unfold State.sendCqe
  split
  · rfl
  · split
    · rfl
    · split
      · rfl
      · exact (State.vrmSend_cmd _ _ _).trans (State.newXfer_cmd s b.conn)

@[simp] theorem State.postCqeData_cmd (s : State) (qpid cid status result : Nat) (recovered : Bool) (data : List VrmPkt) :
    (s.postCqeData qpid cid status result recovered data).cmd = s.cmd := by
  unfold State.postCqeData
  dsimp only
  split
  · rfl
  · split
    · rfl
    · split
      · rfl
      · exact (State.coalesce_cmd _ _ _).trans (State.sendCqe_cmd _ _ _ _)

@[simp] theorem State.sendInband_cmd (s : State) (r : Reply) (qpid slot : Nat) : (s.sendInband r qpid slot).cmd = s.cmd := by
  unfold State.sendInband
  split
  · split
    · exact State.postCqeData_cmd _ _ _ _ _ _ _
    · exact State.postCqeData_cmd _ _ _ _ _ _ _
  · rfl

/-! ## Replies (R109, R125) -/

@[simp] theorem State.notifyIdent_cmd (s : State) (ident ch vec : Nat) : (s.notifyIdent ident ch vec).cmd = s.cmd := by
  unfold State.notifyIdent
  split
  · exact State.signal_cmd _ _
  · split <;> rfl

@[simp] theorem State.notifyBits_cmd (s : State) (ch bits : Nat) : (s.notifyBits ch bits).cmd = s.cmd := by
  unfold State.notifyBits
  dsimp only
  rw [State.iff_cmd, State.iff_cmd]
  · exact fun t => State.notifyIdent_cmd _ _ _ _
  · intro t
    split
    · rfl
    · exact State.notifyIdent_cmd _ _ _ _

@[simp] theorem State.ring_cmd (s : State) (ch bits : Nat) : (s.ring ch bits).cmd = s.cmd := State.notifyBits_cmd _ _ _

@[simp] theorem State.pump_taken (s : State) (ch : Nat) : (s.pump ch).cmd.taken = s.cmd.taken := by
  unfold State.pump
  split
  · rfl
  · split
    · rfl
    · simp only [State.writeReply, State.fillSlot, State.emit_cmd, State.ring_cmd, State.setB_cmd]

/-- Sending a reply changes no command that is taken: it goes into a slot or a completion ring, or waits among those held. -/
@[simp] theorem State.replyTo_taken (s : State) (p : Packet) (st d : Nat) (data : List Byte) :
    (s.replyTo p st d data).cmd.taken = s.cmd.taken := by
  unfold State.replyTo State.sendReply
  split
  · exact State.pump_taken _ _
  · rw [State.sendInband_cmd]

/-! ## The frame of the packet rows (R95, R97) -/

/-- A row of the table runs its packets under one opcode of the table, which every well-formed packet of the row carries, with a
body of its own. -/
def RunsAs (f : Packet → Instr) (op : Nat) : Prop :=
  (opSpec op).isSome = true ∧
    ∀ p, ((f p).wf = true → p.opcode = op) ∧ ∃ body, ∀ s, exec (f p) s = runCmd op p s body

theorem RunsAs.of_body {f : Packet → Instr} {op : Nat} (body : Packet → State → Res)
    (hexec : ∀ p s, exec (f p) s = runCmd op p s (body p)) (hwf : ∀ p, (f p).wf = decide (p.opcode = op))
    (hop : (opSpec op).isSome = true) : RunsAs f op :=
  ⟨hop, fun p => ⟨fun h => of_decide_eq_true ((hwf p).symm.trans h), body p, hexec p⟩⟩

/-- Each packet row's meaning is the frame of a command's execution around its own body (R95). -/
theorem PacketRow.runsAs {f : Packet → Instr} (h : PacketRow f) : ∃ op, RunsAs f op := by
  unfold PacketRow at h
  repeat
    rcases h with rfl | h
    · exact ⟨_, .of_body _ (fun _ _ => rfl) (fun _ => rfl) rfl⟩
  rcases h with ⟨ok, rfl⟩ | h
  · exact ⟨_, .of_body _ (fun _ _ => rfl) (fun _ => rfl) rfl⟩
  repeat
    rcases h with rfl | h
    · exact ⟨_, .of_body _ (fun _ _ => rfl) (fun _ => rfl) rfl⟩

/-- A packet that is not taken yet, that the intake engine looks at and that fails a check gets that check's answer (R97). -/
theorem State.intake_of_check {s : State} {p : Packet} {st d : Nat} (htaken : s.isTaken p = false)
    (hpaused : s.intakePaused = false) (hroom : s.roomFor p = true) (hcheck : s.checkPacket p = some (st, d)) :
    s.intake p = s.replyTo p st d [] := by
  have hback : s.holdsBack p = false := by simp [State.holdsBack, hcheck]
  simp only [State.intake, State.arrive, State.admitPkt, htaken, hpaused, hback, hroom, hcheck]
  rfl

/-- A packet that is not taken after the intake has dealt with it does not execute. -/
theorem runCmd_untaken {op : Nat} {p : Packet} {s : State} (body : State → Res) (hop : (opSpec op).isSome = true)
    (hp : p.opcode = op) (h : (s.intake p).isTaken p = false) : runCmd op p s body = done (s.intake p) := by
  obtain ⟨o, ho⟩ := Option.isSome_iff_exists.mp hop
  simp [runCmd, ho, hp, h]

/-- Settles O7: every packet row runs in the same frame, whose intake answers the first failing check; the reply leaves the
packet untaken, so that nothing executes. The order of the checks beyond R97 is the model's choice (log entry 11). -/
theorem firstFailedCheckAnswered : Obligations.FirstFailedCheckAnswered := by
  intro f hrow s p st d hwf htaken hpaused hroom hcheck
  obtain ⟨op, hop, hrow⟩ := hrow.runsAs
  obtain ⟨hopcode, body, hexec⟩ := hrow p
  have hkeep := s.replyTo_taken p st d []
  have hintake := State.intake_of_check htaken hpaused hroom hcheck
  have hstill : (s.intake p).isTaken p = false := by
    rw [hintake, State.isTaken, hkeep]
    exact htaken
  refine ⟨?_, hkeep⟩
  rw [hexec, runCmd_untaken body hop (hopcode hwf) hstill, hintake, done]

end Sys2Proof.Machine
end

section
/-! PROOFS. The stages of a start, the migration of the settings and a dead head (R67 to R94). -/

namespace Sys2Proof.Machine

/-! ## The start line (R529) -/

theorem State.on_setB_ne (s : State) (f g : Fld) (h : f.bit ≠ g.bit) : (s.setB f).on g = s.on g := s.on_put_ne f g 1 h

/-- A register's word sees its own fields only. -/
theorem State.word_put_ne (s : State) {f : Fld} {a : Nat} (v : Nat) (h : ∀ g ∈ (regAt a).getD [], f.bit ≠ (g.at_ a).bit) :
    (s.put f v).word a = s.word a := by
  unfold State.word
  cases hfs : regAt a with
  | none => rfl
  | some fs =>
    rw [hfs] at h
    exact congrArg List.sum (List.map_congr_left fun g hg => by rw [s.get_put_ne f _ v (h g hg)])

/-- Whether the image is valid depends on the non-volatile state and on SYS_ID. -/
theorem State.imageValid_setB_ref100 (s : State) : (s.setB CLK.REF_STS.REF100_OK).imageValid = s.imageValid := by
  have hid : (s.setB CLK.REF_STS.REF100_OK).word 0 = s.word 0 := s.word_put_ne 1 (by decide)
  have htype : ∀ im, (s.setB CLK.REF_STS.REF100_OK).typeFits im = s.typeFits im := fun im => by
    simp only [State.typeFits, hid, State.setB_nv]
  unfold State.imageValid
  dsimp only
  rw [htype]
  rfl

theorem State.startLine_setB_ref100 (s : State) : (s.setB CLK.REF_STS.REF100_OK).startLine = s.startLine := by
  have hget : ∀ g : Fld, CLK.REF_STS.REF100_OK.bit ≠ g.bit → (s.setB CLK.REF_STS.REF100_OK).get g = s.get g :=
    fun g h => s.get_setB_ne _ g h
  unfold State.startLine
  rw [hget _ (by decide), hget _ (by decide), hget _ (by decide), s.imageValid_setB_ref100, s.on_setB_ne _ _ (by decide)]
  rfl

/-! ## STAGE_S0 (R67, R71, R92, R94) -/

/-- The head is at S0, and BOOT_MODE has been read since the last cold reset. -/
def State.booted (s : State) (bootMode : Nat) : State :=
  { s with start := { s.start with
    reached := 1, s0At := s.aon, bootMode := if s.start.bootRead then s.start.bootMode else min 1 bootMode, bootRead := true } }

/-- The reference clock is found and the start line goes out. -/
def State.announced (s : State) : State := (s.setB CLK.REF_STS.REF100_OK).emit (uartLine s.startLine)

theorem execStageS0_starts {s : State} {bootMode : Nat} (hboot : bootMode < 4) (hbase : s.start.base.isSome = true)
    (hreached : s.start.reached = 0) (hpow : s.powered = true) :
    execStageS0 bootMode s =
      done (if (s.takeRegion.booted bootMode).announced.imageValid then (s.takeRegion.booted bootMode).announced
        else (s.takeRegion.booted bootMode).announced.die 1) := by
  obtain ⟨t, ht⟩ := Option.isSome_iff_exists.mp hbase
  have hgo : ¬ (s.start.reached ≠ 0 ∨ ¬ s.powered = true) := by simp [hreached, hpow]
  unfold execStageS0
  rw [okIf_true _ (decide_eq_true hboot), ht]
  exact congrArg done (if_neg hgo)

/-! ## Settings migration (R89 to R91) -/

/-- The firmware of a living head at S1 is about to read its settings. -/
abbrev State.awaitsSettings (s : State) : Prop :=
  s.start.reached = 2 ∧ ¬ s.start.settingsApplied = true ∧ ¬ s.on SYS.START_STS.DEAD = true ∧ ¬ s.cmd.inReset = true ∧
    ¬ s.on SYS.START_STS.CFG_NEWER = true

theorem State.awaitsSettings_of {s : State} (hreached : s.start.reached = 2) (happlied : s.start.settingsApplied = false)
    (hdead : s.on SYS.START_STS.DEAD = false) (hrun : s.cmd.inReset = false) (hheld : s.on SYS.START_STS.CFG_NEWER = false) :
    s.awaitsSettings :=
  ⟨hreached, by simp [happlied], by simp [hdead], by simp [hrun], by simp [hheld]⟩

/-- The firmware has its settings: from the slot that is current, the events' and the other chapters'. -/
def State.settingsLoaded (s : State) : State :=
  State.loadSettings { s.loadStored.loadEvents with start := { s.loadStored.loadEvents.start with settingsApplied := true } }

section
variable {s : State} {ok : Bool} {sl : Slot}

/-- A newer format holds the head at S1 (R91). -/
theorem execSettingsMigration_newer (h : s.awaitsSettings) (hsl : sl = s.slot s.curSlot)
    (hnewer : sl.valid = true ∧ s.nv.image.format < sl.format) :
    execSettingsMigration ok s = done (s.setB SYS.START_STS.CFG_NEWER).firmwareRuns.showSlot := by
  subst hsl
  exact congrArg done ((if_pos h).trans (if_pos hnewer))

/-- The image's own format, or no valid slot: the settings are loaded and applied (R89). -/
theorem execSettingsMigration_same (h : s.awaitsSettings) (hsl : sl = s.slot s.curSlot)
    (hsame : sl.valid = false ∨ sl.format = s.nv.image.format) :
    execSettingsMigration ok s = done s.firmwareRuns.showSlot.settingsLoaded := by
  have hnot : ¬ (sl.valid = true ∧ s.nv.image.format < sl.format) := by
    rcases hsame with h | h
    · simp [h]
    · simp [h]
  have hold : (sl.valid && decide (sl.format < s.nv.image.format)) = false := by
    rcases hsame with h | h
    · simp [h]
    · simp [h]
  unfold execSettingsMigration
  rw [if_pos h, ← hsl]
  refine congrArg done ((if_neg hnot).trans ?_)
  rw [State.settingsLoaded]
  simp only [hold, Bool.false_eq_true, ↓reduceIte, Bool.false_and]

/-- An older format is written to the other slot first, and applied once it has read back intact (R89). -/
theorem execSettingsMigration_older {u v : State} (h : s.awaitsSettings) (hsl : sl = s.slot s.curSlot)
    (holder : sl.valid = true ∧ sl.format < s.nv.image.format)
    (hu : u = (s.writeSlot s.nv.image.format sl.recs ok).firmwareRuns.showSlot) (hv : v = u.settingsLoaded) :
    execSettingsMigration ok s = done (if ok then v.record 0x1806 0 v.nv.image.format 0 [] else u) := by
  have hnot : ¬ (sl.valid = true ∧ s.nv.image.format < sl.format) := fun h => Nat.lt_asymm h.2 holder.2
  have hold : (sl.valid && decide (sl.format < s.nv.image.format)) = true := by simp [holder]
  unfold execSettingsMigration
  rw [if_pos h, ← hsl]
  refine congrArg done ((if_neg hnot).trans ?_)
  rw [State.settingsLoaded] at hv
  simp only [hold, ↓reduceIte, Bool.true_and, ← hu]
  rw [← hv]
  cases ok
  · rfl
  · rfl

end

/-- Settles O29, one clause for each stage, each kind of migration, and each deadline of a start. -/
theorem stagedStart : Obligations.StagedStart := by
  refine ⟨?s0, ?s1, ?newer, ?same, ?older, ?s2, ?s3, ?deadline, ?dead, ?deadLine⟩
  case s0 =>
    intro s bootMode mode u v w hboot hbase hreached hpow hu hmode hv hw
    have hv' : v = (s.takeRegion.booted bootMode).setB CLK.REF_STS.REF100_OK := by rw [hv, hmode, hu]; rfl
    rw [hv', State.startLine_setB_ref100] at hw
    rw [hw]
    exact execStageS0_starts hboot hbase hreached hpow
  case s1 =>
    intro s bad tb hbad hreached hmode hdead hpow hrails htb
    change execStageS1 bad s = _
    unfold execStageS1
    rw [okIf_true _ hbad, if_pos ⟨hreached, hmode, by simp [hdead], hpow, hrails⟩, ← htb]
    rfl
  case newer =>
    intro s ok sl hreached happlied hdead hrun hheld hsl hnewer
    exact execSettingsMigration_newer (State.awaitsSettings_of hreached happlied hdead hrun hheld) hsl hnewer
  case same =>
    intro s ok sl u hreached happlied hdead hrun hheld hsl hsame hu
    rw [hu]
    exact execSettingsMigration_same (State.awaitsSettings_of hreached happlied hdead hrun hheld) hsl hsame
  case older =>
    intro s ok sl u v hreached happlied hdead hrun hheld hsl holder hu hv
    exact execSettingsMigration_older (State.awaitsSettings_of hreached happlied hdead hrun hheld) hsl holder hu hv
  case s2 =>
    intro s q u hreached happlied hrun hdead hload hpow hddr hdump hq hu
    change execStageS2 s = _
    unfold execStageS2
    rw [if_pos ⟨hreached, happlied, hrun, by simp [hdead], by simp [hload], hpow, hddr, by simpa using hdump⟩, hq, hu]
    rfl
  case s3 =>
    intro s u v hreached hdead hpow hmap hpartner hu hv
    change execStageS3 s = _
    unfold execStageS3
    rw [if_pos ⟨hreached, by simp [hdead], hpow, hmap, hpartner⟩, hv, hu]
    rfl
  case deadline =>
    intro s t u hbase hu
    change execStartDeadline s = _
    unfold execStartDeadline
    rw [hbase, hu]
    rfl
  case dead =>
    intro s
    change execDeadHead s = _
    simp only [execDeadHead, Bool.not_eq_true, done]
  case deadLine =>
    intro s u hdead hu
    change execDeadLineRepeat s = _
    unfold execDeadLineRepeat
    rw [if_pos hdead, hu]
    rfl

end Sys2Proof.Machine
end

section
/-! PROOFS. PING, the health reads, RESET, SETTINGS_RESET and the session commands (R85, R102, R105, R106, R116). -/

namespace Sys2Proof.Machine

/-- A packet that runs is answered with the status, DETAIL and data of its body. -/
theorem runCmd_answers {op : Nat} {o : OpSpec} {p : Packet} {z t : State} {body : State → Res} {st d : Nat} {data : List Byte}
    (ho : opSpec op = some o) (h : Runs z p op)
    (hbody : body (z.begun p) = { st := t, status := st, detail := d, data := data }) :
    runCmd op p z body = done (t.answer p st d data) := by
  rw [runCmd_runs op o p z body ho h (by rw [hbody]), hbody]
  dsimp only
  rw [ite_self, id]

/-- What follows a command that succeeds comes after its reply. -/
theorem runCmd_then {op : Nat} {o : OpSpec} {p : Packet} {z t : State} {body : State → Res} {g : State → State}
    (ho : opSpec op = some o) (h : Runs z p op) (hbody : body (z.begun p) = { st := t, after := g }) :
    runCmd op p z body = done (g (t.answer p 0 0 [])) := by
  rw [runCmd_runs op o p z body ho h (by rw [hbody]), hbody]
  rfl

/-! ## A rejected proof (R106) -/

theorem State.rejectProof_eq (s : State) (x : Session) :
    s.rejectProof x =
      if 2 ≤ x.fails then
        { st := { s.endSession x.handle with cmd := { (s.endSession x.handle).cmd with
            barred := (x.owner, s.aon + 60 * Config.sec) :: s.cmd.barred } }, status := 0x000C }
      else { st := s.putSession { x with fails := x.fails + 1 }, status := 0x000C, detail := 3 - (x.fails + 1) } := by
  unfold State.rejectProof
  simp only [show 3 ≤ x.fails + 1 ↔ 2 ≤ x.fails by omega]
  rfl

/-- A rejected proof is answered at once and without data. -/
theorem State.rejectProof_reply (s : State) (x : Session) :
    s.rejectProof x =
      { st := (s.rejectProof x).st, status := (s.rejectProof x).status, detail := (s.rejectProof x).detail, data := [] } := by
  rw [State.rejectProof_eq]
  split
  · rfl
  · rfl

/-! ## EXPERT_UNLOCK (R106) -/

/-- The first of the three bytes behind the key's number that is not zero. -/
theorem expertUnlock_rsvd (p : Packet) :
    (List.range 3).find? (fun i => p.u8 (1 + i) ≠ 0) =
      if p.u8 1 ≠ 0 then some 0 else if p.u8 2 ≠ 0 then some 1 else if p.u8 3 ≠ 0 then some 2 else none := by
  simp only [show List.range 3 = [0, 1, 2] from rfl, List.find?]
  by_cases h1 : p.u8 1 = 0
  · by_cases h2 : p.u8 2 = 0
    · by_cases h3 : p.u8 3 = 0
      · simp [h1, h2, h3]
      · simp [h1, h2, h3]
    · simp [h1, h2]
  · simp [h1]

/-- Settles O31, one clause for each row and outcome. The order of GET_LOAD, what a proof does to the nonce, that a key of zeros
is no key, and the serial's low bytes are the model's choices (log entries 15, 16, 130 and 157). -/
theorem healthAndSessionCommands : Obligations.HealthAndSessionCommands := by
  refine ⟨?ping, ?status, ?health, ?ident, ?load, ?reset, ?settings, ?barred, ?busy, ?opened, ?close, ?unlock, ?badParam,
    ?noSession, State.rejectProof_eq, fun _ _ => ?expire⟩
  case ping =>
    rintro z p s h rfl
    exact runCmd_answers rfl h rfl
  case status =>
    rintro z p s h rfl
    exact runCmd_answers rfl h rfl
  case health =>
    rintro z p s h rfl
    exact runCmd_answers rfl h rfl
  case ident =>
    rintro z p s h rfl
    exact runCmd_answers rfl h rfl
  case load =>
    rintro z p s h rfl
    exact runCmd_answers rfl h rfl
  case reset =>
    rintro z p s h rfl
    by_cases h1 : p.u32 0 = 1
    · rw [if_pos h1]
      exact runCmd_then (g := fun s => if s.start.warm = .none then s.beginWarm else s) rfl h (if_pos h1)
    by_cases h2 : p.u32 0 = 2
    · rw [if_neg h1, if_pos h2]
      exact runCmd_then rfl h ((if_neg h1).trans (if_pos h2))
    · rw [if_neg h1, if_neg h2]
      exact runCmd_answers rfl h ((if_neg h1).trans (if_neg h2))
  case settings =>
    rintro z p s h rfl
    by_cases hserial : p.u32 0 = leNat ((z.begun p).nv.serial.take 4)
    · rw [if_pos hserial]
      exact runCmd_answers rfl h (if_neg (fun h => h hserial))
    · rw [if_neg hserial]
      exact runCmd_answers rfl h (if_pos hserial)
  case barred =>
    rintro z p s h rfl hbarred
    exact runCmd_answers rfl h (if_pos hbarred)
  case busy =>
    rintro z p s first h rfl hfree hfull rfl
    exact runCmd_answers rfl h ((if_neg (ne_true_of_eq_false hfree)).trans (if_pos hfull))
  case opened =>
    rintro z p s h rfl hfree hroom
    exact ⟨_, _, rfl, rfl, runCmd_answers rfl h ((if_neg (ne_true_of_eq_false hfree)).trans (if_neg (Nat.not_le.mpr hroom)))⟩
  case close =>
    rintro z p s h rfl
    cases hx : (z.begun p).session p with
    | none => exact runCmd_answers rfl h (by rw [hx]; rfl)
    | some x => exact runCmd_answers rfl h (by rw [hx])
  case unlock =>
    intro z p s x key h hs hx hkey h1 h2 h3 hk
    subst hs
    have hrsvd : (List.range 3).find? (fun i => p.u8 (1 + i) ≠ 0) = none := by
      rw [expertUnlock_rsvd, if_neg (fun h => h h1), if_neg (fun h => h h2), if_neg (fun h => h h3)]
    by_cases hgood : (key.map (fun k => Config.ecdsaP256 k (x.nonce ++ slice (z.begun p).nv.serial 0 16 ++ leBytes 4 x.handle ++
        leBytes 1 p.ident) (slice p.params 4 64))).getD false = true ∧ x.nonceUsed = false
    · rw [if_pos hgood]
      refine runCmd_answers rfl h ?_
      rw [hx]
      refine (if_neg (Nat.not_lt.mpr hkey)).trans ?_
      rw [hrsvd, ← hk]
      exact if_pos (by simpa using hgood)
    · rw [if_neg hgood]
      refine runCmd_answers rfl h ?_
      rw [hx]
      refine (if_neg (Nat.not_lt.mpr hkey)).trans ?_
      rw [hrsvd, ← hk]
      exact (if_neg (by simpa using hgood)).trans (State.rejectProof_reply _ x)
  case badParam =>
    rintro z p s x h rfl hx hbad
    refine runCmd_answers rfl h ?_
    rw [hx]
    by_cases hkey : 7 < p.u8 0
    · rw [if_pos hkey]
      exact if_pos hkey
    rw [if_neg hkey]
    refine (if_neg hkey).trans ?_
    rw [expertUnlock_rsvd]
    by_cases h1 : p.u8 1 ≠ 0
    · rw [if_pos h1, if_pos h1]
      rfl
    rw [if_neg h1, if_neg h1]
    by_cases h2 : p.u8 2 ≠ 0
    · rw [if_pos h2, if_pos h2]
      rfl
    rw [if_neg h2, if_neg h2]
    by_cases h3 : p.u8 3 ≠ 0
    · rw [if_pos h3]
      rfl
    · exact (hbad.elim hkey (·.elim h1 (·.elim h2 h3))).elim
  case noSession =>
    rintro z p s h rfl hx
    exact runCmd_answers rfl h (by rw [hx]; rfl)
  case expire => rfl

end Sys2Proof.Machine
end

section
/-! PROOFS. Configuration and MSI-X writes, upstream completions, errors, resets and the link of the endpoint (R80, R461 to R477,
R531). -/

namespace Sys2Proof.Machine

/-- Settles O35, one clause for each row and outcome. Where the PCI family puts the bits of a register that the spec names but
does not place is the model's choice (log entry 7). -/
theorem endpointAndUpstreamReads : Obligations.EndpointAndUpstreamReads := by
  refine ⟨?cfg, ?cfgIdle, ?msix, ?stray, ?reply, ?timeout, ?error, fun _ => rfl, fun _ => rfl, fun _ => rfl, ?release, ?up,
    ?down, ?status⟩
  case cfg =>
    intro s addr be data old new v halign haddr hbe hready hlink hold hnew hv
    have hgo : ¬ (¬ s.pci.ready = true ∨ ¬ s.pci.linkUp = true) := by simp [hready, hlink]
    rw [hv, hnew, hold]
    refine (okIf_true _ (by simp [halign, haddr, hbe])).trans (congrArg done ((if_neg hgo).trans ?_))
    rfl
  case cfgIdle =>
    intro s addr be data halign haddr hbe hidle
    refine (okIf_true _ (by simp [halign, haddr, hbe])).trans (congrArg done (if_pos ?_))
    simpa using hidle
  case msix =>
    intro s addr data e x halign haddr he hx
    refine (okIf_true _ (by simp [halign, haddr])).trans (congrArg done ?_)
    rw [hx, he]
    by_cases h : s.hostReaches = true ∧ addr < 0x8000
    · rw [if_pos h]
      exact if_neg (by simpa using h)
    · rw [if_neg h]
      exact if_pos (by simpa only [Decidable.not_and_iff_not_or_not, Nat.not_lt] using h)
  case stray =>
    intro s tag st data hnone
    change execCompletionReceive tag st data s = _
    unfold execCompletionReceive
    rw [hnone]
    rfl
  case reply =>
    intro s tag st data r hr
    change execCompletionReceive tag st data s = _
    unfold execCompletionReceive
    rw [hr]
    cases st with
    | ok => simp only [Bool.not_eq_true, done]
    | unsupported => rfl
    | aborted => rfl
    | poisoned => rfl
  case timeout =>
    intro s tag t r hr ht
    change execCompletionTimeout tag s = _
    unfold execCompletionTimeout
    rw [hr, ht]
    rfl
  case error =>
    intro s err
    change execPcieError err s = _
    unfold execPcieError
    cases err.uncorrBit with
    | none => rfl
    | some bit => simp only [State.iff, decide_eq_true_eq, done]
  case release => exact fun _ => rfl
  case up =>
    intro s speed width flit hspeed hwidth hflit
    obtain ⟨hs1, hs6⟩ := hspeed
    obtain ⟨hw1, hw5⟩ := hwidth
    have hflit' : speed ≠ 6 ∨ flit = true := (Decidable.em (speed = 6)).elim (fun h => .inr (hflit h)) .inl
    refine (okIf_true _ (by simp [hs1, hs6, hw1, hw5, hflit'])).trans (congrArg done ?_)
    by_cases h : s.pci.perstN = true ∧ 2 ≤ s.start.reached ∧ s.on SYS.START_STS.DEAD = false
    · refine Eq.trans (if_neg ?_) (if_pos h).symm
      simpa only [not_or, Decidable.not_not, Nat.not_lt, Bool.not_eq_true, Bool.not_eq_false] using h
    · refine Eq.trans (if_pos ?_) (if_neg h).symm
      simpa only [Decidable.not_and_iff_not_or_not, Nat.not_le, Bool.not_eq_false] using h
  case down => exact fun _ => rfl
  case status =>
    rintro z p s h rfl
    exact runCmd_answers rfl h rfl

end Sys2Proof.Machine
end

section
/-! PROOFS. Frames, pauses and states of Ethernet ports, and contexts fetched from the spill area (R73, R164 to R171, R176). -/

namespace Sys2Proof.Machine

/-- Two operands within their bounds. -/
theorem decide_and_decide_of {a b : Prop} [Decidable a] [Decidable b] (ha : a) (hb : b) : (decide a && decide b) = true := by
  rw [decide_eq_true ha, decide_eq_true hb, Bool.and_self]

/-- Settles O41: with a port and a sub-port that exist, each row is the choice of effects that its clause spells out. The drop of
a packet whose length does not fit its type, and what the exception ring holds, are the model's choices (log entries 146 and
148). -/
theorem portAndContextEvents : Obligations.PortAndContextEvents := by
  refine ⟨?frame, ?release, ?pause, ?up, ?down, ?transmit, ?context⟩
  case frame => exact fun s port sub f hport hsub => okIf_true _ (decide_and_decide_of hport hsub)
  case release => exact fun s port hport => okIf_true _ (decide_eq_true hport)
  case pause => exact fun s port sub pause hport hsub => okIf_true _ (decide_and_decide_of hport hsub)
  case up => exact fun s port sub hport hsub => okIf_true _ (decide_and_decide_of hport hsub)
  case down => exact fun s port sub hport hsub => okIf_true _ (decide_and_decide_of hport hsub)
  case transmit => exact fun s port count hport hcount => okIf_true _ (decide_and_decide_of hport hcount)
  case context => exact fun _ _ => rfl

end Sys2Proof.Machine
end

section
/-! PROOFS. The events of a dump and of its restore (R85, R265, R267, R431, R533). -/

namespace Sys2Proof.Machine

/-- Settles O46: the rows of a dump take no operand that could be ill-formed, so each completes with the choice of effects that
its clause spells out. How the shares are given, which count as missing, and that the dump waits for parked heads are the
model's choices (log entries 74, 75 and 118). -/
theorem dumpSequence : Obligations.DumpSequence := by
  refine ⟨?framesDone, ?logDone, ?dumpDone, ?restore, ?restored⟩
  case framesDone => exact fun _ _ => rfl
  case logDone => exact fun _ _ => rfl
  case dumpDone => exact fun _ _ => rfl
  case restore => exact fun _ _ => rfl
  case restored => exact fun _ => rfl

end Sys2Proof.Machine
end

section
/-! PROOFS. Training, scrubbing and errors of DRAM, errors of SRAM, and the background test (R92, R437 to R452). -/

namespace Sys2Proof.Machine

/-- Two values are equal when whatever equals the one equals the other. -/
theorem eq_of_forall_eq_imp {α : Type} {a b : α} (h : ∀ r, b = r → a = r) : a = b := h b rfl

/-- Settles O57: with channels, quadrants, banks and blocks that exist, each row is the choice of effects that its clause spells
out. CACHED_RESULTS and hard repair at training, the free record codes, and channel 0 as reference are the model's choices (log
entries 119, 120 and 198). -/
theorem dramAndSramEvents : Obligations.DramAndSramEvents := by
  refine ⟨?training, ?zq, ?scrub, ?ce, ?ue, ?sram, ?blockTest, ?lapEnd⟩
  case training => exact fun s ch d ref checkOk fullOk hard hch => okIf_true _ (decide_eq_true hch)
  case zq => exact fun _ => rfl
  case scrub => exact fun s rows hrows => okIf_true _ hrows
  case ce => exact fun s ch row hch => okIf_true _ (decide_eq_true hch)
  case ue =>
    intro s ch addr c hch haddr
    refine (okIf_true _ (decide_and_decide_of hch haddr)).trans (congrArg done (ite_congr rfl (fun _ => rfl) fun _ => ?_))
    -- Both sides look the line up in the state u that has counted and recorded the error.
    refine eq_of_forall_eq_imp fun r => ?_
    dsimp only
    generalize State.record _ 0x1501 0 ch 0 [] = u
    cases (u.mcc (ch / 3)).find (addr / 128) with
    | none => exact id
    | some l => exact id
  case sram => exact fun s quad bank e hquad hbank => okIf_true _ (decide_and_decide_of hquad hbank)
  case blockTest =>
    intro s quad bank block ok hquad hbank hblock
    exact okIf_true _ (by rw [decide_and_decide_of hquad hbank, decide_eq_true hblock, Bool.and_self])
  case lapEnd => exact fun _ => rfl

end Sys2Proof.Machine
end

section
/-! PROOFS. The commands of queue pairs, their doorbells, fetching and coalescing (R130 to R140, R160, R161). -/

namespace Sys2Proof.Machine

/-! ## Bodies that end with a reply -/

/-- The reply to a packet, sent as the body asks, leaves the state t; it is sent at once, and nothing follows it. -/
structure Res.Answers (r : Res) (p : Packet) (t : State) : Prop where
  answer : r.st.answer p r.status r.detail r.data = t
  atOnce : r.later = false
  noAfter : r.after = id

theorem runCmd_of_answers {op : Nat} {o : OpSpec} {p : Packet} {z t : State} {body : State → Res}
    (ho : opSpec op = some o) (h : Runs z p op) (hbody : (body (z.begun p)).Answers p t) : runCmd op p z body = done t := by
  obtain ⟨hanswer, hlater, hafter⟩ := hbody
  rw [runCmd_runs op o p z body ho h hlater, hafter, ite_self, id, hanswer]

theorem Res.Answers.refuseWith {s : State} {p : Packet} {st d : Nat} : (s.refuseWith st d).Answers p (s.answer p st d []) :=
  ⟨rfl, rfl, rfl⟩

theorem Res.Answers.reply {s : State} {p : Packet} {data : List Byte} : (s.reply data).Answers p (s.answer p 0 0 data) :=
  ⟨rfl, rfl, rfl⟩

/-- A body that checks a condition answers as its branches do. -/
theorem Res.Answers.ite {c : Prop} [Decidable c] {r r' : Res} {p : Packet} {t t' : State} (h : r.Answers p t)
    (h' : r'.Answers p t') : (if c then r else r').Answers p (if c then t else t') := by
  by_cases hc : c
  · simpa only [if_pos hc] using h
  · simpa only [if_neg hc] using h'

/-! ## The commands -/

/-- RESET_QP of a pair that is ACTIVE or in a fault state, with no command in flight, and of any other (R135). -/
theorem resetQp_runs {z s : State} {p : Packet} (h : Runs z p 0x0703) (hs : s = z.begun p) :
    exec (.resetQp p) z = done (
      if 2 ^ 20 ≤ p.u32 0 then s.answer p 0x000A 0 []
      else if (s.qp (p.u32 0)).state < 2 ∨ 5 < (s.qp (p.u32 0)).state ∨ s.inflight (p.u32 0) ≠ 0 then s.answer p 0x000F 3 []
      else ((s.setQp { s.qp (p.u32 0) with
        state := 2, sqHead := 0, sqTail := 0, cqTail := 0, cqHead := 0, phase := 1, lost := 0, cause := 0 }).stopFetch
          (p.u32 0)).answer p 0 0 []) := by
  subst hs
  refine runCmd_of_answers rfl h ?_
  dsimp only
  rw [State.qp_qpid]
  exact .ite .refuseWith (.ite .refuseWith .reply)

/-- Settles O18, for queue pair numbers. That ring reads under way are dropped is the model's inference from R135. -/
theorem resetQpRule : Obligations.ResetQpRule := by
  intro z p s h hs hid
  rw [resetQp_runs h hs, if_neg (Nat.not_le.mpr hid), done]
  dsimp only
  rw [State.qp_qpid]
  by_cases hidle : (2 ≤ (s.qp (p.u32 0)).state ∧ (s.qp (p.u32 0)).state ≤ 5) ∧ s.inflight (p.u32 0) = 0
  · rw [if_pos hidle, if_neg (by omega)]
  · rw [if_neg hidle, if_pos (by omega)]

/-! ## Doorbells (R136) -/

theorem State.bar2_eq (s : State) (off size data low : Nat) (f : State → Nat → Nat → State) :
    s.bar2 off size data low f =
      if s.hostReaches = false then s
      else if 4 ≤ size ∧ off % 16 = low ∧ ((s.qpBindNew (off / 16)).map QpBind.isHost).getD false = true ∧
        (s.qp (off / 16)).takesDoorbell = true then f s (off / 16) (data % 2 ^ 16)
      else if (s.qp (off / 16)).state ≠ 0 then s.setQp { s.qp (off / 16) with ignored := (s.qp (off / 16)).ignored + 1 }
      else s :=
  ite_congr (Bool.not_eq_true _) (fun _ => rfl) (fun _ => rfl)

/-- Settles O37, one clause for each row and outcome. The free bytes of a context, the order of the turns, and the answers where
R130, R134, R161 and R133 leave a case open are the model's choices (log entries 2, 144 and 160 to 163). -/
theorem queuePairCommands : Obligations.QueuePairCommands := by
  refine ⟨?create, ?delete, fun _ _ _ => resetQp_runs, ?status, ?coalesce, ?stats, ?context, ?sqTail, ?cqHead, ?unbound, ?fetch,
    fun _ _ => ?fetched, ?timer⟩
  case create =>
    rintro z p s h rfl
    refine runCmd_of_answers rfl h ?_
    dsimp only
    cases (z.begun p).qpParamBad p with
    | some off => exact .ite .refuseWith .refuseWith
    | none =>
      refine .ite .refuseWith ?_
      cases (z.begun p).qpCluster p with
      | none => exact .refuseWith
      | some cl => exact .ite .refuseWith .reply
  case delete =>
    rintro z p s h rfl
    refine runCmd_of_answers rfl h ?_
    dsimp only
    rw [State.qp_qpid]
    exact .ite .refuseWith (.ite .refuseWith .reply)
  case status =>
    rintro z p s q h rfl rfl
    refine runCmd_of_answers rfl h ?_
    dsimp only
    rw [State.qp_qpid]
    exact .ite .refuseWith .reply
  case coalesce =>
    rintro z p s u h rfl rfl
    refine runCmd_of_answers rfl h ?_
    dsimp only
    rw [State.qp_qpid]
    exact .ite .refuseWith <| .ite .refuseWith <| .ite .refuseWith <| .ite .refuseWith <| .ite .refuseWith .reply
  case stats =>
    rintro z p s q h rfl rfl
    exact runCmd_of_answers rfl h (.ite .refuseWith .reply)
  case context =>
    rintro z p s h rfl
    exact runCmd_of_answers rfl h (.ite .refuseWith .reply)
  case sqTail =>
    rintro s off size data q hoff rfl
    exact (okIf_true _ (decide_eq_true hoff)).trans (congrArg done (s.bar2_eq off size data 0 _))
  case cqHead =>
    rintro s off size data q hoff rfl
    exact (okIf_true _ (decide_eq_true hoff)).trans (congrArg done (s.bar2_eq off size data 4 _))
  case unbound =>
    intro s cluster qpid hb
    change execSqFetch cluster qpid s = _
    rw [execSqFetch, hb, done]
  case fetch =>
    rintro s cluster qpid n b hb rfl
    change execSqFetch cluster qpid s = _
    rw [execSqFetch, hb]
    refine congrArg done (ite_congr rfl (fun _ => rfl) fun _ => ?_)
    cases s.ringData b with
    | none => rfl
    | some ring => rfl
  case fetched => rfl
  case timer =>
    rintro s _ rfl
    rfl

end Sys2Proof.Machine
end

section
/-! PROOFS. What an arriving packet does, by its type, and the timers of a connection (R171 to R190). -/

namespace Sys2Proof.Machine

/-! ## The reception rows -/

/-- A row with a port that exists completes in the state that its effect leaves. -/
theorem okIf_port {port : Nat} {t u : State} (hp : port < 8) (h : t = u) : okIf (port < 8) t = done u :=
  (okIf_true t (decide_eq_true hp)).trans (congrArg done h)

section
variable {s : State} {port idx op : Nat} {g : Ingress} {c : Conn} {b : ConnBind} {p : VrmPkt} {l : Nat}

theorem Arrives.port_lt (h : Arrives s port idx op g c b p l) : port < 8 := h.1

theorem Arrives.buffered (h : Arrives s port idx op g c b p l) : (s.port port).ingress[idx]? = some g := h.2.1

end

theorem State.rxSeq_absent {s : State} {port idx op : Nat} (f : State → Conn → ConnBind → VrmPkt → State)
    (h : ∀ g, (s.port port).ingress[idx]? = some g → g.pkt.op ≠ op) : s.rxSeq port idx op f = s :=
  State.rx_absent _ h

/-- The kind by which DOORBELL and TRIGGER share the SEND packets is that of the packet in the buffer. -/
theorem kindAt_of_some {o : Option Ingress} {g : Ingress} (h : o = some g) : (o.map (fun g => g.pkt.kind)).getD 0 = g.pkt.kind := by
  subst h; rfl

/-- No packet of the row's type is in the buffer, so the row changes nothing. -/
theorem exec_reception_absent {s : State} {i : Instr} {port idx : Nat} (hp : port < 8)
    (hi : i ∈ [Instr.writePacket port idx, .readReq port idx, .readResp port idx, .doorbell port idx, .trigger port idx,
      .ack port idx, .nak port idx, .probe port idx])
    (h : ∀ g, (s.port port).ingress[idx]? = some g → ¬ ReceivesBy i port idx g.pkt) : exec i s = done s := by
  simp only [List.mem_cons, List.not_mem_nil, or_false] at hi
  obtain rfl | rfl | rfl | rfl | rfl | rfl | rfl | rfl := hi
  · exact okIf_port hp (State.rxSeq_absent _ fun g hg ho => h g hg (by simp [ReceivesBy, ho]))
  · exact okIf_port hp (State.rxSeq_absent _ fun g hg ho => h g hg (by simp [ReceivesBy, ho]))
  · exact okIf_port hp (State.rxSeq_absent _ fun g hg ho => h g hg (by simp [ReceivesBy, ho]))
  · refine okIf_port hp (ite_eq_left_iff.mpr fun hk => State.rxSeq_absent _ fun g hg ho => h g hg ?_)
    rw [kindAt_of_some hg] at hk
    simp [ReceivesBy, ho, hk]
  · refine okIf_port hp (ite_eq_left_iff.mpr fun hk => State.rxSeq_absent _ fun g hg ho => h g hg ?_)
    rw [kindAt_of_some hg, Decidable.not_not] at hk
    simp [ReceivesBy, ho, hk]
  · exact okIf_port hp (State.rx_absent _ fun g hg ho => h g hg (by simp [ReceivesBy, ho]))
  · exact okIf_port hp (State.rx_absent _ fun g hg ho => h g hg (by simp [ReceivesBy, ho]))
  · exact okIf_port hp (State.rx_absent _ fun g hg ho => h g hg (by simp [ReceivesBy, ho]))

section
variable {s : State} {i : Instr} {port idx : Nat} {g : Ingress}

/-- The row of a WRITE, READ_REQ, READ_RESP or SEND packet takes it up in sequence. -/
theorem exec_reception_sequenced (hp : port < 8) (hg : (s.port port).ingress[idx]? = some g) (hi : ReceivesBy i port idx g.pkt)
    (hop : g.pkt.op ≤ 4) : ∃ f, exec i s = done (s.rxSeq port idx g.pkt.op f) := by
  rcases hi with ⟨ho, rfl⟩ | ⟨ho, rfl⟩ | ⟨ho, rfl⟩ | ⟨ho, hk, rfl⟩ | ⟨ho, hk, rfl⟩ | ⟨ho, -⟩ | ⟨ho, -⟩ | ⟨ho, -⟩ <;> rw [ho]
  · exact ⟨_, okIf_port hp rfl⟩
  · exact ⟨_, okIf_port hp rfl⟩
  · exact ⟨_, okIf_port hp rfl⟩
  · exact ⟨_, okIf_port hp (if_neg (by rwa [kindAt_of_some hg]))⟩
  · exact ⟨_, okIf_port hp (if_neg (by rwa [kindAt_of_some hg, Decidable.not_not]))⟩
  all_goals omega

/-- Whatever its type, the row of a packet passes it through the checks of reception. -/
theorem exec_reception (hp : port < 8) (hg : (s.port port).ingress[idx]? = some g) (hi : ReceivesBy i port idx g.pkt) :
    ∃ f, exec i s = done (s.rx port idx g.pkt.op f) := by
  by_cases hop : g.pkt.op ≤ 4
  · obtain ⟨f, hf⟩ := exec_reception_sequenced hp hg hi hop
    exact ⟨_, hf⟩
  rcases hi with ⟨ho, -⟩ | ⟨ho, -⟩ | ⟨ho, -⟩ | ⟨ho, -⟩ | ⟨ho, -⟩ | ⟨ho, rfl⟩ | ⟨ho, rfl⟩ | ⟨ho, rfl⟩
  iterate 5 omega -- the types up to 4 are the sequenced ones
  all_goals
    rw [ho]
    exact ⟨_, okIf_port hp rfl⟩

end

/-! ## The statements -/

/-- Settles O42: every reception row looks its packet up and passes it through the same checks, which say what becomes of a packet
that does not pass; one that passes acts by its type. Which failing check comes first, and the drop of a sealed packet on an
unsealed connection, are the model's choices (log entries 53 and 149). -/
theorem packetReception : Obligations.PacketReception := by
  refine ⟨fun _ _ _ _ => exec_reception_absent, ?unknown, ?stopped, ?outside, ?write, fun _ _ _ => rfl, ?readReq, ?readResp,
    ?doorbell, ?trigger, ?probe, ?ack, ?nak⟩
  case unknown =>
    intro s i port idx g hp hg hi hnone
    obtain ⟨f, hf⟩ := exec_reception hp hg hi
    exact hf.trans (congrArg done (State.rx_unknown f hg hnone))
  case stopped =>
    intro s i port idx g c b hp hg hi hc hb hstop
    obtain ⟨f, hf⟩ := exec_reception hp hg hi
    exact hf.trans (congrArg done (State.rx_stopped hp f hg hc hb hstop))
  case outside =>
    intro s i port idx g c b p l ha hi hop hout
    obtain ⟨f, hf⟩ := exec_reception_sequenced ha.port_lt ha.buffered hi hop
    refine hf.trans (congrArg done ((State.rxSeq_arrives f ha).trans (ite_congr rfl (fun _ => rfl) fun hnew => if_pos ?_)))
    obtain ⟨hlt, hooo⟩ := not_or.mp hnew
    exact Nat.le_of_not_lt fun hwin => hout ⟨Nat.lt_of_not_le hlt, hwin, eq_false_of_ne_true hooo⟩
  case write =>
    rintro s port idx g c b p l u ha hw rfl
    exact okIf_port ha.port_lt (State.rxSeq_inWindow _ ha hw)
  case readReq =>
    rintro s port idx g c b p l u cuts ha hw rfl rfl
    exact okIf_port ha.port_lt (State.rxSeq_inWindow _ ha hw)
  case readResp =>
    rintro s port idx g c b p l u k ha hw rfl rfl
    exact okIf_port ha.port_lt (State.rxSeq_inWindow _ ha hw)
  case doorbell =>
    rintro s port idx g c b p l u ha hw rfl hk
    exact okIf_port ha.port_lt ((if_neg (by rwa [kindAt_of_some ha.buffered])).trans (State.rxSeq_inWindow _ ha hw))
  case trigger =>
    rintro s port idx g c b p l u ha hw rfl hk
    exact okIf_port ha.port_lt ((if_neg (by rwa [kindAt_of_some ha.buffered, Decidable.not_not])).trans (State.rxSeq_inWindow _ ha hw))
  case probe =>
    rintro s port idx g c b p l u ha rfl
    exact okIf_port ha.port_lt (State.rx_arrives _ ha)
  case ack =>
    rintro s port idx g c b p l u k ha rfl rfl
    exact okIf_port ha.port_lt (State.rx_arrives _ ha)
  case nak =>
    rintro s port idx g c b p l u k ha rfl rfl
    exact okIf_port ha.port_lt (State.rx_arrives _ ha)

/-- Settles O43: no timer's row takes an operand that could be ill-formed, so each completes with the choice of effects that its
clause spells out. -/
theorem connectionTimers : Obligations.ConnectionTimers := by
  refine ⟨?ackTimer, ?reorder, ?retransmit, ?keepalive, ?probe, ?lost, ?draining⟩
  case ackTimer => exact fun _ _ => rfl
  case reorder => exact fun _ _ _ => rfl
  case retransmit => exact fun _ _ _ => rfl
  case keepalive => exact fun _ _ _ => rfl
  case probe => exact fun _ _ _ => rfl
  case lost => exact fun _ _ => rfl
  case draining => exact fun _ _ => rfl

end Sys2Proof.Machine
end

section
/-! PROOFS. The commands of volumes and snapshots, and the ends of their sweeps (R200, R257, R392 to R398, R409). -/

namespace Sys2Proof.Machine

/-! ## What a packet that runs leaves, answered at once or by a later event -/

/-- A packet whose body answers r leaves the state t: its reply sent, or the command waiting for the event that answers it. -/
def Res.Leaves (r : Res) (p : Packet) (t : State) : Prop :=
  (if r.later = true ∧ r.status = 0 then r.st.promised p
    else (if r.status = 0 then r.after else id) (r.st.answer p r.status r.detail r.data)) = t

theorem runCmd_of_leaves {op : Nat} {o : OpSpec} {p : Packet} {z t : State} {body : State → Res} (ho : opSpec op = some o)
    (h : Runs z p op) (hbody : (body (z.begun p)).Leaves p t) : runCmd op p z body = done t :=
  (runCmd_all op o p z body ho h).trans (congrArg done hbody)

section
variable {s t t' : State} {p : Packet} {r r' : Res}

theorem Res.Answers.leaves (h : r.Answers p t) : r.Leaves p t := by
  obtain ⟨hanswer, hlater, hafter⟩ := h
  rw [Res.Leaves, if_neg (by simp [hlater]), hafter, ite_self, id, hanswer]

theorem Res.Leaves.refuseWith {st d : Nat} : (s.refuseWith st d).Leaves p (s.answer p st d []) := Res.Answers.refuseWith.leaves

theorem Res.Leaves.reply {data : List Byte} : (s.reply data).Leaves p (s.answer p 0 0 data) := Res.Answers.reply.leaves

theorem Res.Leaves.promised : ({ st := s, later := true } : Res).Leaves p (s.promised p) := rfl

/-- A body that checks a condition leaves what its branches do. -/
theorem Res.Leaves.ite {c : Prop} [Decidable c] (h : r.Leaves p t) (h' : r'.Leaves p t') :
    (if c then r else r').Leaves p (if c then t else t') := by
  by_cases hc : c
  · simpa only [if_pos hc] using h
  · simpa only [if_neg hc] using h'

/-- A body that asks for zeros in reserved bytes refuses the packet at the first other one. -/
theorem Res.Leaves.rsvd {off n : Nat} (h : r.Leaves p t) :
    (s.rsvd p off n r).Leaves p (match rsvdBad p off n with
      | some o => s.answer p 0x000A o []
      | none => t) := by
  unfold State.rsvd
  cases rsvdBad p off n with
  | some o => exact .refuseWith
  | none => exact h

/-- A body on a volume runs on a volume READY that this head serves (R394, R419). -/
theorem Res.Leaves.onVolume {n : Nat} {f : Vol → Res} {g : Vol → State} (h : ∀ v, (f v).Leaves p (g v)) :
    (s.onVolume n f).Leaves p (match s.shadowVol n with
      | none => s.answer p 0x1303 0 []
      | some v =>
        if v.state ≠ 1 then s.answer p 0x1303 0 [] else if ¬ s.serves v then s.answer p 0x1301 (1 - s.headNo) [] else g v) := by
  unfold State.onVolume
  cases s.shadowVol n with
  | none => exact .refuseWith
  | some v => exact .ite .refuseWith (.ite .refuseWith (h v))

end

/-! ## The statement -/

/-- Settles O51, one clause for each row: a command leaves what its checks let it come to, and the end of a sweep is the choice
of effects that its clause spells out. The order of SNAP_LIST's entries, VOL_DELETE in both banks at once, VOL_STATUS from the
active bank and SNAP_DELETE in force at once are the model's choices (log entries 82, 109, 138 and 202). -/
theorem volumeAndSnapshotCommands : Obligations.VolumeAndSnapshotCommands := by
  refine ⟨?create, ?set, ?delete, fun _ _ => rfl, ?status, ?snapCreate, fun _ _ _ => rfl, ?snapDelete, fun _ _ _ => rfl, ?list⟩
  case create =>
    rintro z p s h rfl
    refine runCmd_of_leaves rfl h (.ite .refuseWith (.ite .refuseWith (.ite .refuseWith ?_)))
    cases (z.begun p).vol (p.u16 0) with
    | some v => exact .refuseWith
    | none =>
      cases (z.begun p).shadowVol (p.u16 0) with
      | some v => exact .refuseWith
      | none => exact .ite .refuseWith (.ite .refuseWith .reply)
  case set =>
    rintro z p s h rfl
    exact runCmd_of_leaves rfl h (.ite .refuseWith (.onVolume fun v => .ite .refuseWith .reply))
  case delete =>
    rintro z p s h rfl
    exact runCmd_of_leaves rfl h (.rsvd (.onVolume fun v => .ite .refuseWith .reply))
  case status =>
    rintro z p s h rfl
    refine runCmd_of_leaves rfl h (.rsvd ?_)
    cases (z.begun p).vol (p.u16 0) with
    | none => exact .refuseWith
    | some v => exact .reply
  case snapCreate =>
    rintro z p s h rfl
    refine runCmd_of_leaves rfl h (.rsvd (.onVolume fun v => ?_))
    cases (z.begun p).freeSnap v.num with
    | none => exact .refuseWith
    | some n => exact .ite .refuseWith (.ite .refuseWith .promised)
  case snapDelete =>
    rintro z p s h rfl
    refine runCmd_of_leaves rfl h (.onVolume fun v => ?_)
    cases (z.begun p).snap v.num (p.u16 2) with
    | none => exact .refuseWith
    | some x => exact .ite .refuseWith (.ite .refuseWith .reply)
  case list =>
    rintro z p s h rfl
    exact runCmd_of_leaves rfl h (.ite .refuseWith (.ite .refuseWith .reply))

end Sys2Proof.Machine
end

section
/-! PROOFS. Policies, rekeying, root keys, derivations, the summary and the entropy sources (R200 to R228). -/

namespace Sys2Proof.Machine

/-- A packet of an opcode that writes shadow banks runs its own effect only where it asks for no commit. -/
theorem Runs.commit_eq_false {z : State} {p : Packet} {op : Nat} (h : Runs z p op) (hop : writesShadow op = true) :
    p.commit = false := by
  obtain ⟨-, -, -, hshadow⟩ := h
  exact (hshadow hop).1

/-- A pair chosen by one test holds what the same test chooses for each part. -/
theorem ite_pair {α β : Type} {c : Prop} [Decidable c] (a a' : α) (b b' : β) :
    (if c then (a, b) else (a', b')) = (if c then a else a', if c then b else b') := by
  by_cases hc : c
  · rw [if_pos hc, if_pos hc, if_pos hc]
  · rw [if_neg hc, if_neg hc, if_neg hc]

/-- Settles O39, one clause for each row: a packet leaves what its checks let it come to, and an event on a cluster or a quadrant
that exists is the choice of effects that its clause spells out. The refusal over a bad root, the course of a rekeying and its
sweep, and the seeding at ENT_READY are the model's choices (log entries 58, 61, 184 and 185). -/
theorem transformAndKeyCommands : Obligations.TransformAndKeyCommands := by
  refine ⟨?policySet, ?policyGet, ?stats, ?rekey, fun _ _ => rfl, ?rekeyStatus, ?rootLoad, ?sealKey, ?kcv, ?derived, ?summary,
    ?health, fun _ _ hq => okIf_true _ (decide_eq_true hq), ?retest, ?reseed⟩
  case policySet =>
    rintro z p s h rfl
    refine runCmd_of_leaves rfl h ?_
    cases (z.begun p).shadowVol (p.u16 0) with
    | none => exact .refuseWith
    | some v =>
      refine .ite .refuseWith <| .ite .refuseWith <| .ite .refuseWith <| .ite .refuseWith ?_
      cases (List.range 11).find? (fun i => p.u8 (5 + i) ≠ 0) with
      | some i => exact .refuseWith
      | none => exact .reply
  case policyGet =>
    rintro z p s h rfl
    refine runCmd_of_leaves rfl h ?_
    simp only [Option.isNone_iff_eq_none]
    exact .ite .refuseWith .reply
  case stats =>
    rintro z p s h rfl
    exact runCmd_of_leaves rfl h (.ite .refuseWith .reply)
  case rekey =>
    rintro z p s h rfl
    refine runCmd_of_leaves rfl h ?_
    dsimp only
    rw [h.commit_eq_false rfl]
    cases (z.begun p).shadowVol (p.u16 0) with
    | none => exact .refuseWith
    | some v =>
      refine .ite .refuseWith ?_
      cases (z.begun p).nv.media.rekeys.find? (fun k => k.vol = p.u16 0 && !k.ended) with
      | some k => exact .refuseWith
      | none => exact .ite .refuseWith .promised
  case rekeyStatus =>
    rintro z p s h rfl
    refine runCmd_of_leaves rfl h ?_
    cases (z.begun p).vol (p.u16 0) with
    | none => exact .refuseWith
    | some v => exact .reply
  case rootLoad =>
    rintro z p s ok old bad h rfl rfl rfl
    refine runCmd_of_leaves rfl h ?_
    dsimp only
    -- The body chooses both facts about the root by one test; the statement chooses each by its own.
    rw [ite_pair]
    simp only [Option.isSome_iff_ne_none]
    refine .ite .refuseWith ?_
    cases (List.range 3).find? (fun i => p.u8 (1 + i) ≠ 0) with
    | some i => exact .refuseWith
    | none =>
      exact .ite .refuseWith <| .ite .refuseWith <| .ite .refuseWith <| .ite .reply (Res.Answers.leaves ⟨rfl, rfl, rfl⟩)
  case sealKey =>
    rintro z p s h rfl
    refine runCmd_of_leaves rfl h ?_
    simp only [Option.isNone_iff_eq_none]
    exact .ite .refuseWith (.ite .refuseWith .reply)
  case kcv =>
    rintro z p s h rfl
    exact runCmd_of_leaves rfl h .reply
  case derived =>
    rintro s cluster purpose vol epoch label k u hcluster rfl rfl
    refine (okIf_true _ (decide_eq_true hcluster)).trans (congrArg done ?_)
    simp only [Option.isNone_iff_eq_none]
  case summary =>
    rintro s lack rfl
    rfl
  case health =>
    rintro s q obs u hq rfl
    refine (okIf_true _ (decide_eq_true hq)).trans (congrArg done ?_)
    simp only [Bool.not_eq_true]
    rfl
  case retest =>
    rintro s q pass u hq rfl
    exact okIf_true _ (decide_eq_true hq)
  case reseed =>
    rintro s cluster u hcluster rfl
    exact okIf_true _ (decide_eq_true hcluster)

end Sys2Proof.Machine
end

section
/-! PROOFS. EPOCH_HWM outlives its volume: the end of a deletion keeps every mark, and a commit raises each to the key epoch in
force (R217). -/

namespace Sys2Proof.Machine

/-! ## What leaves every EPOCH_HWM as it was -/

section
variable (s : State)

@[simp] theorem State.sendNrn_hwm (typ sub : Nat) (args : List Nat) (data : List Byte) :
    (s.sendNrn typ sub args data).hwm = s.hwm := by
  unfold State.sendNrn
  split
  · rfl
  · rfl

@[simp] theorem State.ship_hwm (sub : Nat) (args : List Nat) (data : List Byte) : (s.ship sub args data).hwm = s.hwm := by
  unfold State.ship
  split
  · exact State.sendNrn_hwm _ _ _ _ _
  · rfl

@[simp] theorem State.shipVolume_hwm (n : Nat) : (s.shipVolume n).hwm = s.hwm := State.ship_hwm _ _ _ _

@[simp] theorem State.saveTables_hwm : s.saveTables.hwm = s.hwm := rfl

@[simp] theorem State.freeBand_hwm (set zone : Nat) : (s.freeBand set zone).hwm = s.hwm := by
  unfold State.freeBand
  cases s.band set zone with
  | none => rfl
  | some x =>
    dsimp only
    split
    · exact State.ship_hwm _ _ _ _
    · rfl

@[simp] theorem State.freeReclaimed_hwm : s.freeReclaimed.hwm = s.hwm := by
  unfold State.freeReclaimed
  refine State.foldl_keeps State.hwm (fun t b => ?_) _ s
  exact t.freeBand_hwm b.set b.zone

@[simp] theorem State.storePages_hwm (old : State) : (s.storePages old).hwm = s.hwm := by
  unfold State.storePages
  refine State.foldl_keeps State.hwm (fun _ _ => ?_) _ s
  rfl

@[simp] theorem State.nextSerial_hwm : s.nextSerial.2.hwm = s.hwm := by
  unfold State.nextSerial
  dsimp only
  split
  · rfl
  · rfl

@[simp] theorem State.rewritePage_hwm (num : Nat) : (s.rewritePage num).hwm = s.hwm := s.nextSerial_hwm

@[simp] theorem State.reindex_hwm (old : State) : (s.reindex old).hwm = s.hwm := by
  unfold State.reindex
  refine State.foldl_keeps State.hwm (fun t p => ?_) _ _
  exact t.rewritePage_hwm p.num

@[simp] theorem State.dropGarbage_hwm : s.dropGarbage.hwm = s.hwm := rfl

@[simp] theorem State.dropVolume_hwm (vol : Nat) : (s.dropVolume vol).hwm = s.hwm := by
  simp only [State.dropVolume, State.freeReclaimed_hwm, State.storePages_hwm, State.reindex_hwm, State.dropGarbage_hwm]
  rfl

end

/-! ## A commit and the key epochs in force -/

theorem State.hwm_setHwm (s : State) (n v m : Nat) : (s.setHwm n v).hwm m = if n = m then v else s.hwm m := by
  change (fldFind (fldSet s.nv.media.hwm n v 0) m).getD 0 = _
  rw [fldFind_set]
  by_cases hn : n = m
  · rw [if_pos hn, if_pos hn]
    split
    · next hv => exact hv.symm
    · rfl
  · rw [if_neg hn, if_neg hn, State.hwm]

/-- EPOCH_HWM of a volume follows its KEY_EPOCH: the body of the commit's loop. -/
def State.raiseHwm (s : State) (v : Vol) : State := s.setHwm v.num (max v.keyEpoch (s.hwm v.num))

theorem State.keyEpoch_le_raiseHwm (s : State) (v : Vol) : v.keyEpoch ≤ (s.raiseHwm v).hwm v.num := by
  rw [State.raiseHwm, State.hwm_setHwm, if_pos rfl]
  exact Nat.le_max_left _ _

theorem State.hwm_le_raiseHwm (s : State) (v : Vol) (n : Nat) : s.hwm n ≤ (s.raiseHwm v).hwm n := by
  rw [State.raiseHwm, State.hwm_setHwm]
  split
  · next hn => exact hn ▸ Nat.le_max_right _ _
  · exact Nat.le_refl _

theorem State.hwm_le_foldl_raiseHwm (vs : List Vol) (s : State) (n : Nat) : s.hwm n ≤ (vs.foldl State.raiseHwm s).hwm n := by
  induction vs generalizing s with
  | nil => exact Nat.le_refl _
  | cons w vs ih => exact Nat.le_trans (s.hwm_le_raiseHwm w n) (ih _)

/-- Once a volume has had its turn, its mark stays at or above its key epoch, whatever entries follow. -/
theorem State.keyEpoch_le_foldl_raiseHwm {vs : List Vol} {v : Vol} (hv : v ∈ vs) (s : State) :
    v.keyEpoch ≤ (vs.foldl State.raiseHwm s).hwm v.num := by
  induction vs generalizing s with
  | nil => cases hv
  | cons w vs ih =>
    rcases List.mem_cons.mp hv with rfl | hv
    · exact Nat.le_trans (s.keyEpoch_le_raiseHwm v) (State.hwm_le_foldl_raiseHwm vs _ _)
    · exact ih hv _

/-- The key epochs in force, by volume number. -/
def State.keyEpochs (s : State) : List (Nat × Nat) := s.act.vols.map fun v => (v.num, v.keyEpoch)

/-- A new MIN_EPOCH changes no KEY_EPOCH. -/
theorem State.keyEpochs_bothVol_minEpoch (s : State) (n e : Nat) :
    (s.bothVol n fun v => { v with minEpoch := e }).keyEpochs = s.keyEpochs := by
  simp only [State.keyEpochs, State.bothVol, List.map_map]
  refine List.map_congr_left fun v _ => ?_
  rw [Function.comp_apply]
  split
  · rfl
  · rfl

/-- The marks after a commit are those of its loop over the volumes, whose MIN_EPOCH alone may have changed before. -/
theorem State.commitKeys_hwm (s : State) (old : List Vol) :
    ∃ t : State, t.keyEpochs = s.keyEpochs ∧ (s.commitKeys old).hwm = (t.act.vols.foldl State.raiseHwm t).hwm :=
  ⟨_, State.foldl_keeps State.keyEpochs (fun t k => t.keyEpochs_bothVol_minEpoch k.vol k.epoch)
    (s.nv.media.rekeys.filter Rekey.ended) s, rfl⟩

/-! ## The statement -/

theorem Tables.vol_putVol_same (t : Tables) (v : Vol) : { t with vols := putVol t.vols v }.vol v.num = some v := by
  simp [Tables.vol, putVol]

/-- Settles O20. That a commit raises EPOCH_HWM to KEY_EPOCH is the model's choice (log entries 61 and 185). -/
theorem keyEpochsOutliveVolumes : Obligations.KeyEpochsOutliveVolumes := by
  refine ⟨?deleted, ?created, ?committed⟩
  case deleted =>
    intro s vol n
    refine ⟨_, rfl, ?_⟩
    cases s.vol vol with
    | none => rfl
    | some v =>
      dsimp only
      split
      · rfl
      · rw [State.shipVolume_hwm, State.saveTables_hwm, State.dropVolume_hwm]
        rfl
  case created =>
    intro z p s v h hs hfree hshadow howner hflags hsize hark hv hserves
    obtain ⟨hcreate, -⟩ := volumeAndSnapshotCommands
    refine ⟨{ s with shadow := { s.shadow with
      vols := putVol s.shadow.vols v, policies := s.shadow.policies.filter (fun x => x.num ≠ p.u16 0) } }, ?_, ?_⟩
    · rw [hcreate z p s h hs]
      dsimp only
      rw [← hv, if_neg (Nat.not_lt.mpr howner), if_neg (Nat.not_lt.mpr hflags), if_neg hsize, hfree, hshadow]
      dsimp only
      rw [if_neg (ne_true_of_eq_false hark), if_neg (not_not_intro hserves)]
    · have hnum : p.u16 0 = v.num := by rw [hv]
      rw [hnum]
      exact Tables.vol_putVol_same _ v
  case committed =>
    intro s old v hv
    obtain ⟨t, hkeys, hhwm⟩ := s.commitKeys_hwm old
    have hmem : (v.num, v.keyEpoch) ∈ t.keyEpochs := hkeys ▸ List.mem_map_of_mem hv
    obtain ⟨w, hw, hwv⟩ := List.mem_map.mp hmem
    obtain ⟨hnum, hepoch⟩ := Prod.mk.inj hwv
    rw [hhwm, ← hnum, ← hepoch]
    exact State.keyEpoch_le_foldl_raiseHwm hw t

end Sys2Proof.Machine
end

section
/-! PROOFS. Pages, commits and checkpoints of the map, its sweeps, bands, and the commands of the flash translation layer (R240 to
R264). -/

namespace Sys2Proof.Machine

/-- Settles O45, one clause for each row: a command leaves what its checks let it come to, and an event of the map or of the bands,
its operands well-formed, is the choice of effects that its clause spells out. A log flush before 1 ms has passed, which the run
chooses, is the model's choice (log entry 65), as are the refusal of an unknown volume, the cooling of a unit that was never read,
and the closing of the older open band (log entries 67 to 69). -/
theorem mapAndBandCommands : Obligations.MapAndBandCommands := by
  refine ⟨fun _ _ _ _ _ => rfl, fun _ => rfl, fun _ _ => rfl, fun _ => rfl, fun _ => rfl, fun _ _ _ => rfl, fun _ _ => rfl, ?gc,
    fun _ _ _ => rfl, ?allocate, ?purge, fun _ => rfl, ?ftlStatus, ?tierSet, ?unitInfo, ?dumpStatus, ?pageRead⟩
  case gc => exact fun _ _ _ hq htier => okIf_true _ (decide_and_decide_of hq htier)
  case allocate => exact fun _ _ _ _ _ huse => okIf_true _ huse
  case purge =>
    rintro z p s h rfl
    exact runCmd_of_leaves rfl h (.ite .refuseWith .reply)
  case ftlStatus =>
    rintro z p s h rfl
    exact runCmd_of_leaves rfl h (.ite .refuseWith .reply)
  case tierSet =>
    rintro z p s h rfl
    refine runCmd_of_leaves rfl h ?_
    cases (z.begun p).shadowVol (p.u16 0) with
    | none => exact .refuseWith
    | some v => exact .ite .refuseWith <| .ite .refuseWith <| .ite .refuseWith <| .ite .refuseWith .reply
  case unitInfo =>
    rintro z p s h rfl
    refine runCmd_of_leaves rfl h ?_
    cases (z.begun p).vol (p.u16 0) with
    | none => exact .refuseWith
    | some v => exact .ite .refuseWith (.ite .refuseWith .reply)
  case dumpStatus =>
    rintro z p s h rfl
    exact runCmd_of_leaves rfl h .reply
  case pageRead =>
    rintro z p s h rfl
    refine runCmd_of_leaves rfl h ?_
    cases (z.begun p).vol (p.u16 0) with
    | none => exact .refuseWith
    | some v => exact .ite .refuseWith <| .ite .refuseWith <| .ite .refuseWith .reply

end Sys2Proof.Machine
end

section
/-! PROOFS. Replication links, their bindings, the cycle of epochs and the events of a link (R257, R399 to R409). -/

namespace Sys2Proof.Machine

/-- A body that has an effect after its success is answered leaves what that effect makes of the answered state. -/
theorem Res.Leaves.replyThen {s : State} {p : Packet} {g : State → State} :
    ({ st := s, after := g } : Res).Leaves p (g (s.answer p 0 0 [])) := rfl

/-- Settles O52, one clause for each row: a command leaves what its checks let it come to, and an event of a link or of a volume's
epochs is the choice of effects that its clause spells out. That an unbound target is no replica any more, the statuses and
conditions of the link commands, the cycle of epochs with LAG and the expiry of staged records, and the states of REPL_STATUS are
the model's choices (log entries 83 and 110 to 112). -/
theorem replicationCommands : Obligations.ReplicationCommands := by
  refine ⟨?create, ?peer, ?conn, ?delete, ?bind, ?unbind, ?cut, ?status, ?promote, ?resync, fun _ _ => rfl, fun _ _ => rfl,
    fun _ _ _ => rfl, fun _ _ => rfl, fun _ _ => rfl⟩
  case create =>
    rintro z p s h rfl
    refine runCmd_of_leaves rfl h <| .ite .refuseWith <| .ite .refuseWith <| .ite .refuseWith <| .ite .refuseWith <| .rsvd <|
      .ite .refuseWith ?_
    cases (z.begun p).rlink (p.u16 0) with
    | some l => exact .refuseWith
    | none => exact .ite .refuseWith (.ite .refuseWith .reply)
  case peer =>
    rintro z p s h rfl
    refine runCmd_of_leaves rfl h (.rsvd ?_)
    cases (z.begun p).rlink (p.u16 0) with
    | none => exact .refuseWith
    | some l => exact .ite .refuseWith <| .ite .refuseWith <| .ite .refuseWith <| .rsvd .reply
  case conn =>
    rintro z p s h rfl
    refine runCmd_of_leaves rfl h (.rsvd ?_)
    cases (z.begun p).rlink (p.u16 0) with
    | none => exact .refuseWith
    | some l => exact .ite .refuseWith (.ite .refuseWith .reply)
  case delete =>
    rintro z p s h rfl
    refine runCmd_of_leaves rfl h (.rsvd ?_)
    cases (z.begun p).rlink (p.u16 0) with
    | none => exact .refuseWith
    | some l => exact .ite .refuseWith .reply
  case bind =>
    rintro z p s h rfl
    refine runCmd_of_leaves rfl h <| .ite .refuseWith <| .ite .refuseWith <| .onVolume fun v => .ite .refuseWith ?_
    cases (z.begun p).rlink (p.u16 2) with
    | none => exact .refuseWith
    | some l => exact .ite .refuseWith (.ite .refuseWith .replyThen)
  case unbind =>
    rintro z p s h rfl
    refine runCmd_of_leaves rfl h (.rsvd (.onVolume fun v => ?_))
    cases (z.begun p).nv.media.repl.find? (fun b => b.vol = v.num) with
    | none => exact .refuseWith
    | some b => exact .ite .refuseWith .reply
  case cut =>
    rintro z p s h rfl
    refine runCmd_of_leaves rfl h (.rsvd (.onVolume fun v => ?_))
    cases (z.begun p).repl v.num with
    | none => exact .refuseWith
    | some b => exact .ite .refuseWith (.ite .refuseWith .reply)
  case status =>
    rintro z p s h rfl
    refine runCmd_of_leaves rfl h (.rsvd (.ite .refuseWith ?_))
    cases (z.begun p).repl (p.u16 0) with
    | none => exact .refuseWith
    | some b => exact .reply
  case promote =>
    rintro z p s h rfl
    refine runCmd_of_leaves rfl h (.rsvd (.onVolume fun v => ?_))
    cases (z.begun p).repl v.num with
    | none => exact .refuseWith
    | some b => exact .ite .refuseWith .reply
  case resync =>
    rintro z p s h rfl
    refine runCmd_of_leaves rfl h (.rsvd (.onVolume fun v => ?_))
    cases (z.begun p).repl v.num with
    | none => exact .refuseWith
    | some b => exact .reply

end Sys2Proof.Machine
end

section
/-! PROOFS. Decodes, windows and validations, the refresh of bands, the patrol, die swaps, and the tuning commands (R273 to R291). -/

namespace Sys2Proof.Machine

/-- A body on a flash link runs where the variant does not fuse the link off (R3, R103). -/
theorem Res.Leaves.onLink {s t : State} {p : Packet} {k : Nat} {f : State → Res} (h : (f s).Leaves p t) :
    (s.onLink k f).Leaves p (if ¬ s.linkEnabled k then s.answer p 0x0004 k [] else t) := .ite .refuseWith h

/-- Settles O47, one clause for each row: a command leaves what its checks let it come to, and an event of the windows, the patrol or
a die swap, its operands well-formed, is the choice of effects that its clause spells out. The free bytes of MODULE_WEAR, the verdicts
of windows, the layout of GROUP_HEALTH and SET_WRITE, laps and LATE, and bands moved as one are the model's choices (log entries 2, 77
to 79 and 85). -/
theorem tuningAndPatrol : Obligations.TuningAndPatrol := by
  refine ⟨?decode, ?report, ?timeout, ?load, fun _ _ _ _ _ _ _ _ _ _ => rfl, fun _ _ => rfl, fun _ _ => rfl, fun _ _ => rfl,
    fun _ _ _ => rfl, fun _ => rfl, fun _ => rfl, fun _ _ => rfl, fun _ _ => rfl, ?status, ?health, ?wear, ?restart, ?freeze,
    ?swap, ?set⟩
  case decode => exact fun _ _ _ _ _ _ hit => okIf_true _ (decide_eq_true hit)
  case report =>
    exact fun _ _ _ hlink hlow hhigh => okIf_true _ (Bool.and_eq_true_iff.mpr ⟨decide_and_decide_of hlink hlow, decide_eq_true hhigh⟩)
  case timeout => exact fun _ _ hlink => okIf_true _ (decide_eq_true hlink)
  case load => exact fun _ _ _ _ hlink => okIf_true _ (decide_eq_true hlink)
  case status =>
    rintro z p s h rfl
    exact runCmd_of_leaves rfl h .reply
  case health =>
    rintro z p s h rfl
    refine runCmd_of_leaves rfl h ?_
    cases (z.begun p).groupBad (p.u8 0) (p.u8 1) (p.u8 2) with
    | some bad => exact .refuseWith
    | none =>
      cases (z.begun p).module (p.u8 0) with
      | none => exact .refuseWith
      | some m => exact .ite .refuseWith .reply
  case wear =>
    rintro z p s h rfl
    refine runCmd_of_leaves rfl h (.ite .refuseWith ?_)
    cases (List.range 3).find? (fun i => p.u8 (1 + i) ≠ 0) with
    | some i => exact .refuseWith
    | none => exact .onLink .reply
  case restart =>
    rintro z p s h rfl
    exact runCmd_of_leaves rfl h .reply
  case freeze =>
    rintro z p s h rfl
    refine runCmd_of_leaves rfl h (.ite .refuseWith ?_)
    cases (List.range 3).find? (fun i => p.u8 (1 + i) ≠ 0) with
    | some i => exact .refuseWith
    | none => exact .reply
  case swap =>
    rintro z p s h rfl
    refine runCmd_of_leaves rfl h (.ite .refuseWith (.onLink ?_))
    cases (z.begun p).module (p.u8 0) with
    | none => exact .refuseWith
    | some m =>
      refine .ite .refuseWith <| .ite .refuseWith <| .ite .refuseWith ?_
      cases m.swap with
      | some x => exact .refuseWith
      | none => exact .ite .refuseWith .reply
  case set =>
    rintro z p s h rfl
    refine runCmd_of_leaves rfl h ?_
    cases (z.begun p).groupBad (p.u8 0) (p.u8 1) (p.u8 2) with
    | some bad => exact .refuseWith
    | none =>
      refine .ite .refuseWith (.ite .refuseWith ?_)
      cases [5, 6, 7, 25, 26, 27].find? (fun i => p.u8 i ≠ 0) with
      | some i => exact .refuseWith
      | none => exact .ite .refuseWith .reply

end Sys2Proof.Machine
end

section
/-! PROOFS. Flits and timers of the servo loop, and the commands of loops, traces and seeks (R302, R307, R332 to R351). -/

namespace Sys2Proof.Machine

/-! ## Bodies that run where the bytes and the HDA a packet names allow it -/

section
variable {s t : State} {p : Packet}

/-- A body whose reserved bytes are zero; the first other one refuses the packet. -/
theorem Res.Leaves.zeros {offs : List Nat} {f : State → Res} (h : (f s).Leaves p t) :
    (s.zeros p offs f).Leaves p (match rsvdByte p offs with
      | some o => s.answer p 0x000A o []
      | none => t) := by
  unfold State.zeros
  cases rsvdByte p offs with
  | some o => exact .refuseWith
  | none => exact h

/-- A body on an HDA that the packet may name (R3, R360). -/
theorem Res.Leaves.onHda1 {n : Nat} {f : State → Res} (h : (f s).Leaves p t) :
    (s.onHda1 n f).Leaves p (match s.hdaRefused n with
      | some (st, d) => s.answer p st d []
      | none => t) := by
  unfold State.onHda1
  cases s.hdaRefused n with
  | some refusal => exact .refuseWith
  | none => exact h

/-- A body on the HDAs that a table write names: all of them under 0xFF, else one that the packet may name. -/
theorem Res.Leaves.onNamed {n : Nat} {f : State → Res} (h : (f s).Leaves p t) :
    (if n = 0xFF then f s else s.onHda1 n f).Leaves p (if n = 0xFF then t else match s.hdaRefused n with
      | some (st, d) => s.answer p st d []
      | none => t) := .ite h (.onHda1 h)

end

/-! ## The statement -/

/-- Settles O53, one clause for each row: an event on a slot or a string that exists is the choice of effects that its clause
spells out, and a command leaves what its checks let it come to. The repeated hold, the LOOP commands that need no drive, the
statuses of SEEK_TEST and TRACE_ARM, and a flit of another TYPE changing nothing are the model's choices (log entries 93, 94, 96
and 171). -/
theorem headsAndServoTimers : Obligations.HeadsAndServoTimers := by
  refine ⟨?ssamp, ?parked, ?retry, ?timeout, ?trajectory, ?unload, ?retract, ?status, ?profile, ?get, ?arm, ?read, ?raw, ?seek⟩
  case ssamp => exact fun _ _ _ hstr hlen hnum => okIf_true _ (by simp [hstr, hlen, hnum])
  case parked => exact fun _ _ hhda => okIf_true _ (decide_eq_true hhda)
  case retry => exact fun _ _ hhda => okIf_true _ (decide_eq_true hhda)
  case timeout => exact fun _ _ hhda => okIf_true _ (decide_eq_true hhda)
  case trajectory => exact fun _ _ hhda => okIf_true _ (decide_eq_true hhda)
  case unload => exact fun _ _ hhda => okIf_true _ (decide_eq_true hhda)
  case retract => exact fun _ _ hhda => okIf_true _ (decide_eq_true hhda)
  case status =>
    rintro z p s h rfl
    exact runCmd_of_leaves rfl h (.zeros (.onHda1 .reply))
  case profile =>
    rintro z p s h rfl
    exact runCmd_of_leaves rfl h (.zeros (.onNamed (.ite .refuseWith (.ite .refuseWith .reply))))
  case get =>
    rintro z p s h rfl
    exact runCmd_of_leaves rfl h (.zeros (.onHda1 .reply))
  case arm =>
    rintro z p s h rfl
    refine runCmd_of_leaves rfl h ?_
    cases locQuadrant p with
    | none => exact .refuseWith
    | some q =>
      exact .zeros <| .onHda1 <| .ite .refuseWith <| .ite .refuseWith <| .ite .refuseWith <| .ite .refuseWith <|
        .ite .refuseWith <| .ite .refuseWith <| .ite .refuseWith .reply
  case read =>
    rintro z p s h rfl
    refine runCmd_of_leaves rfl h ?_
    cases locQuadrant p with
    | none => exact .refuseWith
    | some q => exact .reply
  case raw =>
    rintro z p s h rfl
    refine runCmd_of_leaves rfl h (.zeros (.onNamed ?_))
    cases blockBad (slice p.params 4 64) with
    | some off => exact .refuseWith
    | none => exact .reply
  case seek =>
    rintro z p s h rfl
    refine runCmd_of_leaves rfl h (.zeros (.onHda1 ?_))
    dsimp only
    cases (z.begun p).hdaIdent (p.u8 0) with
    | none => exact .refuseWith
    | some i => exact .ite .refuseWith <| .ite .refuseWith <| .ite .refuseWith <| .ite .refuseWith .promised

end Sys2Proof.Machine
end

section
/-! PROOFS. Strings that come up and go down, what carriers tell and complete, and the commands of strings (R298 to R302, R324,
R357, R360). -/

namespace Sys2Proof.Machine

/-- A body on a string that exists and that the variant does not fuse off (R3). -/
theorem Res.Leaves.onString {s t : State} {p : Packet} {f : State → Nat → Res} (h : (f s (p.u8 0)).Leaves p t) :
    (s.onString p f).Leaves p (if 96 ≤ p.u8 0 then s.answer p 0x000A 0 []
      else if ¬ s.stringEnabled (p.u8 0) then s.answer p 0x0004 (p.u8 0) [] else t) := .ite .refuseWith (.ite .refuseWith h)

/-- What a value of one function equals, the value of an equal function equals too. -/
theorem eq_imp_of_eq {α β : Type} {f g : α → β} {r : β} (h : f = g) (a : α) : g a = r → f a = r :=
  (congrFun h a).trans

/-- Settles O55, one clause for each row: an event of a string that exists is the choice of effects that its clause spells out,
and a command leaves what its checks let it come to. The drive lost at DRIVER = 0 and after a silent CSTAT, a claim refused
before the join, and one lost flit for each gap are the model's choices (log entries 87, 125 and 171). -/
theorem stringsAndCarriers : Obligations.StringsAndCarriers := by
  refine ⟨?up, ?down, ?cstat, ?silent, fun _ => rfl, ?clear, ?completion, ?status, ?ident, ?drive⟩
  case up => exact fun _ _ _ _ _ hstr => okIf_true _ (decide_eq_true hstr)
  case down => exact fun _ _ _ hstr => okIf_true _ (decide_eq_true hstr)
  case cstat =>
    intro s str c hstr hlow0 hhigh0 hlow1 hhigh1
    have hwf : (decide (str < 96) && decide (-128 ≤ c.temp0) && decide (c.temp0 ≤ 127) && decide (-128 ≤ c.temp1) &&
        decide (c.temp1 ≤ 127)) = true := by simp only [hstr, hlow0, hhigh0, hlow1, hhigh1, decide_true, Bool.and_self]
    refine (okIf_true _ hwf).trans (congrArg done (ite_congr rfl (fun _ => rfl) fun _ => ?_))
    -- Both sides judge the open windows by the temperatures of the state u, which has told the missed deadlines. They are
    -- compared as functions of u, so that the comparison does not evaluate how u came about.
    refine eq_of_forall_eq_imp fun r => ?_
    dsimp only
    generalize @ite State _ (_) (State.record _ 0x0F03 0 str 0 []) _ = u
    revert u
    exact eq_imp_of_eq rfl
  case silent => exact fun _ _ hstr => okIf_true _ (decide_eq_true hstr)
  case clear => exact fun _ _ hstr => okIf_true _ (decide_eq_true hstr)
  case completion => exact fun _ _ _ _ _ _ hstr => okIf_true _ (decide_eq_true hstr)
  case status =>
    rintro z p s h rfl
    exact runCmd_of_leaves rfl h (.zeros (.onString .reply))
  case ident =>
    rintro z p s h rfl
    refine runCmd_of_leaves rfl h (.zeros (.onString ?_))
    by_cases hup : (z.begun p).get (STR.STRING_STS.STATE (p.u8 0)) = 2
    · rw [hup]
      cases ((z.begun p).str (p.u8 0)).ident with
      | none => exact .refuseWith
      | some c => exact .reply
    · simp only [hup, false_imp_iff, implies_true]
      exact .refuseWith
  case drive =>
    rintro z p s h rfl
    exact runCmd_of_leaves rfl h <| .zeros <| .onString <| .ite .refuseWith <| .ite .refuseWith <|
      .ite (.ite .refuseWith .promised) (.ite .refuseWith .promised)

end Sys2Proof.Machine
end

section
/-! PROOFS. Runs and their samples, sectors decoded and moved, the tuning of HDAs, and the commands of HDAs (R307 to R329). -/

namespace Sys2Proof.Machine

/-- Settles O56, one clause for each row: an event of a run, a sector or a window, its operands well-formed, is the choice of
effects that its clause spells out, and a command leaves what its checks let it come to. The steps of a sector, the free bytes of
ZONE_SETS, what HDA_FORMAT keeps, the limit of SAMPLE_CAPTURE and the low 32 bits of a serial are the model's choices (log
entries 88, 89, 91, 92, 157 and 177). -/
theorem centralReadChannel : Obligations.CentralReadChannel := by
  refine ⟨?samples, fun _ _ => rfl, fun _ _ => rfl, ?decode, fun _ _ _ => rfl, fun _ _ _ => rfl, fun _ => rfl, ?window,
    fun _ => rfl, ?status, ?ident, ?format, ?sets, ?realloc, ?capture⟩
  case samples =>
    intro s str head slot stream first samples fcrc hstr hhead hslot hstream hfirst hlen hfcrc
    exact okIf_true _ (by simp only [hstr, hhead, hslot, hstream, hfirst, hlen, hfcrc, decide_true, Bool.and_self])
  case decode => exact fun _ _ _ _ _ _ hit hmark => okIf_true _ (decide_and_decide_of hit hmark)
  case window => exact fun _ _ _ _ _ _ _ _ _ _ hhda hload => okIf_true _ (decide_and_decide_of hhda hload)
  case status =>
    rintro z p s h rfl
    refine runCmd_of_leaves rfl h (.zeros (.onHda1 ?_))
    dsimp only
    cases ((z.begun p).readRegs [0xC0100 + 4 * p.u8 0]).2.hdaMedia (p.u8 0) with
    | some m => exact .reply
    | none => exact .refuseWith
  case ident =>
    rintro z p s h rfl
    refine runCmd_of_leaves rfl h (.zeros (.onHda1 ?_))
    cases (z.begun p).hdaIdent (p.u8 0) with
    | some i => exact .reply
    | none => exact .refuseWith
  case format =>
    rintro z p s h rfl
    refine runCmd_of_leaves rfl h (.zeros (.onHda1 ?_))
    dsimp only
    cases (z.begun p).hdaMedia (p.u8 0) with
    | none => exact .refuseWith
    | some m => exact .ite .refuseWith <| .ite .refuseWith <| .ite .refuseWith .reply
  case sets =>
    rintro z p s h rfl
    refine runCmd_of_leaves rfl h (.zeros (.onHda1 ?_))
    dsimp only
    cases (z.begun p).hdaIdent (p.u8 0) with
    | none => exact .refuseWith
    | some i => exact .ite .refuseWith (.ite .refuseWith .reply)
  case realloc =>
    rintro z p s h rfl
    refine runCmd_of_leaves rfl h (.zeros (.onHda1 ?_))
    cases (z.begun p).hdaMedia (p.u8 0) with
    | none => exact .refuseWith
    | some m => exact .reply
  case capture =>
    rintro z p s h rfl
    refine runCmd_of_leaves rfl h (.zeros (.onHda1 ?_))
    dsimp only
    cases (z.begun p).hdaIdent (p.u8 0) with
    | none => exact .refuseWith
    | some i => exact .ite .refuseWith <| .ite .refuseWith <| .ite .refuseWith .promised

end Sys2Proof.Machine
end

section
/-! PROOFS. The commands of the event recorder (R479 to R489). -/

namespace Sys2Proof.Machine

/-! ## What a packet leaves whose body states its answer field by field -/

section
variable {s t t' : State} {p : Packet} {r r' : Res}

/-- A body that neither waits nor has an effect after its answer leaves that answer sent from its own state, whatever its status. -/
theorem Res.Leaves.answered {st d : Nat} {data : List Byte} :
    ({ st := t, status := st, detail := d, data := data } : Res).Leaves p (t.answer p st d data) :=
  Res.Answers.leaves ⟨rfl, rfl, rfl⟩

/-- A body that checks a condition leaves what its branches do, however the condition is put. -/
theorem Res.Leaves.iteIff {c c' : Prop} [Decidable c] [Decidable c'] (hc : c ↔ c') (h : r.Leaves p t) (h' : r'.Leaves p t') :
    (if c then r else r').Leaves p (if c' then t else t') := by
  simp only [← hc]
  exact .ite h h'

end

/-! ## EVR_CLEAR (R487) -/

/-- A byte behind the key's number that is not zero is found, the first one first. -/
theorem evrClear_rsvd_bad {p : Packet} (h : p.u8 1 ≠ 0 ∨ p.u8 2 ≠ 0 ∨ p.u8 3 ≠ 0) :
    ∃ i, (List.range 3).find? (fun i => p.u8 (1 + i) ≠ 0) = some i ∧
      1 + i = if p.u8 1 ≠ 0 then 1 else if p.u8 2 ≠ 0 then 2 else 3 := by
  rw [expertUnlock_rsvd]
  by_cases h1 : p.u8 1 ≠ 0
  · simp only [if_pos h1]
    exact ⟨0, rfl, rfl⟩
  by_cases h2 : p.u8 2 ≠ 0
  · simp only [if_neg h1, if_pos h2]
    exact ⟨1, rfl, rfl⟩
  have h3 : p.u8 3 ≠ 0 := (h.resolve_left h1).resolve_left h2
  simp only [if_neg h1, if_neg h2, if_pos h3]
  exact ⟨2, rfl, rfl⟩

theorem evrClear_rsvd_good {p : Packet} (h1 : p.u8 1 = 0) (h2 : p.u8 2 = 0) (h3 : p.u8 3 = 0) :
    (List.range 3).find? (fun i => p.u8 (1 + i) ≠ 0) = none := by
  rw [expertUnlock_rsvd, if_neg (not_not_intro h1), if_neg (not_not_intro h2), if_neg (not_not_intro h3)]

/-- Without a nonce there is none to use up. -/
theorem State.dropNonce_of_none {s : State} (h : s.evr.nonce = none) : { s with evr := { s.evr with nonce := none } } = s := by
  rw [← h]

/-- Settles O34, one clause for each row and outcome. The status of a wrong EVR_CLEAR signature, the nonce it uses up, and that a
key of zeros is no key are the model's choices (log entries 123 and 130). -/
theorem recorderCommands : Obligations.RecorderCommands := by
  refine ⟨?status, ?read, ?rate, ?trig, ?wall, ?nonce, ?erasing, ?badParam, ?clear, ?noNonce⟩
  case status =>
    rintro z p s h rfl
    exact runCmd_of_leaves rfl h .reply
  case read =>
    rintro z p s n h rfl rfl
    exact runCmd_of_leaves rfl h <| .iteIff (Bool.not_eq_true _).to_iff .refuseWith <| .ite .refuseWith <| .ite .refuseWith .reply
  case rate =>
    rintro z p s u h rfl rfl
    exact runCmd_of_leaves rfl h .reply
  case trig =>
    rintro z p s t u h rfl rfl rfl
    exact runCmd_of_leaves rfl h <| .ite .refuseWith <| .ite .refuseWith <| .ite .refuseWith <| .ite .refuseWith .reply
  case wall =>
    rintro z p s h rfl
    exact runCmd_of_leaves rfl h .reply
  case nonce =>
    rintro z p s h rfl
    exact runCmd_of_leaves rfl h .reply
  case erasing =>
    rintro z p s h rfl herase
    refine runCmd_of_leaves rfl h ?_
    dsimp only
    rw [if_pos herase]
    exact .refuseWith
  case badParam =>
    rintro z p s h rfl hidle hbad
    refine runCmd_of_leaves rfl h ?_
    dsimp only
    rw [if_neg (not_not_intro hidle)]
    by_cases hkey : 7 < p.u8 0
    · rw [if_pos hkey, if_pos hkey]
      exact .refuseWith
    · obtain ⟨i, hfind, hoff⟩ := evrClear_rsvd_bad (hbad.resolve_left hkey)
      rw [if_neg hkey, if_neg hkey, hfind, ← hoff]
      exact .refuseWith
  case clear =>
    rintro z p s n key u h rfl hidle hkey h1 h2 h3 hn rfl rfl
    refine runCmd_of_leaves rfl h ?_
    dsimp only
    rw [if_neg (not_not_intro hidle), if_neg (Nat.not_lt.mpr hkey), evrClear_rsvd_good h1 h2 h3, hn]
    exact .ite .reply .answered
  case noNonce =>
    rintro z p s h rfl hidle hkey h1 h2 h3 hn
    refine runCmd_of_leaves rfl h ?_
    dsimp only
    rw [if_neg (not_not_intro hidle), if_neg (Nat.not_lt.mpr hkey), evrClear_rsvd_good h1 h2 h3, hn, State.dropNonce_of_none hn]
    exact .answered

end Sys2Proof.Machine
end

section
/-! PROOFS. SPINSYNC, the spin-ups and their timers, and the commands of spindles (R351 to R359). -/

namespace Sys2Proof.Machine

/-- A row of a spindle that exists completes in the state that its effect leaves. -/
theorem okIf_hda {hda : Nat} (h : hda < 192) (t : State) : okIf (hda < 192) t = done t := okIf_true t (decide_eq_true h)

/-- Settles O54, one clause for each row: an event of a spindle that exists is the choice of effects that its clause spells out,
and a command leaves what its checks let it come to. Where 0x1001 applies, the first edge that only begins, the past stamp that
changes nothing, and the order and the switchless recapture of spin-ups are the model's choices (log entries 96, 98 and 99). -/
theorem spindleEventsAndCommands : Obligations.SpindleEventsAndCommands := by
  refine ⟨fun _ _ => rfl, fun _ => rfl, ?grant, ?align, ?timeout, ?retry, ?idle, ?up, ?down, ?status, ?phase, ?motor⟩
  case grant => exact fun _ _ hhda => okIf_hda hhda _
  case align => exact fun _ _ hhda => okIf_hda hhda _
  case timeout => exact fun _ _ hhda => okIf_hda hhda _
  case retry => exact fun _ _ hhda => okIf_hda hhda _
  case idle => exact fun _ _ hhda => okIf_hda hhda _
  case up =>
    rintro z p s h rfl
    exact runCmd_of_leaves rfl h (.zeros (.onHda1 (.ite .refuseWith (.ite .refuseWith (.ite .refuseWith .reply)))))
  case down =>
    rintro z p s h rfl
    exact runCmd_of_leaves rfl h (.zeros (.onHda1 (.ite .refuseWith (.ite .refuseWith .reply))))
  case status =>
    rintro z p s h rfl
    exact runCmd_of_leaves rfl h (.zeros (.onHda1 .reply))
  case phase =>
    rintro z p s h rfl
    exact runCmd_of_leaves rfl h (.zeros (.onNamed (.ite .refuseWith .reply)))
  case motor =>
    rintro z p s h rfl
    exact runCmd_of_leaves rfl h (.zeros (.onHda1 .reply))

end Sys2Proof.Machine
end

section
/-! PROOFS. Stripes, joint decodes, rebuild and copy-back, and the commands of sets (R361 to R394). -/

namespace Sys2Proof.Machine

/-- Settles O48, one clause for each row: an event completes with the choice of effects that its clause spells out, and a command
leaves what its checks let it come to. The earlier rows closed with a stripe, what a resynchronisation voids, copy-back by band,
and the statuses of SET_CREATE and REPLACE are the model's choices (log entries 102, 103, 106 and 107). -/
theorem redundancyCommands : Obligations.RedundancyCommands := by
  refine ⟨fun _ _ _ _ _ => rfl, fun _ _ => rfl, fun _ _ _ _ _ _ => rfl, fun _ _ => rfl, fun _ _ _ _ => rfl, fun _ _ _ => rfl,
    fun _ _ _ _ => rfl, ?create, ?status, ?fret, ?level, ?lost, ?replace, ?fail, ?pause⟩
  case create =>
    rintro z p s h rfl
    refine runCmd_of_leaves rfl h (.ite .refuseWith ?_)
    cases geometryBad p with
    | some off => exact .refuseWith
    | none =>
      cases (List.range 7).find? (fun i => p.u8 (9 + i) ≠ 0) with
      | some i => exact .refuseWith
      | none =>
        refine .ite .refuseWith ?_
        cases memberBad (p.u8 1) (p.u8 2) ((List.range (p.u8 3)).map (fun i => p.u16 (16 + 2 * i))) with
        | some off => exact .refuseWith
        | none =>
          cases (z.begun p).memberBusy ((List.range (p.u8 3)).map (fun i => p.u16 (16 + 2 * i))) with
          | some c => exact .refuseWith
          | none => exact .ite .refuseWith (.ite .refuseWith .reply)
  case status =>
    rintro z p s h rfl
    refine runCmd_of_leaves rfl h ?_
    cases (List.range 3).find? (fun i => p.u8 (1 + i) ≠ 0) with
    | some i => exact .refuseWith
    | none =>
      cases (z.begun p).rset (p.u8 0) with
      | none => exact .refuseWith
      | some r => exact .reply
  case fret =>
    rintro z p s h rfl
    refine runCmd_of_leaves rfl h (.ite .refuseWith (.ite .refuseWith ?_))
    cases (z.begun p).rset (p.u8 0) with
    | none => exact .refuseWith
    | some r =>
      dsimp only
      cases r.version (p.u8 1) with
      | none => exact .refuseWith
      | some v => exact .reply
  case level =>
    rintro z p s h rfl
    refine runCmd_of_leaves rfl h ?_
    cases (z.begun p).shadowVol (p.u16 0) with
    | none => exact .refuseWith
    | some v => exact .ite .refuseWith (.ite .refuseWith (.ite .refuseWith .reply))
  case lost =>
    rintro z p s h rfl
    exact runCmd_of_leaves rfl h .reply
  case replace =>
    rintro z p s h rfl
    refine runCmd_of_leaves rfl h (.ite .refuseWith ?_)
    cases (z.begun p).posCheck (p.u8 0) (p.u8 1) with
    | error e => exact .refuseWith
    | ok r => exact .ite .refuseWith (.ite .refuseWith (.ite .refuseWith .reply))
  case fail =>
    rintro z p s h rfl
    refine runCmd_of_leaves rfl h (.ite .refuseWith ?_)
    cases (z.begun p).posCheck (p.u8 0) (p.u8 1) with
    | error e => exact .refuseWith
    | ok r => exact .ite .refuseWith (.ite .refuseWith (.ite .refuseWith (.ite .refuseWith .reply)))
  case pause =>
    rintro z p s h rfl
    refine runCmd_of_leaves rfl h ?_
    cases (z.begun p).rset (p.u8 0) with
    | none => exact .refuseWith
    | some r => exact .ite .refuseWith (.ite .refuseWith (.ite .refuseWith .reply))

end Sys2Proof.Machine
end

section
/-! PROOFS. The training of the Nerryn link, heartbeats, capo swaps, silence, quorum, takeover, and the commands of the pair (R413
to R436). -/

namespace Sys2Proof.Machine

/-- Settles O50, one clause for each row: an event completes with the choice of effects that its clause spells out, and a command
leaves what its checks let it come to. The course of a capo swap, silence and quorum, the serial's low bytes, the free code of
the skip's record and the partner's map log are the model's choices (log entries 114, 116, 157, 158, 191 and 192). -/
theorem pairEventsAndCommands : Obligations.PairEventsAndCommands := by
  refine ⟨fun _ _ => rfl, fun _ => rfl, fun _ => rfl, fun _ => rfl, fun _ _ => rfl, fun _ => rfl, fun _ => rfl, fun _ => rfl,
    ?status, ?swap, ?home, ?spare, ?sole⟩
  case status =>
    rintro z p s h rfl
    exact runCmd_of_leaves rfl h .reply
  case swap =>
    rintro z p s h rfl
    refine runCmd_of_leaves rfl h (.ite .refuseWith ?_)
    cases (z.begun p).swapBlocked with
    | some n => exact .refuseWith
    | none => exact .promised
  case home =>
    rintro z p s h rfl
    refine runCmd_of_leaves rfl h (.ite .refuseWith (.ite .refuseWith (.ite .refuseWith ?_)))
    cases (z.begun p).vol (p.u16 0) with
    | none => exact .refuseWith
    | some v => exact .ite .refuseWith (.ite .reply (.ite .reply .promised))
  case spare =>
    rintro z p s h rfl
    refine runCmd_of_leaves rfl h ?_
    cases (List.range 3).find? (fun i => p.u8 (1 + i) ≠ 0) with
    | some i => exact .refuseWith
    | none => exact .ite .refuseWith (.ite .refuseWith .reply)
  case sole =>
    rintro z p s h rfl
    exact runCmd_of_leaves rfl h (.ite .refuseWith (.ite .refuseWith .reply))

end Sys2Proof.Machine
end

section
/-! PROOFS. The commands of a firmware update, and what follows an activation (R491 to R506). -/

namespace Sys2Proof.Machine

/-- Settles O59, one clause for each row: a command leaves what its checks let it come to, also where a refusal discards the image
or draws its DETAIL. The image checks, REFUSED_STATE 3 and UPD_BUSY, who asks for the grant, the key of a body, and the serial's
low bytes are the model's choices (log entries 126 to 128, 155 and 157). -/
theorem updateCommands : Obligations.UpdateCommands := by
  refine ⟨?status, ?opened, ?data, ?close, ?activate, ?cancel, ?licence, ?comp, ?solo⟩
  case status =>
    rintro z p s h rfl
    exact runCmd_of_leaves rfl h .reply
  case opened =>
    rintro z p s h rfl
    refine runCmd_of_leaves rfl h (.ite .refuseWith ?_)
    cases headerFails (slice p.params 0 4096) with
    | some off => exact .refuseWith
    | none =>
      refine .ite .refuseWith <| .ite .refuseWith <| .ite .refuseWith <| .ite .refuseWith ?_
      cases manifestFails (parseImage (slice p.params 0 4096)) with
      | some i => exact .ite .refuseWith .refuseWith
      | none => exact .reply
  case data =>
    rintro z p s h rfl
    refine runCmd_of_leaves rfl h ?_
    cases (z.begun p).upd.image with
    | none => exact .refuseWith
    | some im => exact .ite .refuseWith <| .ite .refuseWith <| .ite .refuseWith <| .ite .refuseWith .reply
  case close =>
    rintro z p s h rfl
    refine runCmd_of_leaves rfl h ?_
    cases (z.begun p).upd.image with
    | none => exact .refuseWith
    | some im =>
      refine .ite .refuseWith <| .ite .refuseWith <| .ite .answered <| .ite .answered ?_
      cases (List.range im.comps.length).find? (fun i =>
          Config.sha 256 (im.bytes (im.comps.getD i default).offset (im.comps.getD i default).length) ≠
            (im.comps.getD i default).digest) with
      | some i => exact .answered
      | none => exact .reply
  case activate =>
    rintro z p s h rfl
    refine runCmd_of_leaves rfl h ?_
    cases (z.begun p).activateBlocked false with
    | some refusal => exact .refuseWith
    | none =>
      refine .ite (.ite .refuseWith ?_) (.ite .refuseWith .promised)
      cases (z.begun p).compsBlocked with
      | some refusal => exact .refuseWith
      | none => exact .reply
  case cancel =>
    rintro z p s h rfl
    exact runCmd_of_leaves rfl h (.ite .refuseWith (.ite .refuseWith .reply))
  case licence =>
    rintro z p s h rfl
    exact runCmd_of_leaves rfl h (.ite .refuseWith .reply)
  case comp =>
    rintro z p s h rfl
    exact runCmd_of_leaves rfl h <| .ite .refuseWith <| .ite .refuseWith <| .ite .refuseWith <| .ite .refuseWith <|
      .ite .refuseWith <| .ite .promised .promised
  case solo =>
    rintro z p s h rfl
    refine runCmd_of_leaves rfl h (.ite .refuseWith ?_)
    cases ((z.begun p).activateBlocked true).orElse (fun _ => (z.begun p).compsBlocked) with
    | some refusal => exact .refuseWith
    | none => exact .reply

/-- Settles O60: no row takes an operand that could be ill-formed, so each completes with the choice of effects that its clause
spells out. A retry that starts with QUERY, and reverts that are sent at once and end at the SWITCH timeout, are the model's
choices (log entries 125 and 128). -/
theorem updateEvents : Obligations.UpdateEvents := by
  refine ⟨?retry, ?timeout, ?written⟩
  case retry => exact fun _ _ => rfl
  case timeout => exact fun _ => rfl
  case written => exact fun _ => rfl

end Sys2Proof.Machine
end

section
/-! PROOFS. A command goes on where its operands are well formed, and else stops with the fault that says so (R12, R95). -/

namespace Sys2Proof.Machine

/-- A packet command goes on where its packet carries the row's opcode. -/
theorem runCmd_eq_okIf {op : Nat} (p : Packet) (s : State) (body : State → Res) (hop : (opSpec op).isSome = true) :
    ∃ u, runCmd op p s body = okIf (decide (p.opcode = op)) u := by
  obtain ⟨o, ho⟩ := Option.isSome_iff_exists.mp hop
  unfold runCmd
  rw [ho]
  dsimp only
  by_cases h : p.opcode = op
  · simp only [h, ne_eq, not_true_eq_false, if_false, decide_true]
    split
    · exact ⟨_, rfl⟩
    · exact ⟨_, rfl⟩
  · simp only [h, ne_eq, not_false_eq_true, if_true, decide_false]
    exact ⟨s, rfl⟩

theorem eq_okIf_of_runCmd {i : Instr} {op : Nat} {p : Packet} {s : State} (body : State → Res)
    (hexec : exec i s = runCmd op p s body) (hwf : i.wf = decide (p.opcode = op)) (hop : (opSpec op).isSome = true) :
    ∃ u, exec i s = okIf i.wf u := by
  rw [hexec, hwf]
  exact runCmd_eq_okIf p s body hop

/-- Every command goes on, to some state, exactly where it is well formed: a packet row in the frame of its opcode, another row by
the check that its meaning makes itself. -/
theorem exec_eq_okIf (i : Instr) (s : State) : ∃ u, exec i s = okIf i.wf u := by
  cases i
  case ping | getStatus | getHealth | getIdent | getLoad | reset | settingsReset | openSession | closeSession |
      expertUnlock | clusterSwap | createQp | deleteQp | resetQp | qpStatus | setCoalesce | getQpStats | qpCtxRead |
      connCreate | connDestroy | connStatus | pathSet | portAddr | excRing | trigAlloc | trigPost | trigFree | trigStatus |
      portStatus | connCtxRead | policySet | policyGet | xfStats | rekeyStart | rekeyStatus | sealKeyExport | getKcv |
      rootLoad | ftlStatus | tierSet | unitInfo | purge | dumpStatus | mapPageRead | linkStatus | moduleIdent | laneSpare |
      bridgeRaw | tunStatus | groupHealth | moduleWear | patrolRestart | tuningFreeze | dieSwap | setWrite | hdaStatus |
      hdaIdent | hdaFormat | zoneSets | reallocList | sampleCapture | stringStatus | carrierIdent | driveSet | srvStatus |
      loopProfile | loopGet | traceArm | traceRead | loopSetRaw | seekTest | spinUp | spinDown | spinStatus | phaseSet |
      motorSet | setCreate | setStatus | fretRead | levelSet | lostList | replace | memberFail | rebuildPause | volCreate |
      volDelete | volSet | volStatus | snapCreate | snapDelete | snapList | replLinkCreate | replLinkPeer | replLinkConn |
      replLinkDelete | replBind | replUnbind | replCut | replStatus | replPromote | replResync | pairStatus | capoSwap |
      volHome | nrnLaneSpare | soleTakeover | memStatus | sramHealth | repairModeSet | mccStats | pciStatus | evrStatus |
      evrRead | evrRateSet | evrTrigSet | evrWallSet | evrClearNonce | evrClear | updStatus | updOpen | updData |
      updClose | updActivate | updCancel | licenceSet | compStatus | activateSolo =>
    exact eq_okIf_of_runCmd _ rfl rfl rfl
  case feedFailed loss =>
    cases loss
    · exact ⟨_, rfl⟩
    · exact ⟨_, rfl⟩
  case gateEntryDone q cluster =>
    cases cluster
    · exact ⟨_, congrArg (okIf · _) (Bool.and_true _).symm⟩
    · exact ⟨_, rfl⟩
  case packetTake src load =>
    cases src
    · exact ⟨_, rfl⟩
    · exact ⟨_, rfl⟩
  all_goals exact ⟨_, rfl⟩
/-- A step that answers a next state has brought it up to date. -/
theorem step_settles {s t : State} (h : step s = .next t) : ∃ u : State, t = u.settle := by
  unfold step at h
  split at h
  · next c rest _ =>
    obtain ⟨u, hu⟩ := exec_eq_okIf c { s with pending := rest }
    rw [hu] at h
    cases hwf : c.wf
    · rw [okIf_false _ hwf] at h
      cases h
    · rw [okIf_true _ hwf] at h
      exact ⟨u, (Host.Outcome.next.inj h).symm⟩
  · exact ⟨_, (Host.Outcome.next.inj h).symm⟩

/-- Settles O1. The queue is the model's own (log entry 4). -/
theorem stepRunsFrontCommand : Obligations.StepRunsFrontCommand := fun _ _ _ => rfl

/-- Settles O3. That an ill-formed command stops with illFormed is the model's choice (log entry 9). -/
theorem wellFormedCommandsComplete : Obligations.WellFormedCommandsComplete := by
  intro i s
  obtain ⟨u, hu⟩ := exec_eq_okIf i s
  rw [hu]
  split
  · next hwf => exact ⟨u.settle, okIf_true u hwf⟩
  · next hwf => exact okIf_false u (Bool.eq_false_iff.mpr hwf)

end Sys2Proof.Machine
end

section
/-! PROOFS. The end of a command shows the state in its live status fields: what each part shows, that no other part changes
it, and that what it rests on is left alone (R25, R53, R60, R105). -/

namespace Sys2Proof.Machine

/-! ## States that differ in live fields alone -/

/-- Two states agree in everything but register fields, and in those except at the bits that P names. -/
structure State.SameBut (P : Nat → Bool) (s t : State) : Prop where
  rest : t = { s with flds := t.flds }
  get_eq : ∀ f : Fld, P f.bit = false → t.get f = s.get f

section
variable {P Q : Nat → Bool} {s t u : State}

theorem State.SameBut.refl (s : State) : s.SameBut P s := ⟨rfl, fun _ _ => rfl⟩

theorem State.SameBut.trans (h : s.SameBut P t) (k : t.SameBut P u) : s.SameBut P u := by
  refine ⟨?_, fun f hf => (k.get_eq f hf).trans (h.get_eq f hf)⟩
  obtain ⟨hrest, -⟩ := h
  rw [k.rest, hrest]

theorem State.SameBut.mono (h : s.SameBut P t) (hPQ : ∀ b, P b = true → Q b = true) : s.SameBut Q t :=
  ⟨h.rest, fun f hf => h.get_eq f (Bool.eq_false_iff.mpr fun hp => by simp [hPQ _ hp] at hf)⟩

theorem State.SameBut.put (h : s.SameBut P t) {f : Fld} (v : Nat) (hf : P f.bit = true) : s.SameBut P (t.put f v) :=
  h.trans ⟨rfl, fun g hg => t.get_put_ne f g v fun hb => by simp [← hb, hf] at hg⟩

theorem State.SameBut.show (h : s.SameBut P t) {f : Fld} (v : Nat) (hf : P f.bit = true) : s.SameBut P (t.show f v) :=
  h.put _ hf

theorem State.SameBut.foldl {α : Type} {g : State → α → State} {l : List α} (h : s.SameBut P t)
    (hg : ∀ a ∈ l, ∀ u : State, s.SameBut P u → s.SameBut P (g u a)) : s.SameBut P (l.foldl g t) := by
  induction l generalizing t with
  | nil => exact h
  | cons a l ih =>
    obtain ⟨ha, hl⟩ := List.forall_mem_cons.mp hg
    exact ih (ha t h) hl

theorem fldFind_filter_keep (l : List (Nat × Nat)) (keep : Nat → Bool) {b : Nat} (hb : keep b = true) :
    fldFind (l.filter (fun e => keep e.1)) b = fldFind l b := by
  induction l with
  | nil => rfl
  | cons e l ih =>
    obtain ⟨a, v⟩ := e
    by_cases ha : keep a = true
    · simp only [List.filter_cons, ha, if_true, fldFind, ih]
    · have hne : a ≠ b := fun hab => ha (hab ▸ hb)
      simp only [List.filter_cons, ha, Bool.false_eq_true, if_false, fldFind, hne, ih]

theorem State.SameBut.unshow (h : s.SameBut P t) (lo hi : Nat) (hP : ∀ b, 8 * lo ≤ b → b < 8 * hi → P b = true) :
    s.SameBut P (t.unshow lo hi) := by
  refine h.trans ⟨rfl, fun f hf => ?_⟩
  have hkeep : (decide (f.bit < 8 * lo) || decide (8 * hi ≤ f.bit)) = true := by
    rw [Bool.or_eq_true, decide_eq_true_eq, decide_eq_true_eq]
    by_contra hc
    rw [hP _ (by omega) (by omega)] at hf
    cases hf
  exact congrArg (Option.getD · f.reset)
    (fldFind_filter_keep t.flds (fun b => decide (b < 8 * lo) || decide (8 * hi ≤ b)) hkeep)
end

/-! ## The fields that each part of the end of a command shows -/

/-- The bits of the fields that one part of the end of a command shows: those of single registers, and those of the registers of
n units. -/
def shownBit (fs : List Fld) (n : Nat) (gs : Nat → List Fld) (b : Nat) : Bool :=
  fs.any (fun f => f.bit = b) || (List.range n).any (fun i => (gs i).any (fun f => f.bit = b))

section
variable {fs : List Fld} {n : Nat} {gs : Nat → List Fld}

theorem shownBit_of_mem {f : Fld} (h : f ∈ fs) : shownBit fs n gs f.bit = true := by
  simp only [shownBit, Bool.or_eq_true, List.any_eq_true, decide_eq_true_eq]
  exact .inl ⟨f, h, rfl⟩

theorem shownBit_of_unit {f : Fld} {i : Nat} (hi : i < n) (h : f ∈ gs i) : shownBit fs n gs f.bit = true := by
  simp only [shownBit, Bool.or_eq_true, List.any_eq_true, decide_eq_true_eq, List.mem_range]
  exact .inr ⟨i, hi, f, h, rfl⟩

/-- A part shows one of its single fields. -/
theorem State.SameBut.putOf {s t : State} {f : Fld} (h : s.SameBut (shownBit fs n gs) t) (v : Nat) (hf : f ∈ fs := by simp) :
    s.SameBut (shownBit fs n gs) (t.put f v) := h.put v (shownBit_of_mem hf)

/-- A part shows a field of unit i. -/
theorem State.SameBut.putUnit {s t : State} {f : Fld} {i : Nat} (hi : i < n) (h : s.SameBut (shownBit fs n gs) t) (v : Nat)
    (hf : f ∈ gs i := by simp) : s.SameBut (shownBit fs n gs) (t.put f v) := h.put v (shownBit_of_unit hi hf)

end

abbrev hdaShown : Nat → Bool :=
  shownBit [TUN.HDA_STS.SUSPECT, SPN.ACTIVE.SPINNING, SPN.ACTIVE.ACCEL, SPN.ACTIVE.WAITING] 4
    fun q => [HRC.POOLn_STS.PAIRS q, HRC.POOLn_STS.BUSY q, HRC.POOLn_STS.WAITING q]

abbrev powerShown : Nat → Bool :=
  shownBit [PWR.GATE_STS.GATED, PWR.THERM_STS.Q_THROTTLE, PWR.SPRINT_STS.BUDGET_DS, PWR.FEED_STS.HOLDUP_OK] 4
    fun q => [CLK.Qn_STS.STEP q, CLK.Qn_STS.GATED q]

abbrev controlShown : Nat → Bool :=
  shownBit [CMD.STS.SESSIONS, CMD.STS.EXPERT, EVR.STS.COUNT, EVR.STS.WALL, EVR.STS.ERASING, EVR.STS.MIRROR_LAG] 0 fun _ => []

/-- The status registers of the sets lie in one range, which is taken back before it is shown. -/
def setShown (b : Nat) : Bool :=
  [RDN.STS.DEGRADED, RDN.STS.REBUILD, RDN.STS.RESYNC, RDN.LOST_STS.PINNED, RDN.LOST_STS.USED].any (fun f => f.bit = b) ||
  decide (8 * 0x100100 ≤ b) && decide (b < 8 * 0x100500)

abbrev flashShown : Nat → Bool :=
  shownBit [FTL.DUMP_STS.CAP_16M, FTL.DIRTY.BYTES_64K, FTL.STS.WRITE_HELD, FTL.STS.SWEEP, XF.DEDUP_STS.FILL_PCT] 48
    fun k => [TUN.MODk_STS.STAGE k, TUN.MODk_STS.DIES_SPARE k, TUN.MODk_STS.IT_MEAN k, TUN.MODk_STS.BLOCK_PCT k,
      TUN.MODk_STS.SUSPECT k, TUN.MODk_WEAR.ERASE_MEAN k, TUN.MODk_WEAR.RETIRED k, FLK.LINKk_STS.DUMP_READY k]

abbrev pairShown : Nat → Bool :=
  shownBit [NRN.STS.SYNCED, NRN.PAIR_STS.RESYNC_PCT, NRN.LANE_STS.SPARES, NRN.LANE_STS.ACTIVE, NRN.MIRROR.HELD_64M,
    NRN.MIRROR.UNACKED_64K] 0 fun _ => []

theorem quad_lt {q : Nat} (h : q ∈ [0, 1, 2, 3]) : q < 4 := by simp at h; omega

theorem State.settlePower_sameBut (s : State) : s.SameBut powerShown s.settlePower :=
  (State.SameBut.foldl ((State.SameBut.refl s).putOf _) fun _ hq _ hu =>
    (hu.putUnit (quad_lt hq) _).putUnit (quad_lt hq) _).putOf _ |>.putOf _ |>.putOf _

theorem State.settleControl_sameBut (s : State) : s.SameBut controlShown s.settleControl :=
  (((((State.SameBut.refl s).putOf _).putOf _).putOf _).putOf _).putOf _ |>.putOf _

theorem setShown_of_set {n : Nat} (h : n < 256) {f : Fld}
    (hf : f ∈ [RDN.SETs_STS.STATE n, RDN.SETs_STS.REBUILD_PCT n, RDN.SETs_STS.DECL_PCT n, RDN.SETs_STS.FAILED n,
      RDN.SETs_STS.VERSIONS n]) : setShown f.bit = true := by
  simp only [setShown, Bool.or_eq_true, Bool.and_eq_true, decide_eq_true_eq]
  right
  simp only [List.mem_cons, List.not_mem_nil, or_false] at hf
  rcases hf with rfl | rfl | rfl | rfl | rfl
  all_goals simp only [RDN.SETs_STS.STATE, RDN.SETs_STS.REBUILD_PCT, RDN.SETs_STS.DECL_PCT, RDN.SETs_STS.FAILED,
      RDN.SETs_STS.VERSIONS]; omega

/-- A part shows a field of a set's registers. -/
theorem State.SameBut.putSet {s t : State} {f : Fld} {n : Nat} (hn : n < 256) (h : s.SameBut setShown t) (v : Nat)
    (hf : f ∈ [RDN.SETs_STS.STATE n, RDN.SETs_STS.REBUILD_PCT n, RDN.SETs_STS.DECL_PCT n, RDN.SETs_STS.FAILED n,
      RDN.SETs_STS.VERSIONS n] := by simp) : s.SameBut setShown (t.put f v) := h.put v (setShown_of_set hn hf)

/-- The sets' own registers come first, then the five fields for all sets. -/
theorem State.settleSets_eq {s : State} (h : ∀ r ∈ s.act.sets, r.num < 256) :
    ∃ w, s.SameBut setShown w ∧ s.settleSets =
      ((((w.put RDN.STS.DEGRADED (b2n (w.act.sets.any (fun r => r.pstate.any (· ≠ 0))))).put RDN.STS.REBUILD
        (b2n (!w.nv.media.rebuilds.isEmpty))).put RDN.STS.RESYNC (b2n w.dp.resync)).show RDN.LOST_STS.PINNED
        (w.nv.media.bands.filter Band.pinned).length).show RDN.LOST_STS.USED w.nv.media.lost.length :=
  ⟨_, State.SameBut.foldl ((State.SameBut.refl s).unshow _ _ fun b hl hh => by simp [setShown, hl, hh]) fun r hr _ hu =>
    ((((hu.putSet (h r hr) _).putSet (h r hr) _).putSet (h r hr) _).putSet (h r hr) _).putSet (h r hr) _, rfl⟩

theorem State.settleSets_sameBut {s : State} (h : ∀ r ∈ s.act.sets, r.num < 256) : s.SameBut setShown s.settleSets := by
  obtain ⟨w, hw, heq⟩ := State.settleSets_eq h
  rw [heq]
  exact ((((hw.put _ (by decide)).put _ (by decide)).put _ (by decide)).put _ (by decide)).put _ (by decide)

theorem State.settleModule_sameBut (s : State) {m : Module} (h : m.link < 48) : s.SameBut flashShown (s.settleModule m) :=
  (((((State.SameBut.refl s).putUnit h _).putUnit h _).putUnit h _).putUnit h _).putUnit h _ |>.putUnit h _ |>.putUnit h _

/-- The modules' and the links' own registers come first, then the five fields for all of them. -/
theorem State.settleFlash_eq {s : State} (h : ∀ m ∈ s.nv.media.modules, m.link < 48) :
    ∃ (w : State) (cap dirty held fill : Nat), s.SameBut flashShown w ∧ s.settleFlash =
      ((((w.put FTL.DUMP_STS.CAP_16M cap).put FTL.DIRTY.BYTES_64K dirty).put FTL.STS.WRITE_HELD held).put FTL.STS.SWEEP
        (b2n (w.dp.sweeps.any (fun x => !x.2.2.2)))).put XF.DEDUP_STS.FILL_PCT fill :=
  have hmodules : s.SameBut flashShown (s.nv.media.modules.foldl State.settleModule s) :=
    .foldl (.refl s) fun m hm u hu => hu.trans (u.settleModule_sameBut (h m hm))
  ⟨_, _, _, _, _, hmodules.foldl fun _ hk _ hu => hu.putUnit (List.mem_range.mp hk) _, rfl⟩

theorem State.settleFlash_sameBut {s : State} (h : ∀ m ∈ s.nv.media.modules, m.link < 48) : s.SameBut flashShown s.settleFlash := by
  obtain ⟨w, cap, dirty, held, fill, hw, heq⟩ := State.settleFlash_eq h
  rw [heq]
  exact (((hw.putOf _).putOf _).putOf _).putOf _ |>.putOf _

theorem State.settlePair_sameBut (s : State) : s.SameBut pairShown s.settlePair :=
  (((((State.SameBut.refl s).putOf _).putOf _).putOf _).putOf _).putOf _ |>.putOf _

/-- What is shown of one quadrant's ports and entropy: the body of the model's loop. -/
def State.queueQuad (s : State) (q : Nat) : State :=
  let low := (s.pwr.quads.getD q .gated).isGated
  let lpi := fun (s : State) p => s.put (VRM.PORTp_STS.LPI p) (if low then s.get (VRM.PORTp_STS.UP p) else 0)
  (lpi (lpi s (2 * q)) (2 * q + 1)).show (XF.ENT_STS.FAILS q) (s.entFails q).length

theorem State.queueQuad_sameBut (s : State) (q : Nat) :
    s.SameBut (shownBit [VRM.PORTp_STS.LPI (2 * q), VRM.PORTp_STS.LPI (2 * q + 1), XF.ENT_STS.FAILS q] 0 fun _ => [])
      (s.queueQuad q) :=
  (((State.SameBut.refl s).putOf _).putOf _).putOf _

abbrev quadsShown : Nat → Bool :=
  shownBit [] 4 fun q => [VRM.PORTp_STS.LPI (2 * q), VRM.PORTp_STS.LPI (2 * q + 1), XF.ENT_STS.FAILS q]

theorem State.foldl_queueQuad_sameBut (s : State) : s.SameBut quadsShown ([0, 1, 2, 3].foldl State.queueQuad s) :=
  .foldl (.refl s) fun _ hq _ hu =>
    ((hu.putUnit (quad_lt hq) _).putUnit (quad_lt hq) _).putUnit (quad_lt hq) _

abbrev queueShown (b : Nat) : Bool :=
  shownBit [HQ.LOCK_STS.WAITING, HQ.LOCK_STS.PEAK_USED, HQ.CTX_STS.CACHED, VRM.CTX_STS.CACHED, SYS.EPOCH_RET.COUNT] 0 (fun _ => []) b ||
  quadsShown b

/-- Four fields for all queues come first, then those of each quadrant, then the work of retiring banks. -/
theorem State.settleQueues_eq (s : State) : ∃ peak,
    s.settleQueues =
      let w := ((((s.show HQ.LOCK_STS.WAITING (s.hq.locks.filter (fun l => !l.granted)).length).put HQ.LOCK_STS.PEAK_USED peak).show
        HQ.CTX_STS.CACHED (s.hq.qps.filter Qp.cached).length).show VRM.CTX_STS.CACHED (s.vrm.conns.filter Conn.cached).length)
      let v := [0, 1, 2, 3].foldl State.queueQuad w
      v.put SYS.EPOCH_RET.COUNT v.retCount := ⟨_, rfl⟩

theorem State.settleQueues_sameBut (s : State) : s.SameBut queueShown s.settleQueues := by
  obtain ⟨peak, heq⟩ := s.settleQueues_eq
  rw [heq]
  have hquads := fun w : State => w.foldl_queueQuad_sameBut.mono (Q := queueShown) fun b hb => by simp only [queueShown, hb, Bool.or_true]
  exact ((((((State.SameBut.refl s).put _ (by decide)).put _ (by decide)).put _ (by decide)).put _ (by decide)).trans (hquads _)).put _
    (by decide)

/-! ## All shown fields are live fields -/

theorem shownBit_elim {fs : List Fld} {n : Nat} {gs : Nat → List Fld} {Q : Nat → Bool} (hf : ∀ f ∈ fs, Q f.bit = true)
    (hg : ∀ i < n, ∀ f ∈ gs i, Q f.bit = true) (b : Nat) (h : shownBit fs n gs b = true) : Q b = true := by
  simp only [shownBit, Bool.or_eq_true, List.any_eq_true, decide_eq_true_eq, List.mem_range] at h
  rcases h with ⟨f, hmem, rfl⟩ | ⟨i, hi, f, hmem, rfl⟩
  · exact hf f hmem
  · exact hg i hi f hmem

theorem liveBit_of_hda : ∀ b, hdaShown b = true → liveBit b = true := shownBit_elim (by decide) (by decide)
theorem liveBit_of_power : ∀ b, powerShown b = true → liveBit b = true := shownBit_elim (by decide) (by decide)
theorem liveBit_of_control : ∀ b, controlShown b = true → liveBit b = true := shownBit_elim (by decide) (by decide)

theorem liveBit_of_link {k : Nat} (hk : k < 48) {f : Fld}
    (hf : f ∈ [TUN.MODk_STS.STAGE k, TUN.MODk_STS.DIES_SPARE k, TUN.MODk_STS.IT_MEAN k, TUN.MODk_STS.BLOCK_PCT k,
      TUN.MODk_STS.SUSPECT k, TUN.MODk_WEAR.ERASE_MEAN k, TUN.MODk_WEAR.RETIRED k, FLK.LINKk_STS.DUMP_READY k]) :
    liveBit f.bit = true :=
  Bool.or_eq_true_iff.mpr <| .inr <| List.any_eq_true.mpr
    ⟨k, List.mem_range.mpr hk, List.any_eq_true.mpr ⟨f, hf, decide_eq_true rfl⟩⟩

theorem liveBit_of_flash : ∀ b, flashShown b = true → liveBit b = true :=
  shownBit_elim (by decide) fun _ hk _ hf => liveBit_of_link hk hf

theorem liveBit_of_pair : ∀ b, pairShown b = true → liveBit b = true := shownBit_elim (by decide) (by decide)
theorem liveBit_of_queue (b : Nat) (h : queueShown b = true) : liveBit b = true := by
  rcases Bool.or_eq_true_iff.mp h with h | h
  · exact shownBit_elim (by decide) (by decide) b h
  · exact shownBit_elim (by decide) (by decide) b h

theorem liveBit_of_set (b : Nat) (h : setShown b = true) : liveBit b = true := by
  simp only [setShown, Bool.or_eq_true, Bool.and_eq_true] at h
  rcases h with h | h
  · obtain ⟨f, hf, hb⟩ := List.any_eq_true.mp h
    exact of_decide_eq_true hb ▸ (by decide : ∀ f ∈ [RDN.STS.DEGRADED, RDN.STS.REBUILD, RDN.STS.RESYNC,
      RDN.LOST_STS.PINNED, RDN.LOST_STS.USED], liveBit f.bit = true) f hf
  · simp only [liveBit, h.1, h.2, Bool.and_true, Bool.or_true, Bool.true_or]

/-- The six parts that show fields once all work is carried on. -/
def State.shown (s : State) : State := s.settlePower.settleControl.settleSets.settleFlash.settlePair.settleQueues

section
variable {s : State} (h : s.inRange)
include h

/-- What each part starts from differs from s in live fields alone. -/
theorem State.shown_stages :
    s.SameBut liveBit s.settlePower ∧ s.SameBut liveBit s.settlePower.settleControl ∧
    s.SameBut liveBit s.settlePower.settleControl.settleSets ∧
    s.SameBut liveBit s.settlePower.settleControl.settleSets.settleFlash ∧
    s.SameBut liveBit s.settlePower.settleControl.settleSets.settleFlash.settlePair := by
  obtain ⟨hsets, hlinks⟩ := h
  have hp := s.settlePower_sameBut.mono liveBit_of_power
  have hc := hp.trans (s.settlePower.settleControl_sameBut.mono liveBit_of_control)
  have hs := hc.trans ((State.settleSets_sameBut (by rw [hc.rest]; exact hsets)).mono liveBit_of_set)
  have hf := hs.trans ((State.settleFlash_sameBut (by rw [hs.rest]; exact hlinks)).mono liveBit_of_flash)
  exact ⟨hp, hc, hs, hf, hf.trans ((State.settlePair_sameBut _).mono liveBit_of_pair)⟩

theorem State.shown_inRange : (∀ r ∈ s.settlePower.settleControl.act.sets, r.num < 256) ∧
    ∀ m ∈ s.settlePower.settleControl.settleSets.nv.media.modules, m.link < 48 := by
  obtain ⟨-, hc, hs, -, -⟩ := State.shown_stages h
  exact ⟨by rw [hc.rest]; exact h.1, by rw [hs.rest]; exact h.2⟩

theorem State.shown_sameBut : s.SameBut liveBit s.shown := by
  obtain ⟨-, -, -, -, hn⟩ := State.shown_stages h
  exact hn.trans ((State.settleQueues_sameBut _).mono liveBit_of_queue)

omit h in
theorem State.get_shown_pair {f : Fld} (hf : queueShown f.bit = false) :
    s.shown.get f = s.settlePower.settleControl.settleSets.settleFlash.settlePair.get f :=
  (State.settleQueues_sameBut _).get_eq f hf

omit h in
theorem State.get_shown_flash {f : Fld} (hf : pairShown f.bit = false ∧ queueShown f.bit = false) :
    s.shown.get f = s.settlePower.settleControl.settleSets.settleFlash.get f :=
  (State.get_shown_pair hf.2).trans ((State.settlePair_sameBut _).get_eq f hf.1)

theorem State.get_shown_sets {f : Fld} (hf : flashShown f.bit = false ∧ pairShown f.bit = false ∧ queueShown f.bit = false) :
    s.shown.get f = s.settlePower.settleControl.settleSets.get f :=
  (State.get_shown_flash hf.2).trans ((State.settleFlash_sameBut (State.shown_inRange h).2).get_eq f hf.1)

theorem State.get_shown_control {f : Fld}
    (hf : setShown f.bit = false ∧ flashShown f.bit = false ∧ pairShown f.bit = false ∧ queueShown f.bit = false) :
    s.shown.get f = s.settlePower.settleControl.get f :=
  (State.get_shown_sets h hf.2).trans ((State.settleSets_sameBut (State.shown_inRange h).1).get_eq f hf.1)

theorem State.get_shown_power {f : Fld} (hf : controlShown f.bit = false ∧ setShown f.bit = false ∧ flashShown f.bit = false ∧
    pairShown f.bit = false ∧ queueShown f.bit = false) : s.shown.get f = s.settlePower.get f :=
  (State.get_shown_control h hf.2).trans ((State.settleControl_sameBut _).get_eq f hf.1)

end


/-! ## What the shown values rest on -/

section
variable {s t : State} (h : s.SameBut liveBit t)
include h

theorem State.SameBut.linkUp {k : Nat} (hk : k < 48) : t.linkUp k = s.linkUp k := by
  have hstate : t.get (FLK.LINKk_STS.STATE k) = s.get (FLK.LINKk_STS.STATE k) :=
    h.get_eq _ ((by decide : ∀ k < 48, liveBit (FLK.LINKk_STS.STATE k).bit = false) k hk)
  rw [State.linkUp, State.linkUp, hstate, h.rest]
  rfl

theorem State.SameBut.s2Quads : t.s2Quads = s.s2Quads := by
  refine List.filter_congr fun q hq => ?_
  have hq := quad_lt hq
  have hlink : ∀ c, (decide (memberNo c / 12 = q) && t.linkUp (memberNo c)) =
      (decide (memberNo c / 12 = q) && s.linkUp (memberNo c)) := by
    intro c
    by_cases hc : memberNo c / 12 = q
    · rw [h.linkUp (by omega)]
    · simp [hc]
  simp only [Bool.and_assoc, hlink]
  rw [h.rest]

theorem State.SameBut.s2Serving : t.s2Serving = s.s2Serving := by
  have hserve := h.get_eq SYS.START_STS.SERVE_Q (by decide)
  simp only [State.s2Serving, State.bit, hserve]
  rw [h.rest]

theorem State.SameBut.effStep {q : Nat} (hq : q < 4) : t.effStep q = s.effStep q := by
  have hfloor := h.get_eq (CLK.Qn_CTL.STEP_FLOOR q)
    ((by decide : ∀ q < 4, liveBit (CLK.Qn_CTL.STEP_FLOOR q).bit = false) q hq)
  simp only [State.effStep, hfloor, h.s2Serving, h.s2Quads, State.forced]
  rw [h.rest]

theorem State.SameBut.mirrorHeld : t.mirrorHeld = s.mirrorHeld := by
  rw [h.rest]
  rfl

theorem State.SameBut.unackedBytes : t.unackedBytes = s.unackedBytes := by
  rw [h.rest]
  rfl

theorem State.SameBut.entFails (q : Nat) : t.entFails q = s.entFails q := by
  rw [h.rest]
  rfl

theorem State.SameBut.retCount : t.retCount = s.retCount := by
  have hepoch := h.get_eq SYS.EPOCH_NUM.NUM (by decide)
  simp only [State.retCount, hepoch, State.jobLives]
  rw [h.rest]

end

/-- A word of 32 gate bits fits its register. -/
theorem gateWord_lt (cl qs : List Gate) : gateWord cl qs < 2 ^ 32 := by
  have hsum : ∀ (c : Nat → Bool) (n : Nat), ((List.range n).map (fun i => if c i then 2 ^ i else 0)).sum < 2 ^ n := by
    intro c n
    induction n with
    | zero => simp
    | succ n ih =>
      rw [List.range_succ, List.map_append, List.sum_append, Nat.pow_succ]
      cases hc : c n
      · simp [hc]; omega
      · simp [hc]; omega
  exact hsum (fun i => (cl.getD i .gated).isGated || (qs.getD (i / 8) .gated).isGated) 32

theorem b2n_mod_two (b : Bool) : b2n b % 2 ^ 1 = b2n b := by cases b <;> rfl

theorem min_mod_two_pow (w v : Nat) : min (2 ^ w - 1) v % 2 ^ w = min (2 ^ w - 1) v :=
  Nat.mod_eq_of_lt (Nat.lt_of_le_of_lt (Nat.min_le_left _ _) (Nat.sub_lt (Nat.two_pow_pos w) Nat.one_pos))

theorem State.effStep_put (s : State) {f : Fld} {v q : Nat} (hf : powerShown f.bit = true) (hq : q < 4) :
    (s.put f v).effStep q = s.effStep q := ((State.SameBut.refl s).put v (liveBit_of_power _ hf)).effStep hq

/-! ## The values that are shown -/

theorem State.settlePower_values (s : State) :
    s.settlePower.get PWR.GATE_STS.GATED = gateWord s.pwr.clusters s.pwr.quads ∧
    (∀ q < 4, s.settlePower.get (CLK.Qn_STS.STEP q) = s.effStep q % 16 ∧
      s.settlePower.get (CLK.Qn_STS.GATED q) = b2n (s.pwr.quads.getD q .gated).isGated) ∧
    s.settlePower.get PWR.SPRINT_STS.BUDGET_DS = s.pwr.budgetMs / 100 % 2 ^ PWR.SPRINT_STS.BUDGET_DS.width ∧
    s.settlePower.get PWR.FEED_STS.HOLDUP_OK = b2n s.pwr.holdup := by
  unfold State.settlePower
  refine ⟨?gated, ?quads, ?budget, ?holdup⟩
  case gated =>
    simp (disch := decide) only [State.get_put_ne, State.get_put_same, List.foldl_cons, List.foldl_nil]
    exact Nat.mod_eq_of_lt (gateWord_lt _ _)
  case quads =>
    intro q hq
    interval_cases q
    all_goals
      simp (disch := decide) only [State.get_put_ne, State.get_put_same, State.effStep_put, List.foldl_cons, List.foldl_nil, State.put_pwr]
      exact ⟨rfl, b2n_mod_two _⟩
  case budget =>
    simp (disch := decide) only [State.get_put_ne, State.get_put_same, List.foldl_cons, List.foldl_nil, State.put_pwr]
  case holdup =>
    simp (disch := decide) only [State.get_put_same, List.foldl_cons, List.foldl_nil, State.put_pwr]
    exact b2n_mod_two _

theorem State.settleControl_values (s : State) :
    s.settleControl.get CMD.STS.SESSIONS = s.cmd.sessions.length % 2 ^ CMD.STS.SESSIONS.width ∧
    s.settleControl.get CMD.STS.EXPERT = (s.cmd.sessions.filter Session.expert).length % 2 ^ CMD.STS.EXPERT.width ∧
    s.settleControl.get EVR.STS.COUNT = s.evr.log.length % 2 ^ EVR.STS.COUNT.width ∧
    s.settleControl.get EVR.STS.WALL = b2n s.evr.wallAt.isSome ∧
    s.settleControl.get EVR.STS.ERASING = b2n (s.nv.mirror.eraseLeft ≠ 0) := by
  unfold State.settleControl
  simp (disch := decide) only [State.get_put_ne, State.get_put_same, State.put_cmd, State.put_evr, State.put_nv]
  exact ⟨trivial, trivial, trivial, b2n_mod_two _, b2n_mod_two _⟩

theorem State.settleSets_values {s : State} (h : ∀ r ∈ s.act.sets, r.num < 256) :
    s.settleSets.get RDN.STS.DEGRADED = b2n (s.act.sets.any (fun r => r.pstate.any (· ≠ 0))) ∧
    s.settleSets.get RDN.STS.REBUILD = b2n (!s.nv.media.rebuilds.isEmpty) ∧
    s.settleSets.get RDN.STS.RESYNC = b2n s.dp.resync ∧
    s.settleSets.get RDN.LOST_STS.PINNED = min (2 ^ RDN.LOST_STS.PINNED.width - 1) (s.nv.media.bands.filter Band.pinned).length ∧
    s.settleSets.get RDN.LOST_STS.USED = min (2 ^ RDN.LOST_STS.USED.width - 1) s.nv.media.lost.length := by
  obtain ⟨w, hw, heq⟩ := State.settleSets_eq h
  rw [heq]
  simp (disch := decide) only [State.show, State.get_put_ne, State.get_put_same]
  rw [hw.rest]
  exact ⟨b2n_mod_two _, b2n_mod_two _, b2n_mod_two _, min_mod_two_pow _ _, min_mod_two_pow _ _⟩

theorem State.settleFlash_sweep {s : State} (h : ∀ m ∈ s.nv.media.modules, m.link < 48) :
    s.settleFlash.get FTL.STS.SWEEP = b2n (s.dp.sweeps.any (fun x => !x.2.2.2)) := by
  obtain ⟨w, cap, dirty, held, fill, hw, heq⟩ := State.settleFlash_eq h
  rw [heq]
  simp (disch := decide) only [State.get_put_ne, State.get_put_same]
  rw [hw.rest]
  exact b2n_mod_two _

theorem State.settlePair_values (s : State) :
    s.settlePair.get NRN.STS.SYNCED = b2n (s.get NRN.PAIR_STS.PARTNER = 4) ∧
    s.settlePair.get NRN.MIRROR.HELD_64M = min (2 ^ NRN.MIRROR.HELD_64M.width - 1) (s.mirrorHeld / 2 ^ 26) ∧
    s.settlePair.get NRN.MIRROR.UNACKED_64K = min (2 ^ NRN.MIRROR.UNACKED_64K.width - 1) (s.unackedBytes / 2 ^ 16) := by
  unfold State.settlePair
  simp (disch := decide) only [State.show, State.get_put_ne, State.get_put_same, State.mirrorHeld, State.unackedBytes,
    State.put_pair, State.put_dp]
  exact ⟨b2n_mod_two _, min_mod_two_pow _ _, min_mod_two_pow _ _⟩

theorem State.retCount_put (s : State) {f : Fld} {v : Nat} (hf : queueShown f.bit = true) : (s.put f v).retCount = s.retCount :=
  ((State.SameBut.refl s).put v (liveBit_of_queue _ hf)).retCount

theorem State.get_queueQuad_fails (s : State) (q : Nat) :
    (s.queueQuad q).get (XF.ENT_STS.FAILS q) = min (2 ^ (XF.ENT_STS.FAILS q).width - 1) (s.entFails q).length :=
  (State.get_put_same _ _ _).trans (min_mod_two_pow _ _)

theorem State.get_queueQuad_fails_ne (s : State) {p q : Nat} (hp : p < 4) (hq : q < 4) (hpq : p ≠ q) :
    (s.queueQuad p).get (XF.ENT_STS.FAILS q) = s.get (XF.ENT_STS.FAILS q) :=
  (s.queueQuad_sameBut p).get_eq _ ((by decide : ∀ p < 4, ∀ q < 4, p ≠ q → shownBit [VRM.PORTp_STS.LPI (2 * p),
    VRM.PORTp_STS.LPI (2 * p + 1), XF.ENT_STS.FAILS p] 0 (fun _ => []) (XF.ENT_STS.FAILS q).bit = false) p hp q hq hpq)

theorem State.get_foldl_queueQuad_fails_ne {qs : List Nat} (hqs : ∀ p ∈ qs, p < 4) {q : Nat} (hq : q < 4) (hnot : q ∉ qs)
    (s : State) : (qs.foldl State.queueQuad s).get (XF.ENT_STS.FAILS q) = s.get (XF.ENT_STS.FAILS q) := by
  induction qs generalizing s with
  | nil => rfl
  | cons p qs ih =>
    obtain ⟨hp, hqs⟩ := List.forall_mem_cons.mp hqs
    obtain ⟨hne, hnot⟩ := not_or.mp (List.mem_cons.not.mp hnot)
    rw [List.foldl_cons, ih hqs hnot, s.get_queueQuad_fails_ne hp hq (Ne.symm hne)]

/-- Each quadrant's failures are shown once, and no other quadrant's part of the loop changes them. -/
theorem State.get_foldl_queueQuad_fails {qs : List Nat} (hnd : qs.Nodup) (hqs : ∀ p ∈ qs, p < 4) {q : Nat} (hq : q ∈ qs) (s : State) :
    (qs.foldl State.queueQuad s).get (XF.ENT_STS.FAILS q) = min (2 ^ (XF.ENT_STS.FAILS q).width - 1) (s.entFails q).length := by
  induction qs generalizing s with
  | nil => cases hq
  | cons p qs ih =>
    obtain ⟨hnot, hnd⟩ := List.nodup_cons.mp hnd
    obtain ⟨hp, htail⟩ := List.forall_mem_cons.mp hqs
    rw [List.foldl_cons]
    rcases List.mem_cons.mp hq with rfl | hmem
    · rw [State.get_foldl_queueQuad_fails_ne htail hp hnot, s.get_queueQuad_fails]
    · rw [ih hnd htail hmem, (s.queueQuad_sameBut p).rest]
      rfl

theorem State.settleQueues_values (s : State) :
    s.settleQueues.get HQ.LOCK_STS.WAITING =
      min (2 ^ HQ.LOCK_STS.WAITING.width - 1) (s.hq.locks.filter (fun l => !l.granted)).length ∧
    s.settleQueues.get HQ.CTX_STS.CACHED = min (2 ^ HQ.CTX_STS.CACHED.width - 1) (s.hq.qps.filter Qp.cached).length ∧
    s.settleQueues.get VRM.CTX_STS.CACHED = min (2 ^ VRM.CTX_STS.CACHED.width - 1) (s.vrm.conns.filter Conn.cached).length ∧
    (∀ q < 4, s.settleQueues.get (XF.ENT_STS.FAILS q) = min (2 ^ (XF.ENT_STS.FAILS q).width - 1) (s.entFails q).length) ∧
    s.settleQueues.get SYS.EPOCH_RET.COUNT = s.retCount % 2 ^ SYS.EPOCH_RET.COUNT.width := by
  obtain ⟨peak, heq⟩ := s.settleQueues_eq
  have hquads := fun w : State => w.foldl_queueQuad_sameBut
  rw [heq]
  refine ⟨?locks, ?qps, ?conns, ?fails, ?retiring⟩
  case fails =>
    intro q hq
    have hbit := (by decide : ∀ q < 4, SYS.EPOCH_RET.COUNT.bit ≠ (XF.ENT_STS.FAILS q).bit) q hq
    rw [State.get_put_ne _ _ _ _ hbit, State.get_foldl_queueQuad_fails (by decide) (by decide) (by simp; omega)]
    rfl
  case retiring =>
    rw [State.get_put_same, ((hquads _).mono fun b hb => liveBit_of_queue b (by simp only [queueShown, hb, Bool.or_true])).retCount]
    simp (disch := decide) only [State.show, State.retCount_put]
  all_goals
    rw [State.get_put_ne _ _ _ _ (by decide), (hquads _).get_eq _ (by decide)]
    simp (disch := decide) only [State.show, State.get_put_ne, State.get_put_same]
    exact min_mod_two_pow _ _

/-! ## Every step ends by showing the state -/

/-- No later part shows a quadrant's clock fields. -/
theorem powerFields_unshared : ∀ q < 4, ∀ f ∈ [CLK.Qn_STS.STEP q, CLK.Qn_STS.GATED q], controlShown f.bit = false ∧
    setShown f.bit = false ∧ flashShown f.bit = false ∧ pairShown f.bit = false ∧ queueShown f.bit = false := by decide

/-- The live status fields show the state once all six parts have shown theirs: each field keeps the value that its part gives it,
and no part changes what another's values rest on. -/
theorem State.shown_live {s : State} (h : s.inRange) : s.shown.live := by
  have ht := State.shown_sameBut h
  obtain ⟨hp, hc, hs, hf, hn⟩ := State.shown_stages h
  obtain ⟨hsets, hlinks⟩ := State.shown_inRange h
  obtain ⟨gated, quads, budget, holdup⟩ := s.settlePower_values
  obtain ⟨sess, expert, count, wall, erasing⟩ := s.settlePower.settleControl_values
  obtain ⟨degraded, rebuild, resync, pinned, used⟩ := State.settleSets_values hsets
  have sweep := State.settleFlash_sweep hlinks
  obtain ⟨synced, held, unacked⟩ := State.settlePair_values s.settlePower.settleControl.settleSets.settleFlash
  obtain ⟨locks, qps, conns, fails, retiring⟩ := State.settleQueues_values s.settlePower.settleControl.settleSets.settleFlash.settlePair
  unfold State.live State.shows
  refine ⟨?_, fun q hq => ⟨?_, ?_⟩, ?_, ?_, ?_, ?_, ?_, ?_, ?_, ?_, ?_, ?_, ?_, ?_, ?_, ?_, ?_, ?_, ?_, ?_, ?_, fun q hq => ?_, ?_⟩
  · exact ((State.get_shown_power h (by decide)).trans gated).trans (by rw [ht.rest])
  · rw [State.get_shown_power h (powerFields_unshared q hq _ (by simp)), (quads q hq).1, ht.effStep hq]
  · exact ((State.get_shown_power h (powerFields_unshared q hq _ (by simp))).trans (quads q hq).2).trans (by rw [ht.rest])
  · exact ((State.get_shown_power h (by decide)).trans budget).trans (by rw [ht.rest])
  · exact ((State.get_shown_power h (by decide)).trans holdup).trans (by rw [ht.rest])
  · exact ((State.get_shown_control h (by decide)).trans sess).trans (by rw [hp.rest, ht.rest])
  · exact ((State.get_shown_control h (by decide)).trans expert).trans (by rw [hp.rest, ht.rest])
  · exact ((State.get_shown_control h (by decide)).trans count).trans (by rw [hp.rest, ht.rest])
  · exact ((State.get_shown_control h (by decide)).trans wall).trans (by rw [hp.rest, ht.rest])
  · exact ((State.get_shown_control h (by decide)).trans erasing).trans (by rw [hp.rest, ht.rest])
  · exact ((State.get_shown_sets h (by decide)).trans degraded).trans (by rw [hc.rest, ht.rest])
  · exact ((State.get_shown_sets h (by decide)).trans rebuild).trans (by rw [hc.rest, ht.rest])
  · exact ((State.get_shown_sets h (by decide)).trans resync).trans (by rw [hc.rest, ht.rest])
  · exact ((State.get_shown_sets h (by decide)).trans pinned).trans (by rw [hc.rest, ht.rest])
  · exact ((State.get_shown_sets h (by decide)).trans used).trans (by rw [hc.rest, ht.rest])
  · exact ((State.get_shown_flash (by decide)).trans sweep).trans (by rw [hs.rest, ht.rest])
  · rw [ht.get_eq NRN.PAIR_STS.PARTNER (by decide), ← hf.get_eq NRN.PAIR_STS.PARTNER (by decide), ← synced]
    exact State.get_shown_pair (by decide)
  · rw [ht.mirrorHeld, ← hf.mirrorHeld, ← held]
    exact State.get_shown_pair (by decide)
  · rw [ht.unackedBytes, ← hf.unackedBytes, ← unacked]
    exact State.get_shown_pair (by decide)
  · exact locks.trans (by rw [hn.rest, ht.rest])
  · exact qps.trans (by rw [hn.rest, ht.rest])
  · exact conns.trans (by rw [hn.rest, ht.rest])
  · rw [ht.entFails, ← hn.entFails]
    exact fails q hq
  · rw [ht.retCount, ← hn.retCount]
    exact retiring

/-- The end of a command shows the state that its carrying on has come to. -/
theorem State.settle_shown (s : State) : ∃ u : State, s.settle = u.shown := ⟨_, rfl⟩

/-- Whatever their numbers, sets are shown in register fields alone. -/
theorem State.settleSets_flds (s : State) : s.SameBut (fun _ => true) s.settleSets :=
  have hsets := State.SameBut.foldl ((State.SameBut.refl s).unshow 0x100100 0x100500 fun _ _ _ => rfl) fun (_ : RSet) _ _ hu =>
    ((((hu.put _ rfl).put _ rfl).put _ rfl).put _ rfl).put _ rfl
  ((((hsets.put _ rfl).put _ rfl).put _ rfl).put _ rfl).put _ rfl

/-- So are modules. -/
theorem State.settleFlash_flds (s : State) : s.SameBut (fun _ => true) s.settleFlash :=
  have hmodules : s.SameBut (fun _ => true) (s.nv.media.modules.foldl State.settleModule s) := .foldl (.refl s) fun _ _ _ hu =>
    ((((((hu.put _ rfl).put _ rfl).put _ rfl).put _ rfl).put _ rfl).put _ rfl).put _ rfl
  (((((hmodules.foldl fun _ _ _ hu => hu.put _ rfl).put _ rfl).put _ rfl).put _ rfl).put _ rfl).put _ rfl

/-- What is shown lies in fields alone. -/
theorem State.shown_flds (s : State) : s.shown = { s with flds := s.shown.flds } := by
  have any : ∀ P : Nat → Bool, ∀ b, P b = true → true = true := fun _ _ _ => rfl
  exact State.SameBut.rest (P := fun _ => true) ((((((s.settlePower_sameBut.mono (any _)).trans
    ((State.settleControl_sameBut _).mono (any _))).trans (State.settleSets_flds _)).trans (State.settleFlash_flds _)).trans
      ((State.settlePair_sameBut _).mono (any _))).trans ((State.settleQueues_sameBut _).mono (any _)))

/-- So set and link numbers in range at the end were in range before. -/
theorem State.inRange_of_shown {s : State} (h : s.shown.inRange) : s.inRange := by
  rw [s.shown_flds] at h
  exact h

theorem State.settle_live {s : State} (h : s.settle.inRange) : s.settle.live := by
  obtain ⟨u, hu⟩ := s.settle_shown
  rw [hu] at h ⊢
  exact State.shown_live (State.inRange_of_shown h)

/-- Settles O4: every step ends by bringing its state up to date. That it does is the model's choice (log entry 10). -/
theorem liveStatusAfterEveryStep : Obligations.LiveStatusAfterEveryStep := by
  intro s t hstep hrange
  obtain ⟨u, rfl⟩ := step_settles hstep
  exact State.settle_live hrange

end Sys2Proof.Machine
end

section
/-! PROOFS. The end of a command where nothing is left to carry on (R25, R53, R60, R105). -/

namespace Sys2Proof.Machine

/-! ## What is left alone where nothing is to be carried on -/

theorem foldl_eq_self {α β : Type} {f : β → α → β} {b : β} {l : List α} (h : ∀ a ∈ l, f b a = b) : l.foldl f b = b := by
  induction l with
  | nil => rfl
  | cons a l ih =>
    obtain ⟨ha, hl⟩ := List.forall_mem_cons.mp h
    rw [List.foldl_cons, ha, ih hl]

section
variable {s : State}

theorem State.issueReads_idle (h : ∀ r ∈ s.pci.reads, r.issued = true) : s.issueReads = s := by
  have hnone : s.pci.reads.filter (fun r => !r.issued) = [] := List.filter_eq_nil_iff.mpr fun r hr => by simp [h r hr]
  simp [State.issueReads, hnone]

theorem State.placeParts_idle (h : s.pair.parts = []) : s.placeParts = s := by simp [State.placeParts, h]

theorem State.serveRequests_idle (h : s.pair.reqs = []) : s.serveRequests = s := by simp [State.serveRequests, h]

theorem State.answerProposal_idle (h : s.pair.proposed = none) : s.answerProposal = s := by simp [State.answerProposal, h]

theorem State.nextProposal_idle (h : s.pair.queue = []) : s.nextProposal = s := by
  unfold State.nextProposal
  rw [h]
  cases s.pair.proposal <;> rfl

theorem State.closeStale_idle (h : ∀ b ∈ s.nv.media.bands, b.state ≠ 1) : s.closeStale = s := by
  unfold State.closeStale
  rw [List.filter_eq_nil_iff.mpr fun b hb => by simp [h b hb]]
  rfl

theorem State.releaseVols_idle (h : s.pair.leaving = []) : s.releaseVols = s := by simp [State.releaseVols, h]

theorem State.serveSwaps_idle (h : ∀ m ∈ s.nv.media.modules, m.swap = none) : s.serveSwaps = s :=
  foldl_eq_self fun m hm => by simp [State.stepSwap, h m hm]

theorem State.sweepSpares_idle (h : s.nv.media.spareFill = []) : s.sweepSpares = s :=
  foldl_eq_self fun _ _ => foldl_eq_self fun _ _ => foldl_eq_self fun _ _ => by simp [h, fldFind]

theorem State.serveRekeys_idle (h : s.nv.media.rekeys = []) : s.serveRekeys = s := by simp [State.serveRekeys, h]

theorem State.serveRepl_idle (hlinks : s.dp.rlinks = []) (hrepl : s.nv.media.repl = []) : s.serveRepl = s := by
  simp [State.serveRepl, State.checkLinks, State.serveHellos, hlinks, hrepl]

theorem State.serveHdas_idle (h : s.dp.runs = []) : s.serveHdas = s := by simp [State.serveHdas, h]

theorem State.releaseDrives_idle (h : ∀ x ∈ s.hdas.strs, x.leave = false) : s.releaseDrives = s := by
  refine foldl_eq_self fun k _ => if_neg fun hk => ?_
  have hleave : (s.str k).leave = false := by
    rw [State.str, List.getD_eq_getElem?_getD]
    cases hget : s.hdas.strs[k]? with
    | none => rfl
    | some x => exact h x (List.mem_of_getElem? hget)
  simp [hleave] at hk

theorem State.kickAll_idle (h : ∀ c ∈ s.vrm.conns, c.sendq = [] ∧ ∀ u ∈ c.unacked, u.lost = false) : s.kickAll = s := by
  refine foldl_eq_self fun c _ => ?_
  unfold State.kick
  cases hconn : s.conn c.id with
  | none => rfl
  | some d =>
    obtain ⟨hsend, hlost⟩ := h d (List.mem_of_find?_eq_some hconn)
    have hnone : d.unacked.filter Unacked.lost = [] := List.filter_eq_nil_iff.mpr fun u hu => by simp [hlost u hu]
    simp [hsend, hnone]

theorem State.causeWake_awake {q : Nat} (h : s.pwr.quads.getD q .gated = .awake) : s.causeWake q = s := by
  simp only [State.causeWake, h]

theorem State.wakeServing_idle (h : s.start.reached = 3 → ∀ q < 4, s.pwr.quads.getD q .gated = .awake) : s.wakeServing = s := by
  unfold State.wakeServing
  split
  · rfl
  · next hreached =>
    exact foldl_eq_self fun q hq => State.causeWake_awake (h (by simpa using hreached) q (quad_lt (List.mem_of_mem_filter hq)))

theorem State.wakeWorking_idle (hclusters : ∀ cl < 32, s.clusterHasWork cl = true → s.clusterAwake cl = true)
    (hmedia : ∀ q < 4, s.mediaWork q = true → s.pwr.quads.getD q .gated = .awake) : s.wakeWorking = s := by
  have hwake : (List.range 32).foldl
      (fun (s : State) cl => if s.clusterHasWork cl && !s.clusterAwake cl then s.wakeCluster cl else s) s = s := by
    refine foldl_eq_self fun cl hcl => if_neg fun hwork => ?_
    rw [Bool.and_eq_true] at hwork
    simp [hclusters cl (List.mem_range.mp hcl) hwork.1] at hwork
  unfold State.wakeWorking
  rw [hwake]
  refine foldl_eq_self fun q hq => ?_
  split
  · next hwork => exact State.causeWake_awake (hmedia q (quad_lt hq) hwork)
  · rfl

theorem State.fetchDue_idle (h : ∀ b ∈ s.act.qps, (s.qp b.qpid).state = 2 → (s.qp b.qpid).sqHead = (s.qp b.qpid).sqTail) :
    s.fetchDue = s := by
  unfold State.fetchDue
  rw [List.filter_eq_nil_iff.mpr fun b hb => ?_]
  · rfl
  · simp only [Bool.and_eq_true, decide_eq_true_eq, not_and, not_not]
    exact h b hb

theorem State.dropStamps_idle (h : ∀ j ∈ s.jobs, s.jobLives j = true) : s.dropStamps = s := by
  unfold State.dropStamps
  rw [List.filter_eq_self.mpr h]

/-- Fields other than the cluster map's differ. -/
theorem State.SameBut.shardHome {t : State} {P : Nat → Bool} (h : s.SameBut P t)
    (hP : ∀ q < 4, ∀ k < 8, P (SYS.CLMAP.C q k).bit = false) {shard : Nat} (hshard : shard < 32) :
    t.shardHome shard = s.shardHome shard := by
  have hmap : ∀ k < 8, t.get (SYS.CLMAP.C (shard / 8) k) = s.get (SYS.CLMAP.C (shard / 8) k) := fun k hk =>
    h.get_eq _ (hP _ (by omega) k hk)
  have hfind : (List.range 8).find? (fun k => t.get (SYS.CLMAP.C (shard / 8) k) ≠ 0xF) =
      (List.range 8).find? (fun k => s.get (SYS.CLMAP.C (shard / 8) k) ≠ 0xF) :=
    List.find?_congr fun k hk => by rw [hmap k (List.mem_range.mp hk)]
  rw [State.shardHome, State.shardHome, hmap _ (Nat.mod_lt _ (by decide)), hfind]

theorem State.SameBut.clusterHasWork {t : State} {P : Nat → Bool} (h : s.SameBut P t)
    (hP : ∀ q < 4, ∀ k < 8, P (SYS.CLMAP.C q k).bit = false) (cl : Nat) : t.clusterHasWork cl = s.clusterHasWork cl := by
  have hhome : ∀ l : LockReq, t.shardHome (shardOf l.volume) = s.shardHome (shardOf l.volume) := fun l =>
    h.shardHome hP (Nat.mod_lt _ (by decide))
  simp only [State.clusterHasWork, hhome]
  rw [h.rest]
  rfl

/-- Nothing is left to carry on with where only fields differ that are not the cluster map's and not the update's state. -/
theorem State.SameBut.quiet {t : State} {P : Nat → Bool} (hsame : s.SameBut P t)
    (hP : ∀ q < 4, ∀ k < 8, P (SYS.CLMAP.C q k).bit = false) (hPupd : P UPD.STS.STATE.bit = false) (h : s.quiet) : t.quiet := by
  have hupd : t.updState = s.updState := hsame.get_eq UPD.STS.STATE hPupd
  obtain ⟨reads, parts, reqs, proposed, queue, bands, leaving, swaps, spares, rekeys, repl, rlinks, runs, drives, jobs, active,
    conns, quads, clusters, media, qps, stamps⟩ := h
  have hclusters : ∀ cl < 32, t.clusterHasWork cl = true → t.clusterAwake cl = true := by
    intro cl hcl hwork
    rw [hsame.clusterHasWork hP] at hwork
    rw [hsame.rest]
    exact clusters cl hcl hwork
  rw [← hupd] at active
  rw [hsame.rest] at active hclusters ⊢
  exact ⟨reads, parts, reqs, proposed, queue, bands, leaving, swaps, spares, rekeys, repl, rlinks, runs, drives, jobs, active,
    conns, quads, hclusters, media, qps, stamps⟩

/-- With no staging, settleUpd only shows how far the update is. -/
theorem State.settleUpd_sameBut (hjobs : s.upd.jobs = []) (hactive : s.updState ≠ 3) : s.SameBut liveBit s.settleUpd := by
  obtain ⟨n, pct, hend⟩ : ∃ n pct, s.settleUpd = (s.put UPD.COMP_OUT.COUNT n).put UPD.STS.PCT pct := by
    simp only [State.settleUpd, hjobs, List.filter_nil, List.foldl_nil, hactive, false_and, if_false]
    exact ⟨_, _, rfl⟩
  rw [hend]
  exact ((State.SameBut.refl s).put _ (by decide)).put _ (by decide)

theorem State.shrinkPool_idle (h : s.dp.runs = []) (q : Nat) : s.shrinkPool q = s := by simp [State.shrinkPool, h]

/-- With no runs, the pools keep every grant. -/
theorem State.settleHdas_sameBut (h : s.dp.runs = []) : s.SameBut liveBit s.settleHdas := by
  have hshrink : ∀ {q : Nat} {u : State}, s.SameBut hdaShown u → s.SameBut hdaShown (u.shrinkPool q) := by
    intro q u hu
    rw [State.shrinkPool_idle (by rw [hu.rest]; exact h)]
    exact hu
  exact (((((State.SameBut.foldl (.refl s) fun _ hq _ hu => (((hshrink hu).putUnit (quad_lt hq) _).putUnit (quad_lt hq) _).putUnit
    (quad_lt hq) _).putOf _).putOf _).putOf _).putOf _).mono liveBit_of_hda

theorem State.inRange_settleIdle (h : s.inRange) : s.settleIdle.inRange := h

theorem State.SameBut.inRange {t : State} {b : Nat → Bool} (hsame : s.SameBut b t) (h : s.inRange) : t.inRange := by
  rw [hsame.rest]
  exact h

/-- Fields and idle times are all that changes where fields change, then idle times are brought up to date, then fields change. -/
theorem State.idle_frame {v w x : State} (hv : v = { s with flds := v.flds }) (hw : w = v.settleIdle)
    (hx : x = { w with flds := x.flds }) :
    x = { s with
      flds := x.flds
      pwr := { s.pwr with
        clusterIdle := x.pwr.clusterIdle, clusterBusy := x.pwr.clusterBusy, quadIdle := x.pwr.quadIdle, quadBusy := x.pwr.quadBusy } } := by
  obtain ⟨a, b, c, d, rfl⟩ : ∃ a b c d, w = { v with pwr := { v.pwr with
    clusterIdle := a, clusterBusy := b, quadIdle := c, quadBusy := d } } := ⟨_, _, _, _, hw⟩
  rw [hv] at hx
  generalize x.flds = l at *
  rw [hx]

/-- A quiet state is carried to a state that differs from it in live fields alone. -/
theorem State.carriedOn_quiet (h : s.quiet) : ∃ u, s.SameBut liveBit u ∧ u.quiet ∧ s.settle = u.settleHdas.settleIdle.shown := by
  refine ⟨s.settleUpd, ?_⟩
  obtain ⟨reads, parts, reqs, proposed, queue, bands, leaving, swaps, spares, rekeys, repl, rlinks, runs, drives, jobs, active, -⟩ := id h
  have hupd := State.settleUpd_sameBut jobs active
  have hquiet := hupd.quiet (by decide) (by decide) h
  refine ⟨hupd, hquiet, ?_⟩
  obtain ⟨-, -, -, -, -, -, -, -, -, -, -, -, -, -, -, -, conns, quads, clusters, media, qps, stamps⟩ := hquiet
  rw [State.settle, State.issueReads_idle reads, State.placeParts_idle parts, State.serveRequests_idle reqs,
    State.answerProposal_idle proposed, State.nextProposal_idle queue, State.closeStale_idle bands, State.releaseVols_idle leaving,
    State.serveSwaps_idle swaps, State.sweepSpares_idle spares, State.serveRekeys_idle rekeys, State.serveRepl_idle rlinks repl,
    State.serveHdas_idle runs, State.releaseDrives_idle drives, State.kickAll_idle conns, State.wakeServing_idle quads,
    State.wakeWorking_idle clusters media, State.fetchDue_idle qps, State.dropStamps_idle stamps]
  rfl

end

theorem State.settleIdle_flds (s : State) : s.settleIdle.flds = s.flds := rfl

/-- Settles O6: each thing that a command may leave to carry on is absent from a quiet state, so that only what is shown and the idle
times change. That every command ends so is the model's choice (log entry 10). -/
theorem quietStateSettles : Obligations.QuietStateSettles := by
  refine ⟨fun s h => ?rest, fun s f h hrange hf => ?fields⟩
  all_goals
    obtain ⟨u, hu, hquiet, hsettle⟩ := State.carriedOn_quiet h
    obtain ⟨-, -, -, -, -, -, -, -, -, -, -, -, runs, -⟩ := hquiet
    have hhdas := hu.trans (State.settleHdas_sameBut runs)
    rw [hsettle]
  case rest => exact State.idle_frame hhdas.rest rfl (State.shown_flds _)
  case fields =>
    have hidle : u.settleHdas.settleIdle.inRange := State.inRange_settleIdle (hhdas.inRange hrange)
    calc u.settleHdas.settleIdle.shown.get f
      _ = u.settleHdas.settleIdle.get f := (State.shown_sameBut hidle).get_eq f hf
      _ = u.settleHdas.get f := State.get_congr _ _ f (State.settleIdle_flds _)
      _ = s.get f := hhdas.get_eq f hf

end Sys2Proof.Machine
end

section
/-! PROOFS. Packets that the intake engine refuses, and commands that wait or only answer (R95, R98, R104, R110, R113 to R115). -/

namespace Sys2Proof.Machine

/-- A reply leaves a packet that is not taken untaken. -/
theorem State.isTaken_replyTo (s : State) (p q : Packet) (st d : Nat) (data : List Byte) :
    (s.replyTo p st d data).isTaken q = s.isTaken q := by rw [State.isTaken, State.isTaken, State.replyTo_taken]

/-- A packet whose class is overloaded in class 2 or 3 is answered BUSY by the intake (R113, R115). -/
theorem State.intake_of_busy {s : State} {p : Packet} (htaken : s.isTaken p = false) (hpaused : s.intakePaused = false)
    (hroom : s.roomFor p = true) (hcheck : s.checkPacket p = none) (hbusy : s.isBusy p = true) :
    s.intake p =
      (s.count (if p.cls = 2 then CMD.BUSY_CNT.CLASS2 else CMD.BUSY_CNT.CLASS3) 1).replyTo p 0x0001 (s.busyDetail p) [] := by
  have hcls : 2 ≤ p.cls := by
    simp only [State.isBusy, Bool.and_eq_true, decide_eq_true_eq] at hbusy
    exact hbusy.1
  have hback : s.holdsBack p = false := by simp [State.holdsBack, Nat.not_lt.mpr hcls]
  simp [State.intake, State.arrive, State.admitPkt, htaken, hpaused, hback, hroom, hcheck, hbusy]

/-- A packet of class 0 or 1 whose class queue is full stays where it is (R114). -/
theorem State.intake_of_holdsBack {s : State} {p : Packet} (htaken : s.isTaken p = false) (h : s.holdsBack p = true) :
    s.intake p = s := by
  simp [State.intake, State.arrive, htaken, h]

/-- Settles O8. -/
theorem overloadAnsweredBusy : Obligations.OverloadAnsweredBusy := by
  intro f hrow s p hwf htaken hpaused hroom hcheck
  obtain ⟨op, hop, hrow⟩ := hrow.runsAs
  obtain ⟨hopcode, body, hexec⟩ := hrow p
  refine ⟨fun hbusy => ?busy, fun hcls hfull => ?held⟩
  case busy =>
    have hintake := State.intake_of_busy htaken hpaused hroom hcheck hbusy
    have hstill : (s.intake p).isTaken p = false := by
      rw [hintake, State.isTaken_replyTo]
      exact htaken
    rw [hexec, runCmd_untaken body hop (hopcode hwf) hstill, hintake, done]
  case held =>
    have hintake : s.intake p = s := State.intake_of_holdsBack htaken (by simp [State.holdsBack, hcheck, hcls, hfull])
    rw [hexec, runCmd_untaken body hop (hopcode hwf) (by rw [hintake]; exact htaken), hintake, done]

/-- A packet row that executes begins its command, and some body decides. -/
theorem RunsAs.executes {f : Packet → Instr} {op : Nat} (h : RunsAs f op) {s : State} {p : Packet} (hwf : (f p).wf = true)
    (hexe : Executes s p) : ∃ o body, opSpec op = some o ∧ exec (f p) s = done ((s.intake p).execute o p body) := by
  obtain ⟨hop, hrow⟩ := h
  obtain ⟨hopcode, body, hexec⟩ := hrow p
  obtain ⟨o, ho⟩ := Option.isSome_iff_exists.mp hop
  exact ⟨o, body, ho, (hexec s).trans (runCmd_executes op o p s body ho (hopcode hwf) hexe)⟩

/-- Settles O9. That the reply of a dry run carries no data is the model's choice (log entry 141). -/
theorem dryRunHasNoEffect : Obligations.DryRunHasNoEffect := by
  intro f hrow s p hwf hexe hdry
  obtain ⟨op, hrow⟩ := hrow.runsAs
  obtain ⟨o, body, -, hexec⟩ := hrow.executes hwf hexe
  obtain ⟨-, hmay, -, hwait⟩ := hexe
  refine ⟨(body (s.begun p)).status, (body (s.begun p)).detail, ?_⟩
  rw [hexec, State.execute, if_neg (by simp [hmay, hwait]), if_pos hdry]
  rfl

/-- A taken command that earlier ones of its transport hold back may not start (R95, R110). -/
theorem State.mayRun_false {u : State} {p : Packet} {x : Taken}
    (hstart : ∀ t ∈ u.cmd.taken, t.pkt = p → t.started = false) (hx : x ∈ u.cmd.taken.takeWhile (fun t => t.pkt ≠ p))
    (htrans : transportOf x.pkt.ident = transportOf p.ident)
    (hwait : p.serial = true ∨ x.started = false ∧ ∀ t ∈ u.cmd.taken, t.pkt = p → t.cls = x.cls) : u.mayRun p = false := by
  unfold State.mayRun
  cases hfind : u.cmd.taken.find? (fun t => t.pkt = p) with
  | none => rfl
  | some t =>
    have hmem := List.mem_of_find?_eq_some hfind
    have hpkt : t.pkt = p := by simpa using List.find?_some hfind
    have hturn : u.inTurn t = false := by
      rw [State.inTurn, hstart t hmem hpkt, hpkt, Bool.false_or]
      rcases hwait with hserial | ⟨hxs, hcls⟩
      · have hheld : u.heldBySerial p = true := by
          rw [State.heldBySerial, hserial, Bool.true_and, List.any_eq_true]
          exact ⟨x, hx, decide_eq_true htrans⟩
        simp [hheld]
      · have hbehind : (u.cmd.taken.takeWhile (fun t => t.pkt ≠ p)).all
            (fun y => y.started || decide (transportOf y.pkt.ident ≠ transportOf p.ident) || decide (y.cls ≠ t.cls)) = false := by
          rw [List.all_eq_false]
          exact ⟨x, hx, by simp [hxs, htrans, hcls t hmem hpkt]⟩
        rw [hbehind, Bool.and_false]
    simp [State.mayBegin, hstart t hmem hpkt, hturn]

/-- Settles O10. -/
theorem serialWaits : Obligations.SerialWaits := by
  rintro f hrow s p u x hwf rfl htaken hstart hx htrans hwait
  obtain ⟨op, hop, hrow⟩ := hrow.runsAs
  obtain ⟨hopcode, body, hexec⟩ := hrow p
  obtain ⟨o, ho⟩ := Option.isSome_iff_exists.mp hop
  have hmay := State.mayRun_false hstart hx htrans hwait
  have hstay : (s.intake p).execute o p body = s.intake p := by
    rw [State.execute, if_pos (.inr (by simp [hmay]))]
  rw [hexec, runCmd, ho]
  dsimp only
  rw [if_neg (not_not.mpr (hopcode hwf)), hstay, ite_self, done]

theorem ite_some_eq_none_iff {α : Type} {c : Prop} [Decidable c] {a : α} {e : Option α} :
    (if c then some a else e) = none ↔ ¬ c ∧ e = none := by
  by_cases h : c <;> simp [h]

/-- Only the last check sees the taken commands: where the checks pass with none taken, it decides (R98). -/
theorem State.checkPacket_of_duplicate {s : State} {p : Packet} {x : Taken} (hx : x ∈ s.cmd.taken)
    (hident : x.pkt.ident = p.ident) (htag : x.pkt.tag = p.tag)
    (hothers : State.checkPacket { s with cmd := { s.cmd with taken := [] } } p = none) : s.checkPacket p = some (0x000E, 0) := by
  have hdup : s.cmd.taken.any (fun t => t.pkt.ident = p.ident ∧ t.pkt.tag = p.tag) = true :=
    List.any_eq_true.mpr ⟨x, hx, decide_eq_true ⟨hident, htag⟩⟩
  unfold State.checkPacket at hothers ⊢
  cases hhead : headerBad p with
  | some off => simp only [hhead, ite_some_eq_none_iff, reduceCtorEq, and_false] at hothers
  | none =>
    cases hop : opSpec p.opcode with
    | none => simp only [hhead, hop, ite_some_eq_none_iff, reduceCtorEq, and_false] at hothers
    | some o =>
      simp only [hhead, hop, ite_some_eq_none_iff] at hothers ⊢
      obtain ⟨dead, run, len, hcrc, plen, msgLen, pcrc, inband, session, expert, ids, loc, noLoc, newer, service, bounds, -⟩ := hothers
      exact (if_neg dead).trans <| (if_neg run).trans <| (if_neg len).trans <| (if_neg hcrc).trans <| (if_neg plen).trans <|
        (if_neg msgLen).trans <| (if_neg pcrc).trans <| (if_neg inband).trans <| (if_neg session).trans <| (if_neg expert).trans <|
        (if_neg ids).trans <| (if_neg loc).trans <| (if_neg noLoc).trans <| (if_neg newer).trans <| (if_neg service).trans <|
        (if_neg bounds).trans <| if_pos hdup

/-- Settles O14. -/
theorem duplicateTagRefused : Obligations.DuplicateTagRefused := by
  intro s p x hdead hx hident htag hothers
  have hcheck := State.checkPacket_of_duplicate hx hident htag hothers
  have hkeep := s.replyTo_taken p 0x000E 0 []
  refine ⟨by rw [State.admitPkt, hcheck], hkeep, fun f hrow hwf htaken hreset hroom => ?_⟩
  exact (firstFailedCheckAnswered f hrow s p 0x000E 0 hwf htaken (by simp [State.intakePaused, hreset]) hroom hcheck).1

end Sys2Proof.Machine
end

section
/-! PROOFS. What the sending of a reply changes. -/

namespace Sys2Proof.Machine

/-! ## What sending changes -/

/-- From s to t nothing changes but register fields, what is sent, the commands, the queues, the connections, the upstream requests
and the data plane. -/
def State.Sends (s t : State) : Prop :=
  t = { s with flds := t.flds, out := t.out, cmd := t.cmd, hq := t.hq, vrm := t.vrm, dp := t.dp, pci := t.pci }

section
variable {s t u : State}

theorem State.Sends.refl (s : State) : s.Sends s := rfl

theorem State.Sends.trans (h : s.Sends t) (k : t.Sends u) : s.Sends u := by
  unfold State.Sends at *
  rw [h] at k
  exact k

theorem State.Sends.ite {c : Prop} [Decidable c] (h : s.Sends t) (k : s.Sends u) : s.Sends (if c then t else u) := by
  by_cases hc : c
  · rwa [if_pos hc]
  · rwa [if_neg hc]

theorem State.Sends.foldl {α : Type} {f : State → α → State} (l : List α) (h : s.Sends t) (hf : ∀ (u : State) a, u.Sends (f u a)) :
    s.Sends (l.foldl f t) := by
  induction l generalizing t with
  | nil => exact h
  | cons a l ih => exact ih (h.trans (hf t a))

theorem State.Sends.put (h : s.Sends t) (f : Fld) (v : Nat) : s.Sends (t.put f v) := h.trans rfl
theorem State.Sends.emit (h : s.Sends t) (o : Out) : s.Sends (t.emit o) := h.trans rfl
theorem State.Sends.setQp (h : s.Sends t) (q : Qp) : s.Sends (t.setQp q) := h.trans rfl
theorem State.Sends.setConn (h : s.Sends t) (c : Conn) : s.Sends (t.setConn c) := h.trans rfl
theorem State.Sends.setPort (h : s.Sends t) (n : Nat) (x : Port) : s.Sends (t.setPort n x) := h.trans rfl

theorem State.Sends.withCmd (h : s.Sends t) (c : Cmd) : s.Sends { t with cmd := c } := h.trans rfl

theorem State.Sends.signal (h : s.Sends t) (v : Nat) : s.Sends (t.signal v) := by
  unfold State.signal
  exact .ite (.ite h (h.emit _)) (h.trans rfl)

theorem State.Sends.ethSend (h : s.Sends t) (port sub prio : Nat) (x : EthTx) : s.Sends (t.ethSend port sub prio x) := by
  unfold State.ethSend
  exact .ite h (.ite (h.setPort _ _) ((h.setPort _ _).emit _))

theorem State.Sends.putOnPath (h : s.Sends t) (c : Conn) (i : Nat) (p : VrmPkt) : s.Sends (t.putOnPath c i p) := by
  unfold State.putOnPath
  split
  · exact h.ethSend _ _ _ _
  · exact h

theorem State.Sends.wantKey (h : s.Sends t) (cl : Nat) (k : Nat × Nat × Nat × Nat) : s.Sends (t.wantKey cl k) := by
  unfold State.wantKey
  exact .ite h (h.trans rfl)

theorem State.Sends.wantSeal (h : s.Sends t) (cl label gen : Nat) : s.Sends (t.wantSeal cl label gen) := by
  unfold State.wantSeal
  exact .ite (h.wantKey _ _) ((h.wantKey _ _).wantKey _ _)

theorem State.Sends.sendOne (h : s.Sends t) (id : Nat) : s.Sends (t.sendOne id) := by
  unfold State.sendOne
  split
  · split
    · exact h
    · refine .ite h (.ite (.ite (h.wantSeal _ _ _) h) ?_)
      split
      · exact h
      · exact (h.setConn _).putOnPath _ _ _
  · exact h

theorem State.Sends.resend (h : s.Sends t) (id psn : Nat) : s.Sends (t.resend id psn) := by
  unfold State.resend
  split
  · exact h
  · split
    · exact h
    · split
      · exact h
      · exact (h.setConn _).putOnPath _ _ _

theorem State.Sends.kick (h : s.Sends t) (id : Nat) : s.Sends (t.kick id) := by
  unfold State.kick
  split
  · exact h
  · exact .foldl _ (.foldl _ h fun u _ => (State.Sends.refl u).resend _ _) fun u _ => (State.Sends.refl u).sendOne _

theorem State.Sends.vrmSend (h : s.Sends t) (id : Nat) (pkts : List VrmPkt) : s.Sends (t.vrmSend id pkts) := by
  unfold State.vrmSend
  split
  · exact .ite h ((h.setConn _).kick _)
  · exact h

theorem State.Sends.newXfer (h : s.Sends t) (id : Nat) : s.Sends (t.newXfer id).2 := by
  unfold State.newXfer
  split
  · exact h
  · exact h.setConn _

theorem State.Sends.sendNotices (h : s.Sends t) (id : Nat) : s.Sends (t.sendNotices id) := by
  unfold State.sendNotices
  split
  · exact h
  · exact .foldl _ (h.setConn _) fun u _ => (State.Sends.refl u).vrmSend _ _

theorem State.Sends.signalCq (h : s.Sends t) (qpid : Nat) : s.Sends (t.signalCq qpid) := by
  unfold State.signalCq
  dsimp only
  split
  · exact h.setQp _
  · refine .ite ((h.setQp _).signal _) ?_
    split
    · exact h.setQp _
    · exact ((h.setQp _).setConn _).sendNotices _

theorem State.Sends.coalesce (h : s.Sends t) (qpid status : Nat) : s.Sends (t.coalesce qpid status) := by
  unfold State.coalesce
  exact .ite h (.ite ((h.setQp _).signalCq _) (.ite ((h.setQp _).signalCq _) (h.setQp _)))

theorem State.Sends.sendCqe (h : s.Sends t) (b : QpBind) (c : Completion) (data : List VrmPkt) : s.Sends (t.sendCqe b c data) := by
  unfold State.sendCqe
  refine .ite h (.ite (h.emit _) ?_)
  split
  · exact h
  · exact ((h.newXfer _).setConn _).vrmSend _ _

theorem State.Sends.postCqeData (h : s.Sends t) (qpid cid status result : Nat) (recovered : Bool) (data : List VrmPkt) :
    s.Sends (t.postCqeData qpid cid status result recovered data) := by
  unfold State.postCqeData
  dsimp only
  split
  · exact h
  · exact .ite h (.ite (h.setQp _) (((h.setQp _).sendCqe _ _ _).coalesce _ _))

theorem State.Sends.sendInband (h : s.Sends t) (r : Reply) (qpid slot : Nat) : s.Sends (t.sendInband r qpid slot) := by
  unfold State.sendInband
  split
  · exact .ite ((h.emit _).postCqeData _ _ _ _ _ _) (h.postCqeData _ _ _ _ _ _)
  · exact h

theorem State.Sends.notifyIdent (h : s.Sends t) (ident ch vec : Nat) : s.Sends (t.notifyIdent ident ch vec) := by
  unfold State.notifyIdent
  exact .ite (h.signal _) (.ite (h.emit _) h)

theorem State.Sends.iff (h : s.Sends t) (b : Bool) {f : State → State} (hf : ∀ u, s.Sends u → s.Sends (f u)) : s.Sends (t.iff b f) :=
  .ite (hf t h) h

theorem State.Sends.notifyBits (h : s.Sends t) (ch bits : Nat) : s.Sends (t.notifyBits ch bits) := by
  unfold State.notifyBits
  exact State.Sends.iff (State.Sends.iff h _ fun u hu => hu.notifyIdent _ _ _) _ fun u hu => .ite hu (hu.notifyIdent _ _ _)

theorem State.Sends.ring (h : s.Sends t) (ch bits : Nat) : s.Sends (t.ring ch bits) := by
  unfold State.ring
  exact (h.put _ _).notifyBits _ _

theorem State.Sends.pump (h : s.Sends t) (ch : Nat) : s.Sends (t.pump ch) := by
  unfold State.pump
  refine .ite h ?_
  split
  · exact h
  · exact (((((h.withCmd _).withCmd _).withCmd _).put _ _).ring _ _).emit _

theorem State.Sends.replyTo (h : s.Sends t) (p : Packet) (st d : Nat) (data : List Byte) : s.Sends (t.replyTo p st d data) := by
  unfold State.replyTo State.sendReply
  split
  · exact (h.withCmd _).pump _
  · exact h.sendInband _ _ _

theorem State.Sends.answer (h : s.Sends t) (p : Packet) (st d : Nat) (data : List Byte) : s.Sends (t.answer p st d data) := by
  unfold State.answer
  exact (h.withCmd _).replyTo _ _ _ _

theorem State.Sends.intake (h : s.Sends t) (p : Packet) : s.Sends (t.intake p) := by
  unfold State.intake State.arrive State.admitPkt
  refine .ite h (.ite h ?_)
  split
  · exact h.replyTo _ _ _ _
  · exact .ite ((h.put _ _).replyTo _ _ _ _) (h.withCmd _)

theorem State.Sends.begun (h : s.Sends t) (p : Packet) : s.Sends (t.begun p) := (h.intake p).withCmd _

end

end Sys2Proof.Machine
end

section
/-! PROOFS. Commands that write shadow banks, with a commit pending and for a commit (R27, R95, R97). -/

namespace Sys2Proof.Machine

/-! ## Bodies that fail without a trace -/

/-- A body's answer r on the state s leaves the shadow banks as they were where it fails. -/
def Res.FailsClean (s : State) (r : Res) : Prop := r.status ≠ 0 → r.st.shadow = s.shadow

section
variable {s : State} {p : Packet} {r r' : Res}

theorem Res.FailsClean.refuse {st d : Nat} : (s.refuseWith st d).FailsClean s := fun _ => rfl

theorem Res.FailsClean.ok (h : r.status = 0) : r.FailsClean s := fun hne => absurd h hne

theorem Res.FailsClean.ite {c : Prop} [Decidable c] (h : r.FailsClean s) (h' : r'.FailsClean s) :
    (if c then r else r').FailsClean s := by
  by_cases hc : c
  · rwa [if_pos hc]
  · rwa [if_neg hc]

theorem Res.FailsClean.zeros {offs : List Nat} {f : State → Res} (h : (f s).FailsClean s) : (s.zeros p offs f).FailsClean s := by
  unfold State.zeros
  cases rsvdByte p offs with
  | some o => exact .refuse
  | none => exact h

theorem Res.FailsClean.onHda1 {n : Nat} {f : State → Res} (h : (f s).FailsClean s) : (s.onHda1 n f).FailsClean s := by
  unfold State.onHda1
  cases s.hdaRefused n with
  | some x => exact .refuse
  | none => exact h

theorem Res.FailsClean.rsvd {off n : Nat} (h : r.FailsClean s) : (s.rsvd p off n r).FailsClean s := by
  unfold State.rsvd
  cases rsvdBad p off n with
  | some o => exact .refuse
  | none => exact h

theorem Res.FailsClean.onVolume {n : Nat} {f : Vol → Res} (h : ∀ v, (f v).FailsClean s) : (s.onVolume n f).FailsClean s := by
  unfold State.onVolume
  cases s.shadowVol n with
  | none => exact .refuse
  | some v => exact .ite .refuse (.ite .refuse (h v))

end

/-- A row that writes shadow banks runs its packets under one opcode marked so, with a body that leaves the banks as they were where
it fails (R27, R97). -/
def WritesAs (f : Packet → Instr) (op : Nat) : Prop :=
  (∃ o, opSpec op = some o ∧ o.shadow = true) ∧
    ∀ p, ((f p).wf = true → p.opcode = op) ∧ ∃ body, (∀ s, exec (f p) s = runCmd op p s body) ∧ ∀ s, (body s).FailsClean s

theorem WritesAs.of_body {f : Packet → Instr} {op : Nat} {o : OpSpec} {body : Packet → State → Res}
    (hexec : ∀ p s, exec (f p) s = runCmd op p s (body p)) (hwf : ∀ p, (f p).wf = decide (p.opcode = op)) (ho : opSpec op = some o)
    (hs : o.shadow = true) (hclean : ∀ p s, (body p s).FailsClean s) : WritesAs f op :=
  ⟨⟨o, ho, hs⟩, fun p => ⟨fun h => of_decide_eq_true ((hwf p).symm.trans h), body p, hexec p, hclean p⟩⟩

theorem createQp_writes : WritesAs .createQp 0x0701 := by
  refine .of_body (fun _ _ => rfl) (fun _ => rfl) rfl rfl fun p s => ?_
  dsimp only
  cases s.qpParamBad p with
  | some off => exact .ite .refuse .refuse
  | none =>
    refine .ite .refuse ?_
    cases s.qpCluster p with
    | none => exact .refuse
    | some cl => exact .ite .refuse (.ok rfl)

theorem connCreate_writes : WritesAs .connCreate 0x0801 := by
  refine .of_body (fun _ _ => rfl) (fun _ => rfl) rfl rfl fun p s => ?_
  dsimp only
  iterate 14 refine .ite .refuse ?_
  split
  · exact .refuse
  split
  · exact .refuse
  split
  · exact .refuse
  refine .ite .refuse ?_
  split
  · exact .refuse
  refine .ite .refuse ?_
  split
  · exact .refuse
  · exact .ok rfl

theorem pathSet_writes : WritesAs .pathSet 0x0804 := by
  refine .of_body (fun _ _ => rfl) (fun _ => rfl) rfl rfl fun p s => ?_
  dsimp only
  split
  · exact .refuse
  refine .ite .refuse (.ite .refuse (.ite .refuse ?_))
  split
  · exact .refuse
  split
  · exact .refuse
  · exact .ok rfl

theorem policySet_writes : WritesAs .policySet 0x0901 := by
  refine .of_body (fun _ _ => rfl) (fun _ => rfl) rfl rfl fun p s => ?_
  dsimp only
  split
  · exact .refuse
  refine .ite .refuse (.ite .refuse (.ite .refuse (.ite .refuse ?_)))
  split
  · exact .refuse
  · exact .ok rfl

theorem rekeyStart_writes : WritesAs .rekeyStart 0x0A01 := by
  refine .of_body (fun _ _ => rfl) (fun _ => rfl) rfl rfl fun p s => ?_
  dsimp only
  split
  · exact .refuse
  refine .ite .refuse ?_
  split
  · exact .refuse
  · exact .ite .refuse (.ok rfl)

theorem tierSet_writes : WritesAs .tierSet 0x0B02 := by
  refine .of_body (fun _ _ => rfl) (fun _ => rfl) rfl rfl fun p s => ?_
  split
  · exact .refuse
  · exact .ite .refuse (.ite .refuse (.ite .refuse (.ite .refuse (.ok rfl))))

theorem setWrite_writes : WritesAs .setWrite 0x8D12 := by
  refine .of_body (fun _ _ => rfl) (fun _ => rfl) rfl rfl fun p s => ?_
  dsimp only
  split
  · exact .refuse
  refine .ite .refuse (.ite .refuse ?_)
  split
  · exact .refuse
  · exact .ite .refuse (.ok rfl)

theorem loopProfile_writes : WritesAs .loopProfile 0x0F02 := by
  refine .of_body (fun _ _ => rfl) (fun _ => rfl) rfl rfl fun p s => ?_
  dsimp only
  exact .zeros (.ite (.ite .refuse (.ite .refuse (.ok rfl))) (.onHda1 (.ite .refuse (.ite .refuse (.ok rfl)))))

theorem loopSetRaw_writes : WritesAs .loopSetRaw 0x8F10 := by
  refine .of_body (fun _ _ => rfl) (fun _ => rfl) rfl rfl fun p s => ?_
  refine .zeros (.ite ?_ (.onHda1 ?_))
  all_goals
    split
    · exact .refuse
    · exact .ok rfl

theorem phaseSet_writes : WritesAs .phaseSet 0x1004 := by
  refine .of_body (fun _ _ => rfl) (fun _ => rfl) rfl rfl fun p s => ?_
  dsimp only
  exact .zeros (.ite (.ite .refuse (.ok rfl)) (.onHda1 (.ite .refuse (.ok rfl))))

theorem setCreate_writes : WritesAs .setCreate 0x1201 := by
  refine .of_body (fun _ _ => rfl) (fun _ => rfl) rfl rfl fun p s => ?_
  dsimp only
  refine .ite .refuse ?_
  split
  · exact .refuse
  split
  · exact .refuse
  refine .ite .refuse ?_
  split
  · exact .refuse
  · exact .refuse
  · exact .ite .refuse (.ite .refuse (.ok rfl))

theorem levelSet_writes : WritesAs .levelSet 0x1204 := by
  refine .of_body (fun _ _ => rfl) (fun _ => rfl) rfl rfl fun p s => ?_
  split
  · exact .refuse
  · exact .ite .refuse (.ite .refuse (.ite .refuse (.ok rfl)))

theorem volCreate_writes : WritesAs .volCreate 0x1301 := by
  refine .of_body (fun _ _ => rfl) (fun _ => rfl) rfl rfl fun p s => ?_
  dsimp only
  refine .ite .refuse (.ite .refuse (.ite .refuse ?_))
  split
  · exact .refuse
  · exact .ite .refuse (.ite .refuse (.ok rfl))

theorem volDelete_writes : WritesAs .volDelete 0x1302 := by
  refine .of_body (fun _ _ => rfl) (fun _ => rfl) rfl rfl fun p s => ?_
  exact .rsvd (.onVolume fun v => .ite .refuse (.ok rfl))

theorem volSet_writes : WritesAs .volSet 0x1303 := by
  refine .of_body (fun _ _ => rfl) (fun _ => rfl) rfl rfl fun p s => ?_
  exact .ite .refuse (.onVolume fun v => .ite .refuse (.ok rfl))

theorem replBind_writes : WritesAs .replBind 0x1314 := by
  refine .of_body (fun _ _ => rfl) (fun _ => rfl) rfl rfl fun p s => ?_
  dsimp only
  refine .ite .refuse (.ite .refuse (.onVolume fun v => .ite .refuse ?_))
  split
  · exact .refuse
  · exact .ite .refuse (.ite .refuse (.ok rfl))

theorem replUnbind_writes : WritesAs .replUnbind 0x1315 := by
  refine .of_body (fun _ _ => rfl) (fun _ => rfl) rfl rfl fun p s => ?_
  refine .rsvd (.onVolume fun v => ?_)
  split
  · exact .refuse
  · exact .ite .refuse (.ok rfl)

theorem replPromote_writes : WritesAs .replPromote 0x9320 := by
  refine .of_body (fun _ _ => rfl) (fun _ => rfl) rfl rfl fun p s => ?_
  dsimp only
  refine .rsvd (.onVolume fun v => ?_)
  split
  · exact .refuse
  · exact .ite .refuse (.ok rfl)

theorem ShadowRow.writesAs {f : Packet → Instr} (h : ShadowRow f) : ∃ op, WritesAs f op := by
  rcases h with rfl | rfl | rfl | rfl | rfl | rfl | rfl | rfl | rfl | rfl | rfl | rfl | rfl | rfl | rfl | rfl | rfl | rfl
  exacts [⟨_, createQp_writes⟩, ⟨_, connCreate_writes⟩, ⟨_, pathSet_writes⟩, ⟨_, policySet_writes⟩, ⟨_, rekeyStart_writes⟩,
    ⟨_, tierSet_writes⟩, ⟨_, setWrite_writes⟩, ⟨_, loopProfile_writes⟩, ⟨_, loopSetRaw_writes⟩, ⟨_, phaseSet_writes⟩,
    ⟨_, setCreate_writes⟩, ⟨_, levelSet_writes⟩, ⟨_, volCreate_writes⟩, ⟨_, volDelete_writes⟩, ⟨_, volSet_writes⟩,
    ⟨_, replBind_writes⟩, ⟨_, replUnbind_writes⟩, ⟨_, replPromote_writes⟩]

/-- A packet of a row that writes shadow banks and that executes begins its command; a body decides that fails without a trace. -/
theorem ShadowRow.executes {f : Packet → Instr} (h : ShadowRow f) {s : State} {p : Packet} (hwf : (f p).wf = true)
    (hexe : Executes s p) :
    ∃ o body, OpSpec.shadow o = true ∧ exec (f p) s = done ((s.intake p).execute o p body) ∧
      (body (s.begun p)).FailsClean (s.begun p) := by
  obtain ⟨op, ⟨o, ho, hshadow⟩, hrow⟩ := h.writesAs
  obtain ⟨hopcode, body, hexec, hclean⟩ := hrow p
  exact ⟨o, body, hshadow, (hexec s).trans (runCmd_executes op o p s body ho (hopcode hwf) hexe), hclean _⟩

theorem State.begun_shadow (s : State) (p : Packet) : (s.begun p).shadow = s.shadow := by
  rw [(State.Sends.refl s).begun p]

theorem State.answer_shadow (s : State) (p : Packet) (st d : Nat) (data : List Byte) : (s.answer p st d data).shadow = s.shadow := by
  rw [(State.Sends.refl s).answer p st d data]

/-- A command that executes in earnest begins, and its body's status decides whether it answers at once. -/
theorem Executes.execute_eq {s : State} {p : Packet} (h : Executes s p) (hdry : p.dryRun = false) (o : OpSpec) (body : State → Res) :
    (s.intake p).execute o p body =
      (let r := body (s.begun p)
      if r.status ≠ 0 then r.st.answer p r.status r.detail r.data
      else if o.shadow ∧ (p.commit ∨ r.later) ∧ (s.begun p).on SYS.EPOCH_STS.PEND then s.begun p
      else if o.shadow ∧ (s.begun p).on SYS.EPOCH_STS.PEND then
        ((s.begun p).setB SYS.EPOCH_STS.LATE).answer p 0 r.detail r.data
      else if r.later then if o.shadow ∧ p.commit then (r.st.promised p).requestCommit else r.st.promised p
      else if o.shadow ∧ p.commit then
        State.requestCommit { r.st with cmd := { r.st.cmd with waits :=
          { pkt := p, cls := p.cls, at_ := (((s.begun p).cmd.taken.find? (fun x => x.pkt = p)).map Taken.at_).getD (s.begun p).aon,
            wrote := true, detail := r.detail, data := r.data } :: r.st.cmd.waits } }
      else r.after (r.st.answer p 0 r.detail r.data)) := by
  obtain ⟨-, hmay, -, hwait⟩ := h
  rw [State.execute, if_neg (by simp [hmay, hwait]), hdry]
  rfl

/-- Settles O11. That the command whose write LATE reports answers SUCCESS is the model's inference. -/
theorem pendingCommitBlocksShadow : Obligations.PendingCommitBlocksShadow := by
  intro f hrow s p hwf hexe hdry hpend
  have hpend' : (s.begun p).on SYS.EPOCH_STS.PEND = true := hpend
  obtain ⟨o, body, hshadow, hexec, hclean⟩ := hrow.executes hwf hexe
  refine ⟨_, hexec, ?_⟩
  rw [hexe.execute_eq hdry]
  dsimp only
  by_cases hstatus : (body (s.begun p)).status ≠ 0
  · have hkept := (hclean hstatus).trans (s.begun_shadow p)
    rw [if_pos hstatus]
    exact ⟨(State.answer_shadow ..).trans hkept, .inr (.inr ⟨_, _, _, _, hstatus, rfl, hkept⟩)⟩
  rw [if_neg hstatus]
  by_cases hheld : p.commit = true ∨ (body (s.begun p)).later = true
  · rw [if_pos ⟨hshadow, hheld, hpend'⟩]
    exact ⟨s.begun_shadow p, .inl rfl⟩
  · rw [if_neg fun h => hheld h.2.1, if_pos ⟨hshadow, hpend'⟩]
    exact ⟨(State.answer_shadow ..).trans (s.begun_shadow p),
      .inr (.inl ⟨_, _, eq_false_of_ne_true fun h => hheld (.inl h), rfl⟩)⟩

/-- Settles O12. -/
theorem commitFlagWaitsForCommit : Obligations.CommitFlagWaitsForCommit := by
  intro f hrow s p hwf hexe hdry hcommit hpend
  have hpend' : (s.begun p).on SYS.EPOCH_STS.PEND = false := hpend
  obtain ⟨o, body, hshadow, hexec, hclean⟩ := hrow.executes hwf hexe
  refine ⟨_, hexec, ?_⟩
  rw [hexe.execute_eq hdry]
  dsimp only
  by_cases hstatus : (body (s.begun p)).status ≠ 0
  · rw [if_pos hstatus]
    exact .inl ⟨_, _, _, _, hstatus, rfl, (hclean hstatus).trans (s.begun_shadow p)⟩
  rw [if_neg hstatus, if_neg (by simp [hpend']), if_neg (by simp [hpend'])]
  by_cases hlater : (body (s.begun p)).later = true
  · rw [if_pos hlater, if_pos ⟨hshadow, hcommit⟩]
    exact .inr (.inr ⟨_, rfl⟩)
  · rw [if_neg hlater, if_pos ⟨hshadow, hcommit⟩]
    exact .inr (.inl ⟨_, _, rfl, rfl, rfl⟩)

end Sys2Proof.Machine
end

section
/-! PROOFS. The bytes of packets and replies (R95 to R97). -/

namespace Sys2Proof.Machine

/-! ## Fields in byte strings -/

@[simp] theorem length_leBytes (n v : Nat) : (leBytes n v).length = n := by
  induction n generalizing v with
  | zero => rfl
  | succ n ih => simp [leBytes, ih]

theorem leNat_leBytes {n v : Nat} (h : v < 256 ^ n) : leNat (leBytes n v) = v := by
  induction n generalizing v with
  | zero => simp_all [leBytes, leNat]
  | succ n ih =>
    have hrest : v / 256 < 256 ^ n := Nat.div_lt_of_lt_mul (by rwa [Nat.mul_comm, ← Nat.pow_succ])
    have hbyte : (BitVec.ofNat 8 v).toNat = v % 256 := BitVec.toNat_ofNat v 8
    rw [leBytes, leNat, ih hrest, hbyte, Nat.mod_add_div]

/-- A slice at the end of a first part starts in what follows it. -/
theorem slice_append_right {a b : List Byte} {off n : Nat} (h : a.length ≤ off) : slice (a ++ b) off n = slice b (off - a.length) n := by
  simp [slice, List.drop_append, List.drop_eq_nil_of_le h]

theorem slice_append_left {a b : List Byte} {n : Nat} (h : a.length = n) : slice (a ++ b) 0 n = a := by
  subst h
  simp [slice]

theorem slice_self {a : List Byte} {n : Nat} (h : a.length = n) : slice a 0 n = a := by
  simpa using slice_append_left (b := []) h

theorem fieldAt_append_right {a b : List Byte} {off n : Nat} (h : a.length ≤ off) :
    fieldAt (a ++ b) off n = fieldAt b (off - a.length) n := by rw [fieldAt, slice_append_right h, fieldAt]

theorem fieldAt_leBytes {b : List Byte} {n v : Nat} (h : v < 256 ^ n) : fieldAt (leBytes n v ++ b) 0 n = v := by
  rw [fieldAt, slice_append_left (length_leBytes n v), leNat_leBytes h]

theorem fieldAt_leBytes_last {n v : Nat} (h : v < 256 ^ n) : fieldAt (leBytes n v) 0 n = v := by
  simpa using fieldAt_leBytes (b := []) h

/-- Settles O16: each field stands behind those before it. -/
theorem packetHeaderRoundTrip : Obligations.PacketHeaderRoundTrip := by
  intro p hopcode hflags hloc htag hplen hhver hrsvd11 hsession hpbuf hrbuf hrsvd32 hpcrc hhcrc
  simp only [Nat.reducePow] at hopcode htag hplen hsession hpbuf hrbuf hpcrc hhcrc
  simp [Packet.ofBytes, Packet.headBytes, slice_self, slice_append_right, slice_append_left, fieldAt_append_right, fieldAt_leBytes,
    fieldAt_leBytes_last, *]

theorem crcBit_lt {c : Nat} (h : c < 2 ^ 32) : crcBit c < 2 ^ 32 := by
  unfold crcBit
  split
  · exact Nat.xor_lt_two_pow (by omega) (by decide)
  · omega

theorem crcByte_lt {c : Nat} (b : Byte) (h : c < 2 ^ 32) : crcByte c b < 2 ^ 32 := by
  have hstart : c ^^^ b.toNat < 2 ^ 32 := Nat.xor_lt_two_pow h (b.isLt.trans (by decide))
  iterate 8 refine crcBit_lt ?_
  exact hstart

theorem crc32c_lt (bs : List Byte) : crc32c bs < 2 ^ 32 := by
  have hfold : bs.foldl crcByte 0xFFFFFFFF < 2 ^ 32 :=
    List.foldlRecOn (motive := fun c => c < 2 ^ 32) bs crcByte (by decide) fun c hc b _ => crcByte_lt b hc
  exact Nat.xor_lt_two_pow hfold (by decide)

theorem fieldAt_reply_crc (r : Reply) : fieldAt r.bytes 28 4 = crc32c (slice r.bytes 0 28 ++ r.data) % 2 ^ 32 := by
  rw [Nat.mod_eq_of_lt (crc32c_lt _), Reply.bytes]
  generalize hh : leBytes 2 r.status ++ leBytes 2 r.opcode ++ leBytes 4 r.tag ++ leBytes 2 r.data.length ++ leBytes 1 r.loc ++
    leBytes 1 r.cls ++ leBytes 4 r.detail ++ leBytes 4 r.epoch ++ leBytes 8 r.time = h
  have hlen : h.length = 28 := by simp [← hh]
  rw [List.append_assoc, slice_append_left hlen, fieldAt_append_right hlen.le, hlen, fieldAt_leBytes (crc32c_lt _)]

/-- A reply for a free channel for which none waits leaves at once (R125). -/
theorem State.sendReply_free {s : State} {r : Reply} {ch : Nat} (hvia : r.via = .mailbox ch)
    (hfree : s.on (MBX.CHn_STS.FULL_B ch) = false) (hheld : s.cmd.held.find? (fun x => x.channel = some ch) = none) :
    (s.sendReply r).out.head? = some (.reply r) := by
  have hr : r.channel = some ch := by simp [Reply.channel, hvia]
  have hnext : (s.cmd.held ++ [r]).find? (fun x => x.channel = some ch) = some r := by simp [hheld, hr]
  have hfree' : State.on { s with cmd := { s.cmd with held := s.cmd.held ++ [r] } } (MBX.CHn_STS.FULL_B ch) = false := hfree
  unfold State.sendReply State.pump
  simp only [hvia, hfree', hnext]
  rfl

/-- Settles O15. -/
theorem replyLayout : Obligations.ReplyLayout := by
  refine ⟨fun r hstatus hopcode htag hdata hloc hcls hdetail hepoch htime => ?bytes, fun s p st d ch data hvia hfree hheld => ?echo⟩
  case bytes =>
    have hcrc := fieldAt_reply_crc r
    have hlen : r.data.length < 65536 := by omega
    simp only [Nat.reducePow] at hstatus hopcode htag hdetail hepoch htime
    refine ⟨?_, ?_, ?_, ?_, ?_, ?_, ?_, ?_, ?_, hcrc, ?_⟩
    case refine_10 => simp [Reply.bytes, List.drop_append, List.drop_eq_nil_of_le]
    all_goals simp [Reply.bytes, fieldAt_append_right, fieldAt_leBytes, *]
  case echo =>
    unfold State.answer State.replyTo
    exact State.sendReply_free hvia hfree hheld

end Sys2Proof.Machine
end

section
/-! PROOFS. Withdrawals, slot writes and ABANDON (R28, R121, R122, R124). -/

namespace Sys2Proof.Machine

/-- A write to SYS_EPOCH_CTL by an identity that may write it commits first, then abandons (R25, R28; log entry 13). -/
theorem State.epochCtl_permitted {s : State} {ident : Nat} {data : Word} (hreach : s.reaches ident 0x30 = true)
    (hident : ident = 0 ∨ ident = 2 ∨ ident = 7) :
    s.epochCtl ident data =
      (s.iff (bitAt data.toNat 0) State.requestCommit).iff
        (bitAt data.toNat 1 && !(s.iff (bitAt data.toNat 0) State.requestCommit).on SYS.EPOCH_STS.PEND) State.abandonShadow :=
  State.ctlWrite_permitted _ hreach (by rcases hident with rfl | rfl | rfl <;> rfl)

/-- Settles O17. -/
theorem abandonOverwritesShadow : Obligations.AbandonOverwritesShadow := by
  intro s ident data u hreach hident habandon hu
  have hexec : exec (.epochAbandon ident data) s = done (u.iff (!u.on SYS.EPOCH_STS.PEND) State.abandonShadow) := by
    rw [hu]
    change done (s.epochCtl ident data) = _
    rw [State.epochCtl_permitted hreach hident, habandon]
    rfl
  refine ⟨fun hpend => ?_, fun hpend => ⟨?_, rfl, rfl, rfl⟩⟩
  all_goals
    rw [hexec, hpend]
    rfl

/-- The complex has a message in slot B of channel 0, and owes a command of that channel the reply that a restart gave it. -/
def owedReply : State :=
  { (State.reset.setB CMD.STS.MC_RUN).setB (MBX.CHn_STS.FULL_B 0) with
    cmd := { taken := [{ pkt := { (default : Packet) with via := .mailbox 0, ident := 2 }, cls := 0, at_ := 0, owed := some (0x0006, 0) }] } }

/-- Refutes O19: no reply is held for the slot, but a taken command is owed one. The withdrawal empties the slot, and the owed reply
fills it again at once (R116, R125). -/
theorem not_mailboxWithdrawal : ¬ Obligations.MailboxWithdrawal := by
  intro h
  have hwithdraw := h owedReply 0 2 0 true (by decide) (by decide) (by decide) (by decide) fun _ => rfl
  rw [if_pos (by decide)] at hwithdraw
  obtain ⟨-, hempty, -⟩ := hwithdraw
  have hfull : (owedReply.withdraw 0 0).2.on (fullFld 0 true) = true := by decide
  exact Bool.noConfusion (hempty.symm.trans hfull)

/-- A byte inside the range written is the one written there. -/
theorem Memory.read_writes_inside (m : Memory) {a : Nat} {bs : List Byte} {c : Nat} (h : a ≤ c ∧ c < a + bs.length) :
    (m.writes a bs).read c = bs.getD (c - a) 0 := by
  induction bs generalizing m a with
  | nil => simp at h; omega
  | cons b bs ih =>
    rw [List.length_cons] at h
    rcases Nat.eq_or_lt_of_le h.1 with rfl | hlt
    · rw [Memory.writes, Memory.read_writes_before _ _ _ _ (by omega), Memory.read_write, if_pos rfl, Nat.sub_self]
      rfl
    · rw [Memory.writes, ih _ (by omega), show c - a = c - (a + 1) + 1 by omega]
      rfl

theorem Memory.read_writes (m : Memory) (a : Nat) (bs : List Byte) (c : Nat) :
    (m.writes a bs).read c = if a ≤ c ∧ c < a + bs.length then bs.getD (c - a) 0 else m.read c := by
  by_cases h : a ≤ c ∧ c < a + bs.length
  · rw [if_pos h, Memory.read_writes_inside m h]
  · rw [if_neg h, Memory.read_writes_before _ _ _ _ (by omega)]

/-- The end of a command in a quiet state leaves the commands and the slots' bytes alone. -/
theorem State.settle_cmd_of_quiet {s : State} (h : s.quiet) : s.settle.cmd = s.cmd := by rw [quietStateSettles.1 s h]

theorem slotAt_lt {off ch x : Nat} {b : Bool} (h : slotAt off = some (ch, b, x)) : ch < 64 := by
  unfold slotAt at h
  dsimp only at h
  split_ifs at h <;> simp_all

/-- The fields of the mailbox registers. -/
def mbxBit (b : Nat) : Bool := decide (8 * 0x200000 ≤ b ∧ b < 8 * 0x210000)

/-- A refused access to a mailbox channel is recorded in the mailbox registers only. -/
theorem State.SameBut.mbxRefuse {s t : State} (h : s.SameBut mbxBit t) (cause ident : Nat) {ch : Nat} (hch : ch < 64) (rej : Bool) :
    s.SameBut mbxBit (t.mbxRefuse cause ident ch rej) := by
  have hrej : mbxBit (MBX.CHn_STS.REJ ch).bit = true := (by decide : ∀ n < 64, mbxBit (MBX.CHn_STS.REJ n).bit = true) ch hch
  have hmarked : s.SameBut mbxBit (t.iff rej (·.setB (MBX.CHn_STS.REJ ch))) := by
    cases rej
    · exact h
    · exact h.put 1 hrej
  unfold State.mbxRefuse
  dsimp only
  split
  · exact hmarked
  · exact (((hmarked.put _ (by decide)).put _ (by decide)).put _ (by decide)).put _ (by decide)

theorem State.quiet_of_mbx {s t : State} (h : s.SameBut mbxBit t) (hquiet : s.quiet) : t.quiet :=
  h.quiet (by decide) (by decide) hquiet

/-- A slot write that may not be made changes mailbox registers only (R121). -/
theorem State.slotWrite_sameBut {s : State} {ident off : Nat} {bytes : List Byte} {ch : Nat} {b : Bool} {x : Nat}
    (hslot : slotAt off = some (ch, b, x))
    (hnot : ¬ (s.reaches ident (mbxBase ident + off) = true ∧ s.writesSlot ident ch = some b ∧ s.on (fullFld ch b) = false)) :
    s.SameBut mbxBit (s.slotWrite ident off bytes) := by
  have hch : ch < 64 := slotAt_lt hslot
  have hovf : mbxBit (MBX.CHn_STS.OVF ch).bit = true := (by decide : ∀ n < 64, mbxBit (MBX.CHn_STS.OVF n).bit = true) ch hch
  unfold State.slotWrite
  simp only [hslot]
  split
  · exact .refl s
  · next hreach =>
    split
    · exact (State.SameBut.refl s).mbxRefuse _ _ hch _
    · next hwrites =>
      rw [if_pos (by simp_all)]
      exact ((State.SameBut.refl s).put 1 hovf).mbxRefuse _ _ hch _

/-- Nothing is left to carry on with whatever the slots hold. -/
theorem State.quiet_withMem {s : State} (m : Memory) (h : s.quiet) : State.quiet { s with cmd := { s.cmd with mem := m } } := h

/-- Settles O21. -/
theorem slotWriteStoresBytes : Obligations.SlotWriteStoresBytes := by
  intro s ident off bytes hquiet hne hlen hoff
  refine ⟨_, okIf_true _ (by simp [hne, hlen, hoff]), ?_⟩
  cases hslot : slotAt off with
  | none =>
    have hsame : s.slotWrite ident off bytes = s := by simp only [State.slotWrite, hslot]
    rw [hsame, State.settle_cmd_of_quiet hquiet]
    exact ⟨id, rfl⟩
  | some y =>
    obtain ⟨ch, b, x⟩ := y
    dsimp only
    by_cases hmay : s.reaches ident (mbxBase ident + off) = true ∧ s.writesSlot ident ch = some b ∧ s.on (fullFld ch b) = false
    · obtain ⟨hreach, hwrites, hempty⟩ := hmay
      rw [if_pos ⟨hreach, hwrites, hempty⟩]
      have hstored : s.slotWrite ident off bytes =
          { s with cmd := { s.cmd with mem := s.cmd.mem.writes (slotBase ch b + x) (bytes.take (0x1040 - x)) } } := by
        simp [State.slotWrite, hslot, hreach, hwrites, hempty]
      have hmem : (s.slotWrite ident off bytes).settle.cmd.mem =
          s.cmd.mem.writes (slotBase ch b + x) (bytes.take (0x1040 - x)) := by
        rw [hstored, State.settle_cmd_of_quiet (State.quiet_withMem _ hquiet)]
      rw [hmem]
      refine ⟨Memory.wf_writes _ _ _, fun a => ?_⟩
      rw [Memory.read_writes, List.length_take, Nat.min_comm]
      refine ite_congr rfl (fun hin => ?_) fun _ => rfl
      rw [List.getD_eq_getElem?_getD, List.getElem?_take_of_lt (by omega), List.getD_eq_getElem?_getD]
    · have hsame := State.slotWrite_sameBut (bytes := bytes) hslot hmay
      rw [if_neg hmay, State.settle_cmd_of_quiet (State.quiet_of_mbx hsame hquiet), hsame.rest]
      exact ⟨id, rfl⟩

end Sys2Proof.Machine
end

section
/-! PROOFS. Feed swaps (R44 to R49, R52). -/

namespace Sys2Proof.Machine

/-- A write to PWR_FEED_CTL by an identity that may write it rearms feed A, then feed B, then starts a swap (R44, R47). -/
theorem State.feedCtl_permitted {s : State} {ident : Nat} {data : Word} (hreach : s.reaches ident 0x10004 = true)
    (hident : ident = 0 ∨ ident = 2 ∨ ident = 4 ∨ ident = 7) {u : State}
    (hu : u = (s.iff (bitAt data.toNat 0) (·.rearm .a)).iff (bitAt data.toNat 1) (·.rearm .b)) :
    s.feedCtl ident data =
      if bitAt data.toNat 2 then if u.swapAllowed then u.beginSwap else u.setB PWR.FEED_STS.SWAP_REFUSED else u := by
  have hperm : [0, 2, 4, 7].contains ident = true := by rcases hident with rfl | rfl | rfl | rfl <;> rfl
  rw [hu, State.feedCtl, State.ctlWrite_permitted _ hreach hperm]
  rfl

/-- Settles O24. That cached writes complete when HOLDUP_OK rises is the model's reading (log entry 167). -/
theorem feedSwap : Obligations.FeedSwap := by
  refine ⟨?rearm, ?swapNow, fun _ _ => rfl, ?due, ?waits, ?skipped, ?check, ?holdup⟩
  case rearm | swapNow =>
    intro s ident data u hreach hident hu
    rw [← State.feedCtl_permitted hreach hident hu]
    rfl
  case due =>
    intro s t hwait hdue hperiod
    change done _ = _
    simp only [hwait, hdue, if_neg hperiod]
    rfl
  case waits =>
    intro s t hwait hperiod
    change done _ = _
    simp only [hwait, if_neg hperiod]
    rfl
  case skipped =>
    intro s t u hu hwait hperiod
    change done _ = _
    simp only [hwait, if_neg hperiod, hu]
    rfl
  case check =>
    intro s t aCode bCode aPgood bPgood act u v hu hv ha hb hstart hbusy
    have hcodes : (codeOk aCode && codeOk bCode) = true := by simp [codeOk, ha, hb]
    refine (okIf_true _ hcodes).trans ?_
    simp only [hstart, hbusy, not_true_eq_false, if_false, ← hu, ← hv]
    cases act <;> simp only [FeedId.other, Bool.and_eq_true, and_assoc] <;> rfl
  case holdup =>
    rintro s level u rfl
    rfl

end Sys2Proof.Machine
end

section
/-! PROOFS. Gating and wake, spare clusters and the epoch control (R16 to R18, R25 to R32, R53, R54, R532). -/

namespace Sys2Proof.Machine

/-- A command whose row does nothing under P. -/
theorem done_unless {P Q : Prop} [Decidable P] [Decidable Q] {s t : State} (h : Q ↔ ¬ P) :
    done (if P then s else t) = .next (State.settle (if Q then t else s)) := by
  rw [← ite_not, done]
  simp only [h]

theorem cluster_div_mod {q k : Nat} (hk : k < 8) : (8 * q + k) / 8 = q ∧ (8 * q + k) % 8 = k := by omega

/-- What a wake cause does to a gated cluster (R32, R54). -/
theorem State.wakeCluster_gated {s : State} {q k : Nat} (hk : k < 8) (hgated : s.pwr.clusters.getD (8 * q + k) .gated = .gated) :
    s.wakeCluster (8 * q + k) =
      if s.pwr.tripped = true ∨ s.get (SYS.CLMAP.C q k) = 0xF then s
      else if s.pwr.quads.getD q .gated = .awake then (s.setCluster (8 * q + k) .awake).iff (s.entReady q) (·.seed (8 * q + k))
      else State.causeWake { s with pwr := { s.pwr with wakeDue := insertNat s.pwr.wakeDue (8 * q + k) } } q := by
  obtain ⟨hquad, hcluster⟩ := cluster_div_mod (q := q) hk
  simp only [State.wakeCluster, hgated, hquad, hcluster]

/-- Settles O26. -/
theorem gatingAndWake : Obligations.GatingAndWake := by
  refine ⟨?clusterGate, ?quadrantGate, ?clusterEntered, ?quadrantEntered, ?wakeEntering, ?wakeGated, ?wakeAwake, ?quadEntering,
    ?quadGated, ?quadAwake⟩
  case clusterGate =>
    intro s q k hq hk
    refine (okIf_true _ (by simp [hq, hk])).trans (done_unless ?_)
    simp
  case quadrantGate =>
    intro s q hq
    refine (okIf_true _ (by simp [hq])).trans (done_unless ?_)
    simp
  case clusterEntered =>
    intro s q k w hq hk hentering
    refine (okIf_true _ (by simp [hq, hk])).trans ?_
    rw [hentering]
    rfl
  case quadrantEntered =>
    intro s q w hq hentering
    refine (okIf_true _ (by simp [hq])).trans ?_
    rw [hentering]
    rfl
  case wakeEntering =>
    intro s q k w hq hk hentering
    refine (okIf_true _ (by simp [hq, hk])).trans ?_
    rw [State.wakeCluster, hentering]
    rfl
  case wakeGated =>
    intro s q k hq hk hgated
    refine (okIf_true _ (by simp [hq, hk])).trans ?_
    rw [State.wakeCluster_gated hk hgated]
    rfl
  case wakeAwake =>
    intro s q k hq hk hawake
    refine (okIf_true _ (by simp [hq, hk])).trans ?_
    rw [State.wakeCluster, hawake]
    rfl
  case quadEntering =>
    intro s q w hq hentering
    refine (okIf_true _ (by simp [hq])).trans ?_
    rw [State.causeWake, hentering]
    rfl
  case quadGated =>
    intro s q hq hgated
    refine (okIf_true _ (by simp [hq])).trans ?_
    rw [State.causeWake, hgated]
    rfl
  case quadAwake =>
    intro s q hq hawake
    refine (okIf_true _ (by simp [hq])).trans ?_
    rw [State.causeWake, hawake]
    rfl

/-- A parity error triggers a swap where it is the 16th of a cluster that is not retired (R16, R17). -/
theorem State.parityError_eq (s : State) (q k : Nat) {ts : List (Nat × Nat)}
    (hts : ts = (k, s.aon) :: (s.spares.getD q {}).parity.filter (fun e => s.aon < e.2 + Config.day)) :
    s.parityError q k =
      if 16 ≤ (ts.filter (fun e => e.1 = k)).length ∧ s.get (SYS.CLMAP.C q k) ≠ 0xF then
        (s.setSpare q { s.spares.getD q {} with parity := ts.filter (fun e => e.1 ≠ k) }).swapTrigger q k true
      else s.setSpare q { s.spares.getD q {} with parity := ts } := by
  unfold State.parityError
  dsimp only
  rw [← hts]
  by_cases hhit : 16 ≤ (ts.filter (fun e => e.1 = k)).length ∧ s.get (SYS.CLMAP.C q k) ≠ 0xF
  · have hhit' : (decide (16 ≤ (ts.filter (fun e => e.1 = k)).length) && decide (s.get (SYS.CLMAP.C q k) ≠ 0xF)) = true := by
      simp [hhit]
    rw [if_pos hhit, hhit']
    rfl
  · have hhit' : (decide (16 ≤ (ts.filter (fun e => e.1 = k)).length) && decide (s.get (SYS.CLMAP.C q k) ≠ 0xF)) = false := by
      rw [Bool.eq_false_iff]
      simpa using hhit
    rw [if_neg hhit, hhit']
    rfl

/-- What a permitted write to SYS_EPOCH_CTL leaves, with the commit it requests (R25, R28). -/
theorem State.epochCtl_eq {s : State} {ident : Nat} {data : Word} (hreach : s.reaches ident 0x30 = true)
    (hident : ident = 0 ∨ ident = 2 ∨ ident = 7) {u : State} (hu : u = if bitAt data.toNat 0 then s.requestCommit else s) :
    s.epochCtl ident data =
      if bitAt data.toNat 1 = true ∧ u.on SYS.EPOCH_STS.PEND = false then u.abandonShadow else u := by
  rw [State.epochCtl_permitted hreach hident, show s.iff (bitAt data.toNat 0) State.requestCommit = u from hu.symm]
  unfold State.iff
  simp

/-- Settles O27. That COMMIT acts before ABANDON in one write, and that a remap commits by itself, is the model's reading (log
entry 13). -/
theorem clusterSparesAndEpochControl : Obligations.ClusterSparesAndEpochControl := by
  refine ⟨?parity, ?drained, ?tested, ?remap, ?weekly, ?commit, ?abandon, ?freed, ?swap⟩
  case parity =>
    rintro s q k ts x hq hk rfl hts
    refine (okIf_true _ (by simp [hq, hk])).trans ?_
    rw [State.parityError_eq s q k hts, done]
  case drained =>
    rintro s q k retire parity x u hq rfl hphase hidle rfl
    have hnone : s.hq.cmds.any (fun c => c.cluster = 8 * q + k) = false := by simpa using hidle
    refine (okIf_true _ (by simp [hq])).trans ?_
    simp only [hphase, hnone]
    rfl
  case tested =>
    rintro s q k pass x hq rfl hphase
    refine (okIf_true _ (by simp [hq])).trans ?_
    rw [hphase]
    rfl
  case remap =>
    intro s q hq
    refine (okIf_true _ (by simp [hq])).trans ?_
    simp only [Bool.and_eq_true, Bool.not_eq_true', decide_eq_true_eq, and_assoc, done]
  case weekly =>
    rintro s q pass x u v hq rfl rfl rfl
    refine (okIf_true _ (by simp [hq])).trans ?_
    simp only [Bool.or_eq_true, done]
  case commit | abandon =>
    intro s ident data u hreach hident hu
    rw [← State.epochCtl_eq hreach hident hu]
    rfl
  case freed =>
    intro s hnone
    change done _ = _
    rw [if_pos hnone]
    rfl
  case swap =>
    rintro z p s q k h rfl rfl rfl hunit hmapped
    refine runCmd_of_leaves rfl h ?_
    dsimp only
    rw [if_neg (not_not.mpr hunit), if_neg hmapped]
    rfl

end Sys2Proof.Machine
end

section
/-! PROOFS. Messages, locks and doorbells of the mailbox channels (R121 to R127). -/

namespace Sys2Proof.Machine

/-! ## What an identity that reaches a channel does with it -/

section
variable {s : State} {ident n : Nat}

theorem State.sendMsg_reached (h : s.reaches ident (chReg ident n 0x8) = true) {b : Bool} (hwrites : s.writesSlot ident n = some b)
    (data : Nat) : s.sendMsg ident n data =
      if s.on (fullFld n b) then (s.setB (MBX.CHn_STS.OVF n)).mbxRefuse 3 ident n false
      else if data % 2 ^ 13 = 0 ∨ 4160 < data % 2 ^ 13 then s.setB (MBX.CHn_STS.OVF n)
      else s.fillSlot n b (data % 2 ^ 13) ident := by
  simp only [State.sendMsg, h, hwrites, not_true_eq_false, if_false]

theorem State.recvMsg_reached (h : s.reaches ident (chReg ident n 0xC) = true) : s.recvMsg ident n =
    match s.readsSlot ident n with
    | none => (0, s)
    | some b => if s.on (fullFld n b) then (2 ^ 31 + s.slotLen n b, s.emptySlot n b) else (0, s) :=
  if_neg (not_not.mpr h)

theorem State.withdraw_reached (h : s.reaches ident (chReg ident n 0x20) = true) : s.withdraw ident n =
    match s.writesSlot ident n with
    | none => (0, s)
    | some b => if s.on (fullFld n b) then (1, s.emptySlot n b) else (0, s) :=
  if_neg (not_not.mpr h)

theorem State.lockRead_reached (h : s.reaches ident (chReg ident n 0x10) = true) : s.lockRead ident n =
    if s.shared n = false then (0, s)
    else if s.get (MBX.CHn_STS.OWNER n) = 0 ∧ (ident = s.get (MBX.CHn_BIND.END0 n) ∨ ident = s.get (MBX.CHn_BIND.END1 n)) then
      (0, s.put (MBX.CHn_STS.OWNER n) ident)
    else (if s.get (MBX.CHn_STS.OWNER n) = ident then 0 else s.get (MBX.CHn_STS.OWNER n), s) := by
  simp only [State.lockRead, h, not_true_eq_false, false_or, Bool.not_eq_true]
  congr 2
  split <;> rfl

end

/-- Settles O30. -/
theorem mailboxMessages : Obligations.MailboxMessages := by
  refine ⟨?slotWrite, ?sendRefused, ?send, ?recv, ?wdraw, ?lockRead, ?lockRelease, ?dbSet, fun _ => rfl⟩
  case slotWrite =>
    intro s ident off ch x b bytes hne hlen hoff hslot hreach
    refine (okIf_true _ (by simp [hne, hlen, hoff])).trans ?_
    simp only [State.slotWrite, hslot, hreach, not_true_eq_false, if_false, done]
  case sendRefused =>
    intro s ident n data hn hreach hwrites
    refine (okIf_true _ (decide_eq_true hn)).trans ?_
    simp only [State.sendMsg, hreach, hwrites, not_true_eq_false, if_false, done]
  case send =>
    intro s ident n b data hn hreach hwrites
    refine (okIf_true _ (decide_eq_true hn)).trans ?_
    rw [State.sendMsg_reached hreach hwrites, done]
  case recv =>
    intro s ident n hn hreach
    refine (okIf_true _ (decide_eq_true hn)).trans ?_
    rw [State.recvMsg_reached hreach]
    cases s.readsSlot ident n with
    | none => rfl
    | some b => exact congrArg done (apply_ite (State.emitRead ident _) _ _ _)
  case wdraw =>
    intro s ident n hn hreach
    refine (okIf_true _ (decide_eq_true hn)).trans ?_
    rw [State.withdraw_reached hreach]
    cases s.writesSlot ident n with
    | none => rfl
    | some b => exact congrArg done (apply_ite (State.emitRead ident _) _ _ _)
  case lockRead =>
    rintro s ident n o hn hreach rfl
    refine (okIf_true _ (decide_eq_true hn)).trans ?_
    rw [State.lockRead_reached hreach, apply_ite (State.emitRead ident _), apply_ite (State.emitRead ident _)]
    rfl
  case lockRelease =>
    intro s ident n data hn hreach
    refine (okIf_true _ (decide_eq_true hn)).trans ?_
    simp only [State.lockWrite, hreach, not_true_eq_false, if_false, Bool.not_eq_true, done]
  case dbSet =>
    intro s ident n data hn hreach
    refine (okIf_true _ (decide_eq_true hn)).trans ?_
    simp only [State.dbSet, State.ringMask, hreach, not_true_eq_false, if_false]
    cases s.writesSlot ident n <;> rfl

end Sys2Proof.Machine
end

section
/-! PROOFS. The intake engine, promotion, the watchdog and the settings store (R95, R113 to R118, R522). -/

namespace Sys2Proof.Machine

/-- Settles O32. What a core's self-test finds after a commanded restart is a free choice (log entry 14), and that all due settings
are stored together is the model's choice (log entry 135). -/
theorem intakeWatchdogAndStore : Obligations.IntakeWatchdogAndStore := by
  refine ⟨?take, ?promote, ?written, ?waits, ?watchdog, ?firmware, ?kick, ?noKick, ?store⟩
  case take =>
    intro s src load u hload hsrc hu
    cases src with
    | slotF ch =>
      refine (okIf_true _ (by simp [hload, show ch < 64 from hsrc])).trans ?_
      rw [hu, done]
    | inband qpid slot =>
      refine (okIf_true _ ?_).trans (by rw [hu, done])
      rw [Bool.and_eq_true]
      exact ⟨decide_eq_true hsrc, decide_eq_true hload⟩
  case promote =>
    intro s ident tag t hfind
    change execClass3Promote ident tag s = _
    simp only [execClass3Promote, hfind]
    rw [State.passTo_cmd, done]
  case written =>
    intro s ident tag t w htaken hwaits
    change execCommitWaitTimeout ident tag s = _
    simp only [execCommitWaitTimeout, htaken, hwaits]
    rw [State.passTo_cmd, done]
  case waits =>
    intro s ident tag t htaken hwaits
    change execCommitWaitTimeout ident tag s = _
    simp only [execCommitWaitTimeout, htaken, hwaits, writesShadow, done]
    rfl
  case watchdog =>
    rintro s late failed overdue cores u v rs hlate hfailed rfl hen hrun hcores hwarm henabled rfl rfl rfl rfl
    refine (okIf_true _ (by simp [hlate, hfailed])).trans ?_
    rw [if_neg (by simpa [hen, hrun, hwarm, henabled, List.isEmpty_iff] using hcores), done]
  case firmware =>
    rintro s u hreset rfl
    change done _ = _
    rw [if_neg (not_not.mpr hreset)]
    rfl
  case kick =>
    intro s core data hcore hrun
    refine (okIf_true _ (decide_eq_true hcore)).trans ?_
    rw [if_pos ⟨rfl, hrun⟩, done]
  case noKick =>
    intro s ident core data hcore hnot
    refine (okIf_true _ (decide_eq_true hcore)).trans ?_
    rw [if_neg fun h => hnot.elim (· h.1) fun hoff => by simp [hoff] at h, done]
  case store =>
    rintro s ok recs u rfl rfl hdue hrun
    change done _ = _
    rw [if_neg (by simp [hrun, hdue]), done]

end Sys2Proof.Machine
end

section
/-! PROOFS. The event recorder: intake, snapshots, log and mirror (R30, R479 to R487). -/

namespace Sys2Proof.Machine

/-- Settles O33. -/
theorem eventRecorder : Obligations.EventRecorder := by
  refine ⟨?intake, ?snapshot, ?commit, ?wall, ?program, ?header, ?load, ?loaded, fun _ _ => rfl⟩
  case intake =>
    intro s code loc res value data hcode hloc hres hvalue hdata
    have hfits : (code < 65536 && loc < 256 && res < 2 ^ 32 && value < 2 ^ 32 && data.length ≤ 28) = true := by
      simp only [hcode, hloc, hres, hvalue, hdata, decide_true, Bool.and_self]
    exact okIf_true _ hfits
  case snapshot =>
    intro s g rest hintake hoffs hvals
    change execSnapshotRead s = _
    simp only [execSnapshotRead, hintake]
    rw [if_neg (by simp [hoffs, hvals]), done]
  case commit =>
    rintro s g rest u hintake hread hready rfl
    change execRecordCommit s = _
    simp only [execRecordCommit, hintake]
    have hgo : ¬ (¬ g.offs.isEmpty ∧ g.vals.isNone ∨ s.on EVR.STS.LOADING ∧ s.evr.log.isEmpty) := by
      rcases hread with h | h <;> rcases hready with k | k <;> simp_all [Option.isSome_iff_ne_none]
    rw [if_neg hgo, done]
  case wall =>
    intro s hset hfound
    change done _ = _
    rw [if_neg (by simp [hfound, Option.isSome_iff_ne_none.mp hset]), done]
  case program =>
    rintro s count m n hloading rfl rfl
    change done _ = _
    rw [if_neg (by simp [hloading]), done]
  case header =>
    intro s hloading
    change done _ = _
    rw [if_neg (by simp [hloading]), done]
  case load =>
    rintro s m u v rfl hreached hloading hfirst hlog rfl rfl
    change done _ = _
    rw [if_neg (by simp [hreached, hloading, hfirst, hlog]), done]
  case loaded =>
    rintro s slots n u hloading rfl rfl
    change done _ = _
    rw [if_neg (by simp [hloading]), done]

end Sys2Proof.Machine
end

section
/-! PROOFS. Register accesses over every path (R34, R189, R433, R465, R513 to R524). -/

namespace Sys2Proof.Machine

/-- An accepted message acts on the state that has heard it (R413, R416). -/
theorem State.receive_accepted {s : State} {env : Seal} (h : Accepts s env) (always : Bool) (f : State → State) :
    s.receive env always f = f s.heardMessage := by
  obtain ⟨hup, hrunning, hseal, hpartner⟩ := h
  unfold State.receive
  rw [if_neg (by simp [hup, hrunning]), if_neg (by simp [hseal]), if_pos (.inr hpartner)]
  rfl

section
variable {s : State} {ident addr : Nat}

/-- A register outside the mailbox windows that is reached, on a unit that has it, and has no row of its own, is written field by field
(R515). -/
theorem State.regWrite_plain {data : Nat} (hbox : mbxAddr addr = false) (hrows : ¬ [0x30, 0x48, 0x10004, 0x140000].contains addr)
    (hphase : idxIn addr 0xE0400 4 192 = none) (hreach : s.reaches ident addr = true) (hfused : s.fusedOff addr = false) :
    s.regWrite ident addr data = s.plainWrite ident addr data := by
  obtain ⟨hepoch, hreset, hfeed, hslice⟩ : addr ≠ 0x30 ∧ addr ≠ 0x48 ∧ addr ≠ 0x10004 ∧ addr ≠ 0x140000 := by
    simpa only [List.contains_cons, List.contains_nil, Bool.or_false, Bool.or_eq_true, beq_iff_eq, not_or] using hrows
  simp only [State.regWrite, hreach, hfused, hbox, hepoch, hreset, hfeed, hslice, hphase, not_true_eq_false, Bool.false_eq_true,
    or_self, if_false]

/-- The phase offset of an HDA is written by its own rule (R521). -/
theorem State.regWrite_phase {h data : Nat} (hh : h < 192) (hreach : s.reaches ident (0xE0400 + 4 * h) = true)
    (hfused : s.fusedOff (0xE0400 + 4 * h) = false) :
    s.regWrite ident (0xE0400 + 4 * h) data = s.phaseWrite ident (0xE0400 + 4 * h) h data := by
  have hbox : mbxAddr (0xE0400 + 4 * h) = false := by simp [mbxAddr, inMbx, inMbx2]; omega
  have hidx : idxIn (0xE0400 + 4 * h) 0xE0400 4 192 = some h := by
    rw [idxIn, if_pos (by omega), Nat.add_sub_cancel_left, Nat.mul_div_cancel_left h (by decide)]
  unfold State.regWrite
  simp only [hreach, hfused, hbox, hidx, not_true_eq_false, Bool.false_eq_true, or_self, if_false]
  rw [if_neg (by omega), if_neg (by omega), if_neg (by omega), if_neg (by omega)]

/-- A tunnelled read sends back each word it touches (R433). -/
theorem State.tunnel_read (s : State) (off size : Nat) :
    s.tunnel (.read off size) = (wordsOf (0x200000 + off) size).foldl (fun (t : State) w =>
      if t.tunnelled (mbxOff w) then (t.regRead 5 w).2.sendNrn 6 1 [w - 0x200000, (t.regRead 5 w).1] []
      else t.sendNrn 6 1 [w - 0x200000, 0] []) s := by
  refine congrArg (fun f => List.foldl f s (wordsOf (0x200000 + off) size)) (funext fun t => funext fun w => ?_)
  generalize w - 0x200000 = x
  by_cases h : t.tunnelled (mbxOff w) = true
  · rw [if_pos h, if_pos h]
  · rw [if_neg h, if_neg h]

end

/-- Settles O36. Which accesses are refused whole, and what a tunnelled read elsewhere answers, are the model's readings (log entries 32
and 34). -/
theorem registerAccesses : Obligations.RegisterAccesses := by
  refine ⟨?read, ?unreached, ?write, ?badWrite, ?fields, fun s f addr v => rfl, ?phase, ?stamp, ?tunnelRead, ?tunnelWrite, ?health⟩
  case read =>
    intro s ident addr size hpos hmax
    exact okIf_true _ (by simp [hpos, hmax])
  case unreached =>
    intro s ident addr hreach
    exact if_pos (by simp [hreach])
  case write =>
    intro s ident addr size data hpos hmax
    exact okIf_true _ (by simp [hpos, hmax])
  case badWrite =>
    intro s ident addr size a hbox hfind hboxA
    unfold State.badWrite wordsOf
    rw [hfind]
    simp [hboxA]
  case fields =>
    rintro s ident addr data w - hbox hrows hphase hreach hfused rfl
    rw [State.regWrite_plain hbox hrows hphase hreach hfused]
    simp only [State.plainWrite, Bool.not_eq_true]
  case phase =>
    intro s ident h data hh hident hreach hfused hnew
    rw [State.regWrite_phase hh hreach hfused, State.phaseWrite]
    dsimp only
    rw [if_neg hnew, if_neg (not_not.mpr hident)]
  case stamp =>
    intro s ident
    change done _ = _
    rw [apply_ite (State.emitRead ident _)]
    rfl
  case tunnelRead =>
    intro s env off size haccepts hpos hmax hfits
    refine (okIf_true _ (by simp [TunnelOk, hpos, hmax, hfits])).trans ?_
    rw [State.receive_accepted haccepts, State.tunnel_read, wordsOf, done]
  case tunnelWrite =>
    intro s env off bytes haccepts hpos hmax hfits hbound
    refine (okIf_true _ (by simp [TunnelOk, hpos, hmax, hfits])).trans ?_
    rw [State.receive_accepted haccepts, State.tunnel]
    rw [if_pos hbound, done]
  case health =>
    rintro s a b c rfl rfl rfl hreached
    change done _ = _
    rw [if_neg (Nat.not_lt.mpr hreached), done]

end Sys2Proof.Machine
end

section
/-! PROOFS. The I/O commands of a queue pair (R142 to R158, R249). -/

namespace Sys2Proof.Machine

/-! ## The I/O commands of a queue pair (R158) -/

section
variable {s t : State} {qpid cid op : Nat} {body : State → HCmd → State} {c d : HCmd}

/-- No command of the opcode there, the head halts, or its cluster sleeps: nothing happens. -/
theorem State.ioCmd_idle
    (h : ∀ c, s.hcmd qpid cid = some c → c.sub.opcode ≠ op ∨ s.halted = true ∨ s.clusterAwake c.cluster = false) :
    s.ioCmd qpid cid op body = s := by
  unfold State.ioCmd
  cases hcmd : s.hcmd qpid cid with
  | none => rfl
  | some c => exact if_pos (by simpa using h c hcmd)

/-- A command that may run begins where it has not, and its body runs once it is ready. -/
theorem State.ioCmd_awake (hcmd : s.hcmd qpid cid = some c) (hop : c.sub.opcode = op) (hrun : s.halted = false)
    (hawake : s.clusterAwake c.cluster = true) (ht : t = if c.phase = .fetched then s.beginCmd c else s) :
    s.ioCmd qpid cid op body =
      match t.hcmd qpid cid with
      | some d => if d.phase = .ready then body t d else t
      | none => t := by
  subst ht
  unfold State.ioCmd
  rw [hcmd]
  exact if_neg (by simp [hop, hrun, hawake])

theorem State.ioCmd_waits (hcmd : s.hcmd qpid cid = some c) (hop : c.sub.opcode = op) (hrun : s.halted = false)
    (hawake : s.clusterAwake c.cluster = true) (ht : t = if c.phase = .fetched then s.beginCmd c else s)
    (hwait : ∀ d, t.hcmd qpid cid = some d → d.phase ≠ .ready) : s.ioCmd qpid cid op body = t := by
  rw [State.ioCmd_awake hcmd hop hrun hawake ht]
  cases hd : t.hcmd qpid cid with
  | none => rfl
  | some d => exact if_neg (hwait d hd)

theorem State.ioCmd_runs (hcmd : s.hcmd qpid cid = some c) (hop : c.sub.opcode = op) (hrun : s.halted = false)
    (hawake : s.clusterAwake c.cluster = true) (ht : t = if c.phase = .fetched then s.beginCmd c else s)
    (hd : t.hcmd qpid cid = some d) (hready : d.phase = .ready) : s.ioCmd qpid cid op body = body t d := by
  rw [State.ioCmd_awake hcmd hop hrun hawake ht, hd]
  exact if_pos hready

end

/-- Settles O38. Where a list does not add up, which commands ABORT answers how, and when a READ is caught are the model's readings (log
entries 48, 49 and 139). -/
theorem queueEntryCommands : Obligations.QueueEntryCommands := by
  refine ⟨?noLock, ?grant, ?idle, ?waits, ?read, ?noRead, ?readFails, ?readDone, ?returned, ?write, ?flush, ?discard, ?abort, ?noAbort⟩
  case noLock =>
    intro s qpid cid hfind
    change execLockGrant qpid cid s = _
    rw [execLockGrant, hfind, done]
  case grant =>
    rintro s qpid cid l u hfind rfl
    change execLockGrant qpid cid s = _
    rw [execLockGrant, hfind]
    rfl
  case idle =>
    intro s qpid cid faulty h
    have hidle : ∀ op body, [1, 2, 3, 4].contains op = true → s.ioCmd qpid cid op body = s := fun op body hop =>
      State.ioCmd_idle fun c hc => by
        rcases h c hc with hhalt | hsleep | hopcode
        · exact .inr (.inl hhalt)
        · exact .inr (.inr hsleep)
        · exact .inl fun heq => hopcode (heq ▸ hop)
    refine ⟨?_, ?_, ?_, ?_⟩
    all_goals exact congrArg done (hidle _ _ (by decide))
  case waits =>
    intro s qpid cid faulty c t hcmd hrun hawake ht hwait
    refine ⟨fun hop => ?_, fun hop => ?_, fun hop => ?_, fun hop => ?_⟩
    all_goals exact congrArg done (State.ioCmd_waits hcmd hop hrun hawake ht hwait)
  case read =>
    intro s qpid cid c d t v hcmd hop hrun hawake ht hd hready hvol
    change execIoRead qpid cid s = _
    rw [execIoRead, State.ioCmd_runs hcmd hop hrun hawake ht hd hready]
    simp only [hvol, done]
  case noRead =>
    intro s qpid cid here odd h
    change execReadComplete qpid cid here odd s = _
    rw [execReadComplete]
    cases hcmd : s.hcmd qpid cid with
    | none => rfl
    | some c =>
      cases hbind : s.qpBind qpid with
      | none => rfl
      | some b =>
        have hnot := (h.resolve_left (by simp [hbind])) c hcmd
        dsimp only
        rw [if_pos (by simpa using hnot), done]
  case readFails =>
    intro s qpid cid here odd c b hcmd hbind hop hrunning hawake hreads hfails
    change execReadComplete qpid cid here odd s = _
    rw [execReadComplete, hcmd, hbind]
    dsimp only
    rw [if_neg (by simp [hop, hrunning, hawake, hreads])]
    cases hvol : (s.tablesOf c.epoch).vol c.sub.volume with
    | none => rfl
    | some v =>
      rw [if_neg (by simp)]
      cases hpieces : s.pieces b c.sub with
      | none => rfl
      | some list =>
        dsimp only
        by_cases hfits : piecesFit c.sub list = false
        · rw [if_pos (by simp [hfits]), if_pos hfits, done]
        · have hhere : here = false := by simpa [hvol, hpieces, hfits] using hfails
          rw [if_neg (by simpa using hfits), if_neg hfits, if_pos (by simp [hhere]), done]
  case readDone =>
    rintro s qpid cid odd c b v g list frames again lost bad u w hcmd hbind hop hrunning hawake hreads hvol hpieces hfits rfl rfl rfl
      rfl rfl rfl rfl
    change execReadComplete qpid cid true odd s = _
    rw [execReadComplete, hcmd, hbind]
    dsimp only
    rw [if_neg (by simp [hop, hrunning, hawake, hreads]), hvol]
    dsimp only
    rw [hpieces]
    dsimp only
    rw [if_neg (by simp [hfits]), if_neg (by simp)]
    rfl
  case returned =>
    intro s b c g list st res n hhost
    simp only [State.returnRead, hhost, if_true, List.isEmpty_iff]
  case write =>
    rintro s qpid cid faulty c d t u b v hcmd hop hrun hawake ht hd hready hbind hvol rfl
    change execIoWrite qpid cid faulty s = _
    rw [execIoWrite, State.ioCmd_runs hcmd hop hrun hawake ht hd hready]
    simp only [hbind, hvol, done]
  case flush =>
    rintro s qpid cid c d t u hcmd hop hrun hawake ht hd hready rfl
    change execIoFlush qpid cid s = _
    rw [execIoFlush, State.ioCmd_runs hcmd hop hrun hawake ht hd hready, done]
  case discard =>
    intro s qpid cid c d t v hcmd hop hrun hawake ht hd hready hvol
    change execIoDiscard qpid cid s = _
    rw [execIoDiscard, State.ioCmd_runs hcmd hop hrun hawake ht hd hready]
    simp only [hvol, done]
  case abort =>
    rintro s qpid cid c tq tc hcmd rfl rfl
    change execIoAbort qpid cid s = _
    rw [execIoAbort, hcmd]
    rfl
  case noAbort =>
    intro s qpid cid hcmd
    change execIoAbort qpid cid s = _
    rw [execIoAbort, hcmd, done]

end Sys2Proof.Machine
end

section
/-! PROOFS. The commands of connections, ports and triggered entries (R166 to R174, R187, R188). -/

namespace Sys2Proof.Machine

/-- Settles O40. What CONN_DESTROY does to a PENDING connection is the model's reading (log entry 54), and the bytes of CONN_CTX_READ are
a free choice (log entry 2). -/
theorem connectionCommands : Obligations.ConnectionCommands := by
  refine ⟨?create, ?destroy, ?status, ?pathSet, ?portAddr, ?excRing, ?portStatus, ?ctxRead, ?trigAlloc, ?trigPost, ?trigFree,
    ?trigStatus⟩
  case create =>
    rintro z p s h rfl
    refine runCmd_of_leaves rfl h ?_
    dsimp only
    iterate 14 refine .ite .refuseWith ?_
    cases (List.range 36).find? (fun i => p.u8 (28 + i) ≠ 0) with
    | some i => exact .refuseWith
    | none =>
      dsimp only
      generalize (z.begun p).pathsBad p 64 (p.u8 9) (bitAt (p.u8 11) 1)
        (if p.u8 8 = 0 then none else ((z.begun p).clusterAt (p.u8 8)).map (· / 8)) = bad
      generalize (if p.u8 8 = 0 then
          leastOf (z.begun p).connCount
            (((z.begun p).liveClusters ((((List.range (p.u8 9)).map (fun i => pathAt p (64 + 32 * i))).headD default).port / 2)).filter
              (fun c => (z.begun p).on VRM.SPILL_LO.EN || (z.begun p).connCount c < 2048))
        else (z.begun p).clusterAt (p.u8 8)) = chosen
      cases bad with
      | some e => exact .refuseWith
      | none =>
        cases (z.begun p).conn (p.u32 0) with
        | some c => exact .refuseWith
        | none =>
          refine .ite .refuseWith ?_
          cases chosen with
          | none => exact .refuseWith
          | some cl =>
            refine .ite .refuseWith ?_
            cases (z.begun p).dryPort p ((List.range (p.u8 9)).map (fun i => pathAt p (64 + 32 * i))) with
            | some d => exact .refuseWith
            | none => exact .reply
  case destroy =>
    rintro z p s h rfl
    refine runCmd_of_leaves rfl h ?_
    dsimp only
    cases (z.begun p).conn (p.u32 0) with
    | none => exact .refuseWith
    | some c => exact .ite .refuseWith .reply
  case status =>
    rintro z p s h rfl
    refine runCmd_of_leaves rfl h ?_
    cases (z.begun p).conn (p.u32 0) with
    | none => exact .ite .refuseWith .reply
    | some c => exact .reply
  case pathSet =>
    rintro z p s h rfl
    refine runCmd_of_leaves rfl h ?_
    dsimp only
    cases (z.begun p).shadow.conns.find? (fun b => b.id = p.u32 0) with
    | none => exact .refuseWith
    | some b =>
      refine .ite .refuseWith <| .ite .refuseWith <| .ite .refuseWith ?_
      cases (z.begun p).pathsBad p 8 (p.u8 4) (bitAt b.flags 1) (some (b.cluster / 8)) with
      | some e => exact .refuseWith
      | none =>
        cases (z.begun p).dryPort p ((List.range (p.u8 4)).map (fun i => pathAt p (8 + 32 * i))) with
        | some d => exact .refuseWith
        | none => exact .reply
  case portAddr =>
    rintro z p s h rfl
    exact runCmd_of_leaves rfl h <|
      .ite .refuseWith <| .ite .refuseWith <| .ite .refuseWith <| .ite .refuseWith <| .ite .refuseWith .reply
  case excRing =>
    rintro z p s h rfl
    exact runCmd_of_leaves rfl h <|
      .ite .refuseWith <| .ite .refuseWith <| .ite .refuseWith <| .ite .refuseWith <| .ite .refuseWith <| .ite .refuseWith <|
        .ite .refuseWith .reply
  case portStatus =>
    rintro z p s h rfl
    exact runCmd_of_leaves rfl h (.ite .refuseWith <| .ite .refuseWith <| .ite .refuseWith .reply)
  case ctxRead =>
    rintro z p s h rfl
    refine runCmd_of_leaves rfl h ?_
    cases (z.begun p).conn (p.u32 0) with
    | none => exact .refuseWith
    | some c => exact .reply
  case trigAlloc =>
    rintro z p s h rfl
    refine runCmd_of_leaves rfl h ?_
    cases (z.begun p).clusterAt (p.u8 4) with
    | none => exact .ite .refuseWith .refuseWith
    | some cl => exact .ite .refuseWith <| .ite .refuseWith <| .ite .refuseWith .reply
  case trigPost =>
    rintro z p s h rfl
    refine runCmd_of_leaves rfl h (.ite .refuseWith ?_)
    cases (z.begun p).tagOf (p.u32 0) with
    | none => exact .refuseWith
    | some t =>
      exact .ite .refuseWith <| .ite .refuseWith <| .ite .refuseWith <| .ite .refuseWith <| .ite .refuseWith <| .ite .refuseWith <|
        .ite .refuseWith .reply
  case trigFree =>
    rintro z p s h rfl
    exact runCmd_of_leaves rfl h (.ite .refuseWith .reply)
  case trigStatus =>
    rintro z p s h rfl
    refine runCmd_of_leaves rfl h ?_
    cases (z.begun p).tagOf (p.u32 0) with
    | none => exact .refuseWith
    | some t => exact .reply

end Sys2Proof.Machine
end

section
/-! PROOFS. Flash links, their lanes and bridges (R231 to R240). -/

namespace Sys2Proof.Machine

/-- Settles O44. A NAK for every discarded flit, lost lock as a failed window, and three failed trainings are the model's readings (log
entries 62, 64 and 131). -/
theorem flashLinksAndLanes : Obligations.FlashLinksAndLanes := by
  refine ⟨?flit, ?ackTimer, ?window, ?lock, ?trained, ?switch, ?test, ?linkUp, ?completion, ?linkStatus, ?moduleIdent, ?laneSpare,
    ?bridgeRaw⟩
  case flit =>
    intro s link word0 word1 payload fcrc hlink h0 h1 hpayload hfcrc
    have hfits : (link.ok && word0 < 2 ^ 16 && word1 < 2 ^ 16 && payload.length = 120 && fcrc < 2 ^ 32) = true := by
      simp only [hlink, h0, h1, hpayload, hfcrc, decide_true, Bool.and_self]
    exact okIf_true _ hfits
  case ackTimer =>
    intro s link hlink
    exact okIf_true _ hlink
  case window =>
    intro s link slot uncorr corr symbols hlink
    exact okIf_true _ hlink
  case lock =>
    intro s link slot hlink
    exact okIf_true _ hlink
  case trained =>
    intro s link ok hlink
    exact okIf_true _ hlink
  case switch =>
    intro s link hlink
    exact okIf_true _ hlink
  case test =>
    intro s link failed hlink
    exact okIf_true _ hlink
  case linkUp =>
    intro s link trained ident hlink
    exact okIf_true _ (decide_eq_true hlink)
  case completion =>
    intro s link tag status data hlink hstatus
    exact okIf_true _ (by simp [hlink, hstatus])
  case linkStatus =>
    rintro z p s h rfl
    refine runCmd_of_leaves rfl h (.ite .refuseWith ?_)
    cases (List.range 3).find? (fun i => p.u8 (1 + i) ≠ 0) with
    | some i => exact .refuseWith
    | none => exact .onLink .reply
  case moduleIdent =>
    rintro z p s h rfl
    refine runCmd_of_leaves rfl h (.ite .refuseWith ?_)
    cases (List.range 3).find? (fun i => p.u8 (1 + i) ≠ 0) with
    | some i => exact .refuseWith
    | none =>
      refine .onLink ?_
      cases (z.begun p).linkUp (p.u8 0) with
      | false => exact .refuseWith
      | true =>
        cases ((z.begun p).flink (p.u8 0)).ident with
        | none => exact .refuseWith
        | some x => exact .reply
  case laneSpare =>
    rintro z p s h rfl
    exact runCmd_of_leaves rfl h <| .ite .refuseWith <| .ite .refuseWith <| .ite .refuseWith <| .ite .refuseWith <|
      .onLink <| .ite .refuseWith <| .ite .refuseWith <| .ite .refuseWith .reply
  case bridgeRaw =>
    rintro z p s h rfl
    refine runCmd_of_leaves rfl h (.ite .refuseWith ?_)
    cases (List.range 3).find? (fun i => p.u8 (1 + i) ≠ 0) with
    | some i => exact .refuseWith
    | none => exact .onLink (.ite .refuseWith .promised)

end Sys2Proof.Machine
end

section
/-! PROOFS. What the partner sends (R413 to R435). -/

namespace Sys2Proof.Machine

/-- What an incoming message does, whatever it brings (R413, R416). -/
theorem State.receive_eq (s : State) (env : Seal) (always : Bool) (f : State → State) :
    s.receive env always f =
      if s.on NRN.STS.UP = false ∨ s.intakeStopped = true then s
      else if s.sealGood env = false then s.dropMessage
      else if always = true ∨ s.get NRN.PAIR_STS.PARTNER ≠ 2 then f s.heardMessage
      else s.heardMessage := by
  simp only [State.receive, Bool.not_eq_true]
  rfl

/-- Settles O49. When a mirrored write completes, how RELEASE and GRANT go, and messages under REFUSED or during a restart are the model's
readings (log entries 115, 167, 194 and 195). -/
theorem pairMessages : Obligations.PairMessages :=
  ⟨State.receive_eq, fun _ _ always f h => State.receive_accepted h always f, fun _ _ _ => rfl, fun _ _ _ => rfl, fun _ _ _ => rfl,
    fun _ _ _ => rfl, fun _ _ _ => rfl, fun _ _ _ _ => rfl, fun _ _ _ => rfl, fun _ _ _ => rfl, fun _ _ _ => rfl, fun _ _ _ => rfl,
    fun _ _ _ _ => rfl, fun _ _ _ _ => rfl, fun _ _ => rfl, fun _ _ _ hch => okIf_true _ (decide_eq_true hch), fun _ _ _ => rfl⟩

end Sys2Proof.Machine
end

section
/-! PROOFS. The keys that a reply over a sealed connection asks for (R213, R221, R226). -/

namespace Sys2Proof.Machine

/-! ## The order in which a cipher's keys are asked for -/

/-- No cipher wants a key of a volume behind a key of a seal: purposes up to 3 stand before 4 and 5. -/
def State.sealsLast (s : State) : Prop := ∀ c ∈ s.dp.ciphers, c.wanted.Pairwise fun a b => 3 < a.1 → 3 < b.1

section
variable {s t u : State}

theorem State.sealsLast.ite {c : Prop} [Decidable c] (h : t.sealsLast) (k : u.sealsLast) : (if c then t else u).sealsLast := by
  by_cases hc : c
  · rwa [if_pos hc]
  · rwa [if_neg hc]

theorem State.sealsLast.foldl {α : Type} {f : State → α → State} (l : List α) (h : s.sealsLast)
    (hf : ∀ (u : State) a, u.sealsLast → (f u a).sealsLast) : (l.foldl f s).sealsLast := by
  induction l generalizing s with
  | nil => exact h
  | cons a l ih => exact ih (hf s a h)

theorem State.sealsLast.of_dp (h : s.sealsLast) (hdp : t.dp = s.dp) : t.sealsLast := by
  unfold State.sealsLast
  rwa [hdp]

theorem State.sealsLast.cipher (h : s.sealsLast) (cl : Nat) :
    (s.cipher cl).wanted.Pairwise fun a b => 3 < a.1 → 3 < b.1 := by
  unfold State.cipher
  rw [List.getD_eq_getElem?_getD]
  cases hget : s.dp.ciphers[cl]? with
  | none => exact .nil
  | some c => exact h c (List.mem_of_getElem? hget)

theorem State.sealsLast.setCipher (h : s.sealsLast) (cl : Nat) {c : Cipher}
    (hc : c.wanted.Pairwise fun a b => 3 < a.1 → 3 < b.1) : (s.setCipher cl c).sealsLast := by
  intro d hd
  rcases List.mem_or_eq_of_mem_set hd with hd | rfl
  · exact h d hd
  · exact hc

theorem State.sealsLast.wantKey (h : s.sealsLast) (cl : Nat) {k : Nat × Nat × Nat × Nat} (hk : 3 < k.1) :
    (s.wantKey cl k).sealsLast := by
  unfold State.wantKey
  refine .ite h (h.setCipher cl (List.pairwise_append.mpr ⟨h.cipher cl, List.pairwise_singleton _ _, fun _ _ b hb _ => ?_⟩))
  rwa [List.mem_singleton.mp hb]

theorem State.sealsLast.wantSeal (h : s.sealsLast) (cl label gen : Nat) : (s.wantSeal cl label gen).sealsLast := by
  unfold State.wantSeal
  exact .ite (h.wantKey cl (by simp)) ((h.wantKey cl (by simp)).wantKey cl (by simp))

end

/-! ## What sending and waking ask for -/

section
variable (s : State)

theorem State.ethSend_dp (port sub prio : Nat) (x : EthTx) : (s.ethSend port sub prio x).dp = s.dp := by
  unfold State.ethSend
  dsimp only
  split
  · rfl
  · split <;> rfl

theorem State.putOnPath_dp (c : Conn) (i : Nat) (p : VrmPkt) : (s.putOnPath c i p).dp = s.dp := by
  unfold State.putOnPath
  split
  · exact s.ethSend_dp _ _ _ _
  · rfl

theorem State.resend_dp (id psn : Nat) : (s.resend id psn).dp = s.dp := by
  unfold State.resend
  split
  · rfl
  · split
    · rfl
    · split
      · rfl
      · exact State.putOnPath_dp _ _ _ _

theorem State.newXfer_dp (id : Nat) : (s.newXfer id).2.dp = s.dp := by
  unfold State.newXfer
  split <;> rfl

theorem State.postRecord_dp (code loc res value : Nat) (data : List Byte) : (s.postRecord code loc res value data).dp = s.dp := by
  unfold State.postRecord
  dsimp only
  split_ifs <;> rfl

theorem State.wallEpoch_dp : s.wallEpoch.dp = s.dp := by
  unfold State.wallEpoch
  dsimp only
  split
  · rfl
  · exact State.postRecord_dp _ _ _ _ _ _

theorem State.record_dp (code loc res value : Nat) (data : List Byte) : (s.record code loc res value data).dp = s.dp :=
  (State.postRecord_dp _ _ _ _ _ _).trans s.wallEpoch_dp

theorem State.cacheQp_dp (qpid cl : Nat) : (s.cacheQp qpid cl).dp = s.dp := by
  unfold State.cacheQp
  dsimp only
  split
  · rfl
  · split <;> rfl

theorem State.loadCtx_dp (b : QpBind) : (s.loadCtx b).dp = s.dp := by
  unfold State.loadCtx
  dsimp only
  split
  · rfl
  · split
    · exact s.cacheQp_dp _ _
    · rfl

end

section
variable {s : State} (h : s.sealsLast)
include h

theorem State.sealsLast.put (f : Fld) (v : Nat) : (s.put f v).sealsLast := h

theorem State.sealsLast.sendOne (id : Nat) : (s.sendOne id).sealsLast := by
  unfold State.sendOne
  split
  · split
    · exact h
    · refine .ite h (.ite (.ite (h.wantSeal _ _ _) h) ?_)
      split
      · exact h
      · exact h.of_dp (State.putOnPath_dp _ _ _ _)
  · exact h

theorem State.sealsLast.kick (id : Nat) : (s.kick id).sealsLast := by
  unfold State.kick
  split
  · exact h
  · exact .foldl _ (.foldl _ h fun u _ hu => hu.of_dp (u.resend_dp _ _)) fun _ _ hu => hu.sendOne _

theorem State.sealsLast.kickAll : s.kickAll.sealsLast := .foldl _ h fun _ _ hu => hu.kick _

theorem State.sealsLast.vrmSend (id : Nat) (pkts : List VrmPkt) : (s.vrmSend id pkts).sealsLast := by
  unfold State.vrmSend
  split
  · exact .ite h (State.sealsLast.kick (s := State.setConn _ _) h _)
  · exact h

theorem State.sealsLast.startPull (id kind obj ref addr key len dest part : Nat) :
    (s.startPull id kind obj ref addr key len dest part).sealsLast := by
  have hx := h.of_dp (s.newXfer_dp id)
  unfold State.startPull
  dsimp only
  split
  · exact hx
  · exact State.sealsLast.vrmSend (s := State.setConn _ _) hx _ _

theorem State.sealsLast.startFetch (qpid : Nat) : (s.startFetch qpid).sealsLast := by
  unfold State.startFetch
  split
  · exact h
  · next b _ =>
    have hctx := State.sealsLast.ite (c := (s.qp qpid).state = 2 ∧ (s.qp qpid).sqHead ≠ (s.qp qpid).sqTail ∧ ¬ s.halted)
      (h.of_dp (s.loadCtx_dp b)) h
    exact .ite hctx (.ite hctx (hctx.startPull _ _ _ _ _ _ _ _ _))

theorem State.sealsLast.fetchDue : s.fetchDue.sealsLast := .foldl _ h fun _ _ hu => hu.startFetch _

theorem State.sealsLast.seed (cl : Nat) : (s.seed cl).sealsLast := h.setCipher cl (h.cipher cl)

theorem State.sealsLast.seedQuad (q : Nat) : (s.seedQuad q).sealsLast := .foldl _ h fun _ _ hu => hu.seed _

theorem State.sealsLast.enterEnt (q st : Nat) : (s.enterEnt q st).sealsLast := h.of_dp (State.record_dp _ _ _ _ _ _)

theorem State.sealsLast.lendEntropy : s.lendEntropy.sealsLast :=
  .foldl _ h fun _ _ hu => .ite (hu.enterEnt _ _) (.ite (State.sealsLast.seedQuad (s := State.putBit _ _ _ _) (hu.enterEnt _ _) _) hu)

theorem State.sealsLast.iff (c : Bool) {f : State → State} (hf : (f s).sealsLast) : (s.iff c f).sealsLast := .ite hf h

theorem State.sealsLast.wakeQuad (q : Nat) : (s.wakeQuad q).sealsLast := by
  unfold State.wakeQuad
  refine .ite h (.foldl _ (State.sealsLast.ite h (.ite h ?borrowed)) fun _ _ hu => .ite hu hu)
  case borrowed =>
    have hlent := (State.sealsLast.enterEnt (s := ((s.setQuad q .awake).setB (CLK.Qn_STS.LOCK q)).putBit
      SYS.START_STS.ENT_READY q false) h q 3).put SYS.START_STS.ENT_READY
    exact State.sealsLast.lendEntropy ((hlent _).iff _ ((hlent _).seedQuad q))

theorem State.sealsLast.causeWake (q : Nat) : (s.causeWake q).sealsLast := by
  unfold State.causeWake
  split
  · exact h
  · exact .ite h (h.wakeQuad q)
  · exact h

theorem State.sealsLast.wakeCluster (cl : Nat) : (s.wakeCluster cl).sealsLast := by
  unfold State.wakeCluster
  split
  · exact h
  · exact h
  · have hawake : (s.setCluster cl .awake).sealsLast := h
    refine .ite h (.ite (hawake.iff _ (hawake.seed cl)) ?_)
    exact State.sealsLast.causeWake (s := { s with pwr := { s.pwr with wakeDue := insertNat s.pwr.wakeDue cl } }) h _

theorem State.sealsLast.wakeWorking : s.wakeWorking.sealsLast :=
  .foldl _ (.foldl _ h fun _ _ hu => .ite (hu.wakeCluster _) hu) fun _ _ hu => .ite (hu.causeWake _) hu

theorem State.sealsLast.wakeServing : s.wakeServing.sealsLast := by
  unfold State.wakeServing
  exact .ite h (.foldl _ h fun _ _ hu => hu.causeWake _)

theorem State.sealsLast.shrinkPool (q : Nat) : (s.shrinkPool q).sealsLast := .foldl _ h fun _ _ hu => hu

theorem State.sealsLast.settleHdas : s.settleHdas.sealsLast := by
  unfold State.settleHdas State.show
  refine .put (.put (.put (.put (.foldl _ h fun _ q hu => ?_) _ _) _ _) _ _) _ _
  exact (((hu.shrinkPool q).put _ _).put _ _).put _ _

theorem State.sealsLast.dropStamps : s.dropStamps.sealsLast := h

theorem State.sealsLast.settleIdle : s.settleIdle.sealsLast := h.of_dp rfl

theorem State.sealsLast.shown : s.shown.sealsLast := by
  rw [s.shown_flds]
  exact h

/-- What follows the sweeps at the end of a command asks for seals' keys only. -/
theorem State.sealsLast.carriedOn :
    s.kickAll.wakeServing.wakeWorking.fetchDue.dropStamps.settleHdas.settleIdle.shown.sealsLast :=
  h.kickAll.wakeServing.wakeWorking.fetchDue.dropStamps.settleHdas.settleIdle.shown

end

/-! ## Sweeps ask for keys of volumes -/

/-- From s to t ciphers change alone; their slots are empty, and what they want are keys of volumes. -/
structure State.Sweeps (s t : State) : Prop where
  rest : t = { s with dp := { s.dp with ciphers := t.dp.ciphers } }
  keys : ∀ c ∈ t.dp.ciphers, c.slots = [] ∧ ∀ k ∈ c.wanted, k.1 ≤ 3

section
variable {s t : State}

theorem State.Sweeps.cipher (h : s.Sweeps t) (cl : Nat) : (t.cipher cl).slots = [] ∧ ∀ k ∈ (t.cipher cl).wanted, k.1 ≤ 3 := by
  unfold State.cipher
  rw [List.getD_eq_getElem?_getD]
  cases hget : t.dp.ciphers[cl]? with
  | none => exact ⟨rfl, fun _ hk => nomatch hk⟩
  | some c => exact h.keys c (List.mem_of_getElem? hget)

theorem State.Sweeps.hasKey (h : s.Sweeps t) (cl : Nat) (k : Nat × Nat × Nat × Nat) : t.hasKey cl k = false := by
  simp [State.hasKey, (h.cipher cl).1]

theorem State.Sweeps.wantKey (h : s.Sweeps t) (cl : Nat) {k : Nat × Nat × Nat × Nat} (hk : k.1 ≤ 3) :
    s.Sweeps (t.wantKey cl k) := by
  unfold State.wantKey
  dsimp only
  split
  · exact h
  · obtain ⟨hslots, hwanted⟩ := h.cipher cl
    refine ⟨?rest, fun c hc => ?keys⟩
    case rest =>
      rw [h.rest]
      rfl
    case keys =>
      rcases List.mem_or_eq_of_mem_set hc with hc | rfl
      · exact h.keys c hc
      · exact ⟨hslots, List.forall_mem_append.mpr ⟨hwanted, List.forall_mem_singleton.mpr hk⟩⟩

theorem State.Sweeps.foldl {α : Type} {f : State → α → State} (l : List α) (h : s.Sweeps t)
    (hf : ∀ a ∈ l, ∀ u : State, s.Sweeps u → s.Sweeps (f u a)) : s.Sweeps (l.foldl f t) := by
  induction l generalizing t with
  | nil => exact h
  | cons a l ih =>
    obtain ⟨ha, hl⟩ := List.forall_mem_cons.mp hf
    exact ih (ha t h) hl

/-- With no key in a slot, work that needs keys only asks for them. -/
theorem State.Sweeps.withKeys (h : s.Sweeps t) (cl : Nat) {ks : List (Nat × Nat × Nat × Nat)} (hne : ks ≠ [])
    (hks : ∀ k ∈ ks, k.1 ≤ 3) (go : State → State) : s.Sweeps (t.withKeys cl ks go) := by
  have hlack : ks.eraseDups.filter (fun k => !t.hasKey cl k) = ks.eraseDups := by simp [h.hasKey]
  have hsome : ks.eraseDups ≠ [] := by
    obtain ⟨k, l, rfl⟩ := List.exists_cons_of_ne_nil hne
    rw [List.eraseDups_cons]
    exact List.cons_ne_nil _ _
  unfold State.withKeys
  rw [hlack]
  dsimp only
  split
  · exact h
  · rw [if_neg (by simpa using hsome)]
    exact h.foldl _ fun k hk _ hu => hu.wantKey cl (hks k (List.mem_eraseDups.mp hk))

theorem State.Sweeps.sweepRekey (h : s.Sweeps t) (k : Rekey) : s.Sweeps (t.sweepRekey k) := by
  unfold State.sweepRekey
  split
  · exact h
  · dsimp only
    split
    · exact h
    · split
      · exact h
      · next hwork =>
        refine h.withKeys _ ?some (fun x hx => ?purpose) _
        case some => simp_all
        case purpose =>
          simp only [List.mem_append, List.mem_map, List.mem_ite_nil_left, List.mem_singleton] at hx
          rcases hx with ((⟨_, _, rfl⟩ | ⟨_, rfl⟩) | ⟨_, _, rfl⟩) | ⟨_, rfl⟩ <;> simp

theorem State.Sweeps.serveRekeys (h : s.Sweeps t) : s.Sweeps t.serveRekeys := h.foldl _ fun _ _ _ hu => hu.sweepRekey _

theorem State.Sweeps.sealsLast (h : s.Sweeps t) : t.sealsLast := fun c hc =>
  List.pairwise_of_forall_mem_list fun a ha _ _ hlt => absurd ((h.keys c hc).2 a ha) (Nat.not_le.mpr hlt)

theorem State.issueReads_rest (s : State) : s.issueReads = { s with pci := s.issueReads.pci } := by
  unfold State.issueReads
  dsimp only
  split <;> rfl

theorem State.settleUpd_dp (hjobs : s.upd.jobs = []) (hfailing : s.upd.failing.isNone = false) : s.settleUpd.dp = s.dp := by
  simp [State.settleUpd, hjobs, hfailing]

end

/-! ## A refused packet over a sealed connection, with a rekey sweep to carry on -/

/-- An in-band queue pair of a client over a sealed connection. -/
def sealedQp : QpBind :=
  { qpid := 0, typ := 2, location := 1, cluster := 0, home := 0, weight := 1, sqLog2 := 4, cqLog2 := 4, conn := 0, sqBase := 0,
    cqBase := 0, sqKey := 0, cqKey := 0, vector := 0, accessGroup := 0 }

def sealedConn : ConnBind :=
  { id := 0, peer := 1, cluster := 0, pmtu := 1024, flags := 1, txPsn := 0, rxPsn := 0, win := 64, label := 1, paths := [] }

/-- A PING over it whose HCRC is wrong. -/
def badPing : Packet :=
  { via := .inband 0 0, ident := 1, msgLen := 64, opcode := 0x0100, flags := 0, loc := 0, tag := 1, plen := 0, hver := 1,
    rsvd11 := 0, session := 0, pbuf := 0, rbuf := 0x1000, rsvd32 := List.replicate 24 0, pcrc := 0, hcrc := 0, params := [] }

def sweptVol : Vol := { num := 0, size := 1, keyEpoch := 2, minEpoch := 1 }

def oldFrame : SFrame := { serial := 1, vol := 0, epoch := 1, raw := true, payLen := 4096, data := [] }

/-- A cluster map without a usable cluster: keyed work that belongs to no command then falls to cluster 0 (log entry 151), which the
connection has too. -/
def emptyMap (s : State) : State := (List.range 32).foldl (fun (s : State) i => s.put (SYS.CLMAP.C (i / 8) (i % 8)) 0xF) s

/-- A serving head that has no key in a slot: a volume with a frame under an older key epoch is swept. -/
def sweepingState : State :=
  { emptyMap (((State.reset.put CMD.STS.MC_RUN 1).put SYS.START_STS.ENT_READY 1).put NRN.PAIR_STS.ROLE roleSurvivor) with
    act := { qps := [sealedQp], conns := [sealedConn], vols := [sweptVol] }
    hq := { qps := [{ qpid := 0, state := 2 }] }
    vrm := { conns := [{ id := 0, state := 2, txPsn := 0, rxCum := 0, paths := [] }] }
    start := { reached := 4 }
    upd := { failing := some (0, 0) }
    nv := { media := { vols := [sweptVol], frames := [oldFrame], rekeys := [{ vol := 0, epoch := 2 }] } } }

/-- What cluster 0 wants once a command has ended. -/
def firstWishes : Host.Outcome State Fault Refusal → List (Nat × Nat × Nat × Nat)
  | .next w => (w.cipher 0).wanted
  | _ => []

/-- The reply asks for the seal's keys before the sweep asks for the volume's. -/
theorem firstWishes_ping :
    firstWishes (exec (.ping badPing) sweepingState) = [(4, 0, 0, 1), (5, 0, 0, 1), (1, 0, 1, 0), (1, 0, 2, 0)] := by
  decide +kernel

/-- The end of a command, by itself, asks for the volume's keys before the seal's, whatever the packets and the registers are. -/
theorem State.sealsLast_settle {s : State} (hnv : s.nv = sweepingState.nv) (hdp : s.dp = sweepingState.dp)
    (hpair : s.pair = sweepingState.pair) (hhdas : s.hdas = sweepingState.hdas) (hupd : s.upd = sweepingState.upd) :
    s.settle.sealsLast := by
  have hrest := s.issueReads_rest
  unfold State.settle
  generalize s.issueReads = u at hrest
  have hpair : u.pair = sweepingState.pair := by rw [hrest, ← hpair]
  have hnv : u.nv = sweepingState.nv := by rw [hrest, ← hnv]
  have hkeys : u.Sweeps u := ⟨rfl, by rw [hrest, hdp]; decide⟩
  have hsweep := hkeys.serveRekeys
  rw [State.placeParts_idle (by rw [hpair]; rfl), State.serveRequests_idle (by rw [hpair]; rfl),
    State.answerProposal_idle (by rw [hpair]; rfl), State.nextProposal_idle (by rw [hpair]; rfl),
    State.closeStale_idle (by rw [hnv]; decide), State.releaseVols_idle (by rw [hpair]; rfl),
    State.serveSwaps_idle (by rw [hnv]; decide), State.sweepSpares_idle (by rw [hnv]; rfl)]
  generalize u.serveRekeys = v at hsweep
  have hv := hsweep.rest
  rw [State.serveRepl_idle (by rw [hv, hrest, hdp]; rfl) (by rw [hv, hnv]; rfl), State.serveHdas_idle (by rw [hv, hrest, hdp]; rfl),
    State.releaseDrives_idle (by rw [hv, hrest, hhdas]; decide)]
  have hdp := State.settleUpd_dp (s := v) (by rw [hv, hrest, hupd]; rfl) (by rw [hv, hrest, hupd]; rfl)
  exact (hsweep.sealsLast.of_dp hdp).carriedOn

/-- Refutes O13: the reply over a sealed connection asks its cluster for the seal's keys. The end of the command would ask for them
too, but behind the keys of a rekey sweep; so no state with the data plane as it was ends with the keys in the order they stand in. -/
theorem not_queriesChangeNoData : ¬ Obligations.QueriesChangeNoData := by
  intro h
  obtain ⟨t, ht, hnv, -, -, -, -, hdp, hpair, hhdas, -, hupd, -⟩ := h .ping (.inl rfl) sweepingState badPing rfl
  have hwishes := firstWishes_ping
  rw [ht] at hwishes
  have hlast := (State.sealsLast_settle hnv hdp hpair hhdas hupd).cipher 0
  rw [show (t.settle.cipher 0).wanted = _ from hwishes] at hlast
  exact absurd hlast (by decide)

end Sys2Proof.Machine
end
